-- ==== Sys2Proof/Word.lean ====
section
/-! DEFINITION. Word.lean: the register word, the byte and the byte string of the OZ9600 (R3, R4). -/

namespace Sys2Proof

/-- A register is 32 bits wide (00_scope, Notation). -/
abbrev Word := BitVec 32

/-- A byte of memory, of a record, of an entry or of a frame. -/
abbrev Byte := BitVec 8

/-- A byte string, the byte at offset 0 first. -/
abbrev Bytes := List Byte

end Sys2Proof
end

