-- ==== Sys2Proof/Machine/Bits.lean ====
section
/-! DEFINITION. Bits.lean: bit fields, byte order and the arithmetic that several chapters share (R3, R4, R12, R49). -/

namespace Sys2Proof.Machine

/-- Bits [hi:lo] of `n`. -/
def bits (n hi lo : Nat) : Nat := n / 2 ^ lo % 2 ^ (hi + 1 - lo)

/-- Bit `i` of `n`. -/
def bit (n i : Nat) : Bool := n / 2 ^ i % 2 == 1

/-- `n` with bits [hi:lo] replaced by `v`. -/
def putBits (n hi lo v : Nat) : Nat :=
  n - bits n hi lo * 2 ^ lo + v % 2 ^ (hi + 1 - lo) * 2 ^ lo

/-- 1 for true. -/
def bnat (b : Bool) : Nat := if b then 1 else 0

/-- `n` or the largest value of `w` bits. -/
def sat (w n : Nat) : Nat := min n (2 ^ w - 1)

/-- The quotient rounded up (R3: exact figures). -/
def ceilDiv (a b : Nat) : Nat := (a + b - 1) / b

/-- `a` rounded up to a multiple of `b`. -/
def roundUp (a b : Nat) : Nat := ceilDiv a b * b

/-- ceil8 of R12. -/
def ceil8 (a : Nat) : Nat := roundUp a 8

/-- pix(a, b) of R12 and R102. -/
def pix (a b : Nat) : Nat := ceil8 a * ceil8 b

/-- A `w`-bit pattern read as a signed number. -/
def signed (w n : Nat) : Int := if n % 2 ^ w < 2 ^ (w - 1) then (n % 2 ^ w : Nat) else (n % 2 ^ w : Nat) - (2 ^ w : Nat)

/-- A signed number as a `w`-bit pattern. -/
def unsigned (w : Nat) (i : Int) : Nat := (i % (2 ^ w : Nat)).toNat

/-- A signed number saturated to 32 bits, as a pattern (the details of R48's and R31's events). -/
def satS32 (i : Int) : Nat := unsigned 32 (max (-2147483648) (min 2147483647 i))

/-- Byte `i` of a byte string; past its end, zero. -/
def u8 (b : Bytes) (i : Nat) : Nat := (b.getD i 0).toNat

/-- Little-endian fields (R4). -/
def u16 (b : Bytes) (i : Nat) : Nat := u8 b i + 256 * u8 b (i + 1)
def u32 (b : Bytes) (i : Nat) : Nat := u16 b i + 65536 * u16 b (i + 2)
def u64 (b : Bytes) (i : Nat) : Nat := u32 b i + 4294967296 * u32 b (i + 4)

/-- `n` bytes from offset `i`. -/
def slice (b : Bytes) (i n : Nat) : Bytes := (b.drop i).take n

/-- Big-endian number of a byte string (network order; signature strings). -/
def beNat (b : Bytes) : Nat := b.foldl (fun a x => a * 256 + x.toNat) 0

/-- `n` as `k` little-endian bytes (R4). -/
def leBytes (k n : Nat) : Bytes := (List.range k).map (fun i => BitVec.ofNat 8 (n / 256 ^ i))

/-- `n` as `k` big-endian bytes. -/
def beBytes (k n : Nat) : Bytes := (leBytes k n).reverse

/-- Number of one bits among the lowest `w`. -/
def popcount (w n : Nat) : Nat := ((List.range w).filter (bit n)).length

/-- Is `n` a power of two? -/
def isPow2 (n : Nat) : Bool := n != 0 && 2 ^ n.log2 == n

/-- The bits set among the lowest `w`, rising. -/
def bitsSet (w n : Nat) : List Nat := (List.range w).filter (bit n)

/-- The sum of a list of terms. -/
def sum (l : List Nat) : Nat := l.foldl (· + ·) 0

/-- The largest of a list of terms, 0 for none. -/
def maxOf (l : List Nat) : Nat := l.foldl max 0

/-- The first check that fails names its answer. -/
def firstFail {ε : Type} : List (Bool × ε) → Option ε
  | [] => none
  | (ok, e) :: r => if ok then firstFail r else some e

end Sys2Proof.Machine
end

