-- ==== Sys2Proof/Machine/Tab.lean ====
section
/-! DEFINITION. Tab.lean: sparse tables keyed by number, in rising order of key. A table holds an object per number
(a rendition, a subscriber, a register address); a number that is not listed reads as the type's default. -/

namespace Sys2Proof.Machine

/-- A table from numbers to objects. -/
abbrev Tab (α : Type) := List (Nat × α)

variable {α : Type}

/-- The object listed under `k`. -/
def Tab.find (t : Tab α) (k : Nat) : Option α :=
  match t with
  | [] => none
  | (k', v) :: r => if k = k' then some v else Tab.find r k

/-- The object under `k`, or the type's default. -/
def Tab.get [Inhabited α] (t : Tab α) (k : Nat) : α := (Tab.find t k).getD default

/-- Put `v` under `k`, keeping the order of keys. -/
def Tab.set (t : Tab α) (k : Nat) (v : α) : Tab α :=
  match t with
  | [] => [(k, v)]
  | (k', v') :: r =>
    if k = k' then (k, v) :: r
    else if k < k' then (k, v) :: (k', v') :: r
    else (k', v') :: Tab.set r k v

/-- Take `k` out. -/
def Tab.del (t : Tab α) (k : Nat) : Tab α := t.filter (fun e => e.1 != k)

/-- Is `k` listed? -/
def Tab.has (t : Tab α) (k : Nat) : Bool := (Tab.find t k).isSome

/-- Change the object under `k`. -/
def Tab.upd [Inhabited α] (t : Tab α) (k : Nat) (f : α → α) : Tab α := Tab.set t k (f (Tab.get t k))

/-- The keys, rising. -/
def Tab.keys (t : Tab α) : List Nat := t.map (·.1)

/-- The objects, in order of key. -/
def Tab.vals (t : Tab α) : List α := t.map (·.2)

/-- The entries that satisfy `p`. -/
def Tab.keep (t : Tab α) (p : Nat → α → Bool) : Tab α := t.filter (fun e => p e.1 e.2)

/-- Change every object. -/
def Tab.mapv (t : Tab α) (f : Nat → α → α) : Tab α := t.map (fun e => (e.1, f e.1 e.2))

/-- Keys strictly rising: the canonical form. -/
def Tab.sorted : Tab α → Bool
  | [] => true
  | [_] => true
  | a :: b :: r => decide (a.1 < b.1) && Tab.sorted (b :: r)

/-- The lowest number below `n` that is not listed (R126: 'a free number'). -/
def Tab.freeKey (t : Tab α) (n : Nat) : Option Nat := (List.range n).find? (fun k => !(Tab.has t k))

end Sys2Proof.Machine
end

