-- ==== Sys2Proof/Machine/Records.lean ====
section
/-! DEFINITION. Records.lean: the records of the Course image as typed data, and the reading of each from its bytes
(04_course_image, R76 to R96). Offsets are those of the record's own layout table. -/

namespace Sys2Proof.Machine

/-- R78. -/
structure HeaderRec where
  magic : Nat := 0
  version : Nat := 0
  part : Nat := 0
  kind : Nat := 0
  hashAlg : Nat := 0
  keySlot : Nat := 0
  recordCount : Nat := 0
  totalLength : Nat := 0
  imageSeq : Nat := 0
  baseSeq : Nat := 0
deriving DecidableEq, Repr, Inhabited

def readHeader (b : Bytes) : HeaderRec :=
  { magic := beNat (slice b 8 4), version := u16 b 12, part := u16 b 14, kind := u8 b 16, hashAlg := u8 b 17,
    keySlot := u8 b 18, recordCount := u32 b 20, totalLength := u32 b 24, imageSeq := u64 b 28, baseSeq := u64 b 36 }

/-- R80. -/
structure DeviceRec where
  minTarns : Nat := 0
  minChannels : Nat := 0
  minHeadwater : Nat := 0
  minFounts : Nat := 0
  minMeres : Nat := 0
  minCascades : Nat := 0
  sparesExplicit : Bool := false
  spareMask : Nat := 0
  scrubHours : Nat := 0
  disturbK : Nat := 0
  disturbPm2 : Bool := false
  portCfg : List Nat := []
deriving DecidableEq, Repr, Inhabited

def readDevice (b : Bytes) : DeviceRec :=
  { minTarns := u8 b 8, minChannels := u8 b 9, minHeadwater := u8 b 10, minFounts := u8 b 11, minMeres := u8 b 12,
    minCascades := u8 b 13, sparesExplicit := bit (u8 b 14) 0, spareMask := u64 b 16, scrubHours := u16 b 24,
    disturbK := u8 b 26, disturbPm2 := bit (u8 b 27) 0, portCfg := (slice b 32 16).map (·.toNat) }

/-- Lanes and first lane of a PORT_CFG byte (R80): 0 lanes for an unused port. -/
def portLanes (cfg : Nat) : Nat := match bits cfg 7 6 with | 0 => 0 | 1 => 1 | 2 => 2 | _ => 4
def portFirst (cfg : Nat) : Nat := bits cfg 4 0
/-- Line rate of a PORT_CFG byte in Mbit/s. -/
def portMbps (cfg : Nat) : Nat := portLanes cfg * 100000

/-- R81. -/
structure DomainRec where
  domain : Nat := 0
  mode : Nat := 0
  ptpDomain : Nat := 0
  num : Nat := 0
  den : Nat := 0
  phase : Nat := 0
  guard : Nat := 0
deriving DecidableEq, Repr, Inhabited

def readDomain (b : Bytes) : DomainRec :=
  { domain := u8 b 8, mode := u8 b 9, ptpDomain := u8 b 10, num := u16 b 12, den := u32 b 16, phase := u32 b 20,
    guard := u32 b 24 }

/-- R82. -/
structure RegionRec where
  region : Nat := 0
  grain : Nat := 0
  cls : Nat := 0
  chMask : Nat := 0
  base : Nat := 0
  size : Nat := 0
  writers : Nat := 0
deriving DecidableEq, Repr, Inhabited

def readRegion (b : Bytes) : RegionRec :=
  { region := u8 b 8, grain := u8 b 9, cls := u8 b 10, chMask := u32 b 12, base := u64 b 16, size := u64 b 24,
    writers := u64 b 32 }

/-- R83. -/
structure FunctionRec where
  function : Nat := 0
  enabled : Bool := false
  maxCourses : Nat := 0
  maxRenditions : Nat := 0
  maxSubscribers : Nat := 0
  maxServices : Nat := 0
  maxInflows : Nat := 0
  maxSq : Nat := 0
  msix : Nat := 0
  sluice : Nat := 0
  memBase : Nat := 0
  memSize : Nat := 0
deriving DecidableEq, Repr, Inhabited

def readFunction (b : Bytes) : FunctionRec :=
  { function := u8 b 8, enabled := bit (u8 b 9) 0, maxCourses := u16 b 10, maxRenditions := u16 b 12,
    maxSubscribers := u16 b 14, maxServices := u16 b 16, maxInflows := u16 b 18, maxSq := u8 b 20, msix := u8 b 21,
    sluice := u8 b 22, memBase := u64 b 24, memSize := u64 b 32 }

/-- One master's entry of the QOS record (R84). -/
structure QosEntry where
  rtCap : Nat := 0
  bgRate : Nat := 0
  tbWeight : Nat := 0
  maxOutstanding : Nat := 0
deriving DecidableEq, Repr, Inhabited

/-- R84. -/
structure QosRec where
  timeout : Nat := 0
  entries : List QosEntry := []
deriving DecidableEq, Repr, Inhabited

def readQos (b : Bytes) : QosRec :=
  { timeout := u32 b 8,
    entries := (List.range 22).map (fun m =>
      { rtCap := u16 b (16 + 8 * m), bgRate := u16 b (18 + 8 * m), tbWeight := u8 b (20 + 8 * m),
        maxOutstanding := u16 b (22 + 8 * m) }) }

/-- R85. -/
structure PairRec where
  enabled : Bool := false
  watchdogUs : Nat := 0
  healBudget : Nat := 0
  pairId : Nat := 0
deriving DecidableEq, Repr, Inhabited

def readPair (b : Bytes) : PairRec :=
  { enabled := bit (u8 b 8) 0, watchdogUs := u16 b 10, healBudget := u32 b 12, pairId := u64 b 16 }

/-- R86. -/
structure CourseRec where
  course : Nat := 0
  domain : Nat := 0
  owner : Nat := 0
  autostart : Bool := false
  sceneKey : Bool := false
  fixed : Bool := false
  width : Nat := 0
  height : Nat := 0
  sampling : Nat := 0
  depth : Nat := 0
  colour : Nat := 0
  bandHeight : Nat := 64
  delayLines : Nat := 0
  mere : Nat := 0
  freezeLimit : Nat := 0
  progRegion : Nat := 0
  refRegion : Nat := 0
  ringRegion : Nat := 0
  keyInterval : Nat := 0
deriving DecidableEq, Repr, Inhabited

def readCourse (b : Bytes) : CourseRec :=
  { course := u8 b 8, domain := u8 b 9, owner := u8 b 10, autostart := bit (u8 b 11) 0, sceneKey := bit (u8 b 11) 1,
    fixed := bit (u8 b 11) 2, width := u16 b 12, height := u16 b 14, sampling := u8 b 16, depth := u8 b 17,
    colour := u8 b 18, bandHeight := u8 b 19, delayLines := u16 b 20, mere := u8 b 22, freezeLimit := u8 b 23,
    progRegion := u8 b 24, refRegion := u8 b 25, ringRegion := u8 b 26, keyInterval := u16 b 28 }

/-- R87. -/
structure InputRec where
  course : Nat := 0
  input : Nat := 0
  source : Nat := 0
  leadBands : Nat := 1
  width : Nat := 0
  height : Nat := 0
  totalLines : Nat := 0
  sampling : Nat := 0
  depth : Nat := 0
  sourceIndex : Nat := 0
  codec : Nat := 0
  cleanStart : Bool := false
  rgb : Bool := false
  slots : Nat := 3
  jitterBytes : Nat := 0
deriving DecidableEq, Repr, Inhabited

def readInput (b : Bytes) : InputRec :=
  { course := u8 b 8, input := u8 b 9, source := u8 b 10, leadBands := u8 b 11, width := u16 b 12, height := u16 b 14,
    totalLines := u16 b 16, sampling := u8 b 18, depth := u8 b 19, sourceIndex := u16 b 20, codec := u8 b 22,
    cleanStart := bit (u8 b 23) 0, rgb := bit (u8 b 23) 1, slots := u8 b 24, jitterBytes := u32 b 28 }

/-- Layer geometry (R88, R127 LAYER_SET). -/
structure Geometry where
  dstX : Nat := 0
  dstY : Nat := 0
  dstW : Nat := 0
  dstH : Nat := 0
  srcW : Nat := 0
  srcH : Nat := 0
deriving DecidableEq, Repr, Inhabited

/-- R88. -/
structure LayerRec where
  course : Nat := 0
  layer : Nat := 0
  source : Nat := 0
  enabled : Bool := false
  dstX : Nat := 0
  dstY : Nat := 0
  dstW : Nat := 0
  dstH : Nat := 0
  srcW : Nat := 0
  srcH : Nat := 0
  z : Nat := 0
  fallback : Nat := 0
  alpha : Nat := 0
  fill : Nat := 0
  surface : Nat := 0
  pitch : Nat := 0
deriving DecidableEq, Repr, Inhabited

def readLayer (b : Bytes) : LayerRec :=
  { course := u8 b 8, layer := u8 b 9, source := u8 b 10, enabled := bit (u8 b 11) 0, dstX := u16 b 12, dstY := u16 b 14,
    dstW := u16 b 16, dstH := u16 b 18, srcW := u16 b 20, srcH := u16 b 22, z := u8 b 24, fallback := u8 b 25,
    alpha := u8 b 26, fill := u32 b 28, surface := u64 b 32, pitch := u32 b 40 }

/-- R89. -/
structure RungRec where
  course : Nat := 0
  rung : Nat := 0
  cascade : Nat := 0
  source : Nat := 0
  width : Nat := 0
  height : Nat := 0
  sampling : Nat := 0
  depth : Nat := 0
  slots : Nat := 3
deriving DecidableEq, Repr, Inhabited

def readRung (b : Bytes) : RungRec :=
  { course := u8 b 8, rung := u8 b 9, cascade := u8 b 10, source := u8 b 11, width := u16 b 12, height := u16 b 14,
    sampling := u8 b 16, depth := u8 b 17, slots := u8 b 18 }

/-- R90. -/
structure RendRec where
  rendition : Nat := 0
  course : Nat := 0
  rung : Nat := 0
  codec : Nat := 0
  profile : Nat := 0
  level : Nat := 0
  effort : Nat := 0
  cq : Nat := 0
  reorder : Nat := 0
  priority : Nat := 0
  depth : Nat := 0
  maxRate : Nat := 0
  bufSize : Nat := 0
  initFullness : Nat := 0
  ctu : Nat := 64
  payload : Nat := 0
  seedBits : Nat := 0
  seedQp : Nat := 0
  keyOnJoin : Bool := false
  ringBytes : Nat := 0
deriving DecidableEq, Repr, Inhabited

def readRend (b : Bytes) : RendRec :=
  { rendition := u16 b 8, course := u8 b 10, rung := u8 b 11, codec := u8 b 12, profile := u8 b 13, level := u8 b 14,
    effort := u8 b 15, cq := u8 b 16, reorder := u8 b 17, priority := u8 b 18, depth := u8 b 19, maxRate := u32 b 20,
    bufSize := u32 b 24, initFullness := u16 b 28, ctu := u8 b 30, payload := u8 b 31, seedBits := u32 b 32,
    seedQp := u8 b 36, keyOnJoin := bit (u8 b 37) 0, ringBytes := u32 b 40 }

/-- R91. -/
structure SegRec where
  rendition : Nat := 0
  segment : Nat := 0
  tarn : Nat := 0
  kind : Nat := 0
  first : Nat := 0
  count : Nat := 1
deriving DecidableEq, Repr, Inhabited

def readSeg (b : Bytes) : SegRec :=
  { rendition := u16 b 8, segment := u8 b 10, tarn := u8 b 11, kind := u8 b 12, first := u16 b 14, count := u16 b 16 }

/-- R92. -/
structure HwRec where
  course : Nat := 0
  unit : Nat := 0
  firstBand : Nat := 0
  bandCount : Nat := 1
deriving DecidableEq, Repr, Inhabited

def readHw (b : Bytes) : HwRec :=
  { course := u8 b 8, unit := u8 b 9, firstBand := u16 b 10, bandCount := u16 b 12 }

/-- R93. -/
structure ProtectRec where
  course : Nat := 0
  owner : Nat := 0
  checkUnit : Nat := 0
  region : Nat := 0
  x : Nat := 0
  y : Nat := 0
  w : Nat := 0
  h : Nat := 0
  surface : Nat := 0
  pitch : Nat := 0
deriving DecidableEq, Repr, Inhabited

def readProtect (b : Bytes) : ProtectRec :=
  { course := u8 b 8, owner := u8 b 9, checkUnit := u8 b 10, region := u8 b 11, x := u16 b 12, y := u16 b 14,
    w := u16 b 16, h := u16 b 18, surface := u64 b 24, pitch := u32 b 32 }

/-- R94. IP addresses stay byte strings in wire order. -/
structure InflowRec where
  inflow : Nat := 0
  kind : Nat := 0
  port : Nat := 0
  vlan : Nat := 65535
  dstUdp : Nat := 0
  dstIp : Nat := 0
  srcIp : Nat := 0
  mergePeer : Nat := 65535
  owner : Nat := 0
  meter : Nat := 0
  cir : Nat := 0
  pir : Nat := 0
  cbs : Nat := 0
  ebs : Nat := 0
  yellow : Nat := 0
  skewMs : Nat := 1
  passSub : Nat := 0
deriving DecidableEq, Repr, Inhabited

def readInflow (b : Bytes) : InflowRec :=
  { inflow := u16 b 8, kind := u8 b 10, port := u8 b 11, vlan := u16 b 12, dstUdp := u16 b 14, dstIp := beNat (slice b 16 16),
    srcIp := beNat (slice b 32 16), mergePeer := u16 b 48, owner := u8 b 50, meter := u8 b 51, cir := u32 b 52,
    pir := u32 b 56, cbs := u32 b 60, ebs := u32 b 64, yellow := u32 b 68, skewMs := u8 b 72, passSub := u16 b 74 }

/-- Token-bucket rates of a shaping node: 8 kbit/s units and bytes (R95). -/
structure Rates where
  cir : Nat := 8
  pir : Nat := 8
  cbs : Nat := 1
  pbs : Nat := 1
deriving DecidableEq, Repr, Inhabited

/-- R95, SERVICE. -/
structure ServiceRec where
  service : Nat := 0
  port : Nat := 0
  owner : Nat := 0
  weight : Nat := 1
  rates : Rates := {}
deriving DecidableEq, Repr, Inhabited

def readService (b : Bytes) : ServiceRec :=
  { service := u16 b 8, port := u8 b 10, owner := u8 b 11, weight := u16 b 12,
    rates := { cir := u32 b 16, pir := u32 b 20, cbs := u32 b 24, pbs := u32 b 28 } }

/-- R95, SUBSCRIBER. -/
structure SubRec where
  subscriber : Nat := 0
  rendition : Nat := 0
  service : Nat := 0
  payload : Nat := 0
  enabled : Bool := false
  keyOnJoin : Bool := false
  dup : Bool := false
  pass : Bool := false
  rates : Rates := {}
  weight : Nat := 1
  port2 : Nat := 255
  dscp : Nat := 0
  dstMac : Nat := 0
  vlan : Nat := 65535
  dstUdp : Nat := 0
  srcUdp : Nat := 0
  dstIp : Nat := 0
  srcIp : Nat := 0
deriving DecidableEq, Repr, Inhabited

def readSub (b : Bytes) : SubRec :=
  { subscriber := u16 b 8, rendition := u16 b 10, service := u16 b 12, payload := u8 b 14, enabled := bit (u8 b 15) 0,
    keyOnJoin := bit (u8 b 15) 1, dup := bit (u8 b 15) 2, pass := bit (u8 b 15) 3,
    rates := { cir := u32 b 16, pir := u32 b 20, cbs := u32 b 24, pbs := u32 b 28 }, weight := u16 b 32, port2 := u8 b 34,
    dscp := u8 b 35, dstMac := beNat (slice b 36 6), vlan := u16 b 42, dstUdp := u16 b 44, srcUdp := u16 b 46,
    dstIp := beNat (slice b 48 16), srcIp := beNat (slice b 64 16) }

/-- One record of an image (R77). Every record carries its ACTION (R76). -/
inductive Rec where
  | header (r : HeaderRec)
  | device (r : DeviceRec)
  | domain (r : DomainRec)
  | region (r : RegionRec)
  | function (r : FunctionRec)
  | qos (r : QosRec)
  | course (action : Nat) (r : CourseRec)
  | input (r : InputRec)
  | layer (r : LayerRec)
  | rung (r : RungRec)
  | rend (r : RendRec)
  | seg (r : SegRec)
  | hw (r : HwRec)
  | inflow (action : Nat) (r : InflowRec)
  | service (action : Nat) (r : ServiceRec)
  | sub (action : Nat) (r : SubRec)
  | protect (r : ProtectRec)
  | pair (r : PairRec)
  | signature
  | done
deriving DecidableEq, Repr, Inhabited

/-- The structure that an accepted image sets (R75), with the run-time services, subscribers and inflows. Child
tables are keyed by course and index: input 4c+i, layer 12c+l, rung 64c+r, segment 16r+s, Headwater share 8c+u. -/
structure Structure where
  device : DeviceRec := {}
  domains : Tab DomainRec := []
  regions : Tab RegionRec := []
  funcs : Tab FunctionRec := []
  qos : QosRec := {}
  pair : PairRec := {}
  courses : Tab CourseRec := []
  inputs : Tab InputRec := []
  layers : Tab LayerRec := []
  rungs : Tab RungRec := []
  rends : Tab RendRec := []
  segs : Tab SegRec := []
  hws : Tab HwRec := []
  protects : Tab ProtectRec := []
  inflows : Tab InflowRec := []
  services : Tab ServiceRec := []
  subs : Tab SubRec := []
deriving DecidableEq, Repr, Inhabited

/-- The children of a course. -/
def Structure.inputsOf (t : Structure) (c : Nat) : List InputRec := t.inputs.vals.filter (·.course == c)
def Structure.layersOf (t : Structure) (c : Nat) : List LayerRec := t.layers.vals.filter (·.course == c)
def Structure.rungsOf (t : Structure) (c : Nat) : List RungRec := t.rungs.vals.filter (·.course == c)
def Structure.rendsOf (t : Structure) (c : Nat) : List RendRec := t.rends.vals.filter (·.course == c)
def Structure.hwsOf (t : Structure) (c : Nat) : List HwRec := t.hws.vals.filter (·.course == c)
def Structure.segsOf (t : Structure) (r : Nat) : List SegRec := t.segs.vals.filter (·.rendition == r)
def Structure.coursesOf (t : Structure) (d : Nat) : List CourseRec := t.courses.vals.filter (·.domain == d)
/-- The course of a rendition. -/
def Structure.courseOfRend (t : Structure) (r : Nat) : Nat := (t.rends.get r).course
/-- The rung of a rendition. -/
def Structure.rungOf (t : Structure) (r : Nat) : RungRec :=
  t.rungs.get (64 * (t.rends.get r).course + (t.rends.get r).rung)
/-- The owner of a course; PF0 where there is none. -/
def Structure.courseOwner (t : Structure) (c : Nat) : Nat := (t.courses.get c).owner

end Sys2Proof.Machine
end

