-- ==== Sys2Proof/Machine/UnitsHost.lean ====
section
/-! DEFINITION. UnitsHost.lean: the state of the time unit, the tick domains, the Course image and the host interface
(02, 03, 04, 05), and the command data that Syntax uses as operands. -/

namespace Sys2Proof.Machine

/-- Where a command comes from: function, submission queue, tag and the SQ head after its fetch. Tag 0xFFFF is a
command field of a register (R118): it has no completion. -/
structure Origin where
  fn : Nat := 0
  q : Nat := 0
  tag : Nat := 0xFFFF
  sqHead : Nat := 0
deriving DecidableEq, Repr, Inhabited

/-- Completion status (R133). -/
inductive Status where
  | ok | notOwner | badParam | noResource | superseded | refusedAdmission | layerGeometry | standby | notMaintenance
deriving DecidableEq, Repr, Inhabited

/-- The code of a status (R133). -/
def Status.code : Status → Nat
  | .ok => 0x00 | .notOwner => 0x10 | .badParam => 0x11 | .noResource => 0x12 | .superseded => 0x13
  | .refusedAdmission => 0x14 | .layerGeometry => 0x15 | .standby => 0x20 | .notMaintenance => 0x21

/-- The parameters of LAYER_SET (R127). -/
structure LayerSet where
  mask : Nat := 0
  geo : Geometry := {}
  enabled : Nat := 0
  alpha : Nat := 0
  fallback : Nat := 0
  fill : Nat := 0
deriving DecidableEq, Repr, Inhabited

/-- The parameters of RC_SET (R127). -/
structure RcSet where
  mask : Nat := 0
  cq : Nat := 0
  effort : Nat := 0
  maxRate : Nat := 0
  bufSize : Nat := 0
deriving DecidableEq, Repr, Inhabited

/-- The parameters of SUB_SET (R127). -/
structure SubSet where
  mask : Nat := 0
  resetTo : Nat := 0
  enabled : Nat := 0
  dscp : Nat := 0
  rates : Rates := {}
  weight : Nat := 1
deriving DecidableEq, Repr, Inhabited

/-- A command that is latched and applied at a Weir (class W of R126). -/
inductive WCmd where
  | courseStart (c : Nat)
  | courseStop (c : Nat)
  | courseSet (c field value : Nat)
  | keyNow (c : Nat)
  | rcSet (r : Nat) (p : RcSet)
  | layerSet (c l : Nat) (p : LayerSet)
  | layerFlip (c l surface pitch : Nat)
  | unitRetire (src : Nat)
  | joinKey (r : Nat)          -- the key request of a joining subscriber (R301)
deriving DecidableEq, Repr, Inhabited

/-- A command that takes effect at its object's packet boundary (class P of R126). -/
inductive PCmd where
  | subAdd (r : SubRec)
  | subDel (n : Nat)
  | subSet (n : Nat) (p : SubSet)
  | serviceAdd (r : ServiceRec) (resetTo : Nat)
  | serviceReplace (r : ServiceRec) (resetTo : Nat)
  | serviceRemove (n : Nat)
  | inflowAdd (r : InflowRec)
  | inflowDel (n : Nat)
  | subPut (r : SubRec)            -- records of an image (R108)
  | servicePut (r : ServiceRec)
  | inflowPut (r : InflowRec)
deriving DecidableEq, Repr, Inhabited

/-- A latched W command with its origin and the cycle of its arrival. -/
structure Latched where
  o : Origin := {}
  at_ : Nat := 0
  cmd : WCmd := .keyNow 0
deriving DecidableEq, Repr, Inhabited

/-- A P command that waits for its packet boundary. `shown` is the object's number. -/
structure Waiting where
  o : Origin := {}
  cmd : PCmd := .subDel 0
deriving DecidableEq, Repr, Inhabited

/-- A unit reset in progress (R142): its command, the unit and the cycle it began. -/
structure ResetRun where
  o : Origin := {}
  src : Nat := 0
  at_ : Nat := 0
deriving DecidableEq, Repr, Inhabited

/-- A time: SECONDS, NANOSECONDS and a fraction (R28, R35). -/
structure PhcTime where
  sec : Nat := 0
  ns : Nat := 0
  frac : Nat := 0
deriving DecidableEq, Repr, Inhabited

/-- A LOAD or STEP that waits for its cycle (R31). -/
inductive TimeOp where
  | load (due sec ns : Nat)
  | step (due : Nat) (adj : Int)
deriving DecidableEq, Repr, Inhabited

/-- A compare unit (R41, R42). -/
structure Cmp where
  target : Nat := 0
  staged : Nat := 0
  interval : Nat := 0
  armed : Bool := false
  fired : Bool := false
  missed : Nat := 0
deriving DecidableEq, Repr, Inhabited

/-- An output pin of the time unit (R44): its level, the cycle of its last rise and the cycle of its fall. -/
structure TimePin where
  level : Bool := false
  rise : Nat := 0
  fall : Nat := 0
deriving DecidableEq, Repr, Inhabited

/-- An entry of a transmit-timestamp queue (R37). -/
structure TxTs where
  id : Nat := 0
  t : PhcTime := {}
deriving DecidableEq, Repr, Inhabited

/-- The time unit (02). LOCK and the counters that registers show stand here; plain registers stand in State.regs. -/
structure TimeUnit where
  phc : PhcTime := {}
  ops : List TimeOp := []
  cmps : Tab Cmp := []
  pins : Tab TimePin := []
  txts : Tab (List TxTs) := []
  lock : Nat := 0
  syncSeen : Nat := 0
  servoUtc : Nat := 0
  goodSyncs : Nat := 0
  addends : List Nat := []
  master : Option Nat := none
  lastOffset : Int := 0
  ppsSeen : Bool := false
  ppsAt : Nat := 0
  ppsReported : Bool := false
deriving DecidableEq, Repr, Inhabited

/-- Where a domain stands in the sequence of R56. -/
inductive WeirStage where
  | none      -- before the domain's first Weir
  | window    -- a window is open
  | drain     -- steps 1 and 2: waiting for tagged transactions
  | spill     -- step 2 continued: waiting for Spillway units and emission (E)
  | hold      -- a DRAIN_PACED Weir held before step 4 for input (R55)
  | snap      -- step 4 of a standby: waiting for the snapshot (R395)
  | settle    -- step 8
deriving DecidableEq, Repr, Inhabited

/-- A tick domain (03). -/
structure Domain where
  mode : Nat := 0
  modeReq : Nat := 0
  modePending : Option Nat := none
  num : Nat := 0
  den : Nat := 0
  phase : Nat := 0
  guard : Nat := 0
  tick : Nat := 0
  next : Nat := 0
  stage : WeirStage := .none
  t0 : Nat := 0
  t0Ns : Nat := 0         -- the time of the tick that began the Weir, in nanoseconds, not reduced
  x : Nat := 0
  e : Nat := 0
  postBy : Nat := 0       -- host pictures posted before this cycle count for the window to open (R204)
  therm : Nat := 0        -- thermal step in effect (R416)
  unaligned : Bool := false
  forced : Nat := 0
  openAt : Nat := 0
  openCycles : Nat := 0
  deadlinePassed : Bool := false
  readyAt : Option Nat := none   -- DRAIN_PACED: the cycle both events of R55 had happened
  latched : List Latched := []
  closing : List Latched := []
  staged : Tab Word := []
  seen : Nat := 0                -- the tick up to which numbers passed over are counted (R65, R469)
  byPeriod : Bool := false       -- DRAIN_PACED: the Weir began as its period expired (R55)
  spillBy : List Nat := []       -- Spillway units that run past the Weir
  auto : Bool := false           -- its courses with AUTOSTART wait for its first Weir
deriving DecidableEq, Repr, Inhabited

/-- The run state of a course (R54). -/
inductive RunState where
  | stopped | startHeld | running
deriving DecidableEq, Repr, Inhabited

/-- An event record (R135). -/
structure EventRec where
  code : Nat := 0
  src : Nat := 0
  tick : Nat := 0
  course : Nat := 0xFFFF
  rend : Nat := 0xFFFF
  detail : Nat := 0
deriving DecidableEq, Repr, Inhabited

/-- The 16 bytes of an event record (R135, little-endian by R4). -/
def EventRec.bytes (e : EventRec) : Bytes :=
  leBytes 2 e.code ++ leBytes 2 e.src ++ leBytes 4 e.tick ++ leBytes 2 e.course ++ leBytes 2 e.rend ++ leBytes 4 e.detail

/-- A completion entry (R125). -/
structure Completion where
  tag : Nat := 0
  status : Status := .ok
  phase : Bool := true
  q : Nat := 0
  sqHead : Nat := 0
  info : Nat := 0
  detail : Nat := 0
deriving DecidableEq, Repr, Inhabited

/-- The 16 bytes of a completion entry (R125). -/
def Completion.bytes (c : Completion) : Bytes :=
  leBytes 2 c.tag ++ leBytes 1 c.status.code ++ leBytes 1 (bnat c.phase * 128 + c.q % 8) ++ leBytes 2 c.sqHead ++
  leBytes 2 c.info ++ leBytes 8 c.detail

/-- A function's event queue (R135, R136). -/
structure Evq where
  en : Bool := false
  overflow : Bool := false
  vector : Nat := 0
  sizeLog2 : Nat := 0
  head : Nat := 0
  tail : Nat := 0
  dropped : Nat := 0      -- EVQ_DROPPED
  unsaid : Nat := 0       -- dropped and not yet told in an EVQ_OVERFLOW record
  armed : Bool := false   -- the next record sends an MSI-X message (R134)
deriving DecidableEq, Repr, Inhabited

/-- A submission queue and its completion queue (R119 to R121). -/
structure SqPair where
  en : Bool := false
  vector : Nat := 0
  irqEn : Bool := false
  sizeM1 : Nat := 0
  error : Bool := false
  reason : Nat := 0
  sqHead : Nat := 0
  sqTail : Nat := 0
  cqHead : Nat := 0
  cqTail : Nat := 0
  phase : Bool := true
  armed : Bool := false
  running : Nat := 0      -- commands fetched and not yet completed
deriving DecidableEq, Repr, Inhabited

/-- A PCIe function's own state. -/
structure Func where
  evq : Evq := {}
  sqs : Tab SqPair := []
  d3hot : Bool := false
  fresh : Bool := true          -- no submission queue enabled since its reset (R141)
  maintBy : List Nat := []      -- functions whose ENTER_MAINT of SCOPE 0 is in force for it
  heldEvents : List EventRec := []
  heldDone : List Completion := []
  msix : Tab Word := []         -- MSI-X table, word by word; a vector's control word is masked until written
  pba : Nat := 0                -- MSI-X pending bits
deriving DecidableEq, Repr, Inhabited

/-- Where an image being loaded came from (R100, R99, R392). -/
inductive ImageFrom where
  | command (o : Origin)
  | flash
  | peer
deriving DecidableEq, Repr, Inhabited

/-- An accepted partial image that waits: its sequence, the domains it concerns, and by domain its records not yet
applied. -/
structure Partial where
  seq : Nat := 0
  recs : Tab (List Rec) := []
  domains : List Nat := []
  fresh : List Nat := []    -- domains whose Weir had passed T+0 at acceptance: applied at the Weir after it
deriving DecidableEq, Repr, Inhabited

/-- An accepted image, kept for the peer (R392). -/
structure KeptImage where
  seq : Nat := 0
  part : Bool := false
  bytes : Bytes := []
deriving DecidableEq, Repr, Inhabited

/-- The Course image logic (04). -/
structure ImageUnit where
  present : Bool := false               -- a structure runs (IMG_STATUS.STATE)
  loading : Option ImageFrom := none
  reason : Nat := 0
  failRecord : Nat := 0
  runningSeq : Nat := 0
  accSeq : Nat := 0
  replacing : Option (Nat × Structure) := none
  stopped : List Nat := []              -- domains already stopped for the replacement (R107)
  partials : List Partial := []
  slotProgrammed : List Bool := [true, false, false, false]
  slotRevoked : List Bool := [false, false, false, false]
  slotKeys : Tab Bytes := []
  floorLocked : Bool := false
  everAccepted : Bool := false
  kept : List KeptImage := []           -- the running full image and what was accepted after it
deriving DecidableEq, Repr, Inhabited

end Sys2Proof.Machine
end

