-- ==== Sys2Proof/Machine/UnitsData.lean ====
section
/-! DEFINITION. UnitsData.lean: the state of the picture path, memory, fabric and the rest (06 to 21), and the data
that commands carry for them. -/

namespace Sys2Proof.Machine

/-- A rate-limited event: the cycle it was last raised and the occurrences counted since. -/
structure Limit where
  last : Option Nat := none
  count : Nat := 0
deriving DecidableEq, Repr, Inhabited

/-- The PCIe link and SR-IOV state (R113, R140). `lost` holds from a LINK_DOWN to the next LINK_UP. -/
structure Pcie where
  up : Bool := false
  lost : Bool := false
  rate : Nat := 0
  width : Nat := 0
  numVfs : Nat := 0
deriving DecidableEq, Repr, Inhabited

/-- Pins of the package. -/
inductive Pin where
  | timeOut (k : Nat) | actOut | alertN | replaceN | thermTripN | led (n : Nat)
deriving DecidableEq, Repr, Inhabited

/-- A frame that leaves a port: its bytes with the FCS left out, or a membership message that firmware builds by
IGMPv3 or MLDv2 (R164). -/
inductive OutFrame where
  | bytes (b : Bytes)
  | membership (leave : Bool) (vlan group src : Nat)
deriving DecidableEq, Repr, Inhabited

/-! ### Bands, slots and buffers (01) -/

/-- A band mark (R14). -/
inductive Mark where
  | empty | written | frozen
deriving DecidableEq, Repr, Inhabited

/-- The samples of a band: for each component its lines, each line its samples (R22). Component 0 is Y' or R, 1 is Cb or
G, 2 is Cr or B. -/
abbrev Plane := List (List Nat)
structure Pix where
  c0 : Plane := []
  c1 : Plane := []
  c2 : Plane := []
deriving DecidableEq, Repr, Inhabited

/-- A picture slot: the picture it holds, a mark and a LOCAL flag per band (R14, R15), the samples of each band that has
been written, and its metadata (R158, R185). `pic` counts the pictures of the buffer from 1; 0 is the black content of a
new buffer (R18). -/
structure Slot where
  pic : Nat := 0
  pix : Tab Pix := []
  marks : List Mark := []
  locals : List Bool := []
  tick : Nat := 0
  rtp : Nat := 0
  firstNs : Nat := 0
  concealed : Bool := false
  substituted : Bool := false
  at_ : Nat := 0             -- the cycle the picture began, or was posted
  cap : Nat := 0             -- capture time C in ns, and domain periods added to it (R69)
  capPeriods : Nat := 0
  count : Nat := 0           -- capture count of a program, map or rung picture (R219)
deriving DecidableEq, Repr, Inhabited

/-- A buffer of picture slots (R22): the slots, the one being written, the pictures begun so far. -/
structure Buffer where
  slots : List Slot := []
  cur : Nat := 0
  pics : Nat := 0
deriving DecidableEq, Repr, Inhabited

/-! ### Ports and Inlet (06) -/

/-- A received frame: its bytes from the destination MAC to before the FCS, the FCS check, and the FEC counts of its
port since the last frame. -/
structure RxFrame where
  bytes : Bytes := []
  fcsOk : Bool := true
  fecCorr : Nat := 0
  fecUncorr : Nat := 0
deriving DecidableEq, Repr, Inhabited

/-- Token buckets of a meter in units of 1/1,500,000 byte, and the cycle they were last brought up to date. -/
structure Meter where
  c : Nat := 0
  e : Nat := 0
  at_ : Nat := 0
deriving DecidableEq, Repr, Inhabited

/-- Run-time state of an ingress flow. -/
structure FlowState where
  legUp : Bool := false
  wasDown : Bool := false
  lastFrame : Nat := 0
  meter : Meter := {}
  reportDue : Option Nat := none
deriving DecidableEq, Repr, Inhabited

/-- Sequence state of a flow or a merge pair (R155): numbers forwarded in the window with the cycle of each, and the
highest extended number so far. -/
structure SeqState where
  window : List (Nat × Nat) := []
  high : Option Nat := none
deriving DecidableEq, Repr, Inhabited

/-- Reception of one video input (R158, R159): the RTP timestamp of the picture being received, whether it is being
discarded, and the runs received of each line. -/
structure VideoIn where
  ts : Option Nat := none
  dropping : Bool := false
  lines : Tab (List (Nat × Nat)) := []   -- offset and samples of each run received of a line
  told : Bool := false
  seen : Nat := 0
deriving DecidableEq, Repr, Inhabited

/-- An exception ring (R162). -/
structure ExcRing where
  en : Bool := false
  vector : Nat := 0
  irqEn : Bool := false
  sizeLog2 : Nat := 0
  head : Nat := 0
  tail : Nat := 0
  filled : Nat := 0
  armed : Bool := false
deriving DecidableEq, Repr, Inhabited

/-- Inlet. Video inputs are keyed 4c+i; a merge pair by its lower entry. -/
structure Inlet where
  flows : Tab FlowState := []
  seqs : Tab SeqState := []
  videos : Tab VideoIn := []
  defMeter : Meter := { c := 98304000000 }
  rx : Tab ExcRing := []
  tx : Tab ExcRing := []
  txFree : Tab Nat := []          -- per port, the cycle from which EXC_TX_CAP allows the next exception frame
  up : List Nat := []             -- ports whose link is up
  reports : Tab Nat := []         -- inflows whose second unsolicited report is due, with its cycle (R164)
deriving DecidableEq, Repr, Inhabited

/-! ### Founts (07) -/

/-- A record of a jitter buffer (R170); its payload stays with it until the Fount passes it. -/
structure JbRec where
  type : Nat := 0
  flags : Nat := 0
  recvNs : Nat := 0
  payload : Bytes := []
deriving DecidableEq, Repr, Inhabited

/-- What the codec's standard says of one complete access unit of a stream (R172 to R189), in decoding order: the
records (or host bytes) it takes from the front of the buffer, its first record's receive time, and what decoding it
needs and gives. Held pictures are named by their place in the stream's list of held pictures, in decoding order. -/
structure AccessUnit where
  recs : Nat := 1
  bytes : Nat := 0
  recvNs : Nat := 0
  rap : Nat := 0            -- random access type of FT_SYNC_ACQUIRED, 0 none
  nonRef : Bool := false    -- no later picture uses it for reference
  params : Bool := true     -- its parameter sets have been received
  decodable : Bool := true  -- not a RASL picture or one before the recovery point
  unsupported : Nat := 0    -- reason of FT_UNSUPPORTED, 0 none
  newSeq : Bool := false    -- it starts a coded sequence
  splice : Nat := 0         -- loss of stream before it: 1 DISCONTINUITY, 2 TS program change (R171, R173)
  width : Nat := 0
  height : Nat := 0
  sampling : Nat := 0
  mono : Bool := false
  refs : List Nat := []     -- held pictures it references
  missing : Nat := 0        -- references never received
  keep : List Nat := []     -- held pictures still kept for reference or awaiting output once it is decoded
  order : Int := 0          -- its place in the stream's output order
  depth : Nat := 8          -- the depth of its samples
  output : Nat := 1         -- 0 none, 1 this picture, 2 + j the held picture j
  late : Nat := 0           -- packets discarded as late before it (PKTS_LATE)
  errors : Nat := 0         -- container errors before it
deriving DecidableEq, Repr, Inhabited

/-- A decoded picture that a stream holds. -/
structure HeldPic where
  pic : Nat := 0
  order : Int := 0
  concealed : Bool := false
  subst : Bool := false
deriving DecidableEq, Repr, Inhabited

/-- A Fount stream, keyed by its input 4c+i. -/
structure FountStream where
  bindKind : Nat := 0
  inflow : Nat := 0
  recs : List JbRec := []
  rptr : Nat := 0
  wptr : Nat := 0
  lastRec : Nat := 0
  state : Nat := 0
  au : Option AccessUnit := none
  cur : HeldPic := {}
  band : Nat := 0            -- bands of the current picture finished
  blocks : Nat := 0          -- blocks concealed in it
  errClass : Nat := 0        -- class of its first error
  held : List HeldPic := []
  lastOut : Nat := 0         -- the last output picture
  outPic : Nat := 0          -- the picture output in this window, 0 none (R180)
  mismatchTold : Bool := false
  unsTold : Bool := false
  dpbTold : Bool := false
deriving DecidableEq, Repr, Inhabited

/-- A damaged coding block, or the part of one that lies in the band (R184): its luma rectangle in the picture and the
motion vectors, in luma samples, of the decoded blocks to the left, above and above-right; (0, 0) for one that is
intra-coded or absent. -/
structure Damaged where
  x : Nat := 0
  y : Nat := 0
  w : Nat := 0
  h : Nat := 0
  left : Int × Int := (0, 0)
  above : Int × Int := (0, 0)
  aboveRight : Int × Int := (0, 0)
deriving DecidableEq, Repr, Inhabited

/-- What one decoded band reports: 16×16 blocks concealed, errors, the first error's class and block, the coded bits of
the band, the reference bands read (picture, band), its samples at the stream's depth as the codec's standard gives them,
and its damaged blocks. -/
structure BandDecode where
  pix : Pix := {}
  damaged : List Damaged := []
  blocks : Nat := 0
  errors : Nat := 0
  cls : Nat := 0
  block : Nat := 0
  bits : Nat := 0
  reads : List (Nat × Nat) := []
deriving DecidableEq, Repr, Inhabited

/-- A Fount's own state: the cycle its last band ended, cycles used in this window and in the last. -/
structure FountUnit where
  busy : Nat := 0
  used : Nat := 0
  last : Nat := 0
deriving DecidableEq, Repr, Inhabited

/-! ### Composition (08) -/

/-- A loadable table (R199): the active content ([] for identity), the shadow once fetched, and the address of a fetch
in progress. -/
structure Lut where
  active : Bytes := []
  shadow : Option Bytes := none
  ready : Bool := false          -- the fetch ended before T+0 of the Weir that runs
  fetching : Option Nat := none
deriving DecidableEq, Repr, Inhabited

/-- A layer in effect (R88, R200 to R207). `cur` and `prev` number the input's pictures that the layer shows and showed
before (R21); 0 for none. `run` counts windows not ready. -/
structure Layer where
  enabled : Bool := false
  geo : Geometry := {}
  alpha : Nat := 0
  fallback : Nat := 0
  fill : Nat := 0
  surface : Nat := 0
  pitch : Nat := 0
  shown : Bool := false
  cur : Nat := 0
  prev : Nat := 0
  run : Nat := 0
  mode : Nat := 0          -- 0 DISABLED, 1 LIVE, 2 REPEAT, 3 FALLBACK
  lut : Lut := {}
  faults : Nat := 0        -- surface reads returning zero data in the picture
deriving DecidableEq, Repr, Inhabited

/-- A course's protected layer (R211 to R215). `outcome` is the check of this window: none until the read ends. -/
structure Prot where
  verified : Option Bytes := none
  candidate : Bytes := []
  outcome : Option Bool := none
  failing : Bool := false
  failWindows : Nat := 0
  expect : Nat := 0        -- EXPECT, HOLD and SHOW as they stood at the window's opening
  hold : Bool := false
  shown : Bool := false
  lastCheck : Nat := 0
deriving DecidableEq, Repr, Inhabited

/-- The work of a fixed-rate stage on one course in a window: the picture it writes, its next band (for a Cascade the
source bands whose reading has started), the cycle its read in progress ends, and cycles used. -/
structure StageRun where
  active : Bool := false
  next : Nat := 0
  reading : Bool := false
  free : Nat := 0
  used : Nat := 0
  last : Nat := 0
deriving DecidableEq, Repr, Inhabited

/-- A consumer stage (R17): a course's Mere, one of its Cascades, a Headwater share, or a Tarn segment. -/
inductive Stage where
  | mere (c : Nat) | cascade (c k : Nat) | headwater (c u : Nat) | tarn (r g : Nat)
deriving DecidableEq, Repr, Inhabited

/-- The run-time state of a course. -/
structure CourseRun where
  state : RunState := .stopped
  lockReached : Bool := false     -- LOCKED was reached while the start is held (R54)
  caps : List (Nat × Nat) := []   -- capture counts and linear capture times of recent pictures, newest first
  cap : Option (Nat × Nat) := none   -- C of the last program picture: ns, and periods added (R69)
deriving DecidableEq, Repr, Inhabited

/-- A host-filled input (R204): the slot that HIN_k_NEXT names. -/
structure HostIn where
  next : Option Nat := none
deriving DecidableEq, Repr, Inhabited

/-! ### Headwater (09) -/

/-- A motion candidate (R222): a vector in program pixels and its internal cost. -/
structure Cand where
  valid : Bool := false
  mvx : Int := 0
  mvy : Int := 0
  cost : Nat := 0
deriving DecidableEq, Repr, Inhabited

/-- What one 16×16 block measures (R223, R225, R226): the samples inside the picture on the 10-bit scale (their number,
sum and sum of squares), their sum on the 8-bit scale, the nine intra sums by class, the winner of each distance's
search, the SAD to the co-located block of the distance-1 picture when that picture's slot holds it, and Σ|L|. -/
structure BlockMeas where
  n : Nat := 256
  sum10 : Nat := 0
  squares : Nat := 0
  sum8 : Nat := 0
  intra : List Nat := []
  cands : List Cand := []
  sad : Option Nat := none
  lap : Nat := 0
deriving DecidableEq, Repr, Inhabited

/-- A block record (R221). -/
structure BlockRec where
  cands : List Cand := []
  inter : Nat := 0
  intra : Nat := 0
  variance : Nat := 0
  noise : Nat := 0
  spatial : Nat := 0
  mean : Nat := 0
  cls : Nat := 0
  best : Nat := 0
  edge : Bool := false
  static : Bool := false
deriving DecidableEq, Repr, Inhabited

/-- A band of a map: its band record (R220) and its block records; `spatial` is the mean of the spatial estimates. -/
structure MapBand where
  complexity : Nat := 0
  intraSum : Nat := 0
  scene : Nat := 0
  noiseMean : Nat := 0
  spatial : Nat := 0
  staticBlocks : Nat := 0
  blocks : List BlockRec := []
deriving DecidableEq, Repr, Inhabited

/-- A history slot (R224): the program picture it was made from, a valid bit for each band, and the decimated luma of each
band written, the 4:1 picture and the 16:1 picture. -/
structure HistPic where
  pic : Nat := 0
  valid : List Bool := []
  half : Tab Plane := []
  quarter : Tab Plane := []
deriving DecidableEq, Repr, Inhabited

/-- A map slot (R218, R219): the slot's picture number, header and bands, and the history it was searched in: the
pictures at distances 1 to 4 as the window opened. -/
structure MapPic where
  pic : Nat := 0
  tick : Nat := 0
  count : Nat := 0
  cut : Bool := false
  first : Bool := false
  noise : Nat := 0
  dist : List HistPic := []
  bands : Tab MapBand := []
  gaps : Tab Nat := []           -- candidates left not valid, by unit
  gapBand : Tab Nat := []        -- the first invalid reference band met, by unit
deriving DecidableEq, Repr, Inhabited

/-- A course's analysis (R224, R226, R228): maps newest first, the history newest first, the slot of the picture in
analysis, the noise level and the capture-order count of the next picture. -/
structure CourseHw where
  maps : List MapPic := []
  hist : List HistPic := []
  slot : HistPic := {}
  noise : Nat := 0
  count : Nat := 0
  ended : Bool := true           -- the noise level holds the last picture
deriving DecidableEq, Repr, Inhabited

/-! ### Rate control, Tarns and Spillway units (10, 11) -/

/-- A band of a segment that a Tarn has begun: its QP in the Qr scale, complexity and bits (R273, R274). -/
structure BandLog where
  q : Nat := 0
  c : Nat := 0
  bits : Nat := 0
deriving DecidableEq, Repr, Inhabited

/-- A segment of the picture being coded (R243 to R248, R271 to R275). CTUs count in raster order in the segment;
a unit row is `step` bands of it, `parts` units wide. -/
structure SegRun where
  seg : SegRec := {}
  held : Bool := false           -- no Tarn codes it in this window (R142, R258, R409)
  cols : Nat := 0
  bands : Nat := 0
  top : Nat := 0                 -- its first band in the picture
  step : Nat := 1
  parts : Nat := 1
  width : Nat := 0
  hard : Nat := 0
  soft : Nat := 0
  w : Nat := 0
  e : Option Nat := none
  a : Nat := 0
  done : Nat := 0
  spent : Nat := 0
  unitBits : Nat := 0
  qPrev : Nat := 0
  begun : Nat := 0
  ctus : Nat := 0                -- CTUs that have left stage 9 or are handed to a Spillway unit
  pend : Tab Nat := []           -- unit rows at a Spillway unit: CTUs left and, below, bits so far
  pendBits : Tab Nat := []
  spilled : List Nat := []       -- unit rows spilled
  log : Tab BandLog := []
  seams : Nat := 0               -- seam strips handed to the Spillway unit and not yet finished
deriving DecidableEq, Repr, Inhabited

/-- A committed unit that waits for emission: bits, the cycle of its commitment, its flags and its release. -/
structure UnitOut where
  bits : Nat := 0
  at_ : Nat := 0
  spill : Bool := false
  release : Option Nat := none
deriving DecidableEq, Repr, Inhabited

/-- Final samples of a 16×16 block (R256): raster index in the rung's grid, and its samples inside the picture, luma then
Cb then Cr. -/
structure FinalBlock where
  index : Nat := 0
  samples : List Nat := []
deriving DecidableEq, Repr, Inhabited

/-- A picture that a rendition codes in a window. `type`: 0 key, 1 P or anchor, 2 referenced, 3 not referenced. -/
structure Coding where
  cap : Nat := 0
  pos : Nat := 0
  type : Nat := 0
  source : Nat := 0              -- its picture in the rung buffer
  mapPic : Nat := 0              -- its picture in the map buffer
  capNs : Nat := 0               -- linear capture time C
  tick : Nat := 0
  qb : Nat := 0
  limit : Nat := 0
  mode : Nat := 0                -- R283: 1 seeded key picture, 2 seeded inter picture
  effort : Nat := 0
  segs : Tab SegRun := []
  order : List Nat := []         -- units not yet written, in decoding order: 64·segment + row
  rtpLeft : List Nat := []       -- units not yet written to RTP, where R284 lets RTP run ahead
  units : Tab UnitOut := []
  rtpOpen : Bool := false        -- some RTP of this access unit has been written
  tsOpen : Bool := false         -- likewise of the other formats
  items : Nat := 0               -- NAL units of the non-unit items
  headBits : Nat := 0            -- bits outside units
  hide : Bool := false           -- an AV1 frame with show_frame 0
  shownNs : Nat := 0             -- C of the frame that its access unit shows
  shows : List (Nat × Nat) := [] -- show_existing_frame headers that follow it: capture count and C
  finished : Bool := false       -- its last unit is written
  isLocal : Bool := false
  frozen : Bool := false
  retry : Bool := false
  timeSpill : Bool := false
  spillUnit : Option Nat := none
  raised : Bool := false
  faultTold : Bool := false
  lateTold : Bool := false
  coded : Bool := false
  finals : List FinalBlock := []  -- final blocks so far: the content of the reference slot (R241)
  sent : List Nat := []           -- bands sent in HEAL messages
deriving DecidableEq, Repr, Inhabited

/-- A picture planned for coding (R240): capture count, type, and the anchor its group counts from. -/
structure PlanPic where
  cap : Nat := 0
  type : Nat := 1
  base : Nat := 0
deriving DecidableEq, Repr, Inhabited

/-- The picture structure of a rendition (R240, R281): started, pictures coded, plan, last anchor planned. -/
structure Gop where
  started : Bool := false
  start : Nat := 0
  pos : Nat := 0
  plan : List PlanPic := []
  top : Nat := 0
deriving DecidableEq, Repr, Inhabited

/-- A reference slot (R241, R256): the picture it holds, its digest and its final blocks. -/
structure RefSlot where
  cap : Nat := 0
  digest : Nat := 0
  blocks : List FinalBlock := []
deriving DecidableEq, Repr, Inhabited

/-- A rendition at run time: bucket (R262, in units of 1/PERIOD_DEN bit), model (R272, 0 not set), structure, keys and
the picture in coding. -/
structure Rend where
  full : Nat := 0
  rate : Nat := 0
  buf : Nat := 0
  raiseRate : Option Nat := none
  raiseBuf : Option Nat := none
  cq : Nat := 0
  effort : Nat := 0
  aKey : Nat := 0
  aInter : Nat := 0
  eKey : List Nat := []
  eInter : List Nat := []
  gop : Gop := {}
  gopOpen : Gop := {}            -- as it stood at the window opening
  ownKey : Bool := false
  joins : Nat := 0
  joinAt : Nat := 0
  lastKey : Option Nat := none
  cur : Option Coding := none
  refs : List RefSlot := []
  baseQp : Nat := 0
  maxQp : Nat := 0
  minQp : Nat := 0
  limit : Nat := 0
  lastBits : Nat := 0
  digest : Nat := 0
  flags : Nat := 0
  digestTick : Nat := 0
  digestPic : Option Nat := none        -- the capture count of the picture that digest belongs to
  hidden : List (Nat × Nat) := []       -- AV1 frames coded and not yet shown: capture count and C
  tuOpen : Bool := false                -- an AV1 temporal unit waits for its shown frame
  healing : Bool := false               -- HEALING (R398)
  unsynced : Bool := true               -- R397
deriving DecidableEq, Repr, Inhabited

/-- A course's key schedule (R279, R280): causes gathered, first first; the last course key; whether a deferral runs;
the check of the window's opening; whether its picture is settled. -/
structure CourseKey where
  due : List Nat := []
  last : Option Nat := none
  deferring : Bool := false
  ready : Bool := false
  taken : Bool := false
deriving DecidableEq, Repr, Inhabited

/-- A band that a Tarn has taken: its segment 16r + s and the CTUs that have not left stage 9. -/
structure TarnItem where
  seg : Nat := 0
  left : Nat := 0
deriving DecidableEq, Repr, Inhabited

/-- A Tarn: bands taken, oldest first; standing after a UNIT_RESET; the CTU run again (R257); the cycles of its retries
(R412); its retirement. -/
structure Tarn where
  items : List TarnItem := []
  held : Bool := false
  again : Option (Nat × Nat) := none
  retries : List Nat := []
  dueRetire : Bool := false
  retiredAt : Option Nat := none
  swapped : Bool := false
  used : Nat := 0
  last : Nat := 0
  since : Nat := 0
  segUse : Tab (Nat × Nat × Nat) := []    -- by segment: cycles, bands coded, bands spilled in this window
  segLast : Tab (Nat × Nat × Nat) := []
deriving DecidableEq, Repr, Inhabited

/-- Work queued at a Spillway unit (R277): the CTUs of a unit row, or seam strips, of a segment. -/
structure SpillJob where
  seg : Nat := 0
  row : Nat := 0
  left : Nat := 0
  cycles : Nat := 12
  at_ : Nat := 0
  seam : Bool := false
deriving DecidableEq, Repr, Inhabited

/-- A Spillway unit: its queue, oldest first, and the cycle its last CTU ended. -/
structure SpillUnit where
  queue : List SpillJob := []
  free : Nat := 0
deriving DecidableEq, Repr, Inhabited

/-- A rendition that the degraded order has changed (R408, R409): lowered, re-split or moved, spill-only. -/
structure Degraded where
  fast : Bool := false
  moved : Bool := false
  spillOnly : Bool := false
deriving DecidableEq, Repr, Inhabited

/-- What precedes an access unit's first unit (R286, R287): NAL units, or OBUs, without start codes. -/
structure PicItems where
  always : List Bytes := []
  captions : List Bytes := []
  timecode : List Bytes := []
  hdr : List Bytes := []
  aps : List Bytes := []
deriving DecidableEq, Repr, Inhabited

/-! ### Error protection (18) -/

/-- An armed injection (R418). -/
structure Injection where
  target : Nat := 0
  kind : Nat := 0
  addr : Nat := 0
  arg : Nat := 0
deriving DecidableEq, Repr, Inhabited

/-- The array an SRAM error lies in, by its owner (R404): a Tarn's data buffer with what was being fetched (R252), a
fixed-rate stage's or Fount's data buffer, a unit's control array, a channel's Basin slot, a packet or duplicate queued
for a subscriber, a Pool word or a beat read by a master, and an array of shared state. -/
inductive ArrayOwner where
  | tarnData (r g ctu kind : Nat)
  | stageData (x : Stage)
  | fountData (c k : Nat)
  | control
  | basin (g : Nat)
  | packet (u : Nat)
  | dup (n : Nat)
  | pool (id : Nat)
  | beat (id : Nat)
  | shared
deriving DecidableEq, Repr, Inhabited

/-- The health monitor: fatal cause (0 none), thermal step, the cycles at which each step's release began to count, the
step requested, excursions in the last 24 h, cycles of corrected errors and of recomputations by unit, armed
injections, the held temperature offset, and the block or CTU each unit runs again. -/
structure Ras where
  fatal : Nat := 0
  step : Nat := 0
  wanted : Nat := 0
  below : Tab Nat := []
  warmSince : Option Nat := none
  excursions : List Nat := []
  sram : List Nat := []
  retries : Tab (List Nat) := []
  dueRetire : List Nat := []
  again : Tab Nat := []
  inj : List Injection := []
  offset : Int := 0
  journalled : Nat := 0          -- the step journalled (R417): RAS.THERM_STEP
  trip : Bool := false           -- THERM_TRIP_N is asserted
deriving DecidableEq, Repr, Inhabited

/-! ### Emission and Outflow (12, 13) -/

/-- An entry of an emission ring (R292). `format` 255 is a wrap entry. -/
structure Entry where
  off : Nat := 0
  format : Nat := 0
  flags : Nat := 0
  seq : Nat := 0
  release : Nat := 0
  packet : Bytes := []
  picture : Nat := 0
  pts : Nat := 0
  dts : Nat := 0
  told : Bool := false     -- its chunk record has been written (R299)
deriving DecidableEq, Repr, Inhabited

/-- A rendition's emission ring and counters (R292, R297, R298, R302). -/
structure Ring where
  entries : List Entry := []
  wptr : Nat := 0
  seq : Nat := 0
  rtpSeq : Nat := 0
  tsRtpSeq : Nat := 0
  cc : Tab Nat := []         -- continuity counter per PID
  pids : Nat := 0            -- TS_PIDS and TS_DELAY_US in effect, from a key picture
  delay : Nat := 0
  don : Nat := 0             -- decoding order number of the next NAL unit
  lastTs : Option Nat := none      -- linear time of the last TS release
  lastTables : Option Nat := none  -- linear time of the last PAT and PMT
  captions : List (Nat × List Bytes) := []   -- T.35 payloads taken at a Weir, by capture count
deriving DecidableEq, Repr, Inhabited

/-- A host-memory ring of records with a phase (chunk rings, R299). -/
structure HostRing where
  en : Bool := false
  vector : Nat := 0
  irqEn : Bool := false
  sizeLog2 : Nat := 0
  head : Nat := 0
  tail : Nat := 0
  phase : Bool := true
  armed : Bool := false
deriving DecidableEq, Repr, Inhabited

/-- A node of the egress tree (R304, R307): bucket levels in units of 1/1,500,000 byte, the cycle they were brought up
to date, tag and virtual time. -/
structure Node where
  c : Int := 0
  p : Int := 0
  at_ : Nat := 0
  tag : Nat := 0
  vtime : Nat := 0
  idle : Bool := true
deriving DecidableEq, Repr, Inhabited

/-- A port's egress state. Rates in effect; the staged ones are registers. -/
structure OutPort where
  node : Node := {}
  rates : Rates := {}
  apply : Bool := false             -- staged rates wait for the frame boundary
  dups : List (Nat × Bytes) := []   -- subscriber and frame, oldest first
  free : Nat := 0                   -- the cycle the MAC can accept the next frame
  sending : Nat := 0                -- the cycle the last frame sent has left the MAC
deriving DecidableEq, Repr, Inhabited

/-- A subscriber's egress state (R310, R312). -/
structure OutSub where
  node : Node := {}
  waitKey : Bool := true
  next : Nat := 0           -- ENTRY_SEQ expected next
  skipped : Nat := 0
  ipId : Nat := 0
  queue : List Bytes := []  -- pass-through packets
deriving DecidableEq, Repr, Inhabited

/-- Outflow: the gate and its drain, nodes by number. -/
structure Outflow where
  gate : Bool := false
  draining : Bool := false
  drainFrom : Nat := 0
  drainFrames : Nat := 0
  ports : Tab OutPort := []
  svcs : Tab Node := []
  subs : Tab OutSub := []
deriving DecidableEq, Repr, Inhabited

/-! ### The Guavo link (17) -/

/-- A journal entry (R394): a W command, a P command with the linear time of its effect, a register write by PF0 BAR0
offset, or an image's application. -/
inductive Journal where
  | weir (fn : Nat) (c : WCmd)
  | packet (fn time : Nat) (c : PCmd)
  | reg (fn off : Nat) (v : Word)
  | image (seq : Nat) (part : Bool)
deriving DecidableEq, Repr, Inhabited

/-- A digest entry (R394). -/
structure DigestEntry where
  rend : Nat := 0
  isLocal : Bool := false
  key : Bool := false
  picture : Nat := 0
  digest : Nat := 0
deriving DecidableEq, Repr, Inhabited

/-- A rendition egress entry (R394). -/
structure EgressEntry where
  rend : Nat := 0
  rtpSeq : Nat := 0
  tsRtpSeq : Nat := 0
  ccPat : Nat := 0
  ccPmt : Nat := 0
  ccVideo : Nat := 0
  seq : Nat := 0
  picture : Nat := 0
  delay : Nat := 0
deriving DecidableEq, Repr, Inhabited

/-- A node entry (R394): kind 0 subscriber, 1 service, 2 port; levels in bytes. -/
structure NodeEntry where
  kind : Nat := 0
  waitKey : Bool := false
  node : Nat := 0
  next : Nat := 0
  ipId : Nat := 0
  c : Int := 0
  p : Int := 0
  tag : Nat := 0
deriving DecidableEq, Repr, Inhabited

/-- A snapshot (R394). -/
structure Snapshot where
  tick : Nat := 0
  dom : Nat := 0
  alive : Nat := 0
  resync : Bool := false
  dumpEnd : Bool := false
  truncated : Bool := false
  pos : Nat := 0
  time : Nat := 0
  imageSeq : Nat := 0
  journal : List Journal := []
  digests : List DigestEntry := []
  egress : List EgressEntry := []
  nodes : List NodeEntry := []
deriving DecidableEq, Repr, Inhabited

/-- What the message of a picture's last band carries beyond samples (R398): the rendition's rate-control state, its
picture structure, and the course's noise level. -/
structure HealState where
  full : Nat := 0
  rate : Nat := 0
  buf : Nat := 0
  raiseRate : Option Nat := none
  raiseBuf : Option Nat := none
  aKey : Nat := 0
  aInter : Nat := 0
  eKey : List Nat := []
  eInter : List Nat := []
  gop : Gop := {}
  noise : Nat := 0
deriving DecidableEq, Repr, Inhabited

/-- A HEAL message (R398): one band of a picture's final samples; `order` numbers the rendition's pictures in coding
order, `bytes` is its length on the link. -/
structure HealMsg where
  rend : Nat := 0
  picture : Nat := 0
  order : Nat := 0
  band : Nat := 0
  bands : Nat := 1
  key : Bool := false
  bytes : Nat := 0
  blocks : List FinalBlock := []
  state : Option HealState := none
deriving DecidableEq, Repr, Inhabited

/-- A message on the pairing link (R388). Heartbeats and images are bytes; the others are typed. -/
inductive GuavoMsg where
  | heartbeat (b : Bytes)
  | snapshot (x : Snapshot)
  | status (rends : List Nat)
  | image (b : Bytes)
  | heal (x : HealMsg)
deriving DecidableEq, Repr, Inhabited

/-- A healing that a standby receives: the picture in arrival, its bands and blocks, and the run so far. -/
structure HealRx where
  picture : Nat := 0
  order : Nat := 0
  key : Bool := false
  got : List Nat := []
  blocks : List FinalBlock := []
  run : Nat := 0
  total : Nat := 0           -- pictures received complete
  fromKey : Bool := false    -- the run begins with a key picture
  pics : List Nat := []      -- complete pictures of the run, by capture count
  contents : List (List FinalBlock) := []   -- their final blocks
  state : Option HealState := none
deriving DecidableEq, Repr, Inhabited

/-- A healing that an ACTIVE device sends: bytes reserved every window, and pictures sent. -/
structure HealTx where
  reserved : Nat := 0
  order : Nat := 0
  picture : Option Nat := none
deriving DecidableEq, Repr, Inhabited

/-- An image staged on a standby (R392): sequence, kind, the structure of a full image; of a partial one the domains it
concerns, by domain its records not yet applied, and the records that take effect at a packet boundary. -/
structure StagedImage where
  seq : Nat := 0
  part : Bool := false
  full : Structure := {}
  domains : List Nat := []
  recs : Tab (List Rec) := []
  p : List PCmd := []
deriving DecidableEq, Repr, Inhabited

/-- Guavo pairing (17). Role: 0 UNPAIRED, 1 STANDBY, 2 CLAIMING, 3 ACTIVE, 4 WITHDRAWING. -/
structure Pair where
  role : Nat := 0
  actOut : Bool := false
  actIn : Bool := false
  lowSince : Nat := 0            -- the cycle ACT_IN was last taken deasserted
  count : Option Nat := none     -- the cycle the hold-off count began (R383)
  claimAt : Nat := 0
  noneFrom : Option Nat := none  -- the cycle since which a STANDBY that may not claim sees ACT_IN deasserted (R384)
  hold : Bool := false
  fatal : Bool := false          -- FATAL_LATCHED
  gap : Bool := false
  gapTick : Nat := 0
  gapLost : Nat := 0             -- snapshots discarded during the gap
  diverged : Bool := false
  yieldBy : Option (Origin × Nat) := none   -- a YIELD not yet completed, and the cycle it was carried out
  -- heartbeats
  hbAlive : Nat := 0
  hbAt : Nat := 0
  peerAlive : Bool := false
  lastAlive : Option Nat := none
  missed : Nat := 0
  intervalAt : Nat := 0
  peerHold : Bool := false
  peerImage : Nat := 0
  -- sending
  journal : Tab (List Journal) := []   -- entries for each domain's next snapshot
  snapAlive : Nat := 0
  sentAt : Nat := 0                    -- the cycle of the last snapshots and the entries journalled in it
  sentIn : Nat := 0
  dump : Tab Nat := []                 -- position of each domain's dump in progress
  peerResync : Bool := false
  healTx : Tab HealTx := []
  -- receiving
  committed : Nat := 0                 -- ALIVE of the last committed snapshot
  arrived : Tab (Option Snapshot) := []   -- per domain, the snapshot held for its Weir; none once one was discarded for it
  resync : Tab Nat := []               -- next RESYNC_POS expected per domain
  resynced : List Nat := []
  imageSeq : Nat := 0                  -- IMAGE_SEQ of the image received last
  staged : List StagedImage := []
  owed : Tab (List Nat) := []          -- per domain, images journalled for the Weir in progress
  late : Tab (List Nat) := []          -- per domain, journalled images that had not arrived
  healRx : Tab HealRx := []
deriving DecidableEq, Repr, Inhabited

/-! ### Confluence and the Reservoir (14, 15) -/

/-- A transaction (R342, R343). A byte of `data` is none where its enable is off; for a read of host memory `data` is
what the host answers. `dom` tags compute-plane work with its domain (R352); `chan` is the Sluice channel. -/
structure Txn where
  master : Nat := 0
  fn : Option Nat := none
  write : Bool := false
  dom : Option Nat := none
  chan : Option Nat := none
  addr : Nat := 0
  len : Nat := 0
  data : List (Option Byte) := []
deriving DecidableEq, Repr, Inhabited

/-- A transaction at a target's arbiter, with the cycle it arrived; `told` once its demotion is counted. -/
structure AtArbiter where
  id : Nat := 0
  t : Txn := {}
  at_ : Nat := 0
  told : Bool := false
deriving DecidableEq, Repr, Inhabited

/-- Tokens of a master at a target, in 1/20 byte. -/
structure Tokens where
  rt : Int := 0
  bg : Int := 0
  at_ : Nat := 0
deriving DecidableEq, Repr, Inhabited

/-- A target's arbiter: what waits, oldest first; the first cycle of the next grant; the master parked on; tokens and
deficits by master; whose turn it is. -/
structure TargetPort where
  waiting : List AtArbiter := []
  free : Nat := 0
  parked : Option Nat := none
  tokens : Tab Tokens := []
  deficit : Tab Nat := []
  turn : Nat := 0
  bgTurn : Nat := 0
deriving DecidableEq, Repr, Inhabited

/-- A granted transaction not yet answered: its target and grant, the lines not yet read and the data of those read;
`cut` once its master is reset (R350). -/
structure InFlight where
  t : Txn := {}
  target : Nat := 0
  at_ : Nat := 0
  left : Nat := 0
  got : List (Nat × Bytes) := []
  bad : Bool := false
  cut : Bool := false
deriving DecidableEq, Repr, Inhabited

/-- Confluence: arbiters by target, open transactions by identifier, transactions withdrawn from masters in reset. -/
structure Fabric where
  ports : Tab TargetPort := []
  flight : Tab InFlight := []
  nextId : Nat := 1
  inReset : Tab Nat := []
deriving DecidableEq, Repr, Inhabited

/-- A request in a channel's queue (R326): its transaction (0 for the controller's own), its order of arrival, its line
in the channel and in the device, its 64 bytes. -/
structure MemReq where
  id : Nat := 0
  ord : Nat := 0
  line : Nat := 0
  dev : Nat := 0
  write : Bool := false
  rt : Bool := false
  data : List (Option Byte) := []
  at_ : Nat := 0
deriving DecidableEq, Repr, Inhabited

/-- A bank: its open row, the cycle until which a refresh holds it, refreshes owed and the cycle from which they may be
paid, and the cycle its next refresh falls due. -/
structure Bank where
  row : Option Nat := none
  held : Nat := 0
  owed : Nat := 0
  pay : Nat := 0
  due : Option Nat := none
deriving DecidableEq, Repr, Inhabited

/-- A byte lane (R337 to R340): 0 OK, 1 REPAIRED, 2 DEGRADED, 3 FAILED; settings in use and those that wait. -/
structure DramLane where
  state : Nat := 0
  vref : Nat := 0
  wr : Nat := 0
  rd : Nat := 0
  eye : Nat := 0
  repaired : Bool := false
  next : Option (Nat × Nat × Nat) := none
deriving DecidableEq, Repr, Inhabited

/-- A channel controller (14). `batch` counts the writes of a drain batch; `lfsr` is none until it is seeded. -/
structure Chan where
  live : Bool := false
  reason : Nat := 0
  repair : Nat × Nat := (0, 0)
  rq : List MemReq := []
  wq : List MemReq := []
  ord : Nat := 0
  batch : Option Nat := none
  banks : Tab Bank := []
  ready : Nat := 0
  lfsr : Option Nat := none
  lanes : Tab DramLane := []
  visit : Nat := 0
  visited : Tab Nat := []
  hot : Bool := false
  entering : Bool := false
  abandoned : Bool := false
  srAt : Nat := 0
  ceTimes : List Nat := []
  scrubPos : Nat := 0
  scrubAt : Option Nat := none
  passCe : Nat := 0
  passUe : Nat := 0
  poison : List Nat := []
deriving DecidableEq, Repr, Inhabited

/-- What the decoder finds in a codeword (R334): 0 clean, 1 one symbol in error, 2 more. -/
structure CodeRead where
  kind : Nat := 0
  sym : Nat := 0
deriving DecidableEq, Repr, Inhabited

/-- What start-up training finds of a channel (R337, R338): the setting of each byte lane (reference, write delay, read
delay, eye), lines remapped (byte lane, line), and the lane and reason of an exclusion. -/
structure ChanTraining where
  chan : Nat := 0
  lanes : List (Nat × Nat × Nat × Nat) := []
  repaired : List (Nat × Nat) := []
  excluded : Option (Nat × Nat) := none
deriving DecidableEq, Repr, Inhabited

/-- A status record (R360). -/
structure SluiceRec where
  status : Nat := 0
  running : Bool := false
  residue : Nat := 0
  addr : Nat := 0
  final : Bool := false          -- it ends the channel
deriving DecidableEq, Repr, Inhabited

/-- A Sluice channel (15). State: 0 IDLE, 1 WAIT_BASIN, 2 ACTIVE, 3 DISABLED, 4 STOPPING. `stat` and `cfg` are those of
its start; `owed` are records whose read-back is out, oldest first; `error` is the record of an error response. -/
structure SluiceChan where
  state : Nat := 0
  slot : Nat := 0
  order : Nat := 0
  cur : Nat := 0
  stat : Nat := 0
  cfg : Nat := 0
  hops : Nat := 0
  bytes : Nat := 0
  seq : Nat := 0
  owed : List SluiceRec := []
  error : Option SluiceRec := none
  lastStatus : Nat := 0
  fired : Option Nat := none     -- tick of the window in which its timer started it
  killed : Bool := false         -- a Weir of its domain has stopped it issuing
deriving DecidableEq, Repr, Inhabited

/-! ### High-speed lanes (20) -/

/-- A lane (R440 to R448). State: 0 IDLE, 1 CALIBRATING, 2 ACQUIRING, 3 UP, 4 FAILED, 5 TEST. -/
structure Lane where
  state : Nat := 0
  calibrated : Bool := false
  saved : Bool := false            -- receiver settings kept across electrical idle
  signal : Bool := false
  cdr : Bool := false
  aligned : Bool := false
  inverted : Bool := false
  trying : Bool := false           -- the polarity tried is inverted
  logical : Nat := 0
  reason : Nat := 0
  told : Bool := false             -- its failure has been reported
  signalAt : Nat := 0
  cdrAt : Nat := 0
  triedAt : Nat := 0
  upAt : Nat := 0
  failedAt : Nat := 0
  burst : Option Nat := none       -- the end of the burst after electrical idle
  trained : Bool := false          -- link training has ended or been given up
  measuring : Bool := false
deriving DecidableEq, Repr, Inhabited

/-! ### Start-up, power and supplies (19, 21) -/

/-- Start-up state: reset inputs, the cycle SYS_RESET_N deasserted, what has ended of the sequence, the flash operation
in progress and how many copies of the flash image were found. -/
structure Boot where
  inReset : Bool := false
  powered : Bool := true
  perst : Bool := false
  at_ : Nat := 0
  stage : Nat := 0
  fwCopy : Nat := 0
  trained : Bool := false
  flashImage : Nat := 0
  done : Bool := false             -- BOOT_DONE has been raised
  seat : Nat := 0                  -- PAIR_SEAT as sampled
  tapReset : Bool := false         -- the TAP controller stands in Test-Logic-Reset
  flashOp : Option (Nat × Nat) := none   -- the operation in progress and its flash byte address
  flashErr : Bool := false         -- FLASH_CTRL.ERROR
  warnCore : Option Nat := none    -- the cycle of the last SUPPLY_WARN of each rail
  warnSram : Option Nat := none
  avsAt : Option Nat := none       -- the cycle of the last set point or try
  srEntering : Bool := false       -- stack 1 is entering SELF_REFRESH by GLB.PWR_REQ (R432)
deriving DecidableEq, Repr, Inhabited

/-- A firmware copy as the boot ROM finds it (R423): 0 good, 1 signature, 2 length, 3 version. -/
structure FwCopy where
  bad : Nat := 0
  version : Nat := 0
deriving DecidableEq, Repr, Inhabited

/-! ### Block copy engines and check units (16) -/

/-- A block copy engine: its semaphore, a release that waits, and an operation in progress. -/
structure Bce where
  holder : Option Nat := none
  release : Bool := false
  busy : Bool := false
  at_ : Nat := 0             -- the cycle the operation started
deriving DecidableEq, Repr, Inhabited

/-- A check unit's running value and message state (R374 to R378). -/
structure CheckUnit where
  run : Nat := 0xFFFFFFFF
  restart : Bool := false       -- RUN takes INIT before the next byte (R377)
  result : Nat := 0             -- latched under AUTO_RESTART
  fed : Nat := 0                -- bytes of the message so far
  counter : List Nat := []      -- bytes of the alive counter seen in this message
  base : Option Nat := none     -- L, once there is a baseline
  last : Nat := 0               -- ALIVE_STAT.LAST
  owner : Nat := 0
deriving DecidableEq, Repr, Inhabited

end Sys2Proof.Machine
end

