-- ==== Sys2Proof/Syntax.lean ====
section
/-! DEFINITION. Syntax.lean: the commands of the block, one constructor per row of spec/opcode_table.json, in its order.
A command is one step of the part, whole and indivisible; its operands are what the outside or the package's own
physics supply at that step. -/

namespace Sys2Proof
open Sys2Proof.Machine

/-- The commands of the OZ9600. -/
inductive Instr where
  /-- TIME_LOAD (R31): A W1S write of TIME.CTRL.LOAD captures SET_SEC and SET_NS and schedules a LOAD of the PHC two cycles later. -/
  | timeLoad (w : Word)
  /-- TIME_STEP (R31): A W1S write of TIME.CTRL.STEP captures TIME.ADJ and schedules a signed step of the PHC two cycles later. -/
  | timeStep (w : Word)
  /-- TIME_OP_EFFECT (R31): A pending LOAD or STEP takes effect on the PHC two cycles after the write that started it. -/
  | timeOpEffect
  /-- TIME_ADDEND_WRITE (R30): A write to TIME.ADDEND is clamped to ±0.1% and slews the PHC rate from the next cycle. -/
  | timeAddendWrite (w : Word)
  /-- TIME_SERVO_SELECT (R46): A write of TIME.CTRL.SERVO switches between the firmware servo and host control, and UTC_OFFSET follows the new mode. -/
  | timeServoSelect (w : Word)
  /-- HOST_LOCK_SET (R47): In HOST mode, a write of TIME.CTRL.HOST_LOCK sets the lock state and raises LOCK_ACQUIRED or LOCK_LOST. -/
  | hostLockSet (w : Word)
  /-- UTC_CFG_WRITE (R47): In HOST mode, a write of TIME.UTC_CFG sets the UTC offset shown from the next cycle. -/
  | utcCfgWrite (w : Word)
  /-- NOW_NS_READ (R33): A read of TIME.NOW_NS returns NANOSECONDS and latches SECONDS and FRACTION. -/
  | nowNsRead
  /-- TXTS_POP (R39): A read of TIME_Pn.TXTS_POP pops the oldest transmit-timestamp entry, or returns VALID 0 on an empty queue. -/
  | txtsPop (port : Nat)
  /-- COMPARE_FIRE (R41): An armed compare unit reaches its target, fires, and then disarms or advances by its interval. -/
  | compareFire (m : Nat)
  /-- CMP_TGT_LO_WRITE (R42): A write to TGT_LO stages the low half of a compare target. -/
  | cmpTgtLoWrite (m : Nat) (w : Word)
  /-- CMP_TGT_HI_WRITE (R42): A write to TGT_HI loads the target from the staged low half and arms the unit. -/
  | cmpTgtHiWrite (m : Nat) (w : Word)
  /-- CMP_ARMED_WRITE (R42): A write of CMPm.CTRL.ARMED arms the unit with its current target or disarms it. -/
  | cmpArmedWrite (m : Nat) (w : Word)
  /-- OUTPUT_PULSE_END (R44): The pulse width of an output pin expires and the pin falls. -/
  | outputPulseEnd (k : Nat)
  /-- PPS_IN_EDGE (R45): A rising edge on PPS_IN captures the PHC. -/
  | ppsInEdge
  /-- PPS_IN_TIMEOUT (R45): No PPS_IN edge for 2 s after one was seen. -/
  | ppsInTimeout
  /-- FREQ_10M_COUNT_DONE (R45): A count over 10,000,000 edges of TIME_10M_IN completes and updates FREQ_10M. -/
  | freq10mCountDone (cycles : Nat)
  /-- PTP_SYNC_RECEIVED (R48): The firmware servo processes a Sync message, adjusts the PHC and moves the lock state. -/
  | ptpSyncReceived (offset : Int)
  /-- PTP_ANNOUNCE_RECEIVED (R46): The firmware servo processes an Announce message for BMCA and the UTC offset. -/
  | ptpAnnounceReceived (best : Option Nat) (utcOffset : Option Nat)
  /-- SYNC_TIMEOUT (R48): Three announce intervals pass without Sync while LOCKED, and the servo enters HOLDOVER. -/
  | syncTimeout
  /-- WEIR_START (R56): A domain's tick fires (compare unit, forward step or first Weir), the tick number advances, and compute-plane work of the domain is killed. -/
  | weirStart (d : Nat)
  /-- WEIR_DRAINED (R56): Tagged transactions of the closing window reach zero, and the Weir runs steps 3 to 7: Sluice disable, latched commands, swaps, power changes and snapshot hand-off. -/
  | weirDrained (d : Nat)
  /-- SPILL_DRAIN_DONE (R58): Spillway units and emission finish work queued past the Weir, ending the wait E of step 2. -/
  | spillDrainDone (d : Nat)
  /-- WINDOW_OPEN (R56): The 1,024-cycle settle of step 8 expires and the next window opens. -/
  | windowOpen (d : Nat) (aus : Tab (List AccessUnit))
  /-- WINDOW_DEADLINE (R61): The window's deadline arrives; waiting consumers stop and fixed-rate stages freeze their unfinished bands. -/
  | windowDeadline (d : Nat)
  /-- FORCED_WEIR (R66): A window lasts 2 W (then W) cycles without a tick and the Weir logic forces a Weir. -/
  | forcedWeir (d : Nat)
  /-- DRAIN_PERIOD_EXPIRED (R55): A DRAIN_PACED window not drained within the period receives a Weir. -/
  | drainPeriodExpired (d : Nat)
  /-- DRAIN_PACED_WEIR_DUE (R55): 512 cycles after a DRAIN_PACED window has drained and its lead bands are written, the next Weir begins. -/
  | drainPacedWeirDue (d : Nat)
  /-- INPUT_HOLD_RELEASE (R55): A DRAIN_PACED Weir held before step 4 continues 512 cycles after the last lead band is written. -/
  | inputHoldRelease (d : Nat)
  /-- WEIR_PHASE_WRITE (R67): A write of WEIR_TDn.PHASE_NS re-phases the domain at the next Weir, or is refused. -/
  | weirPhaseWrite (d : Nat) (w : Word)
  /-- GUARD_NS_WRITE (R62): A write of WEIR_TDn.GUARD_NS sets the guard for the next Weir, or is refused. -/
  | guardNsWrite (d : Nat) (w : Word)
  /-- MODE_REQ_WRITE (R68): A write of WEIR_TDn.CTRL.MODE_REQ requests a change between PTP_PACED and FREE_RUN. -/
  | modeReqWrite (d m : Nat)
  /-- SLICE_RELEASE_TIME (R70): A FIXED slice's release time arrives and Outflow may read its entries. -/
  | sliceReleaseTime (r : Nat)
  /-- IMAGE_LOAD (R100): PF0's IMAGE_LOAD starts reading an image into the staging area for checking. -/
  | imageLoad (o : Origin) (addr len : Nat)
  /-- IMAGE_CHECK_DONE (R101): The read and check of an image end, and the image is accepted or refused with its reason. -/
  | imageCheckDone (b : Option Bytes)
  /-- IMAGE_STATUS (R100): IMAGE_STATUS returns GLB.IMG_STATUS and the sequences. -/
  | imageStatus (o : Origin) (addr : Nat) (wrote : Bool)
  /-- FLASH_IMAGE_SELECT (R99): After HBM training, firmware checks both flash image copies and takes the valid one with the higher sequence. -/
  | flashImageSelect (a b : Bytes)
  /-- IMAGE_INSTALL (R107): When the last running domain has stopped, a full image drops the old structure and is installed. -/
  | imageInstall
  /-- KEY_PROGRAM (R98): A W1S write of GLB.KEY_CTRL.PROGRAM programs an empty key slot in maintenance. -/
  | keyProgram (slot : Nat)
  /-- KEY_REVOKE (R98): A W1S write of GLB.KEY_CTRL.REVOKE revokes a key slot in maintenance. -/
  | keyRevoke (slot : Nat)
  /-- FLOOR_LOCK (R79): A W1S write of GLB.IMG_CTRL.FLOOR_LOCK locks IMG_SEQ_FLOOR until device reset. -/
  | floorLock
  /-- QUEUE_ENABLE (R119): A write of SQq_CFG.EN enables a queue pair and resets its pointers and phase, or is refused. -/
  | queueEnable (f q : Nat) (w : Word)
  /-- SQ_TAIL_DOORBELL (R120): A write to an SQ tail doorbell advances the tail, or is dropped. -/
  | sqTailDoorbell (f q v : Nat) (whole : Bool)
  /-- CQ_HEAD_DOORBELL (R120): A write to a CQ head doorbell releases completion entries and re-arms the interrupt. -/
  | cqHeadDoorbell (f q v : Nat) (whole : Bool)
  /-- COMMAND_FETCH (R121): The device fetches a submission entry when the queue holds one and room allows, and delivers it to the command arbiter. -/
  | commandFetch (f q : Nat) (entry buf : Option Bytes)
  /-- EVQ_ENABLE (R135): A write of EVQ_CTRL.EN enables the event queue and empties it, or is refused. -/
  | evqEnable (f : Nat) (w : Word)
  /-- EVQ_HEAD_WRITE (R136): A write to EVQ_HEAD releases event records, or is ignored. -/
  | evqHeadWrite (f : Nat) (w : Word)
  /-- COURSE_START (R54): COURSE_START latches a course start for the next Weir, held until lock in a PTP_PACED domain. -/
  | courseStart (o : Origin) (c : Nat)
  /-- COURSE_STOP (R54): COURSE_STOP latches a course stop, or withdraws a held start. -/
  | courseStop (o : Origin) (c : Nat)
  /-- COURSE_SET (R127): COURSE_SET latches one course field for the next Weir. -/
  | courseSet (o : Origin) (c field value : Nat)
  /-- KEY_NOW (R279): KEY_NOW, by command or by register field, latches a course key request. -/
  | keyNow (o : Origin) (c : Nat)
  /-- RC_SET (R269): RC_SET latches new rate-control or effort values for a rendition. -/
  | rcSet (o : Origin) (r : Nat) (p : RcSet)
  /-- LAYER_SET (R207): LAYER_SET latches new geometry, enable, alpha or fallback for a layer. -/
  | layerSet (o : Origin) (c l : Nat) (p : LayerSet)
  /-- LAYER_FLIP (R198): LAYER_FLIP latches a new surface for a layer. -/
  | layerFlip (o : Origin) (c l surface pitch : Nat)
  /-- SUB_ADD (R314): SUB_ADD reads a SUBSCRIBER record and creates the subscriber at its next packet boundary. -/
  | subAdd (o : Origin) (b : Option Bytes)
  /-- SUB_DEL (R314): SUB_DEL removes a subscriber at its next packet boundary. -/
  | subDel (o : Origin) (n : Nat)
  /-- SUB_SET (R315): SUB_SET changes a subscriber's rates, weight, enable or DSCP at its next packet boundary. -/
  | subSet (o : Origin) (n : Nat) (p : SubSet)
  /-- SERVICE_SET_ADD (R127): SERVICE_SET with ACTION add creates a service from a SERVICE record. -/
  | serviceSetAdd (o : Origin) (target resetTo : Nat) (b : Option Bytes)
  /-- SERVICE_SET_REPLACE (R315): SERVICE_SET with ACTION replace changes a service's rates and weight. -/
  | serviceSetReplace (o : Origin) (target resetTo : Nat) (b : Option Bytes)
  /-- SERVICE_SET_REMOVE (R127): SERVICE_SET with ACTION remove deletes a service that has no subscribers. -/
  | serviceSetRemove (o : Origin) (n : Nat)
  /-- INFLOW_ADD (R150): INFLOW_ADD creates an ingress flow entry from an INFLOW record. -/
  | inflowAdd (o : Origin) (b : Option Bytes)
  /-- INFLOW_DEL (R150): INFLOW_DEL deletes an ingress flow entry. -/
  | inflowDel (o : Origin) (n : Nat)
  /-- P_COMMAND_APPLY (R314): A P command reaches its object's packet boundary, takes effect and completes with the linear time. -/
  | pCommandApply (k : Nat)
  /-- UNIT_RESET (R142): UNIT_RESET resets one unit, leaving the rest of the device running. -/
  | unitReset (o : Origin) (src : Nat)
  /-- UNIT_RESET_DONE (R142): A unit reset completes and its command completes. -/
  | unitResetDone (src cycles : Nat)
  /-- UNIT_RETIRE (R142): UNIT_RETIRE latches the retirement of a unit for the next Weir of its first domain. -/
  | unitRetire (o : Origin) (src : Nat)
  /-- PAIR_CTL_STATUS (R400): PAIR_CTL STATUS returns GUAVO.STATUS. -/
  | pairCtlStatus (o : Origin) (arg : Nat)
  /-- PAIR_CTL_HOLD (R400): PAIR_CTL HOLD sets or clears HOLD. -/
  | pairCtlHold (o : Origin) (arg : Nat)
  /-- PAIR_CTL_YIELD (R385): PAIR_CTL YIELD closes the gate of an ACTIVE device, withdraws it and sets HOLD. -/
  | pairCtlYield (o : Origin) (arg : Nat)
  /-- PAIR_CTL_HEAL (R397): PAIR_CTL HEAL on a standby marks a rendition UNSYNCED. -/
  | pairCtlHeal (o : Origin) (arg : Nat)
  /-- STATS_READ (R126): STATS_READ writes a statistics block of the named scope to host memory. -/
  | statsRead (o : Origin) (scope target addr len : Nat) (wrote : Bool)
  /-- TEST_CTL_ENTER_MAINT (R141): TEST_CTL ENTER_MAINT puts a function or the device into maintenance. -/
  | testCtlEnterMaint (o : Origin) (target scope : Nat)
  /-- TEST_CTL_LEAVE_MAINT (R141): TEST_CTL LEAVE_MAINT ends a maintenance state. -/
  | testCtlLeaveMaint (o : Origin) (target scope : Nat)
  /-- TEST_CTL_INJECT (R418): TEST_CTL sub-operation 16 arms an error injection in device maintenance. -/
  | testCtlInject (o : Origin) (scope target kind addr arg : Nat)
  /-- FUNCTION_LEVEL_RESET (R139): A function-level reset disables a function's queues, withdraws its pending commands and stops its Sluice channels. -/
  | functionLevelReset (f : Nat)
  /-- VF_ENABLE_CHANGED (R140): Host software changes VF Enable or NumVFs. -/
  | vfEnableChanged (n : Nat)
  /-- LINK_UP (R113): The PCIe link trains up. -/
  | linkUp (rate width : Nat)
  /-- LINK_DOWN (R113): The PCIe link goes down. -/
  | linkDown (ltssm : Nat)
  /-- REGISTER_WRITE (R5): A write to a register field that has no row of its own, under its access code. -/
  | registerWrite (f bar off len : Nat) (w : Word)
  /-- FRAME_RECEIVED (R144): A port receives a whole frame, which is filtered, classified, metered, merged and delivered by kind. -/
  | frameReceived (port : Nat) (x : RxFrame) (desc : Bytes)
  /-- PORT_UP (R145): A port's link comes up. -/
  | portUp (n : Nat)
  /-- PORT_DOWN (R145): A port loses link or is re-formed, and frames in progress are dropped. -/
  | portDown (n : Nat)
  /-- MERGE_LEG_TIMEOUT (R156): A merge leg receives nothing for 100 ms. -/
  | mergeLegTimeout (i : Nat)
  /-- EXC_RING_ENABLE (R162): A write enabling an exception ring is accepted or refused. -/
  | excRingEnable (f : Nat) (tx : Bool) (w : Word)
  /-- EXC_RX_TAIL_DOORBELL (R162): A write to the exception receive tail posts buffers. -/
  | excRxTailDoorbell (f v : Nat)
  /-- EXC_TX_TAIL_DOORBELL (R162): A write to the exception transmit tail posts frames to send. -/
  | excTxTailDoorbell (f v : Nat)
  /-- EXC_TX_SEND (R163): A posted exception transmit descriptor is sent when its port allows, and DONE is set when it has left the MAC. -/
  | excTxSend (f : Nat) (desc frame : Bytes)
  /-- MEMBERSHIP_REPORT_TIMER (R164): Firmware sends an unsolicited IGMP or MLD report 1 s after the first. -/
  | membershipReportTimer (i : Nat)
  /-- FT_BIND_WRITE (R168): A write of FT_INk_CTRL stages a Fount binding for the next Weir, or is refused. -/
  | ftBindWrite (f c k : Nat) (w : Word)
  /-- FT_WPTR_WRITE (R171): Host software advances a host-bound jitter buffer's write pointer. -/
  | ftWptrWrite (c k : Nat) (w : Word)
  /-- FOUNT_BAND_DONE (R178): A Fount finishes decoding and filtering a band and sets it WRITTEN. -/
  | fountBandDone (c k : Nat) (r : BandDecode)
  /-- FT_STREAM_LOSS_TIMEOUT (R188): 500 ms pass without a new record, and the stream restarts as on first use. -/
  | ftStreamLossTimeout (c k : Nat)
  /-- BAND_READ_START (R17): A consumer stage sees non-EMPTY marks on every band it needs and starts reading its next band. -/
  | bandReadStart (x : Stage)
  /-- MERE_BAND_DONE (R192): A Mere finishes composing a program band and sets it WRITTEN. -/
  | mereBandDone (c : Nat) (bad : List Nat)
  /-- CASCADE_BAND_DONE (R209): A Cascade finishes a rung band and sets it WRITTEN. -/
  | cascadeBandDone (c g : Nat)
  /-- HW_BAND_DONE (R231): A Headwater unit finishes a band's map records and history and sets the mark. -/
  | hwBandDone (c u : Nat)
  /-- LUT_LOAD (R199): A W1S write of LUT_CTRL.LOAD starts or restarts a table fetch. -/
  | lutLoad (c l : Nat) (w : Word)
  /-- LUT_FETCH_DONE (R199): A table fetch ends, leaving the shadow table ready for the next Weir, or fails. -/
  | lutFetchDone (c l : Nat)
  /-- HIN_POST (R204): A write of HIN_k_POST posts a host-input picture slot, or is ignored. -/
  | hinPost (c k : Nat) (w : Word)
  /-- PROT_CHECK_DONE (R212): The protected-area read finishes and its check value is compared with EXPECT. -/
  | protCheckDone (c : Nat)
  /-- PROT_REG_WRITE (R215): A write to FUNC_Fn.PROT_Cnn is taken from its owner for the next Weir, or refused. -/
  | protRegWrite (f n c o : Nat) (w : Word)
  /-- CTU_COMMIT (R245): A CTU leaves stage 9; the budget test runs, and the unit is committed at its last CTU. -/
  | ctuCommit (r g bits : Nat) (blocks : List FinalBlock)
  /-- RESIDUE_MISMATCH (R257): A Tarn residue check fails; the CTU is run again, or the Tarn is retired on a second mismatch. -/
  | residueMismatch (n stage k : Nat)
  /-- TARN_WATCHDOG (R258): A CTU stays in one stage for more than 262,144 cycles and the Tarn is retired. -/
  | tarnWatchdog (n : Nat)
  /-- FETCH_FAULT (R252): A Tarn fetch returns an error or uncorrectable data. -/
  | fetchFault (r g ctu kind : Nat)
  /-- SPILL_CTU_DONE (R277): A Spillway unit finishes coding one queued CTU. -/
  | spillCtuDone (k bits : Nat) (blocks : List FinalBlock)
  /-- EMIT_UNIT (R284): A committed unit whose predecessors are written is packetised into the emission ring. -/
  | emitUnit (r g row : Nat) (nals : List Bytes) (items : PicItems)
  /-- CHUNK_RECORD_WRITE (R299): Once an entry's RELEASE is reached, a chunk record is written to the owner's chunk ring. -/
  | chunkRecordWrite (r : Nat)
  /-- CHUNK_HEAD_WRITE (R299): A write of ERk_CHUNK_HEAD releases chunk records. -/
  | chunkHeadWrite (c k : Nat) (w : Word)
  /-- CHUNK_RING_ENABLE (R299): A write of ERk_CHUNK_CFG.EN enables the chunk ring, or is refused. -/
  | chunkRingEnable (c k : Nat) (w : Word)
  /-- CAPTION_RING_ENABLE (R291): A write of CAP_CFG.EN enables the caption ring, or is refused. -/
  | captionRingEnable (c : Nat) (w : Word)
  /-- TS_PCR_KEEPALIVE (R298): 20 ms without a released TS packet causes an adaptation-only PCR packet. -/
  | tsPcrKeepalive (r : Nat)
  /-- TS_TABLE_REPEAT (R298): A PAT and PMT are repeated at least every 100 ms. -/
  | tsTableRepeat (r : Nat)
  /-- OUTFLOW_SELECT (R307): A port's MAC can accept a frame and Outflow selects a service and subscriber, charges buckets and builds the frame. -/
  | outflowSelect (n : Nat)
  /-- PORT_BUCKET_APPLY (R315): A W1S write of OUT_Pn.CFG.APPLY applies staged port rates with RESET_TO at the next frame boundary. -/
  | portBucketApply (n : Nat) (w : Word)
  /-- EGRESS_DRAIN_DONE (R320): After the gate closes, the last frame in transmission leaves the MAC and ACT_OUT falls. -/
  | egressDrainDone
  /-- MEM_REQUEST (R327): A Reservoir channel issues a queued request to the DRAM and decodes the read result. -/
  | memRequest (n pc : Nat) (a b : CodeRead)
  /-- REFRESH_DUE (R330): A bank's REFI expires and its refresh is issued, postponed, or forced. -/
  | refreshDue (n b : Nat)
  /-- SCRUB_READ (R335): The patrol scrub's pace timer issues the next scrub read. -/
  | scrubRead (n : Nat) (a b : CodeRead)
  /-- LANE_RETRAIN (R340): A channel's 100 ms visit retrains one byte lane. -/
  | laneRetrain (n : Nat) (found : Option (Nat × Nat × Nat × Nat))
  /-- MEM_TEMP_CHANGE (R330): A stack crosses 85 °C and REFI changes at each bank's next refresh. -/
  | memTempChange (stack : Nat) (hot : Bool)
  /-- HBM_TRAINING (R337): Start-up training of all channels ends with lanes trained, repaired, or channels excluded. -/
  | hbmTraining (l : List ChanTraining)
  /-- SR_REQ_SET (R341): PF0 sets RES_n.CTRL.SR_REQ to start self-refresh entry, or the request is refused. -/
  | srReqSet (n : Nat)
  /-- SR_ENTRY_DONE (R341): Queued requests and owed refreshes finish and the channel enters self-refresh. -/
  | srEntryDone (n : Nat)
  /-- SR_REQ_CLEAR (R341): Clearing SR_REQ exits self-refresh or abandons the entry. -/
  | srReqClear (n : Nat)
  /-- FABRIC_REQUEST (R343): A master issues a transaction, which is checked and arbitrated at its target or fails as a decode error. -/
  | fabricRequest (t : Txn) (bar4 : Bool)
  /-- TARGET_TIMEOUT (R348): A target has not begun its response TIMEOUT cycles after grant. -/
  | targetTimeout (id : Nat)
  /-- BURST_FINISH_DONE (R350): Confluence finishes a reset master's open transactions and releases its credits. -/
  | burstFinishDone (m : Nat)
  /-- SLUICE_START (R356): A Sluice DOORBELL write of START triggers a channel from DESC. -/
  | sluiceStart (f i : Nat)
  /-- SLUICE_DISABLE (R363): A Sluice DOORBELL write of DISABLE stops the channel at once without a record. -/
  | sluiceDisable (f i : Nat)
  /-- SLUICE_ABORT (R363): A Sluice DOORBELL write of ABORT stops the channel in maintenance, or is refused. -/
  | sluiceAbort (f i : Nat) (desc data : Bytes) (moved : Nat)
  /-- SLUICE_TIMER_TRIGGER (R356): A Weir-relative timer expires and triggers its channel. -/
  | sluiceTimerTrigger (g : Nat)
  /-- SLUICE_SLOT_GRANT (R354): A waiting channel takes a free Basin slot and becomes ACTIVE. -/
  | sluiceSlotGrant (slot : Nat)
  /-- SLUICE_DESCRIPTOR_DONE (R357): A channel finishes a descriptor and moves to the next or ends. -/
  | sluiceDescriptorDone (g : Nat) (fetched : Bool) (desc data : Bytes) (moved : Nat) (fail : Option (Nat × Bool))
  /-- SLUICE_STATUS_POST (R359): The read-back of the last written line returns and the status record is written. -/
  | sluiceStatusPost (g : Nat)
  /-- SLUICE_ERROR_END (R362): After an error response, every issued transaction is answered and the error record is posted. -/
  | sluiceErrorEnd (g : Nat)
  /-- BCE_ACQUIRE (R365): A write of BCE_b.SEM.ACQUIRE grants a free engine to the writer. -/
  | bceAcquire (b f : Nat)
  /-- BCE_RELEASE (R365): A write of BCE_b.SEM.RELEASE releases the engine, at once or when the operation finishes. -/
  | bceRelease (b f : Nat)
  /-- BCE_FORCE_RELEASE (R367): PF0's FORCE_RELEASE drops the operation and releases the semaphore. -/
  | bceForceRelease (b f : Nat)
  /-- BCE_GO (R370): A write of BCE_b.CTRL.GO checks and starts a FILL, COPY, BLEND or COLOR_KEY operation. -/
  | bceGo (b f : Nat) (w : Word)
  /-- BCE_COMPLETE (R373): Every destination write of a BCE operation is answered and DONE is set with its result. -/
  | bceComplete (b : Nat) (target : Option (Nat × Nat))
  /-- CHK_DATA_W (R375): A write of DATA_W feeds four bytes to a check unit. -/
  | chkDataW (u : Nat) (w : Word)
  /-- CHK_DATA_B (R375): A write of DATA_B feeds one byte to a check unit. -/
  | chkDataB (u : Nat) (w : Word)
  /-- CHK_PORT_WRITE (R375): A write transaction to a CHK data port feeds its enabled bytes. -/
  | chkPortWrite (u f : Nat) (b : Bytes)
  /-- CHK_MSG_END (R377): A message ends by MSG_END or MSG_LEN, latching RESULT and running the alive check. -/
  | chkMsgEnd (u : Nat)
  /-- CHK_RESTART (R374): A W1S write of CTRL.RESTART sets RUN to INIT. -/
  | chkRestart (u : Nat)
  /-- CHK_RUN_WRITE (R376): A write of RUN replaces the internal value. -/
  | chkRunWrite (u : Nat) (hi : Bool) (w : Word)
  /-- CHK_ALIVE_CFG_WRITE (R378): A write of ALIVE_CFG sets the alive check and clears the baseline. -/
  | chkAliveCfgWrite (u : Nat) (w : Word)
  /-- CHK_OWNER_WRITE (R379): PF0's write of OWNER assigns a check unit and restarts it. -/
  | chkOwnerWrite (u : Nat) (w : Word)
  /-- ACT_IN_CHANGE (R381): A new level of ACT_IN, held 16 cycles, is taken by the pairing logic. -/
  | actInChange (level : Bool)
  /-- CLAIM_HOLDOFF_EXPIRED (R383): An eligible standby's count of ACT_IN deasserted reaches 256 or 1,024 and it asserts ACT_OUT. -/
  | claimHoldoffExpired
  /-- CLAIM_CONFIRM_END (R383): The 64-cycle confirmation window of a claim ends. -/
  | claimConfirmEnd
  /-- TAKEOVER_GATE_OPEN (R383): 304 cycles after its claim with ACT_IN deasserted, a claiming device opens its gate and becomes ACTIVE. -/
  | takeoverGateOpen
  /-- NO_ACTIVE_TIMEOUT (R384): For 1,024 cycles neither device claims. -/
  | noActiveTimeout
  /-- WATCHDOG_EXPIRY (R385): The firmware watchdog expires, the gate closes and the device withdraws. -/
  | watchdogExpiry
  /-- HEARTBEAT_SEND (R389): Every 8,192 cycles each device sends a heartbeat. -/
  | heartbeatSend
  /-- HEARTBEAT_RECEIVED (R390): A complete heartbeat message is received and accepted or discarded. -/
  | heartbeatReceived (b : Bytes) (fcs : Bool)
  /-- HEARTBEAT_INTERVAL_MISSED (R390): An 8,192-cycle interval passes without an accepted heartbeat. -/
  | heartbeatIntervalMissed
  /-- SNAPSHOT_RECEIVED (R395): A complete snapshot message arrives and, on a waiting standby, is committed or discarded. -/
  | snapshotReceived (x : Snapshot) (crcOk : Bool)
  /-- SNAPSHOT_WAIT_TIMEOUT (R395): A standby's step-4 wait reaches T+16,384 without a committed snapshot. -/
  | snapshotWaitTimeout (d : Nat)
  /-- PAIR_IMAGE_RECEIVED (R392): A complete IMAGE message is checked and staged on the standby, or refused. -/
  | pairImageReceived (b : Bytes)
  /-- HEAL_LIST_RECEIVED (R398): The active receives a STATUS message listing UNSYNCED renditions and begins healing. -/
  | healListReceived (rends : List Nat)
  /-- HEAL_RECEIVED (R398): The standby receives a HEAL message and writes the band into its reference slot. -/
  | healReceived (m : HealMsg)
  /-- SRAM_ERROR (R404): An SRAM read finds an error, which is corrected or handled by the array's owner. -/
  | sramError (src index kind : Nat) (a : ArrayOwner)
  /-- UNIT_RESIDUE_MISMATCH (R401): A residue check of a Headwater, Mere, Cascade or Fount fails; the block is recomputed or the unit retired. -/
  | unitResidueMismatch (src k : Nat)
  /-- SPILLWAY_COMPARE_MISMATCH (R401): The duplicated Spillway datapath disagrees; the CTU is coded again, or the condition is fatal. -/
  | spillwayCompareMismatch (k : Nat)
  /-- FATAL_CONDITION (R405): The health monitor detects a fatal condition and the device stops service until reset. -/
  | fatalCondition (cause : Nat)
  /-- THERMAL_SAMPLE (R415): Every 1,000,000 cycles the hottest sensor is read and thermal steps are requested. -/
  | thermalSample (die hbm : Int)
  /-- THERM_STEP_RELEASE_TIMER (R415): The junction stays 5 °C below a step's threshold for 1 s and the step is released. -/
  | thermStepReleaseTimer (k : Nat)
  /-- SYS_RESET_ASSERT (R421): SYS_RESET_N asserts; the gate closes, frames drain, ACT_OUT falls and the device enters reset. -/
  | sysResetAssert
  /-- SYS_RESET_DEASSERT (R419): SYS_RESET_N deasserts; straps are sampled and start-up begins from its first state. -/
  | sysResetDeassert (seat : Bool)
  /-- DEVICE_RESET (R420): A write of GLB.CTRL.DEVICE_RESET with RESET_KEY 0x9600 resets the whole device. -/
  | deviceReset (w : Word)
  /-- PERST_ASSERT (R419): PERST_N asserts and resets the PCIe controller and every function. -/
  | perstAssert
  /-- PERST_DEASSERT (R424): PERST_N deasserts and the device answers configuration requests. -/
  | perstDeassert
  /-- TRST_ASSERT (R419): TRST_N resets the JTAG TAP controller. -/
  | trstAssert
  /-- SUPPLY_LOSS (R421): Supply is lost without a drain. -/
  | supplyLoss
  /-- FIRMWARE_VERIFY (R423): The boot ROM verifies both firmware copies and runs one, or enters RECOVERY. -/
  | firmwareVerify (a b : FwCopy) (ack : Bool)
  /-- STARTUP_TIMEOUT (R425): HBM training or lane bring-up passes its bound, and untrained channels or lanes fail. -/
  | startupTimeout (lanes : Bool)
  /-- PWR_REQ_WRITE (R431): PF0 writes GLB.PWR_REQ to request a power state, refused while the domain carries work. -/
  | pwrReqWrite (w : Word)
  /-- FLASH_ERASE (R423): A FLASH_CTRL.OP of 1 erases a 64 KiB sector in maintenance. -/
  | flashErase
  /-- FLASH_PROGRAM (R423): A FLASH_CTRL.OP of 2 programs 256 bytes in maintenance. -/
  | flashProgram
  /-- FLASH_READ (R423): A FLASH_CTRL.OP of 3 reads 256 bytes into FLASH_DATA. -/
  | flashRead
  /-- FLASH_OP_DONE (R423): A flash operation ends and BUSY clears. -/
  | flashOpDone (ok : Bool) (data : Bytes)
  /-- LANE_CALIBRATION_DONE (R440): A lane's self-calibration ends, passing or failing. -/
  | laneCalibrationDone (n : Nat) (ok : Bool)
  /-- LANE_SIGNAL_DETECT (R441): A lane detects a signal and locks clock recovery. -/
  | laneSignalDetect (n : Nat)
  /-- LANE_POLARITY_SWITCH (R441): Every 1 ms without alignment lock, automatic polarity alternates. -/
  | lanePolaritySwitch (n : Nat)
  /-- LANE_ALIGNMENT_LOCK (R441): A lane finds alignment lock, reports its logical position and becomes UP. -/
  | laneAlignmentLock (n logical : Nat) (own : Bool)
  /-- LANE_ACQUIRE_TIMEOUT (R442): No alignment lock within 100 ms of CDR lock, and the lane fails. -/
  | laneAcquireTimeout (n : Nat)
  /-- GUAVO_LANE_TIMEOUT (R442): A Guavo lane is not UP 300 ms after another is. -/
  | guavoLaneTimeout (n : Nat)
  /-- LANE_RETRY_TIMER (R442): Every 10 s a FAILED lane is tried again. -/
  | laneRetryTimer (n : Nat)
  /-- LANE_LOSS_OF_LOCK (R442): An UP lane loses CDR or alignment lock, takes its port down and acquires again. -/
  | laneLossOfLock (n : Nat)
  /-- LANE_IDLE_EXIT (R444): A lane leaves electrical idle and sends a PRBS13Q burst while its receiver restores its settings. -/
  | laneIdleExit (n : Nat)
  /-- LANE_IDLE_RELOCK_TIMEOUT (R444): No alignment lock 1 ms after the burst, and full acquisition follows. -/
  | laneIdleRelockTimeout (n : Nat)
  /-- LT_UPDATE (R439): The link partner adjusts the transmit taps through link training. -/
  | ltUpdate (n : Nat) (a b : Word)
  /-- LT_TIMEOUT (R439): No training frame within 500 ms, and the lane proceeds with TX_FFE. -/
  | ltTimeout (n : Nat)
  /-- TX_FFE_WRITE (R438): A write to TX_FFE sets the transmit taps, or is refused. -/
  | txFfeWrite (n : Nat) (second : Bool) (w : Word)
  /-- LANE_CFG_WRITE (R446): A write of LANE_n.CFG sets loopback, idle or equaliser settings, subject to test rules. -/
  | laneCfgWrite (n : Nat) (w : Word)
  /-- PATTERN_WRITE (R446): A write of LANE_n.PATTERN enables the generator or checker, or is refused. -/
  | patternWrite (n : Nat) (w : Word)
  /-- MARGIN_START (R448): A write of MARGIN.START starts an eye measurement. -/
  | marginStart (n : Nat)
  /-- MARGIN_COMPLETE (R448): An eye measurement completes and DONE is set. -/
  | marginComplete (n left right vert : Nat)
  /-- AVS_ADJUST (R455): Once per second firmware adjusts or retries the VDD_CORE set point over AVSBus. -/
  | avsAdjust (mv : Nat) (ack : Bool)
  /-- SUPPLY_EXCURSION (R456): VDD_CORE or VDD_SRAM departs beyond ±5% from its set point. -/
  | supplyExcursion (rail mv : Nat) (long : Bool)
  /-- SMBUS_COMMAND (R465): An SMBus block write and read of command 0x01 returns a register value. -/
  | smbusCommand (off : Nat)
  /-- REGISTER_READ (R5): A read of a register field whose read has an effect of its own, such as an RC field that clears on read, a LO half that latches its HI half, or RAS.ALERT.FATAL set again at every read. -/
  | registerRead (f bar off len : Nat)
  /-- FUNCTION_POWER_STATE (R113): Host software moves a function between D0 and D3hot; in D3hot its queues neither fetch nor post, and in D0 they resume. -/
  | functionPowerState (f : Nat) (d3 : Bool)
deriving DecidableEq, Repr

end Sys2Proof
end

