-- ==== Sys2Proof/Decode.lean ====
section
/-! DEFINITION. Decode.lean: no row of spec/opcode_table.json gives bits, so no word of the table spells a command. The
device's own encodings stand where the device decodes them: submission entries in Machine/Commands.lean, Sluice
descriptors in Machine/Sluice.lean, Course images in Machine/ImageFormat.lean, packets in Machine/Packet.lean. -/

namespace Sys2Proof

/-- The command that a table word spells: none. -/
def decodeTableWord (_nbits _w : Nat) : Option Instr := none

end Sys2Proof
end

