-- ==== Sys2Proof/Config.lean ====
section
/-! DEFINITION. Config.lean: what the spec leaves open (R7) or leaves to one part, as constants without a body. No
proof can see a value of them; a statement about them holds for every value. -/

namespace Sys2Proof

/-- A value called undefined (R7), one for each number drawn from State.free. Assumption log entry 6. -/
opaque Config.freeWord : Nat → Word

/-- A byte called undefined (R7). Assumption log entry 6. -/
opaque Config.freeByte : Nat → Byte

/-- The firmware servo's new ADDEND from the measured offset and the running value (R46, R48 give its limits, not its
filter). Assumption log entry 7. -/
opaque Config.servoAddend : Nat → Int → Nat → Nat

/-- ECDSA P-384 verification over SHA-384 (R96, R97): key string, signed bytes, signature strings r and s.
Assumption log entry 8. -/
opaque Config.verifySignature : Bytes → Bytes → Nat → Nat → Bool

/-- The value read from the entropy source for LFSR number n (R333). Assumption log entry 6. -/
opaque Config.entropy : Nat → Word

/-- The device address at which a rendition's emission ring lies in its RING_REGION (R292 gives the region, not the
place). Assumption log entry 6. -/
opaque Config.ringBase : Nat → Nat

/-- transport_stream_id and version_number of a rendition's PAT and PMT, and the SSRC of its TS over RTP (R298 gives
none). Assumption log entry 6. -/
opaque Config.tsId : Nat → Nat
opaque Config.tsVersion : Nat → Nat
opaque Config.tsSsrc : Nat → Nat

/-- The fused MAC address of a port (INL_Pn.MAC_LO and MAC_HI at reset). Assumption log entry 6. -/
opaque Config.fuseMac : Nat → Nat

/-- GLB.AVS_STATUS.FUSED_MV: the part's fused set point in mV (R455). Assumption log entry 6. -/
opaque Config.fusedMv : Nat

/-- Bytes of the statistics block of a SCOPE whose layout the spec does not give (R127): device, course, rendition, inflow
and function. Assumption log entry 6. -/
opaque Config.statsSize : Nat → Nat

/-- Where a slot of a picture buffer lies in memory, from the buffer's number and the slot's (R22 gives its region, not
the place), and the place of a sample in the order in which a picture's samples are stored, from the picture's sampling,
width and height and the sample's component, column and line (R22 gives the packing, not the order). Assumption log entry
101. -/
opaque Config.slotBase : Nat → Nat → Nat
opaque Config.sampleIndex : Nat → Nat → Nat → Nat → Nat → Nat → Nat

/-- The prediction of an intra class other than DC, horizontal and vertical at column and line of a block, from the 32
samples above it, the 32 to its left and the corner (R223 names the classes and gives no arithmetic). Assumption log entry
102. -/
opaque Config.intraPred : Nat → List Nat → List Nat → Nat → Nat → Nat → Nat

end Sys2Proof
end

