-- ==== Sys2Proof/Machine/Regs.lean ====
section
/-! DEFINITION. Regs.lean: PF0 BAR0 addresses of the register blocks (R116) and the reset value of every register whose
reset is not zero. A register is named by its PF0 BAR0 address; the offset is the one its chapter gives. -/

namespace Sys2Proof.Machine

def glb (o : Nat) : Nat := o
def funcReg (f o : Nat) : Nat := 0x10000 + 0x1000 * f + o
def timeReg (o : Nat) : Nat := 0x100000 + o
def timePort (n o : Nat) : Nat := 0x100100 + 0x20 * n + o
def weirReg (d o : Nat) : Nat := 0x110000 + 0x1000 * d + o
def guavoReg (o : Nat) : Nat := 0x120000 + o
def bceReg (b o : Nat) : Nat := 0x140000 + 0x1000 * b + o
def chkReg (u o : Nat) : Nat := 0x130000 + 0x100 * u + o
def sluiceReg (c o : Nat) : Nat := 0x150000 + 0x1000 * c + o
def cnfReg (o : Nat) : Nat := 0x200000 + o
def resReg (n o : Nat) : Nat := 0x300000 + 0x8000 * n + o
def crsReg (c o : Nat) : Nat := 0x400000 + 0x4000 * c + o
def rndReg (r o : Nat) : Nat := 0x500000 + 0x1000 * r + o
def inlReg (o : Nat) : Nat := 0x800000 + o
def outReg (o : Nat) : Nat := 0x900000 + o
def hwReg (n o : Nat) : Nat := 0x1000000 + 0x10000 * n + o
def tarnReg (n o : Nat) : Nat := 0x1100000 + 0x10000 * n + o
def ftReg (o : Nat) : Nat := 0x1400000 + o
def mereReg (o : Nat) : Nat := 0x1500000 + o
def casReg (o : Nat) : Nat := 0x1600000 + o
def spwReg (n o : Nat) : Nat := 0x1700000 + 0x1000 * n + o
def laneReg (n o : Nat) : Nat := 0x2000000 + 0x10000 * n + o
def rasReg (o : Nat) : Nat := 0x3000000 + o

/-- One row of reset values: `count` registers `stride` apart from `base`, repeated `blocks` times `block` apart. -/
structure ResetRow where
  base : Nat
  stride : Nat
  count : Nat
  value : Nat
  block : Nat := 2 ^ 32
  blocks : Nat := 1

def ResetRow.covers (r : ResetRow) (a : Nat) : Bool :=
  let d := a - r.base
  decide (r.base ≤ a) && decide (d / r.block < r.blocks) && d % r.block % r.stride == 0 &&
    decide (d % r.block / r.stride < r.count)

/-- The registers whose reset value is not zero, chapter by chapter. -/
def resetRows : List ResetRow := [
  ⟨glb 0x0, 4, 1, 0x96000100, 2 ^ 32, 1⟩, ⟨glb 0x4, 4, 1, 0x24888898, 2 ^ 32, 1⟩, ⟨glb 0x8, 4, 1, 0x82104030, 2 ^ 32, 1⟩,
  ⟨glb 0xC, 4, 1, 0x20080040, 2 ^ 32, 1⟩,
  ⟨timeReg 0x020, 4, 1, 0xAAAAAAAB, 2 ^ 32, 1⟩, ⟨timeReg 0x060, 4, 1, 1000, 2 ^ 32, 1⟩,
  ⟨timeReg 0x064, 4, 1, 10000, 2 ^ 32, 1⟩, ⟨timeReg 0x068, 4, 1, 16, 2 ^ 32, 1⟩,
  ⟨chkReg 0 0x00, 0x100, 16, 32, 2 ^ 32, 1⟩, ⟨chkReg 0 0x08, 0x100, 16, 0x04C11DB7, 2 ^ 32, 1⟩,
  ⟨chkReg 0 0x10, 0x100, 16, 0xFFFFFFFF, 2 ^ 32, 1⟩, ⟨chkReg 0 0x18, 0x100, 16, 0xFFFFFFFF, 2 ^ 32, 1⟩,
  ⟨cnfReg 0x000, 4, 1, 4096, 2 ^ 32, 1⟩,
  ⟨crsReg 0 0x108, 0x20, 4, 0x1FFF0000, 0x4000, 64⟩,
  ⟨crsReg 0 0x408, 0x80, 12, 0x10000000, 0x4000, 64⟩, ⟨crsReg 0 0x410, 0x80, 12, 0x10000000, 0x4000, 64⟩,
  ⟨crsReg 0 0x418, 0x80, 12, 0x10000000, 0x4000, 64⟩,
  ⟨crsReg 0 0xC00, 4, 1, 0xB3330100, 0x4000, 64⟩, ⟨crsReg 0 0xD00, 4, 1, 0x80000, 0x4000, 64⟩,
  ⟨crsReg 0 0x1004, 0x40, 48, 0x15E06000, 0x4000, 64⟩, ⟨crsReg 0 0x100C, 0x40, 48, 0x01010100, 0x4000, 64⟩,
  ⟨crsReg 0 0x1014, 0x40, 48, 30, 0x4000, 64⟩,
  ⟨funcReg 0 0xC04, 0x10, 64, 1, 0x1000, 64⟩,
  ⟨inlReg 0x0, 4, 1, 1, 2 ^ 32, 1⟩, ⟨inlReg 0x4, 4, 1, 12500, 2 ^ 32, 1⟩, ⟨inlReg 0x100C, 0x100, 16, 125000, 2 ^ 32, 1⟩,
  ⟨resReg 0 0x004, 0x8000, 32, 2, 2 ^ 32, 1⟩, ⟨resReg 0 0x018, 0x8000, 32, 1000, 2 ^ 32, 1⟩,
  ⟨glb 0x84, 4, 1, 0x18000B, 2 ^ 32, 1⟩,
  ⟨laneReg 0 0x000, 0x10000, 52, 0x80180000, 2 ^ 32, 1⟩, ⟨laneReg 0 0x008, 0x10000, 52, 0xFC36, 2 ^ 32, 1⟩,
  ⟨laneReg 0 0x00C, 0x10000, 52, 0xFA, 2 ^ 32, 1⟩, ⟨glb 0xB0, 4, 1, 0x2EE0000, 2 ^ 32, 1⟩,
  ⟨rasReg 0x024, 4, 1, 100, 2 ^ 32, 1⟩, ⟨rasReg 0x028, 4, 1, 16, 2 ^ 32, 1⟩,
  ⟨outReg 0x4, 4, 1, 2097152, 2 ^ 32, 1⟩, ⟨outReg 0x1000, 0x100, 16, 0x4000, 2 ^ 32, 1⟩,
  ⟨outReg 0x100C, 0x100, 16, 65536, 2 ^ 32, 1⟩, ⟨outReg 0x1010, 0x100, 16, 65536, 2 ^ 32, 1⟩]

/-- The reset value of the register at an address. -/
def resetWord (a : Nat) : Word :=
  match resetRows.find? (fun r => r.covers a) with
  | some r => BitVec.ofNat 32 r.value
  | none => 0

end Sys2Proof.Machine
end

