-- ==== Sys2Proof/Machine/State.lean ====
section
/-! DEFINITION. State.lean: everything the spec gives the block, as plain data. A register that is only its own word
stands in `regs` under its PF0 BAR0 address (R116); a register that shows a unit's state is a view of that unit's
structure. INVENTORY.md lists every piece. -/

namespace Sys2Proof.Machine

/-- What the device sends out: the model's own record of its outputs (assumption log entry 2). -/
inductive Output where
  | event (fn slot : Nat) (e : EventRec)          -- a record written to a function's event queue (R136)
  | lostEvent (fn slot : Nat)                     -- its write failed: the slot's content is undefined (R136)
  | completion (fn slot : Nat) (c : Completion)   -- a completion entry (R125)
  | msix (fn vector : Nat)                        -- an MSI-X message (R134)
  | hostWrite (fn addr : Nat) (b : Bytes)         -- a write to host memory
  | read (v : Word)                               -- the value a read returns
  | pin (name : Pin) (level : Bool) (at_ : Nat)   -- a package pin changes at a cycle
  | frame (port : Nat) (f : OutFrame)             -- a frame leaves a port
  | guavo (m : GuavoMsg)                          -- a message leaves on the pairing link
  | response (master code : Nat) (b : Bytes)      -- Confluence answers: 0 OK, 1 DECODE, 2 TARGET (R349)
  | flashOp (op addr : Nat) (b : Bytes)           -- an operation on the QSPI flash (outside the package)
  | avs (mv : Nat)                                -- a set point sent over AVSBus
  | smbus (v : Option Word)                       -- the SMBus target's answer; none: not acknowledged
deriving DecidableEq, Repr

/-- Why a step stops with a fault. No command of this block does: a constructor is kept because the type must have
one, and nothing raises it. Safe. -/
inductive Fault where
  /-- Raised by nobody. Safe. -/
  | never
deriving DecidableEq, Repr

/-- Why a command is turned away. -/
inductive Refusal where
  /-- Raised only by an arm of exec that has no meaning yet; none is left in this model. Safe. -/
  | notModelled (mnemonic : String)
deriving DecidableEq, Repr

/-- The machine. -/
structure State where
  /-- the model's own fields -/
  pending : List Instr := []
  now : Nat := 0
  free : Nat := 0
  out : List Output := []
  limits : Tab Limit := []
  /-- registers as written, and the Weir-applied ones as in effect (R56 step 4) -/
  regs : Tab Word := []
  eff : Tab Word := []
  /-- words latched by a read: a HI half by the read of its LO, PIC_FLAGS by that of DIGEST_LO -/
  latch : Tab Word := []
  /-- 02, 03, 04, 05 -/
  time : TimeUnit := {}
  doms : Tab Domain := []
  img : ImageUnit := {}
  st : Structure := {}
  funcs : Tab Func := []
  waiting : List Waiting := []
  resets : List ResetRun := []
  pcie : Pcie := {}
  devMaint : Bool := true
  devMaintCmd : Bool := false
  /-- retired units by source ID (R406), excluded channels (R339) -/
  retired : List Nat := []
  excluded : List Nat := []
  /-- 06, 07, 08: buffers by name (Bands.lean), streams 4c+i, layers 12c+l, host inputs 4c+i, protected layers by course -/
  courses : Tab CourseRun := []
  stages : Tab StageRun := []
  bufs : Tab Buffer := []
  inl : Inlet := {}
  streams : Tab FountStream := []
  founts : Tab FountUnit := []
  layers : Tab Layer := []
  postLut : Tab Lut := []
  prots : Tab Prot := []
  hostIns : Tab HostIn := []
  /-- 09 -/
  heads : Tab CourseHw := []
  /-- device memory, by device address -/
  mem : List Host.Cell := []
  /-- 16 -/
  bces : Tab Bce := []
  checks : Tab CheckUnit := []
  /-- 10, 11: segments as placed (R75), degraded renditions, Tarns, Spillway units, renditions, keys -/
  placed : Tab SegRec := []
  degraded : Tab Degraded := []
  tarns : Tab Tarn := []
  spills : Tab SpillUnit := []
  rends : Tab Rend := []
  keys : Tab CourseKey := []
  /-- 18; channels in self-refresh (R341) -/
  ras : Ras := {}
  selfRefresh : List Nat := []
  /-- 14, 15 -/
  chans : Tab Chan := []
  fabric : Fabric := {}
  sluice : Tab SluiceChan := []
  sluiceOrder : Nat := 0
  /-- 20; 19 and 21 -/
  lanes : Tab Lane := []
  boot : Boot := {}
  /-- 12, 13 -/
  rings : Tab Ring := []
  chunks : Tab HostRing := []
  outf : Outflow := {}
  /-- 17 -/
  pair : Pair := {}
deriving DecidableEq, Repr, Inhabited

/-- The machine right after power-up's reset: every register at its reset value, memory with nothing listed, no
structure; GLB.RESET_CAUSE records POWER_ON (R422). -/
def State.reset : State := { regs := [(glb 0x28, 1)] }

end Sys2Proof.Machine
end

