-- ==== Sys2Proof/Machine/Ops.lean ====
section
/-! DEFINITION. Ops.lean: the operations that every family shares: registers, counters, the clock, events (R134 to
R138), completions (R123, R125, R134) and rate-limited events. -/

namespace Sys2Proof.Machine

/-! ### Registers -/

/-- A register's word. -/
def State.rd (s : State) (a : Nat) : Word := (s.regs.find a).getD (resetWord a)
/-- A register's word as a number. -/
def State.rdn (s : State) (a : Nat) : Nat := (s.rd a).toNat
/-- A field of a register. -/
def State.fld (s : State) (a hi lo : Nat) : Nat := bits (s.rdn a) hi lo
/-- Set a register. -/
def State.wr (s : State) (a : Nat) (v : Word) : State := { s with regs := s.regs.set a v }
def State.wrn (s : State) (a v : Nat) : State := s.wr a (BitVec.ofNat 32 v)
/-- Set a field of a register. -/
def State.setFld (s : State) (a hi lo v : Nat) : State := s.wrn a (putBits (s.rdn a) hi lo v)
/-- Add to a counter register, modulo 2^32. -/
def State.inc (s : State) (a n : Nat) : State := s.wrn a (s.rdn a + n)
/-- Add to a counter that saturates at 32 bits. -/
def State.incSat (s : State) (a n : Nat) : State := s.wrn a (sat 32 (s.rdn a + n))
/-- A 64-bit register pair, LO at `a` and HI at `a + 4`. -/
def State.rd64 (s : State) (a : Nat) : Nat := s.rdn a + 2 ^ 32 * s.rdn (a + 4)
def State.wr64 (s : State) (a v : Nat) : State := (s.wrn a v).wrn (a + 4) (v / 2 ^ 32)
def State.inc64 (s : State) (a n : Nat) : State := s.wr64 a (s.rd64 a + n)
/-- The value in effect of a register that a Weir applies (R56 step 4). -/
def State.effn (s : State) (a : Nat) : Nat := ((s.eff.find a).getD (resetWord a)).toNat
def State.effFld (s : State) (a hi lo : Nat) : Nat := bits (s.effn a) hi lo
/-- Put a register written and in effect alike (an image's load, a reset). -/
def State.wrBoth (s : State) (a v : Nat) : State :=
  { s.wrn a v with eff := s.eff.set a (BitVec.ofNat 32 v) }

/-! ### Outputs, free values and the clock -/

def State.emit (s : State) (o : Output) : State := { s with out := s.out ++ [o] }
def State.emits (s : State) (os : List Output) : State := { s with out := s.out ++ os }
/-- A free value (R7) and the state that has drawn it. -/
def State.drawFree (s : State) : Word × State := (Config.freeWord s.free, { s with free := s.free + 1 })

/-- The linear time of a PHC value (R32). -/
def linear (t : PhcTime) : Nat := (t.sec * 1000000000 + t.ns) % 2 ^ 64
/-- SECONDS × 10⁹ + NANOSECONDS over the full SECONDS (R31, R52). -/
def phcNs (t : PhcTime) : Nat := t.sec * 1000000000 + t.ns
/-- A PHC value from nanoseconds, SECONDS modulo 2^48. -/
def phcOf (n frac : Nat) : PhcTime := { sec := n / 1000000000 % 2 ^ 48, ns := n % 1000000000, frac := frac }
/-- The PHC after `k` cycles at increment `addend` (R28). -/
def phcAdvance (t : PhcTime) (addend k : Nat) : PhcTime :=
  phcOf (phcNs t + (t.frac + k * addend) / 2 ^ 32) ((t.frac + k * addend) % 2 ^ 32)

/-- TIME.ADDEND (0x020, R30). -/
def State.addend (s : State) : Nat := s.rdn (timeReg 0x020)

/-- `k` cycles of CLK_CORE pass (R3, R28). -/
def State.cycles (s : State) (k : Nat) : State :=
  { s with now := s.now + k, time := { s.time with phc := phcAdvance s.time.phc s.addend k } }

/-- The clock runs up to cycle `c`; a cycle already past leaves it (assumption log entry 3). -/
def State.runTo (s : State) (c : Nat) : State := s.cycles (c - s.now)

/-! ### Ticks -/

/-- Is domain `d` defined (R50)? -/
def State.domDefined (s : State) (d : Nat) : Bool := s.st.domains.has d
def State.dom (s : State) (d : Nat) : Domain := s.doms.get d
def State.setDom (s : State) (d : Nat) (x : Domain) : State := { s with doms := s.doms.set d x }
def State.updDom (s : State) (d : Nat) (f : Domain → Domain) : State := { s with doms := s.doms.upd d f }
/-- The domain of a course. -/
def State.domOf (s : State) (c : Nat) : Nat := (s.st.courses.get c).domain

/-- The tick an event record carries (R135): of the course's domain, else of the lowest-numbered defined domain. -/
def State.eventTick (s : State) (course : Nat) : Nat :=
  let d := if s.st.courses.has course then some (s.domOf course) else s.st.domains.keys.head?
  match d with
  | some d => (s.dom d).tick % 2 ^ 32
  | none => 0

/-! ### Events -/

def State.func (s : State) (f : Nat) : Func := s.funcs.get f
def State.updFunc (s : State) (f : Nat) (g : Func → Func) : State := { s with funcs := s.funcs.upd f g }

/-- Records an event queue holds (R136). -/
def Evq.size (q : Evq) : Nat := 2 ^ q.sizeLog2
def Evq.full (q : Evq) : Bool := (q.tail + 1) % q.size == q.head

/-- One record written at EVQ_TAIL (R134, R136). A write lost on PCIe still advances the tail. -/
def Evq.put (q : Evq) (fn : Nat) (lost : Bool) (e : EventRec) : Evq × List Output :=
  ({ q with tail := (q.tail + 1) % q.size, armed := false, dropped := (q.dropped + bnat lost) % 2 ^ 32 },
   [if lost then .lostEvent fn q.tail else .event fn q.tail e])

/-- Vector `v` signals (R134): a masked vector sets its pending bit. -/
def Func.irq (f : Func) (fn v : Nat) (on : Bool) : Func × List Output :=
  if !on then (f, [])
  else if bit ((f.msix.find (4 * v + 3)).getD 1).toNat 0 then ({ f with pba := f.pba ||| 2 ^ v }, [])
  else (f, [.msix fn v])

/-- A record meets a full queue (R136). -/
def Evq.drop (q : Evq) : Evq :=
  { q with dropped := (q.dropped + 1) % 2 ^ 32, unsaid := q.unsaid + 1, overflow := true }

/-- A record offered to an enabled queue: EVQ_OVERFLOW goes first when records were dropped (R136). -/
def Evq.offer (q : Evq) (fn : Nat) (lost : Bool) (tick : Nat) (e : EventRec) : Evq × List Output :=
  if q.full then (q.drop, [])
  else if q.unsaid == 0 then q.put fn lost e
  else
    let (q1, o1) := ({ q with unsaid := 0 } : Evq).put fn lost
      { code := 0x0B04, src := 0x5100 + fn, tick := tick, detail := q.unsaid % 2 ^ 32 }
    if q1.full then (q1.drop, o1)
    else
      let (q2, o2) := q1.put fn lost e
      (q2, o1 ++ o2)

/-- A record for a function. A disabled queue receives and counts nothing (R137); in D3hot it waits (R113). -/
def Func.deliver (f : Func) (fn : Nat) (lost : Bool) (tick : Nat) (e : EventRec) : Func × List Output :=
  if !f.evq.en then (f, [])
  else if f.d3hot then ({ f with heldEvents := f.heldEvents ++ [e] }, [])
  else
    let r := f.evq.offer fn lost tick e
    let i := ({ f with evq := r.1 } : Func).irq fn f.evq.vector (f.evq.armed && !r.1.armed && !lost)
    (i.1, r.2 ++ i.2)

/-- One record to each of several functions. -/
def deliverAll (lost : Bool) (tick : Nat) (e : EventRec) : List Nat → Tab Func → List Output → Tab Func × List Output
  | [], fs, os => (fs, os)
  | fn :: r, fs, os =>
    let d := (fs.get fn).deliver fn lost tick e
    deliverAll lost tick e r (if (fs.get fn).evq.en then fs.set fn d.1 else fs) (os ++ d.2)

/-- The functions an event goes to (R137): PF0, the course's owner, the function it names as source, and `extra`. -/
def State.recipients (s : State) (src course : Nat) (extra : List Nat) : List Nat :=
  ([0] ++ (if s.st.courses.has course then [s.st.courseOwner course] else []) ++
   (if 0x5100 ≤ src && src < 0x5140 then [src - 0x5100] else []) ++ extra).eraseDups

/-- Raise an event: only event queues and outputs change. -/
def State.raiseTo (s : State) (extra : List Nat) (code src course rend detail : Nat) : State :=
  let e : EventRec := { code, src, tick := s.eventTick course, course, rend, detail := detail % 2 ^ 32 }
  let r := deliverAll s.pcie.lost (s.eventTick 0xFFFF) e (s.recipients src course extra) s.funcs []
  { s with funcs := r.1, out := s.out ++ r.2 }

/-- An event that names no course. -/
def State.ev (s : State) (code src detail : Nat) : State := s.raiseTo [] code src 0xFFFF 0xFFFF detail
/-- An event of a course. -/
def State.evC (s : State) (code src course detail : Nat) : State := s.raiseTo [] code src course 0xFFFF detail
/-- An event of a rendition. -/
def State.evR (s : State) (code src rend detail : Nat) : State :=
  s.raiseTo [] code src (s.st.courseOfRend rend) rend detail
/-- An event that names an object with an owner (a service, subscriber or inflow). -/
def State.evTo (s : State) (owner code src detail : Nat) : State := s.raiseTo [owner] code src 0xFFFF 0xFFFF detail

/-- `k` occurrences of an event that is raised at most once per `period` cycles under `key`; the event carries the
number of occurrences since the last one raised. -/
def State.limitedBy (s : State) (key period k : Nat) (raise : Nat → State → State) : State :=
  let l := s.limits.get key
  let due := match l.last with | none => true | some t => t + period ≤ s.now
  if due then raise (l.count + k) { s with limits := s.limits.set key { last := some s.now, count := 0 } }
  else { s with limits := s.limits.set key { l with count := l.count + k } }
def State.limited (s : State) (key period : Nat) (raise : Nat → State → State) : State := s.limitedBy key period 1 raise

/-- A write to host memory by function `f`'s master side; it is lost while the PCIe link is down (R113, R362). -/
def State.hostWr (s : State) (f a : Nat) (b : Bytes) : State := if s.pcie.lost then s else s.emit (.hostWrite f a b)

/-- A function's vector signals. -/
def State.irq (s : State) (f v : Nat) (on : Bool) : State :=
  let r := (s.func f).irq f v on
  if on then { s with funcs := s.funcs.set f r.1, out := s.out ++ r.2 } else s

/-- DOORBELL_INVALID (R120): the BAR2 offset and the value. -/
def State.doorbellInvalid (s : State) (f off v : Nat) : State :=
  s.ev 0x0B02 (0x5100 + f) (off * 2 ^ 16 + v % 2 ^ 16)

/-- Does a tail doorbell value stand (R120): below the size and not past the head? -/
def tailOk (size head tail v : Nat) : Bool :=
  decide (v < size) && decide ((v + size - tail) % size ≤ (head + size - 1 - tail) % size)
/-- Does a head doorbell value stand (R120): below the size and not past the tail? -/
def headOk (size head tail v : Nat) : Bool :=
  decide (v < size) && decide ((v + size - head) % size ≤ (tail + size - head) % size)

/-- One millisecond in cycles: the usual period of a limited event. -/
def msCycles : Nat := 1500000

/-! ### The standby (R391) -/

/-- Is the device a standby for its commands (R391): STANDBY or CLAIMING? -/
def State.standby (s : State) : Bool := s.pair.role == 1 || s.pair.role == 2
/-- A function's write to a Weir-applied register at `a` is dropped on a standby: PAIR_STANDBY_WRITE. -/
def State.standbyWrite (s : State) (f a : Nat) : State :=
  s.limited (0xC11 * 2 ^ 16 + f) msCycles (fun _ s => s.ev 0x0C11 (0x5100 + f) a)
/-- A write to a Weir-applied register. -/
def State.weirWrite (s : State) (f a : Nat) (k : State → State) : State := if s.standby then s.standbyWrite f a else k s

/-! ### Completions -/

/-- Post a completion entry (R125, R134); on a lost link the queue stops with REASON 2 (R123). -/
def Func.postDone (f : Func) (fn : Nat) (lost : Bool) (c : Completion) : Func × List Output :=
  let q := f.sqs.get c.q
  if lost then ((if q.error then f else { f with sqs := f.sqs.set c.q { q with error := true, reason := 2 } }), [])
  else
    let wrap := q.cqTail == q.sizeM1
    let q' : SqPair :=
      { q with cqTail := (if wrap then 0 else q.cqTail + 1), phase := xor q.phase wrap, armed := false }
    let i := ({ f with sqs := f.sqs.set c.q q' } : Func).irq fn q.vector (q.irqEn && q.armed)
    (i.1, [.completion fn q.cqTail { c with phase := q.phase }] ++ i.2)

/-- A command of function `fn` ends. A command field (tag 0xFFFF) has no entry (R118); a disabled queue discards it
(R123); in D3hot the entry waits (R113). -/
def Func.finish (f : Func) (fn : Nat) (lost : Bool) (c : Completion) : Func × List Output :=
  if c.tag == 0xFFFF then (f, [])
  else
    let q := f.sqs.get c.q
    let f := { f with sqs := f.sqs.set c.q { q with running := q.running - 1 } }
    if !q.en then (f, [])
    else if f.d3hot then ({ f with heldDone := f.heldDone ++ [c] }, []) else f.postDone fn lost c

/-- Does this completion find the link lost (R123)? -/
def Func.finishLost (f : Func) (lost : Bool) (c : Completion) : Bool :=
  !(c.tag == 0xFFFF || !(f.sqs.get c.q).en || (f.sqs.get c.q).error) && !f.d3hot && lost

/-- Complete a command: only queues and outputs change. -/
def State.complete (s : State) (o : Origin) (st : Status) (info detail : Nat) : State :=
  let c : Completion := { tag := o.tag, status := st, q := o.q, sqHead := o.sqHead, info, detail }
  let f := s.func o.fn
  let r := f.finish o.fn s.pcie.lost c
  let s' := { s with funcs := if o.tag == 0xFFFF then s.funcs else s.funcs.set o.fn r.1, out := s.out ++ r.2 }
  if f.finishLost s.pcie.lost c then s'.ev 0x0B03 (0x5100 + o.fn) (o.q * 2 ^ 24 + 2 * 2 ^ 16) else s'

/-- A command that fails a check completes at once with the check's status (R128); otherwise it goes on. -/
def State.checked (s : State) (o : Origin) (checks : List (Bool × Status)) (k : State → State) : State :=
  match firstFail checks with
  | some st => s.complete o st 0 0
  | none => k s

end Sys2Proof.Machine
end

