-- ==== Sys2Proof/Machine/Memory.lean ====
section
/-! DEFINITION. Memory.lean: device memory, its mapping and who may reach it (R82, R114, R115, R321 to R324, R342,
R346, R347). A byte that is not listed reads as 0 (assumption log entry 5). -/

namespace Sys2Proof.Machine

/-- Device memory: strictly rising addresses, no entry 0. -/
abbrev Mem := List Host.Cell

/-- What an unlisted address reads as. -/
def emptyByte : Byte := 0

def Mem.byte (m : Mem) (a : Nat) : Byte := (Tab.find m a).getD emptyByte
def Mem.put (m : Mem) (a : Nat) (v : Byte) : Mem := if v = emptyByte then Tab.del m a else Tab.set m a v
/-- `n` bytes from `a`. -/
def Mem.bytes (m : Mem) (a n : Nat) : Bytes := (List.range n).map (fun i => Mem.byte m (a + i))
def Mem.puts (m : Mem) (a : Nat) : Bytes → Mem
  | [] => m
  | v :: r => Mem.puts (Mem.put m a v) (a + 1) r
/-- The bytes of a write that are enabled. -/
def Mem.putEnabled (m : Mem) (a : Nat) : List (Option Byte) → Mem
  | [] => m
  | some v :: r => Mem.putEnabled (Mem.put m a v) (a + 1) r
  | none :: r => Mem.putEnabled m (a + 1) r
/-- The canonical form. -/
def Mem.wf (m : Mem) : Bool := Tab.sorted m && m.all (fun e => e.2 != emptyByte)

/-! ### Mapping -/

/-- The region that holds a device address. -/
def Structure.regionAt (t : Structure) (a : Nat) : Option RegionRec :=
  t.regions.vals.find? (fun r => decide (r.base ≤ a) && decide (a < r.base + r.size))

/-- The slot of a grain (R323). -/
def grainSlot (G m n : Nat) : Nat → Nat → Nat
  | 0, _ => 0
  | fuel + 1, sh => if sh < 41 ∧ m ≠ 0 then Nat.xor (G / 2 ^ sh % n) (grainSlot G m n fuel (sh + m)) else 0

/-- Base of a region inside a channel. -/
def Structure.chanBase (t : Structure) (r c : Nat) : Nat :=
  sum ((t.regions.vals.filter (fun q => decide (q.region < r) && bit q.chMask c)).map (fun q => q.size / max 1 (popcount 32 q.chMask)))

/-- Channel and channel-local address of a device address (R322, R323). -/
def Structure.chanOf (t : Structure) (a : Nat) : Option (Nat × Nat) :=
  if 0xBFC000000 ≤ a ∧ a < 0xC00000000 then
    some ((a - 0xBFC000000) / 2097152, 0x5FE00000 + (a - 0xBFC000000) % 2097152)
  else match t.regionAt a with
  | none => none
  | some r =>
    let n := popcount 32 r.chMask
    let m := n.log2
    let o := a - r.base
    let G := o / 2 ^ r.grain
    let c := (bitsSet 32 r.chMask).getD (grainSlot G m n 41 0) 0
    some (c, t.chanBase r.region c + G / 2 ^ m * 2 ^ r.grain + o % 2 ^ r.grain)

/-- Parts of a channel-local address (R321): byte, pseudo-channel, line, bank group, bank, stack ID and row. -/
structure DramAddr where
  byte : Nat
  pc : Nat
  line : Nat
  group : Nat
  bank : Nat
  stackId : Nat
  row : Nat
deriving DecidableEq, Repr

def dramAddr (a : Nat) : DramAddr :=
  { byte := bits a 5 0, pc := bits a 6 6, line := bits a 10 7, group := bits a 12 11, bank := bits a 14 13,
    stackId := a / 2 ^ 15 % 3, row := a / 2 ^ 15 / 3 }

/-- Is a device address of the MEM range populated (R324)? -/
def State.populated (s : State) (a : Nat) : Bool :=
  match s.st.chanOf a with
  | some x => !s.excluded.contains x.1
  | none => false

/-! ### Targets and rights -/

inductive Target where
  | mem | reg | hostm | gvl | chk (u : Nat) | pool | boot | none
deriving DecidableEq, Repr, Inhabited

/-- The target of a device address (R342). -/
def targetOf (a : Nat) : Target :=
  if 2 ^ 63 ≤ a then .hostm
  else if a < 0xC00000000 then .mem
  else if 0x1000000000 ≤ a ∧ a < 0x1004000000 then .reg
  else if 0x1010000000 ≤ a ∧ a < 0x1010800000 then .pool
  else if 0x1020000000 ≤ a ∧ a < 0x1020010000 then .chk ((a - 0x1020000000) / 0x1000)
  else if 0x1030000000 ≤ a ∧ a < 0x1031000000 then .gvl
  else if 0x1040000000 ≤ a ∧ a < 0x1040100000 then .boot
  else .none

/-- The 64-byte lines that a range touches, by their first address. -/
def linesOf (a n : Nat) : List Nat := if n = 0 then [] else (List.range ((a + n - 1) / 64 - a / 64 + 1)).map (fun i => (a / 64 + i) * 64)

/-- Does a function's window hold a line (R83)? PF0's is all of the memory. -/
def Structure.inWindow (t : Structure) (f line : Nat) : Bool :=
  let r := t.funcs.get f
  decide (r.memBase ≤ line) && decide (line + 64 ≤ r.memBase + r.memSize)

/-- May function `f` write a line of MEM (R346)? -/
def State.mayWrite (s : State) (f line : Nat) : Bool :=
  match s.st.regionAt line with
  | some r => bit r.writers f
  | none => f == 0 && decide (0xBFC000000 ≤ line) && s.devMaint
/-- May function `f` read a line of MEM (R346)? -/
def State.mayRead (s : State) (f line : Nat) : Bool :=
  f == 0 || s.st.inWindow f line || (match s.st.regionAt line with | some r => bit r.writers f | none => false)

/-- May a transaction of `f` (none: an engine) reach `n` bytes at `a` (R342, R346, R347)? -/
def State.allowed (s : State) (f : Option Nat) (write : Bool) (a n : Nat) : Bool :=
  match targetOf a, f with
  | .hostm, _ => true
  | .mem, none => (linesOf a n).all s.populated
  | .mem, some f => (linesOf a n).all (fun l => s.populated l && (if write then s.mayWrite f l else s.mayRead f l))
  | .reg, some f | .pool, some f => f == 0
  | .reg, none | .pool, none => true
  | .chk _, _ => write
  | .gvl, none | .boot, none => true
  | _, _ => false

/-! ### Decode errors and timeouts (R347, R348) -/

/-- Log a failed transaction at CNF offset `o` (0x010 decode, 0x020 timeout) unless an entry is held. -/
def State.cnfLog (s : State) (o master target : Nat) (f : Option Nat) (write : Bool) (a : Nat) : State :=
  let s := s.inc (cnfReg (o + 0x0C)) 1
  if s.fld (cnfReg o) 31 31 == 1 then s
  else
    (s.wrn (cnfReg o) (2 ^ 31 + bnat write * 2 ^ 30 + target * 2 ^ 24 + master * 2 ^ 16 + bnat f.isSome * 2 ^ 15 + f.getD 0)).wr64
      (cnfReg (o + 4)) a

/-- A decode error (R347), logged and reported at most once a millisecond per master. -/
def State.decodeError (s : State) (master : Nat) (f : Option Nat) (write : Bool) (a : Nat) : State :=
  (s.cnfLog 0x010 master 0x3F f write a).limited (0xA01 * 2 ^ 12 + master) msCycles (fun n s =>
    s.ev 0x0A01 0x2100 (master * 2 ^ 26 + bnat write * 2 ^ 25 + bnat f.isSome * 2 ^ 24 + f.getD 0 * 2 ^ 18 + sat 16 n))

/-- A target timeout (R348). -/
def State.targetTimeout (s : State) (master target : Nat) (f : Option Nat) (write : Bool) (a : Nat) : State :=
  (s.cnfLog 0x020 master target f write a).limited (0xA02 * 2 ^ 12 + master) msCycles (fun n s =>
    s.ev 0x0A02 0x2100 (master * 2 ^ 26 + target * 2 ^ 20 + sat 16 n))

end Sys2Proof.Machine
end

