-- ==== Sys2Proof/Machine/Confluence.lean ====
section
/-! DEFINITION. Confluence.lean: tokens, classes and arbitration at a target, and the reset of a master (R343 to R345,
R350 to R353). -/

namespace Sys2Proof.Machine

def cnfMaster (m o : Nat) : Nat := cnfReg (0x1000 + 0x40 * m + o)
def State.updFab (s : State) (f : Fabric → Fabric) : State := { s with fabric := f s.fabric }
def State.tport (s : State) (g : Nat) : TargetPort := s.fabric.ports.get g
def State.setTport (s : State) (g : Nat) (x : TargetPort) : State := s.updFab (fun f => { f with ports := f.ports.set g x })

/-- A master's values without a QOS record, or with a zero entry (R353). -/
def qosDefault (m : Nat) : QosEntry :=
  let q (a b c d : Nat) : QosEntry := { rtCap := a, bgRate := b, tbWeight := c, maxOutstanding := d }
  if m ≤ 8 then q 48 32 16 256
  else if m ≤ 10 ∨ m = 13 ∨ m = 14 then q 96 32 8 256
  else if m ≤ 12 then q 32 32 4 256
  else if m ≤ 16 then q 128 32 16 256
  else if m ≤ 18 then q 32 32 4 256
  else if m = 19 then q 0 32 2 64
  else if m = 20 then q 0 64 4 256
  else q 16 32 2 64
def State.qosOf (s : State) (m : Nat) : QosEntry :=
  let e := s.st.qos.entries.getD m {}
  if e == {} then qosDefault m else e

/-- The target number of a device address (R342): the channel for MEM. -/
def State.targetNo (s : State) (a : Nat) : Nat :=
  match targetOf a with
  | .mem => ((s.st.chanOf a).map (·.1)).getD 0
  | .reg => 32 | .hostm => 33 | .gvl => 34 | .chk _ => 35 | .pool => 36 | .boot => 37 | .none => 63

/-- The class of a transaction (R345): that of its region at a Reservoir channel, TB elsewhere. 0 RT, 1 TB, 2 BG. -/
def State.classOf (s : State) (t : Txn) : Nat :=
  match targetOf t.addr, s.st.regionAt t.addr with
  | .mem, some r => r.cls
  | _, _ => 1

/-- Transactions of a master without response (R344). -/
def State.outstanding (s : State) (m : Nat) : Nat :=
  (s.fabric.flight.vals.filter (fun x => x.t.master == m)).length
/-- Tagged transactions of a domain (R352). -/
def State.tagged (s : State) (d : Nat) : Nat :=
  (s.fabric.flight.vals.filter (fun x => x.t.dom == some d)).length +
  (s.fabric.ports.vals.flatMap (fun p => p.waiting.filter (fun w => w.t.dom == some d))).length

/-! ### Arbitration (R345, R351) -/

/-- Token units a master gains in a cycle: MEM 51.2 bytes of bandwidth, others 64. -/
def tokenGain (g n : Nat) : Nat := (if g < 32 then 4 else 5) * n
def Tokens.gain (k : Tokens) (q : QosEntry) (g now : Nat) : Tokens :=
  let dt := now - k.at_
  { rt := min (k.rt + (dt * tokenGain g q.rtCap : Nat)) 81920, bg := min (k.bg + (dt * tokenGain g q.bgRate : Nat)) 81920, at_ := now }
/-- A master's tokens at a target at a cycle. -/
def State.tokensAt (s : State) (g m cyc : Nat) : Tokens := ((s.tport g).tokens.get m).gain (s.qosOf m) g cyc

/-- How a waiting request runs at cycle `cyc`: 0 RT, 1 the TB pass, 2 BG, 3 not yet. -/
def State.passOf (s : State) (g cyc : Nat) (w : AtArbiter) : Nat :=
  let k := s.tokensAt g w.t.master cyc
  match s.classOf w.t with
  | 0 => if 0 ≤ k.rt && decide (0 < (s.qosOf w.t.master).rtCap) then 0 else 1
  | 2 => if w.at_ + 1024 ≤ cyc then 1
    else if 0 ≤ k.bg && decide (0 < (s.qosOf w.t.master).bgRate) then 2 else 3
  | _ => 1

/-- Deficit round robin over masters from `p.turn`: the request granted, and the port's deficits and turn after it. -/
def drr (weight : Nat → Nat) (l : List AtArbiter) : Nat → TargetPort → Option (AtArbiter × TargetPort)
  | 0, _ => none
  | fuel + 1, p =>
    let next := (p.turn + 1) % 22
    match l.find? (fun w => w.t.master == p.turn) with
    | none => drr weight l fuel { p with deficit := (p.deficit.del p.turn).set next (p.deficit.get next + weight next * 64), turn := next }
    | some w =>
      if w.t.len ≤ p.deficit.get p.turn then
        some (w, { p with deficit := p.deficit.set p.turn (p.deficit.get p.turn - w.t.len) })
      else drr weight l fuel { p with deficit := p.deficit.set next (p.deficit.get next + weight next * 64), turn := next }

/-- The master of a BG grant: round robin. -/
def bgPick (turn : Nat) (l : List AtArbiter) : Option AtArbiter :=
  match (List.range 22).find? (fun i => l.any (fun w => w.t.master == (turn + 1 + i) % 22)) with
  | some i => l.find? (fun w => w.t.master == (turn + 1 + i) % 22)
  | none => none

/-- The request that target `g` grants at cycle `cyc` among `l` (R345), with the class it is granted in. -/
def State.arbitrate (s : State) (g cyc : Nat) (l : List AtArbiter) : Option (AtArbiter × Nat × TargetPort) :=
  let p := s.tport g
  let of (k : Nat) := l.filter (fun w => s.passOf g cyc w == k)
  let tb : Option (AtArbiter × TargetPort) := if (of 1).isEmpty then none else drr (fun m => (s.qosOf m).tbWeight) (of 1) 1500 p
  match of 0, tb, bgPick p.bgTurn (of 2) with
  | w :: _, _, _ => some (w, 0, p)
  | [], some (w, p), _ => some (w, 1, p)
  | [], none, some w => some (w, 2, { p with bgTurn := w.t.master })
  | [], none, none => none

/-- A request is granted: tokens, parking and counters. -/
def State.granted (s : State) (g cyc : Nat) (w : AtArbiter) (pass : Nat) (p : TargetPort) (parked : Bool) : State :=
  let m := w.t.master
  let k := s.tokensAt g m cyc
  let units : Int := (20 * w.t.len : Nat)
  let k := match pass with | 0 => { k with rt := k.rt - units } | 2 => { k with bg := k.bg - units } | _ => k
  let cls := s.classOf w.t
  let s := s.setTport g { p with waiting := (s.tport g).waiting.filter (fun x => x.id != w.id), free := cyc + 1, parked := some m
                                 tokens := p.tokens.set m k }
  let s := s.inc64 (cnfMaster m 0x0C) 1
  let s := if parked then s.inc (cnfMaster m 0x14) 1 else s
  let s := if cls == 0 && pass == 1 then s.inc (cnfMaster m 0x18) 1 else s
  if pass == 1 && decide (w.at_ + 1024 ≤ cyc) then s.inc (cnfMaster m 0x1C) 1 else s

/-- The first cycle after `cyc` at which a BG request that has no tokens may run. -/
def State.bgWhen (s : State) (g cyc : Nat) (w : AtArbiter) : Nat :=
  let k := s.tokensAt g w.t.master cyc
  let rate := tokenGain g (s.qosOf w.t.master).bgRate
  if rate == 0 || 0 ≤ k.bg then w.at_ + 1024 else min (w.at_ + 1024) (cyc + ceilDiv (-k.bg).toNat rate)

/-- Grants of target `g` up to the present cycle. `room` says whether the target holds a credit for a request, `serve`
what the target does with it; `fuel` bounds the grants. -/
def State.grants (room : State → Txn → Bool) (serve : State → AtArbiter → Nat → State) (g : Nat) : Nat → Nat → State → State
  | 0, _, s => s
  | fuel + 1, from_, s =>
    let p := s.tport g
    let able := p.waiting.filter (fun w => room s w.t && decide (s.outstanding w.t.master < (s.qosOf w.t.master).maxOutstanding))
    match able with
    | [] => s
    | _ =>
      let first := max (max p.free from_) ((able.map (·.at_)).foldl min (able.headD {}).at_)
      let here := able.filter (fun w => decide (w.at_ ≤ first))
      let parkedHit := match here.find? (fun w => some w.t.master == p.parked && w.at_ == first) with
        | some w => if here.all (fun x => x.t.master == w.t.master || decide (s.passOf g first w < s.passOf g first x)) then
            some w else none
        | none => none
      match parkedHit with
      | some w =>
        if s.now < first then s
        else State.grants room serve g fuel (first + 1) (serve (s.granted g first w (min 2 (s.passOf g first w)) p true) w first)
      | none =>
        let cyc := max (max p.free from_) ((able.map (·.at_)).foldl min (able.headD {}).at_ + 1)
        let here := able.filter (fun w => decide (w.at_ < cyc))
        if s.now < cyc then s
        else match s.arbitrate g cyc here with
          | some (w, pass, p) => State.grants room serve g fuel (cyc + 1) (serve (s.granted g cyc w pass p false) w cyc)
          | none =>
            let next := (here.map (s.bgWhen g cyc)).foldl min (cyc + 1024)
            if s.now < next then s else State.grants room serve g fuel (max next (cyc + 1)) s

/-- Confluence answers a master. -/
def State.respond (s : State) (t : Txn) (code : Nat) (b : Bytes) : State := s.emit (.response t.master code b)

/-- An injected timeout (R418, KIND 7) takes the next transaction to target `g`: it is granted and never answered. -/
def State.injectTimeout (s : State) (w : AtArbiter) (g cyc : Nat) : Option State :=
  match s.ras.inj.find? (fun i => i.target == 0x2100 && i.kind == 7 && i.arg == g) with
  | none => none
  | some i =>
    let s := ({ s with ras := { s.ras with inj := s.ras.inj.erase i } }).ev 0x0D0B 0x2100 7
    some (s.updFab (fun f => { f with flight := f.flight.set w.id { t := w.t, target := g, at_ := cyc, bad := true } }))

/-! ### A master reset mid-burst (R350) -/

/-- The transactions of master `m` that satisfy `p` end: those not granted are withdrawn, those open are finished on its
behalf. -/
def State.masterReset (s : State) (m : Nat) (p : Txn → Bool) : State :=
  let hit (t : Txn) : Bool := t.master == m && p t
  let n := (s.fabric.ports.vals.flatMap (fun x => x.waiting.filter (fun w => hit w.t))).length
  let open_ := s.fabric.flight.vals.any (fun x => hit x.t)
  if n == 0 && !open_ then s
  else s.updFab (fun f => { f with
    ports := f.ports.mapv (fun _ x => { x with waiting := x.waiting.filter (fun w => !hit w.t) })
    flight := f.flight.mapv (fun _ x => if hit x.t then { x with cut := true } else x)
    inReset := f.inReset.set m (f.inReset.get m + n) })

/-- The master that carries a compute unit's traffic (R84), for its source ID. -/
def unitMaster (src : Nat) : Option Nat :=
  match src / 256 with
  | 0x10 => some (src % 256 / 4) | 0x15 => some (src % 256) | 0x11 => some (9 + src % 256 / 4)
  | 0x12 => some (11 + src % 256 / 4) | 0x13 | 0x14 => some (13 + src % 256 / 4) | _ => none
/-- The master of a unit is reset (R350): a UNIT_RESET or a retirement of a unit behind it. -/
def State.unitBurst (s : State) (src : Nat) : State :=
  match unitMaster src with | some m => s.masterReset m (fun _ => true) | none => s

/-- BURST_FINISH_DONE: the last exchange of a reset master has ended. -/
def State.burstFinish (s : State) (m : Nat) : State :=
  let n := s.fabric.inReset.get m + (s.fabric.flight.vals.filter (fun x => x.t.master == m && x.cut)).length
  if !s.fabric.inReset.has m then s
  else
    let s := s.updFab (fun f => { f with
      ports := f.ports.mapv (fun _ x => { x with parked := if x.parked == some m then none else x.parked })
      flight := f.flight.keep (fun _ x => !(x.t.master == m && x.cut)), inReset := f.inReset.del m })
    (s.inc (cnfMaster m 0x20) n).ev 0x0A03 0x2100 (m * 2 ^ 26 + sat 16 n)
def execBurstFinishDone (m : Nat) (s : State) : Host.Outcome State Fault Refusal := .next (s.burstFinish m)

end Sys2Proof.Machine
end

