-- ==== Sys2Proof/Machine/Bce.lean ====
section
/-! DEFINITION. Bce.lean: the block copy engines (16_bce_check, R365 to R373). -/

namespace Sys2Proof.Machine

def State.bce (s : State) (b : Nat) : Bce := s.bces.get b
def State.setBce (s : State) (b : Nat) (x : Bce) : State := { s with bces := s.bces.set b x }

/-- MSIX_VECTORS of a function (R119): PF0 has 32 before the first accepted image. -/
def State.msixOf (s : State) (f : Nat) : Nat :=
  if f == 0 && !s.img.everAccepted then 32 else (s.st.funcs.get f).msix

/-! ### The operation that the registers describe (R368, R369) -/

structure BceOp where
  op : Nat
  fmt : Nat
  alpha : Nat
  src : Nat
  dst : Nat
  sp : Nat
  dp : Nat
  w : Nat
  h : Nat
  fill : Nat
  key : Nat
  mask : Nat
deriving Repr

def State.bceOp (s : State) (b : Nat) : BceOp :=
  let c := s.rdn (bceReg b 0x04)
  let z := s.rdn (bceReg b 0x20)
  { op := bits c 31 28, fmt := bits c 27 24, alpha := bits c 23 16, src := s.rd64 (bceReg b 0x08), dst := s.rd64 (bceReg b 0x10)
    sp := s.rdn (bceReg b 0x18), dp := s.rdn (bceReg b 0x1C), w := bits z 13 0 + 1, h := bits z 29 16 + 1
    fill := s.rdn (bceReg b 0x24), key := s.rdn (bceReg b 0x28), mask := s.rdn (bceReg b 0x2C) }

/-- Bytes per unit of a format. -/
def bceUnit (fmt : Nat) : Nat := match fmt with | 0 => 1 | 1 => 2 | _ => 4
/-- The multiple that a pitch obeys; an address obeys the bytes per unit. -/
def bcePitch (fmt : Nat) : Nat := match fmt with | 0 | 1 | 5 => 16 | _ => 4
/-- Is an operation allowed for its format? -/
def BceOp.legal (x : BceOp) : Bool :=
  match x.op with
  | 0 | 1 => decide (x.fmt ≤ 5)
  | 2 => decide (2 ≤ x.fmt) && decide (x.fmt ≤ 4)
  | 3 => decide (x.fmt ≤ 4)
  | _ => false
def BceOp.bytes (x : BceOp) : Nat := x.w * bceUnit x.fmt
/-- An address and a pitch under R368. -/
def BceOp.aligned (x : BceOp) (a p : Nat) : Bool :=
  a % bceUnit x.fmt == 0 && p % bcePitch x.fmt == 0 && decide (x.bytes ≤ p) && decide (p ≤ 262144)

/-- Line and byte displacement of the destination (R371). -/
def BceOp.dy (x : BceOp) : Int := ((x.dst : Int) - x.src + x.dp / 2) / (max 1 x.dp : Nat)
def BceOp.dx (x : BceOp) : Int := (x.dst : Int) - x.src - x.dy * x.dp
def BceOp.spanEnd (x : BceOp) (a p : Nat) : Nat := a + (x.h - 1) * p + x.bytes
def BceOp.intersects (x : BceOp) : Bool :=
  x.op != 0 && decide (x.src < x.spanEnd x.dst x.dp) && decide (x.dst < x.spanEnd x.src x.sp)
/-- Is the overlap refused? -/
def BceOp.overlaps (x : BceOp) : Bool :=
  x.intersects && (x.sp != x.dp || decide ((x.dp : Int) < x.bytes + (x.dx.natAbs : Nat)))

/-- The lines in the order of the scan (R371). -/
def BceOp.lines (x : BceOp) : List Nat :=
  let l := List.range x.h
  if x.intersects && decide (0 < x.dy) then l.reverse else l

/-! ### Pixels (R369) -/

/-- D = (a × S + (65,025 − a) × D + 32,512) / 65,025. -/
def blendOne (a s d : Nat) : Nat := (a * s + (65025 - a) * d + 32512) / 65025

/-- Source-over of one 32-bit pixel. -/
def blendPixel (fmt alpha s d : Nat) : Nat :=
  if fmt == 4 then
    let a := bits s 31 30 * 85 * alpha
    let c (k : Nat) : Nat := blendOne a (bits s (10 * k + 9) (10 * k)) (bits d (10 * k + 9) (10 * k)) * 2 ^ (10 * k)
    (blendOne a 255 (bits d 31 30 * 85) + 42) / 85 * 2 ^ 30 + c 2 + c 1 + c 0
  else
    let a := bits s 31 24 * alpha
    let c (k : Nat) : Nat := blendOne a (bits s (8 * k + 7) (8 * k)) (bits d (8 * k + 7) (8 * k)) * 2 ^ (8 * k)
    blendOne a 255 (bits d 31 24) * 2 ^ 24 + c 2 + c 1 + c 0

/-- A destination pixel. -/
def BceOp.pixel (x : BceOp) (s d : Nat) : Nat :=
  match x.op with
  | 0 => x.fill
  | 1 => s
  | 2 => blendPixel x.fmt x.alpha s d
  | _ => if Nat.land (Nat.xor s x.key) x.mask % 2 ^ (8 * bceUnit x.fmt) == 0 then d else s

/-- Little-endian number of `n` bytes of memory. -/
def Mem.num (m : Mem) (a n : Nat) : Nat := ((Mem.bytes m a n).reverse).foldl (fun v b => v * 256 + b.toNat) 0

/-- The bytes of destination line `y`, from the memory before the operation. -/
def BceOp.line (x : BceOp) (m : Mem) (y : Nat) : Bytes :=
  let u := bceUnit x.fmt
  (List.range x.w).flatMap (fun i =>
    leBytes u (x.pixel (if x.op == 0 then 0 else Mem.num m (x.src + y * x.sp + i * u) u) (Mem.num m (x.dst + y * x.dp + i * u) u)))

/-- Lines written from the memory before the operation. -/
def BceOp.writeLines (x : BceOp) (old : Mem) (m : Mem) (l : List Nat) : Mem :=
  l.foldl (fun m y => Mem.puts m (x.dst + y * x.dp) (x.line old y)) m

/-! ### Holding and going (R365 to R370) -/

/-- BCE_NOT_HELD. -/
def State.bceNotHeld (s : State) (b f : Nat) : State :=
  s.limited (0xA23 * 2 ^ 12 + b) msCycles (fun _ s => s.ev 0x0A23 (0x2300 + b) f)

def State.bceAcquire (s : State) (b f : Nat) : State :=
  if (s.bce b).holder.isSome then s else s.setBce b { s.bce b with holder := some f }
def execBceAcquire (b f : Nat) (s : State) : Host.Outcome State Fault Refusal := .next (s.bceAcquire b f)

/-- RELEASE by the holder: at once, or when the operation finishes. -/
def State.bceRelease (s : State) (b f : Nat) : State :=
  let x := s.bce b
  if x.holder != some f then s
  else s.setBce b (if x.busy then { x with release := true } else { x with holder := none, release := false })
def execBceRelease (b f : Nat) (s : State) : Host.Outcome State Fault Refusal := .next (s.bceRelease b f)

/-- STATUS is left with a result. -/
def State.bceStatus (s : State) (b result left : Nat) (done : Bool) : State :=
  let old := s.fld (bceReg b 0x34) 30 30
  s.wrn (bceReg b 0x34) ((if done then 1 else old) * 2 ^ 30 + result * 2 ^ 27 + left % 2 ^ 15)

/-- Free bytes (R7) over a destination line. -/
def State.freeLine (s : State) (a n : Nat) : State :=
  { s with mem := Mem.puts s.mem a ((List.range n).map (fun i => Config.freeByte (s.free + i))), free := s.free + n }

/-- The operation is dropped and the semaphore released (R367): which destination bytes it had written is open. Cause 0
reset or FLR, 1 FORCE_RELEASE. -/
def State.bceDrop (s : State) (b cause : Nat) : State :=
  let x := s.bce b
  let o := s.bceOp b
  let s := s.setBce b { x with holder := none, release := false, busy := false }
  if !x.busy then s
  else
    let s := o.lines.foldl (fun s y =>
      if (linesOf (o.dst + y * o.dp) o.bytes).all (fun l => s.allowed x.holder true l 64) then s.freeLine (o.dst + y * o.dp) o.bytes else s) s
    ((s.masterReset 19 (fun t => t.fn == x.holder)).bceStatus b 6 0 false).ev 0x0A22 (0x2300 + b) (cause * 256 + x.holder.getD 0)

/-- FORCE_RELEASE: PF0 only. -/
def State.bceForce (s : State) (b f : Nat) : State := if f == 0 then s.bceDrop b 1 else s
def execBceForceRelease (b f : Nat) (s : State) : Host.Outcome State Fault Refusal := .next (s.bceForce b f)

/-- A write of BCE_b.SEM: a release before an acquire. -/
def State.bceSem (s : State) (b f : Nat) (w : Word) : State :=
  let s := if bit w.toNat 9 then s.bceForce b f else s
  let s := if bit w.toNat 8 then s.bceRelease b f else s
  if bit w.toNat 7 then s.bceAcquire b f else s

/-- GO: the checks of R370, then the operation starts. -/
def State.bceGo (s : State) (b : Nat) : State :=
  let x := s.bce b
  let o := s.bceOp b
  let c := s.rdn (bceReg b 0x04)
  let fail := firstFail [
    (o.legal && (!bit c 10 || decide (bits c 15 11 < s.msixOf (x.holder.getD 0))), 3),
    (o.aligned o.dst o.dp && (o.op == 0 || o.aligned o.src o.sp), 1),
    (!o.overlaps, 2)]
  match fail with
  | some r => s.bceStatus b r (s.fld (bceReg b 0x34) 14 0) true
  | none => s.setBce b { x with busy := true, at_ := s.now }

/-- A write of BCE_b.CTRL by function `f`: BCE_GO where bit 0 is set. -/
def State.bceCtrl (s : State) (b f : Nat) (w : Word) : State :=
  let x := s.bce b
  if x.holder != some f then s.bceNotHeld b f
  else if x.busy then s
  else
    let s := s.wrn (bceReg b 0x04) (bits w.toNat 31 10 * 2 ^ 10)
    if bit w.toNat 0 then s.bceGo b else s
def execBceGo (b f : Nat) (w : Word) (s : State) : Host.Outcome State Fault Refusal := .next (s.bceCtrl b f w)

/-- A write of another BCE register (R366). -/
def State.bceReg_ (s : State) (b f o : Nat) (w : Word) : State :=
  let x := s.bce b
  if x.holder != some f then s.bceNotHeld b f
  else if o == 0x34 then (if bit w.toNat 30 then s.setFld (bceReg b 0x34) 30 30 0 else s)
  else if x.busy || decide (0x30 < o) then s
  else s.wrn (bceReg b o) (if o == 0x20 then bits w.toNat 29 16 * 65536 + bits w.toNat 13 0 else if o == 0x30 then w.toNat % 65536 else w.toNat)

/-! ### Completion (R372, R373) -/

/-- The first address of a line of the operation that its holder may not reach. -/
def State.bceFault (s : State) (f : Option Nat) (o : BceOp) (y : Nat) : Option Nat :=
  let bad (write : Bool) (a : Nat) : Option Nat :=
    (linesOf a o.bytes).find? (fun l => !(targetOf l == .mem && s.allowed f write l 64))
  match (if o.op == 0 then none else bad false (o.src + y * o.sp)) with
  | some a => some (max a (o.src + y * o.sp))
  | none => (bad true (o.dst + y * o.dp)).map (fun a => max a (o.dst + y * o.dp))

/-- Lines of the scan before the first that fails, and the failing line with its address. -/
def State.bceSplit (s : State) (f : Option Nat) (o : BceOp) : List Nat → List Nat × Option (Nat × Nat)
  | [] => ([], none)
  | y :: r => match s.bceFault f o y with
    | some a => ([], some (y, a))
    | none => let x := s.bceSplit f o r; (y :: x.1, x.2)

/-- The operation ends: its message, the semaphore of a RELEASE that waits. -/
def State.bceEnd (s : State) (b result left : Nat) : State :=
  let x := s.bce b
  let c := s.rdn (bceReg b 0x04)
  let s := (s.bceStatus b result left true).setBce b { x with busy := false, release := false, holder := if x.release then none else x.holder }
  s.irq (x.holder.getD 0) (bits c 15 11) (bit c 10)

/-- BCE_COMPLETE: every destination write is answered, no sooner than DEAD_CYCLES allows. `target` is a TARGET response:
lines of the scan written before it, and its address. A line cut short is open byte by byte (R7). -/
def State.bceComplete (s : State) (b : Nat) (target : Option (Nat × Nat)) : State :=
  let x := s.bce b
  let o := s.bceOp b
  if !x.busy then s
  else
    let sp := s.bceSplit x.holder o o.lines
    let done := match target with | some t => sp.1.take t.1 | none => sp.1
    let n := done.length * o.bytes
    let s := s.runTo (x.at_ + n / 4096 * (64 + s.fld (bceReg b 0x30) 15 0) + ceilDiv (n % 4096) 64)
    let old := s.mem
    let s := { s with mem := o.writeLines old s.mem done }
    let cut (s : State) (y : Nat) : State :=
      if (linesOf (o.dst + y * o.dp) o.bytes).all (fun l => s.allowed x.holder true l 64) then s.freeLine (o.dst + y * o.dp) o.bytes else s
    match target, sp.2 with
    | some t, _ =>
      let s := match o.lines[done.length]? with | some y => cut s y | none => s
      ((s.wr64 (bceReg b 0x38) t.2).ev 0x0A21 (0x2300 + b) t.2).bceEnd b 5 (o.h - done.length)
    | none, some e =>
      let s := (cut s e.1).decodeError 19 x.holder (decide (s.bceFault x.holder { o with op := 0 } e.1 == some e.2)) e.2
      ((s.wr64 (bceReg b 0x38) e.2).ev 0x0A20 (0x2300 + b) e.2).bceEnd b 4 (o.h - done.length)
    | none, none => s.bceEnd b 0 0
def execBceComplete (b : Nat) (target : Option (Nat × Nat)) (s : State) : Host.Outcome State Fault Refusal :=
  .next (s.bceComplete b target)

end Sys2Proof.Machine
end

