-- ==== Sys2Proof/Machine/Check.lean ====
section
/-! DEFINITION. Check.lean: the check units (16_bce_check, R374 to R379). -/

namespace Sys2Proof.Machine

/-! ### The check (R374) -/

/-- The lowest `w` bits in reverse order. -/
def reverseBits (w n : Nat) : Nat := (List.range w).foldl (fun a i => a * 2 + bnat (bit n i)) 0

structure CrcCfg where
  width : Nat := 32
  poly : Nat := 0x04C11DB7
  init : Nat := 0xFFFFFFFF
  xorout : Nat := 0xFFFFFFFF
  refin : Bool := false
  refout : Bool := false
deriving DecidableEq, Repr, Inhabited

/-- One bit into the running value. -/
def CrcCfg.step (c : CrcCfg) (run : Nat) (b : Bool) : Nat :=
  let sh := run * 2 % 2 ^ c.width
  if xor (bit run (c.width - 1)) b then Nat.xor sh (c.poly % 2 ^ c.width) else sh
/-- One byte into the running value. -/
def CrcCfg.feed (c : CrcCfg) (run byte : Nat) : Nat :=
  let b := if c.refin then reverseBits 8 byte else byte
  [7, 6, 5, 4, 3, 2, 1, 0].foldl (fun r i => c.step r (bit b i)) run
/-- The output function. -/
def CrcCfg.out (c : CrcCfg) (run : Nat) : Nat :=
  Nat.xor ((if c.refout then reverseBits c.width run else run) % 2 ^ c.width) (c.xorout % 2 ^ c.width)
/-- The check value of a byte string. -/
def CrcCfg.of (c : CrcCfg) (b : Bytes) : Nat := c.out (b.foldl (fun r x => c.feed r x.toNat) (c.init % 2 ^ c.width))

/-- CRC-32 (R214, pairing) and CRC-64/XZ (R256). -/
def crc32 : CrcCfg := { refin := true, refout := true }
def crc64 : CrcCfg :=
  { width := 64, poly := 0x42F0E1EBA9EA3693, init := 2 ^ 64 - 1, xorout := 2 ^ 64 - 1, refin := true, refout := true }

/-! ### Units -/

def State.chk (s : State) (u : Nat) : CheckUnit := s.checks.get u
def State.setChk (s : State) (u : Nat) (x : CheckUnit) : State := { s with checks := s.checks.set u x }

/-- The configuration registers of unit `u`. -/
def State.crcCfg (s : State) (u : Nat) : CrcCfg :=
  let v := s.rdn (chkReg u 0)
  { width := bits v 6 0, poly := s.rd64 (chkReg u 0x08), init := s.rd64 (chkReg u 0x10), xorout := s.rd64 (chkReg u 0x18)
    refin := bit v 31, refout := bit v 30 }
def State.chkInit (s : State) (u : Nat) : Nat := (s.crcCfg u).init % 2 ^ (s.crcCfg u).width

/-- Held by vendor firmware (R379): named by a PROTECT record, or unit 14 or 15 while a PAIR record is enabled. -/
def State.fwHeld (s : State) (u : Nat) : Bool :=
  s.st.protects.vals.any (fun p => p.checkUnit == u) || (decide (14 ≤ u) && s.st.pair.enabled)

/-- The unit a function reaches at its `j`-th view (R379). -/
def State.ownedCheck (s : State) (f j : Nat) : Option Nat :=
  ((List.range 16).filter (fun u => (s.chk u).owner == f))[j]?

/-- The alive comparison at a message end (R378). -/
def State.aliveCheck (s : State) (u : Nat) : State :=
  let x := s.chk u
  let v := s.rdn (chkReg u 0x38)
  let w := if bit v 30 then 16 else 8
  let c := x.counter.headD 0 + 256 * (x.counter.getD 1 0)
  if !bit v 31 then s
  else if x.counter.length < w / 8 then s.ev 0x0A32 (0x2400 + u) x.fed
  else
    let y := { x with base := some c, last := c }
    match x.base with
    | none => s.setChk u y
    | some l =>
      if c == l then ((s.setChk u y).setFld (chkReg u 0x3C) 31 24 (sat 8 (s.fld (chkReg u 0x3C) 31 24 + 1))).ev 0x0A30 (0x2400 + u) c
      else if c == (l + 1) % 2 ^ w then s.setChk u y
      else ((s.setChk u y).setFld (chkReg u 0x3C) 23 16 (sat 8 (s.fld (chkReg u 0x3C) 23 16 + 1))).ev 0x0A31 (0x2400 + u)
        ((c + 2 ^ w - l - 1 + 2 ^ w) % 2 ^ w * 2 ^ 16 + c)

/-- A message ends (R377, R378). -/
def State.chkEnd (s : State) (u : Nat) : State :=
  let s := s.aliveCheck u
  let x := s.chk u
  let cfg := s.crcCfg u
  let auto := s.fld (chkReg u 0) 29 29 == 1
  s.setChk u { x with fed := 0, counter := [], result := if auto then cfg.out x.run else x.result, restart := auto }

/-- One byte fed (R375, R377). -/
def State.chkByte (s : State) (u : Nat) (b : Byte) : State :=
  let x := s.chk u
  let v := s.rdn (chkReg u 0x38)
  let off := bits v 15 0
  let n := if bit v 30 then 2 else 1
  let run := if x.restart then s.chkInit u else x.run
  let take := decide (off ≤ x.fed) && decide (x.fed < off + n)
  let s := s.setChk u { x with
    run := (s.crcCfg u).feed run b.toNat, restart := false, fed := x.fed + 1
    counter := if take then x.counter ++ [b.toNat] else x.counter }
  let len := s.fld (chkReg u 0) 22 7
  if len != 0 && decide (len ≤ x.fed + 1) then s.chkEnd u else s

def State.chkBytes (s : State) (u : Nat) (b : Bytes) : State := b.foldl (fun s x => s.chkByte u x) s

/-- RESTART (R374). -/
def State.chkRestart (s : State) (u : Nat) : State := s.setChk u { s.chk u with run := s.chkInit u, restart := false }

/-- A register write is ignored while firmware holds the unit (R379). -/
def State.chkWrite (s : State) (u : Nat) (k : State → State) : State := if s.fwHeld u then s else k s

def State.chkDataW (s : State) (u : Nat) (w : Word) : State := s.chkWrite u (·.chkBytes u (leBytes 4 w.toNat))
def State.chkDataB (s : State) (u : Nat) (w : Word) : State := s.chkWrite u (·.chkByte u (BitVec.ofNat 8 w.toNat))
def State.chkMsgEnd (s : State) (u : Nat) : State := s.chkWrite u (·.chkEnd u)
def State.chkDoRestart (s : State) (u : Nat) : State := s.chkWrite u (·.chkRestart u)
/-- A write of RUN_LO or RUN_HI (R376). -/
def State.chkRun (s : State) (u : Nat) (hi : Bool) (w : Word) : State :=
  s.chkWrite u (fun s =>
    let x := s.chk u
    let run := if hi then x.run % 2 ^ 32 + w.toNat * 2 ^ 32 else x.run / 2 ^ 32 * 2 ^ 32 + w.toNat
    s.setChk u { x with run := run % 2 ^ (s.crcCfg u).width, restart := false })
/-- ALIVE_CFG: the baseline is cleared (R378). -/
def State.chkAliveCfg (s : State) (u : Nat) (w : Word) : State :=
  s.chkWrite u (fun s => (s.wrn (chkReg u 0x38) (putBits w.toNat 29 16 0)).setChk u { s.chk u with base := none })
/-- CFG: a WIDTH outside 3 to 64 leaves WIDTH as it was (R374). -/
def State.chkCfg (s : State) (u : Nat) (w : Word) : State :=
  let v := putBits w.toNat 28 23 0
  let ok := decide (3 ≤ bits v 6 0) && decide (bits v 6 0 ≤ 64)
  s.chkWrite u (·.wrn (chkReg u 0) (if ok then v else putBits v 6 0 (s.fld (chkReg u 0) 6 0)))
/-- OWNER (R379): PF0 only; the unit restarts, and a change clears the baseline. -/
def State.chkOwner (s : State) (u : Nat) (w : Word) : State :=
  s.chkWrite u (fun s =>
    let x := s.chk u
    let o := w.toNat % 64
    s.setChk u { x with owner := o, run := s.chkInit u, restart := false, base := if o == x.owner then x.base else none })
/-- UNIT_RESET (R376). -/
def State.chkReset (s : State) (u : Nat) : State := s.setChk u { s.chk u with run := s.chkInit u, restart := false, base := none }

def execChkDataW (u : Nat) (w : Word) (s : State) : Host.Outcome State Fault Refusal := .next (s.chkDataW u w)
def execChkDataB (u : Nat) (w : Word) (s : State) : Host.Outcome State Fault Refusal := .next (s.chkDataB u w)
def execChkMsgEnd (u : Nat) (s : State) : Host.Outcome State Fault Refusal := .next (s.chkMsgEnd u)
def execChkRestart (u : Nat) (s : State) : Host.Outcome State Fault Refusal := .next (s.chkDoRestart u)
def execChkRunWrite (u : Nat) (hi : Bool) (w : Word) (s : State) : Host.Outcome State Fault Refusal := .next (s.chkRun u hi w)
def execChkAliveCfgWrite (u : Nat) (w : Word) (s : State) : Host.Outcome State Fault Refusal := .next (s.chkAliveCfg u w)
def execChkOwnerWrite (u : Nat) (w : Word) (s : State) : Host.Outcome State Fault Refusal := .next (s.chkOwner u w)

/-- The data port (R375, R379): function `f`'s write feeds the enabled bytes in ascending address order; a function that
does not own the unit, and any function while firmware holds it, meets a decode error. -/
def State.chkPort (s : State) (master u f : Nat) (b : Bytes) : State :=
  if s.fwHeld u || !(f == 0 || f == (s.chk u).owner) then s.decodeError master (some f) true (0x1020000000 + 0x1000 * u)
  else s.chkBytes u b
def execChkPortWrite (u f : Nat) (b : Bytes) (s : State) : Host.Outcome State Fault Refusal := .next (s.chkPort 20 u f b)

end Sys2Proof.Machine
end

