-- ==== Sys2Proof/Machine/ImageFormat.lean ====
section
/-! DEFINITION. ImageFormat.lean: framing, order, reserved fields and ranges of the Course image's records
(R76, R77, R80 to R96; check 0x05, 0x06, 0x0D and 0x0E of R101). The record parsers of SUB_ADD, SERVICE_SET and
INFLOW_ADD (R127) use the same rows. -/

namespace Sys2Proof.Machine

/-- A record as it stands in the image. -/
structure Raw where
  type : Nat := 0
  flags : Nat := 0
  bytes : Bytes := []
deriving DecidableEq, Repr, Inhabited

/-- A record type of R77: its length, its largest number in a full and in a partial image, whether it is a child. -/
structure TypeRow where
  type : Nat
  length : Nat
  maxFull : Nat
  maxPartial : Nat
  minFull : Nat
  index : List (Nat × Nat)   -- offset and size of each index field

def typeRows : List TypeRow := [
  ⟨0x0001, 64, 1, 1, 1, []⟩, ⟨0x0010, 64, 1, 0, 1, []⟩, ⟨0x0020, 32, 8, 0, 1, [(8, 1)]⟩, ⟨0x0030, 40, 16, 0, 1, [(8, 1)]⟩,
  ⟨0x0040, 48, 64, 0, 1, [(8, 1)]⟩, ⟨0x0050, 192, 1, 0, 0, []⟩, ⟨0x0100, 32, 64, 64, 0, [(8, 1)]⟩,
  ⟨0x0110, 40, 256, 256, 0, [(8, 1), (9, 1)]⟩, ⟨0x0120, 48, 768, 768, 0, [(8, 1), (9, 1)]⟩,
  ⟨0x0130, 24, 3072, 3072, 0, [(8, 1), (9, 1)]⟩, ⟨0x0140, 48, 3072, 3072, 0, [(8, 2)]⟩,
  ⟨0x0150, 24, 49152, 49152, 0, [(8, 2), (10, 1)]⟩, ⟨0x0160, 16, 512, 512, 0, [(8, 1), (9, 1)]⟩,
  ⟨0x0200, 80, 1024, 1024, 0, [(8, 2)]⟩, ⟨0x0210, 40, 512, 512, 0, [(8, 2)]⟩, ⟨0x0220, 80, 4096, 4096, 0, [(8, 2)]⟩,
  ⟨0x0300, 40, 64, 64, 0, [(8, 1)]⟩, ⟨0x0400, 32, 1, 0, 0, []⟩, ⟨0xFFF0, 104, 1, 1, 1, []⟩, ⟨0xFFFF, 8, 1, 1, 1, []⟩]

def typeRow (t : Nat) : Option TypeRow := typeRows.find? (fun r => r.type == t)

/-- A field of `n` bytes. -/
def uN (b : Bytes) (off n : Nat) : Nat := (slice b off n).foldr (fun x a => x.toNat + 256 * a) 0

/-- The index fields of a record, in the order of R77. -/
def Raw.index (r : Raw) : List Nat :=
  match typeRow r.type with
  | some t => t.index.map (fun f => uN r.bytes f.1 f.2)
  | none => []

/-- Walk the records by LENGTH (R76). `fuel` bounds the number of records; a record that cannot be framed ends the
walk and is reported by its index. -/
def walk : Nat → Bytes → List Raw → List Raw × Option Nat
  | 0, _, acc => (acc.reverse, some acc.length)
  | fuel + 1, b, acc =>
    if b.isEmpty then (acc.reverse, none)
    else
      let len := u32 b 4
      let bad := decide (b.length < 8) || decide (len < 8) || len % 8 != 0 || decide (b.length < len) ||
        (match typeRow (u16 b 0) with | some t => t.length != len | none => false)
      if bad then (acc.reverse, some acc.length)
      else walk fuel (b.drop len) ({ type := u16 b 0, flags := u16 b 2, bytes := b.take len } :: acc)

/-- Index of the first record that fails `ok`. -/
def firstBad (rs : List Raw) (ok : Raw → Bool) : Option Nat := rs.findIdx? (fun r => !ok r)

/-- Position of the first pair of neighbours that fails `ok`; the later one is reported. -/
def firstBadPair (ok : Raw → Raw → Bool) : List Raw → Nat → Option Nat
  | a :: b :: r, i => if ok a b then firstBadPair ok (b :: r) (i + 1) else some (i + 1)
  | _, _ => none

/-- Lexicographic order of index fields. -/
def lexLe : List Nat → List Nat → Bool
  | a :: r, b :: q => decide (a < b) || (a == b && lexLe r q)
  | _, _ => true

/-- Check 0x05, after the walk: RECORD_COUNT at record 0; END last and well formed (R76, R96). -/
def framingFault (h : HeaderRec) (rs : List Raw) (walked : Option Nat) : Option Nat :=
  match walked with
  | some i => some i
  | none =>
    if h.recordCount != rs.length then some 0
    else match rs.getLast? with
      | none => some 0
      | some e =>
        if e.type != 0xFFFF || e.flags != 0 then some (rs.length - 1)
        else (rs.dropLast).findIdx? (fun r => r.type == 0xFFFF)

/-- Is the type allowed only in full images? -/
def fullOnly (t : Nat) : Bool := match typeRow t with | some r => r.maxPartial == 0 | none => false

/-- The course of a child record, through its COURSE field (R77); 0x0150 goes through its rendition. -/
def childCount (rs : List Raw) (t off n v : Nat) : Nat := (rs.filter (fun r => r.type == t && uN r.bytes off n == v)).length

/-- Per-course and per-rendition counts of R77: child type, COURSE field offset, least and most. -/
def childRows : List (Nat × Nat × Nat) :=
  [(0x0110, 1, 4), (0x0120, 1, 12), (0x0130, 1, 48), (0x0140, 1, 48), (0x0160, 1, 8), (0x0300, 0, 1)]
def courseOff (t : Nat) : Nat := if t == 0x0140 then 10 else 8

/-- Is record `r` one too many of its group? -/
def overCount (rs : List Raw) (r : Raw) (i : Nat) : Bool :=
  let before := rs.take (i + 1)
  (childRows.any (fun c => r.type == c.1 &&
      decide (c.2.2 < childCount before c.1 (courseOff c.1) 1 (uN r.bytes (courseOff c.1) 1)))) ||
  (r.type == 0x0150 && decide (16 < childCount before 0x0150 8 2 (u16 r.bytes 8)))

/-- Does a COURSE (ADD or REPLACE) or RENDITION record lack a child that R77 requires? -/
def underCount (rs : List Raw) (r : Raw) : Bool :=
  (r.type == 0x0100 && r.flags % 4 != 2 &&
    childRows.any (fun c => decide (childCount rs c.1 (courseOff c.1) 1 (u8 r.bytes 8) < c.2.1))) ||
  (r.type == 0x0140 && childCount rs 0x0150 8 2 (u16 r.bytes 8) == 0)

/-- Check 0x06 (R77): unknown types, order of types and indexes, counts. A count outside its limits is reported at the
first record beyond it; a required record that is missing, at the first record of a greater TYPE. -/
def orderFault (isPartial : Bool) (rs : List Raw) : Option Nat :=
  let cand : List (Option Nat) := [
    firstBad rs (fun r => (typeRow r.type).isSome),
    firstBadPair (fun a b => decide (a.type < b.type) || (a.type == b.type && lexLe a.index b.index)) rs 0,
    (List.range rs.length).find? (fun i =>
      let r := rs.getD i default
      overCount rs r i ||
      (match typeRow r.type with
       | some t =>
         let n := ((rs.take (i + 1)).filter (fun q => q.type == r.type)).length
         if isPartial then t.maxPartial != 0 && decide (t.maxPartial < n) else decide (t.maxFull < n)
       | none => false)),
    firstBad rs (fun r => !underCount rs r),
    (typeRows.filter (fun t => t.minFull != 0 && !(isPartial && t.maxPartial == 0) &&
        !rs.any (fun r => r.type == t.type))).head?.bind (fun t => some ((rs.findIdx? (fun r => decide (t.type < r.type))).getD 0)),
    if !isPartial && !rs.any (fun r => r.type == 0x0040 && u8 r.bytes 8 == 0)
      then some ((rs.findIdx? (fun r => decide (0x0040 ≤ r.type))).getD 0) else none]
  (cand.filterMap id).foldl (fun a i => some (match a with | some j => min i j | none => i)) none

/-! ### Reserved fields (check 0x0D) -/

/-- Reserved bytes: type, offset, count, and the bits of each byte that are reserved. -/
def reservedRows : List (Nat × Nat × Nat × Nat) := [
  (0x0001, 19, 1, 255), (0x0001, 52, 12, 255),
  (0x0010, 14, 1, 0xFE), (0x0010, 15, 1, 255), (0x0010, 20, 1, 0xF0), (0x0010, 21, 3, 255), (0x0010, 27, 1, 0xFE),
  (0x0010, 28, 4, 255), (0x0010, 32, 16, 0x20), (0x0010, 48, 16, 255),
  (0x0020, 11, 1, 255), (0x0020, 14, 2, 255), (0x0020, 28, 4, 255),
  (0x0030, 11, 1, 255),
  (0x0040, 9, 1, 0xFE), (0x0040, 23, 1, 255), (0x0040, 40, 8, 255),
  (0x0050, 12, 4, 255),
  (0x0100, 11, 1, 0xF8), (0x0100, 27, 1, 255), (0x0100, 30, 2, 255),
  (0x0110, 23, 1, 0xFC), (0x0110, 25, 3, 255), (0x0110, 32, 8, 255),
  (0x0120, 11, 1, 0xFE), (0x0120, 27, 1, 255), (0x0120, 31, 1, 0xC0), (0x0120, 44, 4, 255),
  (0x0130, 19, 5, 255),
  (0x0140, 37, 1, 0xFE), (0x0140, 38, 2, 255), (0x0140, 44, 4, 255),
  (0x0150, 13, 1, 255), (0x0150, 18, 6, 255),
  (0x0160, 14, 2, 255),
  (0x0200, 73, 1, 255), (0x0200, 76, 4, 255),
  (0x0210, 14, 2, 255), (0x0210, 32, 8, 255),
  (0x0220, 15, 1, 0xF0), (0x0220, 35, 1, 0xC0),
  (0x0300, 20, 4, 255), (0x0300, 36, 4, 255),
  (0x0400, 8, 1, 0xFE), (0x0400, 9, 1, 255), (0x0400, 24, 8, 255)]

/-- Every reserved field and bit of a record is zero (R6). -/
def Raw.reservedZero (r : Raw) : Bool :=
  r.flags / 4 == 0 &&
  reservedRows.all (fun x => x.1 != r.type ||
    (List.range x.2.2.1).all (fun i => Nat.land (u8 r.bytes (x.2.1 + i)) x.2.2.2 == 0)) &&
  (r.type != 0x0050 || (List.range 22).all (fun m => u8 r.bytes (21 + 8 * m) == 0))

/-! ### Ranges of single fields (check 0x0E) -/

/-- Type, offset, size, least and greatest value. -/
def rangeRows : List (Nat × Nat × Nat × Nat × Nat) := [
  (0x0001, 16, 1, 0, 1),
  (0x0010, 8, 1, 1, 36), (0x0010, 9, 1, 1, 32), (0x0010, 10, 1, 0, 8), (0x0010, 11, 1, 0, 8), (0x0010, 12, 1, 0, 8),
  (0x0010, 13, 1, 0, 8), (0x0010, 24, 2, 0, 168),
  (0x0020, 8, 1, 0, 7), (0x0020, 9, 1, 0, 2), (0x0020, 10, 1, 0, 127), (0x0020, 12, 2, 1, 65535),
  (0x0020, 16, 4, 1, 4294967295),
  (0x0030, 8, 1, 0, 15), (0x0030, 9, 1, 8, 16), (0x0030, 10, 1, 0, 2),
  (0x0040, 8, 1, 0, 63), (0x0040, 10, 2, 0, 64), (0x0040, 12, 2, 0, 512), (0x0040, 14, 2, 0, 4096), (0x0040, 16, 2, 0, 512),
  (0x0040, 18, 2, 0, 1024), (0x0040, 20, 1, 1, 8), (0x0040, 21, 1, 1, 32), (0x0040, 22, 1, 0, 64),
  (0x0100, 8, 1, 0, 63), (0x0100, 9, 1, 0, 7), (0x0100, 10, 1, 0, 63), (0x0100, 12, 2, 64, 8192), (0x0100, 14, 2, 64, 4320),
  (0x0100, 16, 1, 0, 2), (0x0100, 17, 1, 8, 12), (0x0100, 18, 1, 0, 3), (0x0100, 19, 1, 64, 128), (0x0100, 22, 1, 0, 7),
  (0x0100, 23, 1, 1, 255), (0x0100, 24, 1, 0, 15), (0x0100, 25, 1, 0, 15), (0x0100, 26, 1, 0, 15),
  (0x0110, 8, 1, 0, 63), (0x0110, 9, 1, 0, 3), (0x0110, 10, 1, 0, 2), (0x0110, 11, 1, 1, 2), (0x0110, 12, 2, 8, 8192),
  (0x0110, 14, 2, 8, 4320), (0x0110, 18, 1, 0, 2), (0x0110, 19, 1, 8, 12), (0x0110, 24, 1, 3, 8),
  (0x0120, 8, 1, 0, 63), (0x0120, 9, 1, 0, 11), (0x0120, 24, 1, 0, 11), (0x0120, 25, 1, 0, 2),
  (0x0130, 8, 1, 0, 63), (0x0130, 9, 1, 1, 48), (0x0130, 12, 2, 8, 8192), (0x0130, 14, 2, 8, 4320), (0x0130, 16, 1, 0, 2),
  (0x0130, 17, 1, 8, 12), (0x0130, 18, 1, 3, 8),
  (0x0140, 8, 2, 0, 511), (0x0140, 10, 1, 0, 63), (0x0140, 11, 1, 1, 48), (0x0140, 12, 1, 0, 3), (0x0140, 15, 1, 0, 2),
  (0x0140, 16, 1, 0, 63), (0x0140, 17, 1, 0, 3), (0x0140, 19, 1, 8, 12), (0x0140, 20, 4, 64, 400000000),
  (0x0140, 28, 2, 1, 1024), (0x0140, 31, 1, 1, 15),
  (0x0150, 8, 2, 0, 511), (0x0150, 10, 1, 0, 15), (0x0150, 11, 1, 0, 35), (0x0150, 12, 1, 0, 1), (0x0150, 16, 2, 1, 65535),
  (0x0160, 8, 1, 0, 63), (0x0160, 9, 1, 0, 7), (0x0160, 12, 2, 1, 65535),
  (0x0200, 8, 2, 0, 1023), (0x0200, 10, 1, 0, 6), (0x0200, 11, 1, 0, 15), (0x0200, 50, 1, 0, 63), (0x0200, 51, 1, 0, 1),
  (0x0200, 52, 4, 1, 50000000), (0x0200, 60, 4, 9216, 16777216), (0x0200, 64, 4, 9216, 16777216), (0x0200, 72, 1, 1, 16),
  (0x0200, 74, 2, 0, 4095),
  (0x0210, 8, 2, 0, 511), (0x0210, 10, 1, 0, 15), (0x0210, 11, 1, 0, 63), (0x0210, 12, 2, 1, 1023),
  (0x0210, 16, 4, 8, 50000000), (0x0210, 20, 4, 8, 50000000), (0x0210, 24, 4, 1, 16777216), (0x0210, 28, 4, 1, 16777216),
  (0x0220, 8, 2, 0, 4095), (0x0220, 10, 2, 0, 511), (0x0220, 12, 2, 0, 511),
  (0x0220, 16, 4, 8, 50000000), (0x0220, 20, 4, 8, 50000000), (0x0220, 24, 4, 1, 16777216), (0x0220, 28, 4, 1, 16777216),
  (0x0220, 32, 2, 1, 1023),
  (0x0300, 8, 1, 0, 63), (0x0300, 9, 1, 0, 63), (0x0300, 10, 1, 0, 15), (0x0300, 11, 1, 0, 15),
  (0x0400, 10, 2, 16, 1024)]

def Raw.inRange (r : Raw) : Bool :=
  rangeRows.all (fun x => x.1 != r.type ||
    (decide (x.2.2.2.1 ≤ uN r.bytes x.2.1 x.2.2.1) && decide (uN r.bytes x.2.1 x.2.2.1 ≤ x.2.2.2.2)))

def depthOk (d : Nat) : Bool := d == 8 || d == 10 || d == 12
def vlanOk (v : Nat) : Bool := v == 65535 || decide (v ≤ 4095)
def mult (n k : Nat) : Bool := n % k == 0
/-- Is a 16-byte address IPv4 in the ::FFFF:a.b.c.d form (R94)? -/
def isV4 (ip : Nat) : Bool := ip / 2 ^ 32 == 0xFFFF
def sameFamily (a b : Nat) : Bool := isV4 a == isV4 b
def mib2 : Nat := 2097152
/-- The first byte past the regions (R82). -/
def regionTop : Nat := 0xBFC000000

/-- Rates of a service or subscriber (R95). -/
def Rates.ok (r : Rates) : Bool := decide (r.cir ≤ r.pir)

/-- Profiles and levels of each codec (R90). The AV1 levels are the ones its standard defines. -/
def profileOk (codec p : Nat) : Bool := match codec with | 0 => decide (p ≤ 2) | 1 => decide (p ≤ 2) | _ => decide (p ≤ 1)
def ctuOk (codec ctu : Nat) : Bool :=
  match codec with | 0 => ctu == 16 | 1 => ctu == 64 | _ => ctu == 64 || ctu == 128
/-- R237: sampling and depth that a profile admits. -/
def profileAdmits (codec p sampling depth : Nat) : Bool :=
  (depth == 8 || depth == 10) &&
  match codec, p with
  | 0, 0 => sampling == 0 && depth == 8
  | 0, 1 => sampling == 0
  | 0, 2 => decide (sampling ≤ 1)
  | 1, 0 => sampling == 0 && depth == 8
  | 1, 1 => sampling == 0
  | 1, 2 => decide (sampling ≤ 1)
  | 2, 0 => sampling == 0
  | 2, 1 => sampling == 0 || sampling == 2
  | 3, 0 => sampling == 0
  | 3, 1 => decide (sampling ≤ 2)
  | _, _ => false

/-- Rules of one record's own layout beyond single ranges (R80 to R95). -/
def Rec.fieldsOk : Rec → Bool
  | .device r => (r.sparesExplicit || r.spareMask == 0) && (r.disturbK == 0 || (decide (8 ≤ r.disturbK) && decide (r.disturbK ≤ 16)))
  | .domain r => decide (r.den ≤ 240 * r.num) && decide (r.num ≤ r.den) && decide (r.phase * r.den < r.num * 1000000000) &&
      (r.guard == 0 || decide (4000 ≤ r.guard))
  | .region r => isPow2 (popcount 32 r.chMask) && mult r.base mib2 && mult r.size mib2 && decide (r.base + r.size ≤ regionTop)
  | .function r => mult r.memBase mib2 && mult r.memSize mib2 && (r.function != 0 || (r.memBase == 0 && r.memSize == 0))
  | .qos r => (r.timeout == 0 || (decide (256 ≤ r.timeout) && decide (r.timeout ≤ 65535))) &&
      r.entries.all (fun e => e == {} || (decide (e.rtCap ≤ 256) && decide (e.bgRate ≤ 256) && e.tbWeight != 0 &&
        e.maxOutstanding != 0 && decide (e.maxOutstanding ≤ 256)))
  | .course a r => decide (a < 3) && mult r.width 8 && mult r.height 8 && depthOk r.depth &&
      (r.bandHeight == 64 || r.bandHeight == 128) && (r.fixed || r.delayLines == 0)
  | .input r => mult r.width 8 && mult r.height 8 && depthOk r.depth && decide (r.height ≤ r.totalLines) &&
      (match r.source with
       | 0 => decide (r.sourceIndex ≤ 1023)
       | 1 => decide (r.sourceIndex ≤ 7) && decide (r.codec ≤ 3) && decide (1048576 ≤ r.jitterBytes)
       | _ => r.sourceIndex == 0)
  | .layer r => if r.layer < 4 then decide (r.source ≤ 3) else r.source == 0
  | .rung r => mult r.width 8 && mult r.height 8 && depthOk r.depth &&
      (if r.rung == 1 then r.cascade == 255 && r.source == 0 else decide (r.cascade ≤ 7) && decide (r.source < r.rung))
  | .rend r => profileOk r.codec r.profile && ctuOk r.codec r.ctu && depthOk r.depth
  | .inflow a r => decide (a < 3) && vlanOk r.vlan && (r.mergePeer == 65535 || decide (r.mergePeer ≤ 1023)) &&
      (r.meter == 0 || decide (r.cir ≤ r.pir))
  | .service a r => decide (a < 3) && r.rates.ok
  | .sub a r => decide (a < 3) && r.rates.ok && vlanOk r.vlan && sameFamily r.dstIp r.srcIp &&
      (if r.dup then decide (r.port2 ≤ 15) else r.port2 == 255) && (r.pass || decide (r.payload ≤ 2))
  | .protect r => mult r.x 2 && mult r.y 2 && mult r.w 2 && mult r.h 2 && decide (r.w * r.h ≤ 131072) &&
      mult r.pitch 64 && decide (4 * r.w ≤ r.pitch)
  | _ => true

/-- A record read from its bytes. -/
def Raw.toRec (r : Raw) : Rec :=
  let a := r.flags % 4
  match r.type with
  | 0x0001 => .header (readHeader r.bytes)
  | 0x0010 => .device (readDevice r.bytes)
  | 0x0020 => .domain (readDomain r.bytes)
  | 0x0030 => .region (readRegion r.bytes)
  | 0x0040 => .function (readFunction r.bytes)
  | 0x0050 => .qos (readQos r.bytes)
  | 0x0100 => .course a (readCourse r.bytes)
  | 0x0110 => .input (readInput r.bytes)
  | 0x0120 => .layer (readLayer r.bytes)
  | 0x0130 => .rung (readRung r.bytes)
  | 0x0140 => .rend (readRend r.bytes)
  | 0x0150 => .seg (readSeg r.bytes)
  | 0x0160 => .hw (readHw r.bytes)
  | 0x0200 => .inflow a (readInflow r.bytes)
  | 0x0210 => .service a (readService r.bytes)
  | 0x0220 => .sub a (readSub r.bytes)
  | 0x0300 => .protect (readProtect r.bytes)
  | 0x0400 => .pair (readPair r.bytes)
  | 0xFFF0 => .signature
  | _ => .done

/-- ACTION values (R76): only ADD in a full image and in child records. -/
def Raw.actionOk (isPartial : Bool) (r : Raw) : Bool :=
  r.flags % 4 == 0 || (isPartial && r.flags % 4 != 3 &&
    (r.type == 0x0100 || r.type == 0x0200 || r.type == 0x0210 || r.type == 0x0220))

/-- A record that a command reads from host memory (R127): full header, TYPE, LENGTH, FLAGS 0, reserved fields zero,
values in range. -/
def hostRecord (type : Nat) (b : Bytes) : Option Rec :=
  match typeRow type with
  | none => none
  | some t =>
    let r : Raw := { type := u16 b 0, flags := u16 b 2, bytes := b }
    if r.type == type && r.flags == 0 && u32 b 4 == t.length && b.length == t.length && r.reservedZero && r.inRange &&
        r.toRec.fieldsOk then some r.toRec else none

end Sys2Proof.Machine
end

