-- ==== Sys2Proof/Machine/Levels.lean ====
section
/-! DEFINITION. Levels.lean: the limits that the codec standards set for a level (R238 names them and gives no
figure). Assumption log entry 9: PRESUMED, from H.264 Annex A, H.265 Annex A, AV1 Annex A and H.266 Annex A. -/

namespace Sys2Proof.Machine

/-- AVC: level × 10, MaxMBPS, MaxFS, MaxBR, MaxCPB, SliceRate (0: none). -/
structure AvcLevel where
  level : Nat
  mbps : Nat
  fs : Nat
  br : Nat
  cpb : Nat
  sliceRate : Nat
deriving Inhabited

def avcLevels : List AvcLevel := [
  ⟨10, 1485, 99, 64, 175, 0⟩, ⟨11, 3000, 396, 192, 500, 0⟩, ⟨12, 6000, 396, 384, 1000, 0⟩, ⟨13, 11880, 396, 768, 2000, 0⟩,
  ⟨20, 11880, 396, 2000, 2000, 0⟩, ⟨21, 19800, 792, 4000, 4000, 0⟩, ⟨22, 20250, 1620, 4000, 4000, 0⟩,
  ⟨30, 40500, 1620, 10000, 10000, 22⟩, ⟨31, 108000, 3600, 14000, 14000, 60⟩, ⟨32, 216000, 5120, 20000, 20000, 60⟩,
  ⟨40, 245760, 8192, 20000, 25000, 60⟩, ⟨41, 245760, 8192, 50000, 62500, 24⟩, ⟨42, 522240, 8704, 50000, 62500, 24⟩,
  ⟨50, 589824, 22080, 135000, 135000, 24⟩, ⟨51, 983040, 36864, 240000, 240000, 24⟩, ⟨52, 2073600, 36864, 240000, 240000, 24⟩,
  ⟨60, 4177920, 139264, 240000, 240000, 24⟩, ⟨61, 8355840, 139264, 480000, 480000, 24⟩,
  ⟨62, 16711680, 139264, 800000, 800000, 24⟩]

/-- HEVC and VVC: level × 10, MaxLumaPs, MaxLumaSr, MaxBR and MaxCPB at Main and High tier (0: no High tier), most
slices, tile columns and tiles. -/
structure TierLevel where
  level : Nat
  ps : Nat
  sr : Nat
  br : Nat
  brHigh : Nat
  cpb : Nat
  cpbHigh : Nat
  slices : Nat
  cols : Nat
deriving Inhabited

def hevcLevels : List TierLevel := [
  ⟨10, 36864, 552960, 128, 0, 350, 0, 16, 1⟩, ⟨20, 122880, 3686400, 1500, 0, 1500, 0, 16, 1⟩,
  ⟨21, 245760, 7372800, 3000, 0, 3000, 0, 20, 1⟩, ⟨30, 552960, 16588800, 6000, 0, 6000, 0, 30, 2⟩,
  ⟨31, 983040, 33177600, 10000, 0, 10000, 0, 40, 3⟩, ⟨40, 2228224, 66846720, 12000, 30000, 12000, 30000, 75, 5⟩,
  ⟨41, 2228224, 133693440, 20000, 50000, 20000, 50000, 75, 5⟩,
  ⟨50, 8912896, 267386880, 25000, 100000, 25000, 100000, 200, 10⟩,
  ⟨51, 8912896, 534773760, 40000, 160000, 40000, 160000, 200, 10⟩,
  ⟨52, 8912896, 1069547520, 60000, 240000, 60000, 240000, 200, 10⟩,
  ⟨60, 35651584, 1069547520, 60000, 240000, 60000, 240000, 600, 20⟩,
  ⟨61, 35651584, 2139095040, 120000, 480000, 120000, 480000, 600, 20⟩,
  ⟨62, 35651584, 4278190080, 240000, 800000, 240000, 800000, 600, 20⟩]

def vvcLevels : List TierLevel := [
  ⟨10, 36864, 552960, 128, 0, 350, 0, 16, 1⟩, ⟨20, 122880, 3686400, 1500, 0, 1500, 0, 16, 1⟩,
  ⟨21, 245760, 7372800, 3000, 0, 3000, 0, 20, 1⟩, ⟨30, 552960, 16588800, 6000, 0, 6000, 0, 30, 2⟩,
  ⟨31, 983040, 33177600, 10000, 0, 10000, 0, 40, 3⟩, ⟨40, 2228224, 66846720, 12000, 30000, 12000, 30000, 75, 5⟩,
  ⟨41, 2228224, 133693440, 20000, 50000, 20000, 50000, 75, 5⟩,
  ⟨50, 8912896, 267386880, 25000, 100000, 25000, 100000, 200, 10⟩,
  ⟨51, 8912896, 534773760, 40000, 160000, 40000, 160000, 200, 10⟩,
  ⟨52, 8912896, 1069547520, 60000, 240000, 60000, 240000, 200, 10⟩,
  ⟨60, 35651584, 1069547520, 60000, 240000, 80000, 240000, 600, 20⟩,
  ⟨61, 35651584, 2139095040, 120000, 480000, 120000, 480000, 600, 20⟩,
  ⟨62, 35651584, 4278190080, 180000, 800000, 180000, 800000, 600, 20⟩]

/-- AV1: seq_level_idx, MaxPicSize, MaxHSize, MaxVSize, MaxDisplayRate, Main and High bit rate in units of 100 kbit/s
(0: no High tier), MaxTiles, MaxTileCols. -/
structure Av1Level where
  idx : Nat
  size : Nat
  h : Nat
  v : Nat
  rate : Nat
  br : Nat
  brHigh : Nat
  tiles : Nat
  cols : Nat
deriving Inhabited

def av1Levels : List Av1Level := [
  ⟨0, 147456, 2048, 1152, 4423680, 15, 0, 8, 4⟩, ⟨1, 278784, 2816, 1584, 8363520, 30, 0, 8, 4⟩,
  ⟨4, 665856, 4352, 2448, 19975680, 60, 0, 16, 6⟩, ⟨5, 1065024, 5504, 3096, 31950720, 100, 0, 16, 6⟩,
  ⟨8, 2359296, 6144, 3456, 70778880, 120, 300, 32, 8⟩, ⟨9, 2359296, 6144, 3456, 141557760, 200, 500, 32, 8⟩,
  ⟨12, 8912896, 8192, 4352, 267386880, 300, 1000, 64, 8⟩, ⟨13, 8912896, 8192, 4352, 534773760, 400, 1600, 64, 8⟩,
  ⟨14, 8912896, 8192, 4352, 1069547520, 600, 2400, 64, 8⟩, ⟨15, 8912896, 8192, 4352, 1069547520, 600, 2400, 64, 8⟩,
  ⟨16, 35651584, 16384, 8704, 1069547520, 600, 2400, 128, 16⟩, ⟨17, 35651584, 16384, 8704, 2139095040, 1000, 4800, 128, 16⟩,
  ⟨18, 35651584, 16384, 8704, 4278190080, 1600, 8000, 128, 16⟩, ⟨19, 35651584, 16384, 8704, 4278190080, 1600, 8000, 128, 16⟩]

/-- The factor by which a profile scales bit rate and buffer limits, in bits per unit (AV1: in tenths). -/
def nalFactor (codec profile : Nat) : Nat :=
  match codec, profile with
  | 0, 0 => 1500 | 0, 1 => 3600 | 0, _ => 4800
  | 1, 0 => 1100 | 1, 1 => 1100 | 1, _ => 1834
  | 2, 0 => 1 | 2, _ => 2
  | _, 0 => 1100 | _, _ => 2750

/-- Limits of one rendition: does its level admit it, and how many slices or tiles and tile columns it may have. -/
structure LevelLimits where
  ok : Bool := false
  highTier : Bool := false
  units : Nat := 0
  cols : Nat := 0
deriving DecidableEq, Repr, Inhabited

/-- R238 for a rendition of width `w`, height `h`, one picture per num/den seconds. -/
def levelLimits (r : RendRec) (w h num den : Nat) : LevelLimits :=
  match r.codec with
  | 0 =>
    match avcLevels.find? (fun l => l.level == r.level) with
    | none => {}
    | some l =>
      let mbs := ceilDiv w 16 * ceilDiv h 16
      let f := nalFactor 0 r.profile
      { ok := decide (mbs ≤ l.fs) && decide (mbs * den ≤ l.mbps * num) && decide (r.maxRate * 1000 ≤ l.br * f) &&
          decide (r.bufSize * 1000 ≤ l.cpb * f)
        units := if l.sliceRate == 0 then mbs else l.mbps * num / (den * l.sliceRate)
        cols := 1 }
  | 2 =>
    match av1Levels.find? (fun l => l.idx == r.level) with
    | none => {}
    | some l =>
      let f := nalFactor 2 r.profile
      let main := decide (r.maxRate ≤ l.br * 100 * f)
      let high := decide (8 ≤ r.level) && decide (r.maxRate ≤ l.brHigh * 100 * f)
      { ok := decide (w * h ≤ l.size) && decide (w ≤ l.h) && decide (h ≤ l.v) && decide (w * h * den ≤ l.rate * num) && (main || high)
        highTier := !main, units := l.tiles, cols := l.cols }
  | c =>
    match (if c == 1 then hevcLevels else vvcLevels).find? (fun l => l.level == r.level) with
    | none => {}
    | some l =>
      let f := nalFactor c r.profile
      let main := decide (r.maxRate * 1000 ≤ l.br * f) && decide (r.bufSize * 1000 ≤ l.cpb * f)
      let high := decide (40 ≤ r.level) && decide (r.maxRate * 1000 ≤ l.brHigh * f) && decide (r.bufSize * 1000 ≤ l.cpbHigh * f)
      { ok := decide (w * h ≤ l.ps) && decide (w * h * den ≤ l.sr * num) && (main || high)
        highTier := !main, units := l.slices, cols := l.cols }

end Sys2Proof.Machine
end

