-- ==== Sys2Proof/Machine/Admission.lean ====
section
/-! DEFINITION. Admission.lean: the sums of admission (R102 to R105, R62, R71, R101 reasons 0x0F to 0x2D), over the
structure that would result. Every quantity is an integer or an exact fraction. -/

namespace Sys2Proof.Machine

/-- Resources as they are live at the check (R102, R106), the Confluence TIMEOUT in force (R57), and the placement of
segments in effect (R75, empty for a new image). -/
structure Live where
  retired : List Nat := []       -- source IDs of retired units (R138)
  excluded : List Nat := []      -- excluded Reservoir channels
  selfRefresh : List Nat := []   -- channels in self-refresh (R341)
  timeout : Nat := 4096
  place : Tab Nat := []          -- segment key → Tarn; 64 for a segment that no Tarn holds (R409)
deriving DecidableEq, Repr, Inhabited

def Live.tarn (l : Live) (n : Nat) : Bool := !l.retired.contains (0x1000 + n)
def Live.unit (l : Live) (base n : Nat) : Bool := !l.retired.contains (base + n)
def Live.count (l : Live) (base n : Nat) : Nat := ((List.range n).filter (l.unit base)).length
def Live.channels (l : Live) : Nat := ((List.range 32).filter (fun c => !l.excluded.contains c)).length

/-- W of R62, in cycles. -/
def winCycles (num den : Nat) : Nat := num * 1500000000 / den
/-- O_MAX of R57. -/
def oMax (timeout : Nat) (paired : Bool) : Nat := 1062 + (timeout + 32) + 1024 + 64 + 32 + (if paired then 16384 else 0)
/-- GUARD_NS as it takes effect (R61, R81): 0 in the record means 12,000; below 4,000 acts as 4,000. -/
def guardNs (g : Nat) : Nat := if g == 0 then 12000 else max 4000 g
/-- The condition of R62. -/
def guardFits (num den guard timeout : Nat) (paired : Bool) : Bool :=
  decide (ceilDiv (guard * 3) 2 + oMax timeout paired ≤ 8 * winCycles num den / 100)

def Structure.win (t : Structure) (d : Nat) : Nat := let x := t.domains.get d; winCycles x.num x.den
def Structure.cap (t : Structure) (d : Nat) : Nat := t.win d * 92 / 100
def cyc (p num den : Nat) : Nat := ceilDiv (p * den) num

/-- Tarn rate of a codec and effort, pixels per cycle as a fraction (R102). -/
def tarnRate (codec effort : Nat) : Nat × Nat :=
  match codec, effort with
  | 0, 0 => (3, 4) | 0, 1 => (1, 2) | 0, _ => (3, 10)
  | 1, 0 => (21, 40) | 1, 1 => (7, 20) | 1, _ => (21, 100)
  | 2, 0 => (9, 20) | 2, 1 => (3, 10) | 2, _ => (9, 50)
  | _, 0 => (9, 25) | _, 1 => (6, 25) | _, _ => (18, 125)

/-- Height of a rendition's band (R242). -/
def RendRec.bandH (r : RendRec) : Nat := if r.codec == 0 then 64 else r.ctu
/-- Width of a CTU column as the Spillway and the segments count it (R91, R242). -/
def RendRec.colW (r : RendRec) : Nat := if r.codec == 0 then 64 else r.ctu
def RendRec.bands (r : RendRec) (g : RungRec) : Nat := ceilDiv g.height r.bandH
def RendRec.colsOf (r : RendRec) (g : RungRec) : Nat := ceilDiv g.width r.colW

/-- Size of a segment, clipped to the picture (R102). -/
def segW (r : RendRec) (g : RungRec) (s : SegRec) : Nat :=
  if s.kind == 0 then min g.width ((s.first + s.count) * r.colW) - min g.width (s.first * r.colW) else g.width
def segH (r : RendRec) (g : RungRec) (s : SegRec) : Nat :=
  if s.kind == 0 then g.height else min g.height ((s.first + s.count) * r.bandH) - min g.height (s.first * r.bandH)
def segCycles (r : RendRec) (g : RungRec) (s : SegRec) (effort : Nat) : Nat :=
  let q := tarnRate r.codec effort
  cyc (pix (segW r g s) (segH r g s)) q.1 q.2

/-- The Tarn that carries a segment, under the placement in effect. -/
def Live.tarnOf (l : Live) (s : SegRec) : Nat := (l.place.find (16 * s.rendition + s.segment)).getD s.tarn

/-- Admitted cycles of Tarn `n` (R102), with the effort of each rendition given by `eff`. -/
def Structure.tarnLoad (t : Structure) (l : Live) (eff : Nat → Nat) (n : Nat) : Nat :=
  if 36 ≤ n then 0
  else sum ((t.segs.vals.filter (fun s => l.tarnOf s == n)).map (fun s =>
    segCycles (t.rends.get s.rendition) (t.rungOf s.rendition) s (eff s.rendition)))
def Structure.recEffort (t : Structure) (r : Nat) : Nat := (t.rends.get r).effort

/-- Lines of the program picture in a Headwater share (R102). -/
def shareLines (c : CourseRec) (h : HwRec) : Nat :=
  min c.height ((h.firstBand + h.bandCount) * c.bandHeight) - min c.height (h.firstBand * c.bandHeight)
def Structure.hwLoad (t : Structure) (u : Nat) : Nat :=
  sum ((t.hws.vals.filter (·.unit == u)).map (fun h =>
    let c := t.courses.get h.course
    cyc (c.width * shareLines c h) 8 5))
def Structure.mereLoad (c : CourseRec) : Nat := cyc (pix c.width c.height) 4 1
/-- The picture that a Cascade reads. -/
def Structure.cascadeSource (t : Structure) (c k : Nat) : RungRec :=
  match (t.rungsOf c).find? (fun r => r.cascade == k) with
  | some r => t.rungs.get (64 * c + r.source)
  | none => {}
def Structure.casLoad (t : Structure) (c k : Nat) : Nat :=
  let s := t.cascadeSource c k
  cyc (pix s.width s.height) 4 1
def Structure.fountInputs (t : Structure) (f : Nat) : List InputRec :=
  t.inputs.vals.filter (fun i => i.source == 1 && i.sourceIndex == f)
def Structure.fountLoad (t : Structure) (f : Nat) : Nat :=
  sum ((t.fountInputs f).map (fun i => cyc (pix i.width i.height) 67 100))

/-- The line-store fit of R103. -/
def lineFit (store srcW srcH dstH : Nat) : Bool :=
  if srcH ≤ dstH then decide (10 ≤ store / srcW) else decide (8 * ceilDiv srcH dstH + 2 ≤ store / srcW)
def mereStore : Nat := 294912
def cascadeStore : Nat := 589824

/-- Bytes per luma pixel of R104, in 216ths. -/
def bpp (sampling depth : Nat) : Nat :=
  match depth, sampling with
  | 8, 0 => 324 | 8, 1 => 432 | 8, 2 => 648 | 8, _ => 216
  | 10, 0 => 432 | 10, 1 => 576 | 10, 2 => 864 | 10, _ => 288
  | _, 0 => 648 | _, 1 => 864 | _, 2 => 1296 | _, _ => 432
def slotBytes (w h sampling depth : Nat) : Nat := ceilDiv (pix w h * bpp sampling depth) 216
def bufBytes (n : Nat) : Nat := roundUp n 65536
def blocks16 (w h : Nat) : Nat := ceilDiv w 16 * ceilDiv h 16

def Structure.maxReorder (t : Structure) (c : Nat) : Nat := maxOf ((t.rendsOf c).map (·.reorder))
def Structure.maxReorderOn (t : Structure) (c g : Nat) : Nat := maxOf (((t.rendsOf c).filter (·.rung == g)).map (·.reorder))

/-- Reference buffer of a rendition (R241): slots, motion fields, indexes and seam buffers. -/
def Structure.refBytes (t : Structure) (r : RendRec) : Nat :=
  let g := t.rungOf r.rendition
  let segs := t.segsOf r.rendition
  let seam := if (segs.head?.map (·.kind)).getD 0 == 0 then g.height else g.width
  (3 + r.reorder) * (slotBytes g.width g.height g.sampling r.depth + 12 * blocks16 g.width g.height) +
    (segs.length - 1) * ceilDiv (16 * seam * bpp g.sampling r.depth) 216

/-- Buffers of a course with the region of each (R22, R104). -/
def Structure.courseBuffers (t : Structure) (c : CourseRec) : List (Nat × Nat) :=
  let o := t.maxReorder c.course
  (t.inputsOf c.course).flatMap (fun i =>
    [(c.progRegion, bufBytes (i.slots * slotBytes i.width i.height i.sampling i.depth))] ++
      (if i.source == 1 then [(c.progRegion, bufBytes i.jitterBytes)] else [])) ++
  [(c.progRegion, bufBytes ((3 + o) * slotBytes c.width c.height c.sampling c.depth)),
   (c.progRegion, bufBytes ((2 + o) * (32 * blocks16 c.width c.height)))] ++
  ((t.rungsOf c.course).filter (·.rung != 1)).map (fun g =>
    (c.progRegion, bufBytes (g.slots * slotBytes g.width g.height g.sampling g.depth))) ++
  (t.rendsOf c.course).flatMap (fun r => [(c.refRegion, bufBytes (t.refBytes r)), (c.ringRegion, bufBytes r.ringBytes)])

/-- Bytes of a window that lie in a region. -/
def overlap (a n b m : Nat) : Nat := min (a + n) (b + m) - max a b

/-- Bytes placed in a region: buffers, those of `extra` (a structure being removed, R109) and function windows. -/
def Structure.regionUse (t : Structure) (extra : List (Nat × Nat)) (r : RegionRec) : Nat :=
  sum ((t.courses.vals.flatMap t.courseBuffers ++ extra).filterMap (fun b => if b.1 == r.region then some b.2 else none)) +
  sum (t.funcs.vals.map (fun f => overlap f.memBase f.memSize r.base r.size))

/-- R325: megabytes on one channel. -/
def Structure.channelBytes (t : Structure) (c : Nat) : Nat :=
  sum ((t.regions.vals.filter (fun r => bit r.chMask c)).map (fun r => r.size / popcount 32 r.chMask))

/-- Bytes per picture of a course by region, in 216ths (R105). -/
def Structure.courseTraffic (t : Structure) (c : CourseRec) : List (Nat × Nat) :=
  let prog := pix c.width c.height
  let ins := (t.inputsOf c.course).flatMap (fun i =>
    [(c.progRegion, pix i.width i.height * bpp i.sampling i.depth)] ++
      (if i.source == 1 then [(c.progRegion, 2 * pix i.width i.height * bpp i.sampling i.depth)] else []))
  let layers := (t.layersOf c.course).map (fun l =>
    if l.layer < 4 then
      let i := t.inputs.get (4 * c.course + l.source)
      (c.progRegion, pix i.width i.height * bpp i.sampling i.depth)
    else (c.progRegion, 4 * pix l.srcW l.srcH * 216))
  let cas := ((List.range 8).filter (fun k => (t.rungsOf c.course).any (fun r => r.cascade == k))).map (fun k =>
    let s := t.cascadeSource c.course k
    (c.progRegion, pix s.width s.height * bpp s.sampling s.depth +
      sum (((t.rungsOf c.course).filter (fun r => r.cascade == k)).map (fun r => pix r.width r.height * bpp r.sampling r.depth))))
  let tarns := (t.rendsOf c.course).flatMap (fun r =>
    let g := t.rungOf r.rendition
    let p := pix g.width g.height
    [(c.progRegion, p * bpp g.sampling g.depth + p * 27), (c.refRegion, p * bpp g.sampling r.depth * 20 / 9)])
  ins ++ layers ++ [(c.progRegion, prog * bpp c.sampling c.depth), (c.progRegion, prog * bpp 3 c.depth + prog * 27)] ++ cas ++ tarns

/-- Line rate of every formed port, bytes per second (R105). -/
def Structure.egressBytes (t : Structure) : Nat := sum (t.device.portCfg.map (fun p => portMbps p * 125000))

/-- Is channel `ch` over 80% (R105)? Every term is scaled to one denominator: 216ths of a byte, 32 channels, the
product of the periods' numerators, and the number of channels of the ring regions. -/
def Structure.channelOver (t : Structure) (extra : List (CourseRec × List (Nat × Nat))) (ch : Nat) : Bool :=
  let common := t.domains.vals.foldl (fun a d => a * max 1 d.num) 1
  let rings := (t.courses.vals.map (·.ringRegion)).foldl (fun a r => Nat.lor a (t.regions.get r).chMask) 0
  let nU := max 1 (popcount 32 rings)
  let terms := (t.courses.vals.map (fun c => (c, t.courseTraffic c)) ++ extra).flatMap (fun ct =>
    let d := t.domains.get ct.1.domain
    ct.2.map (fun x => (x.1, x.2 * d.den * (common / max 1 d.num))))
  let load := sum (terms.map (fun x =>
    let r := t.regions.get x.1
    if bit r.chMask ch then x.2 * 32 / max 1 (popcount 32 r.chMask) * nU else 0))
  let egress := if bit rings ch then t.egressBytes * 216 * common * 32 else 0
  decide (4096 * 1500000000 * 216 * 32 * common * nU < 100 * (load + egress))

/-! ### Units, spill sizes (R245, R264) -/

/-- Tile columns of a rendition (R245): an AV1 column wider than 4,096 samples is split. -/
def unitCols (r : RendRec) (g : RungRec) (segs : List SegRec) : Nat :=
  let part (w : Nat) := if r.codec == 2 then ceilDiv w 4096 else 1
  if (segs.head?.map (·.kind)).getD 1 == 0 then sum (segs.map (fun s => part (segW r g s))) else part g.width

/-- Rows of units for a step of `u` bands. -/
def unitRows (r : RendRec) (g : RungRec) (segs : List SegRec) (u : Nat) : Nat :=
  if (segs.head?.map (·.kind)).getD 1 == 0 then ceilDiv (r.bands g) u
  else sum (segs.map (fun s => ceilDiv s.count u))

/-- u of R245, the smallest that fits the level; none where no step fits. -/
def Structure.unitStep (t : Structure) (r : RendRec) : Option Nat :=
  let g := t.rungOf r.rendition
  let d := t.domains.get (t.courses.get r.course).domain
  let lim := levelLimits r g.width g.height d.num d.den
  let segs := t.segsOf r.rendition
  let cols := unitCols r g segs
  if lim.cols < cols then none
  else ((List.range (r.bands g)).map (· + 1)).find? (fun u => decide (cols * unitRows r g segs u ≤ lim.units))

/-- Bits of a spilled CTU on an inter and on a key picture, bits of a unit, and cycles of a CTU (R264). -/
def spillCtu (codec ctu : Nat) : Nat × Nat × Nat × Nat :=
  let big := ctu == 128
  match codec with
  | 0 => (8, 64, 160, 12)
  | 1 => (4, 24, 192, 12)
  | 2 => if big then (8, 48, 96, 48) else (4, 24, 96, 12)
  | _ => if big then (8, 48, 256, 48) else (4, 24, 256, 12)

/-- N and M of R264. -/
def Structure.ctuCount (t : Structure) (r : RendRec) : Nat := r.colsOf (t.rungOf r.rendition) * r.bands (t.rungOf r.rendition)
def Structure.unitCount (t : Structure) (r : RendRec) : Nat :=
  let g := t.rungOf r.rendition
  let segs := t.segsOf r.rendition
  unitCols r g segs * unitRows r g segs ((t.unitStep r).getD 1)
/-- S_I and S_K. -/
def Structure.spillInter (t : Structure) (r : RendRec) : Nat :=
  let q := spillCtu r.codec r.ctu
  t.ctuCount r * q.1 + t.unitCount r * q.2.2.1
def Structure.spillKey (t : Structure) (r : RendRec) : Nat :=
  let q := spillCtu r.codec r.ctu
  t.ctuCount r * q.2.1 + t.unitCount r * q.2.2.1
/-- Z_I and Z_K. -/
def Structure.zInter (t : Structure) (r : RendRec) : Nat := 1024 + t.spillInter r
def Structure.zKey (t : Structure) (r : RendRec) : Nat := 8192 + t.spillKey r

/-- R265 for a MAX_RATE and BUF_SIZE. -/
def Structure.bucketOk (t : Structure) (r : RendRec) (maxRate bufSize : Nat) : Bool :=
  let d := t.domains.get (t.courses.get r.course).domain
  let buf := bufSize * 1000
  decide (t.zInter r < maxRate * 1000 * d.num / d.den) && decide (t.zKey r ≤ buf) &&
    decide (t.zKey r ≤ r.initFullness * buf / 1024)
/-- R238 and R265 and the bound of R90, for a MAX_RATE and BUF_SIZE (images and RC_SET). -/
def Structure.rateOk (t : Structure) (r : RendRec) (maxRate bufSize : Nat) : Bool :=
  let g := t.rungOf r.rendition
  let d := t.domains.get (t.courses.get r.course).domain
  (levelLimits { r with maxRate := maxRate, bufSize := bufSize } g.width g.height d.num d.den).ok &&
    decide (maxRate * d.num ≤ bufSize * d.den) && t.bucketOk r maxRate bufSize
/-- R293. -/
def ringFits (r : RendRec) (bufSize : Nat) : Bool :=
  decide (popcount 4 r.payload * max 1048576 (bufSize * 250) ≤ r.ringBytes)

/-! ### The course delay (R71) -/

/-- The timing input of a course (R69). -/
def Structure.timingInput (t : Structure) (c : Nat) : InputRec := (t.inputsOf c).head?.getD {}
/-- Longest chain of Cascade stages below a rung, in source widths (R210). -/
def Structure.chainWidth (t : Structure) (c : Nat) : Nat → Nat → Nat
  | 0, _ => 0
  | fuel + 1, g =>
    let kids := (t.rungsOf c).filter (fun r => r.rung != 1 && r.source == g)
    if kids.isEmpty then 0
    else (t.rungs.get (64 * c + g)).width + maxOf (kids.map (fun k => t.chainWidth c fuel k.rung))

/-- D_MIN of R71 in cycles, terms in whole cycles rounded up as the worked examples do. -/
def Structure.dMin (t : Structure) (l : Live) (eff : Nat → Nat) (c : CourseRec) : Nat :=
  let w := t.win c.domain
  let om := oMax l.timeout t.pair.enabled
  let tl := max 1 (t.timingInput c.course).totalLines
  let lead := maxOf ((t.inputsOf c.course).map (fun i =>
    match i.source with
    | 0 => ceilDiv (i.leadBands * 64 * w) tl
    | 1 => om + ceilDiv (i.leadBands * i.width * 64 * 100) 67
    | _ => om))
  let mere := ceilDiv (c.width * c.bandHeight) 4
  let hw := ceilDiv (c.width * c.bandHeight * 5) 8
  let cas := ceilDiv (t.chainWidth c.course 48 1 * c.bandHeight) 4
  let tarns := ((t.rendsOf c.course).flatMap (fun r => (t.segsOf r.rendition).map l.tarnOf)).eraseDups
  let tarn := maxOf (tarns.map (fun n => ceilDiv (t.tarnLoad l eff n * c.bandHeight) c.height))
  lead + mere + max hw cas + tarn + 96

/-- Does delay D satisfy R71? -/
def Structure.delayOk (t : Structure) (l : Live) (eff : Nat → Nat) (c : CourseRec) (lo hi : Nat) : Bool :=
  let tl := (t.timingInput c.course).totalLines
  decide (t.dMin l eff c * tl ≤ lo * t.win c.domain) && decide (hi ≤ 4 * tl)

end Sys2Proof.Machine
end

