-- ==== Sys2Proof/Machine/ImageCheck.lean ====
section
/-! DEFINITION. ImageCheck.lean: the structure that an image would result in, and the checks of R101 in their order. -/

namespace Sys2Proof.Machine

/-! ### The resulting structure -/

/-- Take a course and its children out; its subscribers go with it when `subs` (R110). -/
def Structure.dropCourse (t : Structure) (c : Nat) (subs : Bool) : Structure :=
  let rends := (t.rendsOf c).map (·.rendition)
  { t with
    courses := t.courses.del c
    inputs := t.inputs.keep (fun _ i => i.course != c)
    layers := t.layers.keep (fun _ l => l.course != c)
    rungs := t.rungs.keep (fun _ g => g.course != c)
    rends := t.rends.keep (fun _ r => r.course != c)
    segs := t.segs.keep (fun _ s => !rends.contains s.rendition)
    hws := t.hws.keep (fun _ h => h.course != c)
    protects := t.protects.keep (fun _ p => p.course != c)
    subs := if subs then t.subs.keep (fun _ u => !rends.contains u.rendition) else t.subs }

/-- One record applied (R75, R107, R108). ACTION 2 removes; a course under REPLACE loses its old children. -/
def Structure.addRec (t : Structure) : Rec → Structure
  | .device r => { t with device := r }
  | .domain r => { t with domains := t.domains.set r.domain r }
  | .region r => { t with regions := t.regions.set r.region r }
  | .function r => { t with funcs := t.funcs.set r.function r }
  | .qos r => { t with qos := r }
  | .pair r => { t with pair := r }
  | .course 2 r => t.dropCourse r.course true
  | .course 1 r => let t := t.dropCourse r.course false; { t with courses := t.courses.set r.course r }
  | .course _ r => { t with courses := t.courses.set r.course r }
  | .input r => { t with inputs := t.inputs.set (4 * r.course + r.input) r }
  | .layer r => { t with layers := t.layers.set (12 * r.course + r.layer) r }
  | .rung r => { t with rungs := t.rungs.set (64 * r.course + r.rung) r }
  | .rend r => { t with rends := t.rends.set r.rendition r }
  | .seg r => { t with segs := t.segs.set (16 * r.rendition + r.segment) r }
  | .hw r => { t with hws := t.hws.set (8 * r.course + r.unit) r }
  | .protect r => { t with protects := t.protects.set r.course r }
  | .inflow 2 r => { t with inflows := t.inflows.del r.inflow }
  | .inflow _ r => { t with inflows := t.inflows.set r.inflow r }
  | .service 2 r => { t with services := t.services.del r.service }
  | .service _ r => { t with services := t.services.set r.service r }
  | .sub 2 r => { t with subs := t.subs.del r.subscriber }
  | .sub _ r => { t with subs := t.subs.set r.subscriber r }
  | _ => t

def Structure.addRecs (t : Structure) (rs : List Rec) : Structure := rs.foldl Structure.addRec t

/-- Does a record only remove? -/
def Rec.isRemove : Rec → Bool
  | .course 2 _ | .inflow 2 _ | .service 2 _ | .sub 2 _ => true
  | _ => false

/-- Every record of a structure. -/
def Structure.all (t : Structure) : List Rec :=
  [.device t.device] ++ t.domains.vals.map .domain ++ t.regions.vals.map .region ++ t.funcs.vals.map .function ++
  t.courses.vals.map (.course 0) ++ t.inputs.vals.map .input ++ t.layers.vals.map .layer ++ t.rungs.vals.map .rung ++
  t.rends.vals.map .rend ++ t.segs.vals.map .seg ++ t.hws.vals.map .hw ++ t.inflows.vals.map (.inflow 0) ++
  t.services.vals.map (.service 0) ++ t.subs.vals.map (.sub 0) ++ t.protects.vals.map .protect

/-! ### Rules over the structure -/

def Structure.portFormed (t : Structure) (p : Nat) : Bool := portLanes (t.device.portCfg.getD p 0) != 0
/-- Is the range of `n` bytes at `a` inside regions that function `f` may write (R82, R93)? -/
def Structure.writable (t : Structure) (f a n : Nat) : Bool :=
  sum ((t.regions.vals.filter (fun r => bit r.writers f)).map (fun r => overlap a n r.base r.size)) == n
def Structure.surfaceOk (t : Structure) (owner surface pitch h : Nat) : Bool := t.writable owner surface (max 1 (pitch * h))

/-- R197: the alignment of a surface and its pitch over `w` pixels. -/
def pitchOk (surface pitch w : Nat) : Bool :=
  surface % 64 == 0 && pitch % 64 == 0 && decide (4 * w ≤ pitch) && decide (pitch ≤ 65536)

/-- R205: the limits of a layer's geometry. -/
def geometryOk (c : CourseRec) (video : Bool) (inW inH : Nat) (g : Geometry) : Bool :=
  [g.dstX, g.dstY, g.dstW, g.dstH, g.srcW, g.srcH].all (fun v => v % 2 == 0) &&
  decide (g.dstX < c.width) && decide (g.dstY < c.height) &&
  decide (8 ≤ g.dstW) && decide (8 ≤ g.dstH) && decide (8 ≤ g.srcW) && decide (8 ≤ g.srcH) &&
  (if video then decide (g.srcW ≤ inW) && decide (g.srcH ≤ inH) && decide (g.dstW ≤ 8 * g.srcW) &&
      decide (g.dstH ≤ 8 * g.srcH) && decide (g.srcW ≤ 16 * g.dstW)
    else g.dstW == g.srcW && g.dstH == g.srcH)

def LayerRec.geo (l : LayerRec) : Geometry :=
  { dstX := l.dstX, dstY := l.dstY, dstW := l.dstW, dstH := l.dstH, srcW := l.srcW, srcH := l.srcH }
def Geometry.absent (g : Geometry) : Bool := g == {}

/-- Largest codec QP (R90 SEED_QP, by the codec's own scale). -/
def maxQp (codec : Nat) : Nat := match codec with | 0 => 51 | 1 => 51 | 2 => 255 | _ => 63

/-- 0x0E, the rules that need other records. -/
def Structure.fieldFault (t : Structure) : Rec → Bool
  | .domain r => r.ptpDomain != (t.domains.vals.head?.getD {}).ptpDomain
  | .region r => t.regions.vals.any (fun q => decide (q.region < r.region) && overlap q.base q.size r.base r.size != 0)
  | .function r =>
    decide (64 < sum ((t.funcs.vals.filter (fun f => f.enabled && decide (f.function ≤ r.function))).map (·.sluice))) ||
    (r.function != 0 && r.memSize != 0 &&
      (t.funcs.vals.any (fun q => q.function != 0 && decide (q.function < r.function) && overlap q.memBase q.memSize r.memBase r.memSize != 0) ||
       !t.writable r.function r.memBase r.memSize))
  | .layer l =>
    let c := t.courses.get l.course
    let i := t.inputs.get (4 * l.course + l.source)
    (if l.geo.absent then l.enabled else !geometryOk c (l.layer < 4) i.width i.height l.geo) ||
    (t.layersOf l.course).any (fun q => decide (q.layer < l.layer) && q.z == l.z) ||
    (decide (4 ≤ l.layer) && l.surface != 0 && !(pitchOk l.surface l.pitch l.srcW && t.surfaceOk c.owner l.surface l.pitch l.srcH))
  | .rung g =>
    let c := t.courses.get g.course
    let s := t.rungs.get (64 * g.course + g.source)
    let sibs := (t.rungsOf g.course).filter (fun q => g.rung != 1 && q.cascade == g.cascade && decide (q.rung ≤ g.rung))
    (if g.rung == 1 then g.width != c.width || g.height != c.height || g.sampling != c.sampling || g.depth != c.depth
      else t.rungs.has (64 * g.course + g.source) &&
        (decide (s.width < g.width) || decide (s.height < g.height) || g.sampling != s.sampling || g.depth != s.depth)) ||
    decide (g.slots < 3 + t.maxReorderOn g.course g.rung) || decide (6 < sibs.length) || sibs.any (fun q => q.source != g.source)
  | .rend r =>
    let g := t.rungOf r.rendition
    decide (g.depth < r.depth) || !profileAdmits r.codec r.profile g.sampling r.depth ||
    decide (maxQp r.codec < r.seedQp) || !t.rateOk r r.maxRate r.bufSize
  | .inflow _ f => let p := t.inflows.get f.mergePeer
      f.mergePeer != 65535 && (p.mergePeer != f.inflow || p.kind != f.kind || p.owner != f.owner)
  | .service _ r => !t.portFormed r.port
  | .sub _ r =>
    (!r.pass && !bit (t.rends.get r.rendition).payload r.payload) ||
    (r.dup && (r.port2 == (t.services.get r.service).port || !t.portFormed r.port2))
  | .protect p =>
    let c := t.courses.get p.course
    decide (c.width < p.x + p.w) || decide (c.height < p.y + p.h) || (t.pair.enabled && decide (14 ≤ p.checkUnit)) ||
    t.protects.vals.any (fun q => decide (q.course < p.course) && q.checkUnit == p.checkUnit)
  | _ => false

/-- 0x0F: an index names a record, port or object absent from the resulting structure. -/
def Structure.refFault (t : Structure) : Rec → Bool
  | .course _ c => !t.domains.has c.domain || !t.funcs.has c.owner ||
      !(t.regions.has c.progRegion && t.regions.has c.refRegion && t.regions.has c.ringRegion) || !t.rungs.has (64 * c.course + 1)
  | .input i => !t.courses.has i.course ||
      (i.source == 0 && !(t.inflows.has i.sourceIndex && (t.inflows.get i.sourceIndex).kind == 0))
  | .layer l => !t.courses.has l.course || (decide (l.layer < 4) && !t.inputs.has (4 * l.course + l.source))
  | .rung g => !t.courses.has g.course || (g.rung != 1 && !t.rungs.has (64 * g.course + g.source))
  | .rend r => !t.courses.has r.course || !t.rungs.has (64 * r.course + r.rung) ||
      (bit r.payload 3 && (let c := t.courses.get r.course; let w := t.funcs.get c.owner; let g := t.regions.get c.ringRegion
        c.owner != 0 && overlap g.base g.size w.memBase w.memSize != g.size))
  | .seg s => !t.rends.has s.rendition
  | .hw h => !t.courses.has h.course
  | .inflow _ f => !t.portFormed f.port || !t.funcs.has f.owner ||
      (f.mergePeer != 65535 && !t.inflows.has f.mergePeer) ||
      ((f.kind == 1 || f.kind == 2) && !(t.subs.has f.passSub && (t.subs.get f.passSub).pass))
  | .service _ v => !t.funcs.has v.owner
  | .sub _ u => !t.rends.has u.rendition || !t.services.has u.service ||
      ((t.services.get u.service).owner != 0 && (t.services.get u.service).owner != t.courseOwner (t.courseOfRend u.rendition))
  | .protect p => !t.courses.has p.course || !t.funcs.has p.owner || !t.regions.has p.region
  | _ => false

/-- The key of an inflow (R146). -/
def InflowRec.key (f : InflowRec) : Nat × Nat × Nat × Nat × Nat := (f.port, f.vlan, f.dstIp, f.dstUdp, f.srcIp)

/-- Domains of the courses that a unit serves. -/
def Structure.unitCourses (t : Structure) (l : Live) (base n : Nat) : List Nat :=
  let cs : List Nat := match base with
  | 0x1000 => (t.segs.vals.filter (fun s => l.tarnOf s == n)).map (fun s => t.courseOfRend s.rendition)
  | 0x1100 => (t.hws.vals.filter (·.unit == n)).map (·.course)
  | 0x1200 => (t.fountInputs n).map (·.course)
  | 0x1300 => (t.courses.vals.filter (·.mere == n)).map (·.course)
  | 0x1400 => (t.rungs.vals.filter (fun g => g.rung != 1 && g.cascade == n)).map (·.course)
  | _ => []
  cs.eraseDups
def Structure.unitDomains (t : Structure) (l : Live) (base n : Nat) : List Nat :=
  ((t.unitCourses l base n).map (fun c => (t.courses.get c).domain)).eraseDups
def Structure.clusterDomains (t : Structure) (l : Live) (k : Nat) : List Nat :=
  ((List.range 4).flatMap (fun i => t.unitDomains l 0x1000 (4 * k + i))).eraseDups
def manyDomains (l : List Nat) : Bool := decide (1 < l.length)

/-- Sum of the CIR of a service's subscribers and of a port's services (R316). -/
def Structure.childCir (t : Structure) (v : Nat) : Nat := sum ((t.subs.vals.filter (·.service == v)).map (·.rates.cir))
def Structure.portCir (t : Structure) (p : Nat) : Nat := sum ((t.services.vals.filter (·.port == p)).map (·.rates.cir))
/-- A port's own PIR in 8 kbit/s units: its line rate until host software writes one. -/
def Structure.portPir (t : Structure) (p : Nat) : Nat := portMbps (t.device.portCfg.getD p 0) * 125

def Structure.segMapOk (t : Structure) (r : RendRec) : Bool :=
  let g := t.rungOf r.rendition
  let segs := (t.segsOf r.rendition).mergeSort (fun a b => a.first ≤ b.first)
  let kind := (segs.head?.map (·.kind)).getD 0
  let total := if kind == 0 then ceilDiv g.width (if r.codec == 0 then 16 else r.ctu) else r.bands g
  let cover := segs.foldl (fun (a : Option Nat) s => match a with
    | some n => if s.first == n && s.kind == kind then some (n + s.count) else none
    | none => none) (some 0)
  cover == some total && (t.unitStep r).isSome &&
  (kind == 1 || (r.codec != 0 && (segs.dropLast).all (fun s => decide (256 ≤ segW r g s))))

def Structure.hwMapOk (t : Structure) (c : CourseRec) : Bool :=
  let hs := (t.hwsOf c.course).mergeSort (fun a b => a.firstBand ≤ b.firstBand)
  hs.foldl (fun (a : Option Nat) h => match a with
    | some n => if h.firstBand == n then some (n + h.bandCount) else none
    | none => none) (some 0) == some (ceilDiv c.height c.bandHeight)

/-- Quotas of R83 exceeded by function `f`. -/
def Structure.quotaFault (t : Structure) (f : Nat) : Bool :=
  let r := t.funcs.get f
  let cs := t.courses.vals.filter (·.owner == f)
  let svcs := t.services.vals.filter (·.owner == f)
  decide (r.maxCourses < cs.length) ||
  decide (r.maxRenditions < (t.rends.vals.filter (fun x => t.courseOwner x.course == f)).length) ||
  decide (r.maxSubscribers < (t.subs.vals.filter (fun u => (t.services.get u.service).owner == f)).length) ||
  decide (r.maxServices < svcs.length) || decide (r.maxInflows < (t.inflows.vals.filter (·.owner == f)).length)

/-- Ports whose lanes overlap or are misaligned (R80). -/
def DeviceRec.portMapBad (d : DeviceRec) : Bool :=
  let used := (d.portCfg.filter (fun p => portLanes p != 0)).map (fun p => (portFirst p, portLanes p))
  used.any (fun p => p.1 % p.2 != 0 || decide (32 < p.1 + p.2)) ||
  (let lanes := used.flatMap (fun p => (List.range p.2).map (· + p.1))
   lanes.eraseDups.length != lanes.length)

/-- Admission context: the structure, the live resources, the buffers and traffic of structures being removed (R109). -/
structure AdmCtx where
  t : Structure := {}
  l : Live := {}
  extra : List (Nat × Nat) := []
  extraTraffic : List (CourseRec × List (Nat × Nat)) := []

/-- The admission reasons of R101 in their order, each with the records that fail it. -/
def admissionReasons (x : AdmCtx) : List (Nat × (Rec → Bool)) :=
  let t := x.t; let l := x.l; let eff := t.recEffort
  [(0x20, fun r => match r with
      | .seg s => decide (32 < (t.segs.vals.filter (fun q => q.tarn == s.tarn)).length)
      | .hw h => decide (16 < (t.hws.vals.filter (fun q => q.unit == h.unit)).length)
      | .input i => i.source == 1 && decide (8 < (t.fountInputs i.sourceIndex).length)
      | .service _ v => decide (v.rates.pir < t.childCir v.service) || decide (t.portPir v.port < t.portCir v.port)
      | _ => false),
   (0x21, fun r => match r with
      | .course _ c => decide (1 < (t.unitCourses l 0x1300 c.mere).length) || (c.fixed && (t.domains.get c.domain).mode == 1)
      | .rung g => g.rung != 1 && decide (1 < (t.unitCourses l 0x1400 g.cascade).length)
      | .input i => i.source == 1 && manyDomains (t.unitDomains l 0x1200 i.sourceIndex)
      | .hw h => manyDomains (t.unitDomains l 0x1100 h.unit)
      | .seg s => manyDomains (t.clusterDomains l (s.tarn / 4))
      | _ => false),
   (0x22, fun r => match r with
      | .function f => t.quotaFault f.function
      | _ => false),
   (0x23, fun r => match r with
      | .device d => decide (l.count 0x1000 36 < d.minTarns) || decide (l.channels < d.minChannels) ||
          decide (l.count 0x1100 8 < d.minHeadwater) || decide (l.count 0x1200 8 < d.minFounts) ||
          decide (l.count 0x1300 8 < d.minMeres) || decide (l.count 0x1400 8 < d.minCascades)
      | .region g => l.excluded.any (bit g.chMask)
      | .course _ c => !l.unit 0x1300 c.mere
      | .input i => i.source == 1 && !l.unit 0x1200 i.sourceIndex
      | .rung g => g.rung != 1 && !l.unit 0x1400 g.cascade
      | .seg s => !l.tarn (l.tarnOf s)
      | .hw h => !l.unit 0x1100 h.unit
      | _ => false),
   (0x24, fun r => match r with
      | .domain d => !guardFits d.num d.den (guardNs d.guard) l.timeout t.pair.enabled
      | _ => false),
   (0x25, fun r => match r with
      | .course _ c => c.fixed && (!t.delayOk l eff c c.delayLines c.delayLines || (t.domains.get c.domain).mode == 1 ||
          (t.rendsOf c.course).any (fun q => (q.codec == 1 || q.codec == 3) && q.payload / 2 != 0 &&
            decide (1 < unitCols q (t.rungOf q.rendition) (t.segsOf q.rendition))))
      | .input i => i.source == 1 && decide (1 < ((t.fountInputs i.sourceIndex).filter (fun q => (t.courses.get q.course).fixed)).length)
      | .hw h => (t.unitCourses l 0x1100 h.unit).any (fun c => (t.courses.get c).fixed) && decide (1 < (t.unitCourses l 0x1100 h.unit).length)
      | _ => false),
   (0x26, fun r => match r with
      | .seg s => decide (t.cap (t.courses.get (t.courseOfRend s.rendition)).domain < t.tarnLoad l eff (l.tarnOf s))
      | _ => false),
   (0x27, fun r => match r with
      | .hw h => decide (t.cap (t.courses.get h.course).domain < t.hwLoad h.unit)
      | .course _ c => decide (t.cap c.domain < Structure.mereLoad c) ||
          decide (4 * pix c.width c.height < sum (((t.layersOf c.course).filter (fun y => y.enabled && decide (y.layer < 4))).map (fun y => y.srcW * y.srcH)))
      | .rung g => g.rung != 1 && decide (t.cap (t.courses.get g.course).domain < t.casLoad g.course g.cascade)
      | .input i => i.source == 1 && decide (t.cap (t.courses.get i.course).domain < t.fountLoad i.sourceIndex)
      | _ => false),
   (0x28, fun r => match r with
      | .layer y => decide (y.layer < 4) && !y.geo.absent && !lineFit mereStore y.srcW y.srcH y.dstH
      | .rung g => g.rung != 1 && (let s := t.cascadeSource g.course g.cascade; !lineFit cascadeStore s.width s.height g.height)
      | _ => false),
   (0x29, fun r => match r with
      | .region g => decide (g.size < t.regionUse x.extra g) ||
          (bitsSet 32 g.chMask).any (fun c => !l.excluded.contains c && decide (1534 * 1048576 < t.channelBytes c))
      | .rend q => !ringFits q q.bufSize
      | _ => false),
   (0x2A, fun r => match r with
      | .region g => (bitsSet 32 g.chMask).any (t.channelOver x.extraTraffic) || (g.cls == 0 && l.selfRefresh.any (bit g.chMask))
      | _ => false),
   (0x2B, fun r => match r with
      | .protect p => let g := t.regions.get p.region
          g.writers != 2 ^ p.owner || overlap p.surface (p.pitch * p.h) g.base g.size != p.pitch * p.h
      | _ => false),
   (0x2C, fun r => match r with
      | .rend q => !t.segMapOk q
      | .seg s => t.device.sparesExplicit && bit t.device.spareMask s.tarn
      | .course _ c => !t.hwMapOk c
      | _ => false),
   (0x2D, fun r => match r with
      | .device d => d.portMapBad
      | _ => false)]

/-- The first admission reason that fails, with the index of the failing record in the image (0 where the failing
record is not one of the image's). -/
def admitRecs (x : AdmCtx) (recs : List Rec) : Option (Nat × Nat) :=
  (admissionReasons x).findSome? (fun r =>
    match recs.findIdx? (fun y => !y.isRemove && r.2 y) with
    | some i => some (r.1, i)
    | none => if x.t.all.any r.2 then some (r.1, 0) else none)

/-! ### The checks of R101 -/

/-- What the checks need of the machine. -/
structure CheckCtx where
  running : Structure := {}       -- the running structure
  chain : Structure := {}         -- with every pending partial image applied
  pendingRecs : List Rec := []    -- records of those pending partial images
  accSeq : Nat := 0
  floor : Nat := 0
  programmed : List Bool := []
  revoked : List Bool := []
  keys : Tab Bytes := []
  live : Live := {}
  peer : Option Nat := none       -- an image from the peer: the IMAGE_SEQ received before it (R392)
  fromPeer : Bool := false
deriving Inhabited

/-- Courses of the running structure that a set of records removes or replaces (R109). -/
def touchedCourses (recs : List Rec) : List Nat :=
  recs.filterMap (fun r => match r with | .course 1 c => some c.course | .course 2 c => some c.course | _ => none)

/-- 0x10: two records with one index; a number in use (R101, R150). -/
def dupFault (isPartial : Bool) (chain result : Structure) (raws : List Raw) (recs : List Rec) : Option Nat :=
  let twice := firstBadPair (fun a b => !(a.type == b.type && a.index == b.index)) raws 0
  let gone := touchedCourses recs
  let inUse (r : Rec) : Bool := isPartial && (match r with
    | .course 0 c => chain.courses.has c.course
    | .rend q => chain.rends.has q.rendition && !gone.contains (chain.courseOfRend q.rendition)
    | .sub 0 u => chain.subs.has u.subscriber
    | .inflow 0 f => chain.inflows.has f.inflow
    | .service 0 v => chain.services.has v.service
    | _ => false)
  let keyTwice (r : Rec) : Bool := match r with
    | .inflow a f => a != 2 && result.inflows.vals.any (fun g => g.inflow != f.inflow && g.key == f.key &&
        (decide (g.inflow < f.inflow) || (isPartial && chain.inflows.has g.inflow)))
    | _ => false
  match twice, recs.findIdx? (fun r => inUse r || keyTwice r) with
  | some i, some j => some (min i j)
  | some i, none => some i
  | none, j => j

/-- A REPLACE or REMOVE of an object that does not exist (0x0F). -/
def absentFault (chain : Structure) : Rec → Bool
  | .course a c => a != 0 && !chain.courses.has c.course
  | .inflow a f => a != 0 && !chain.inflows.has f.inflow
  | .service a v => a != 0 && !chain.services.has v.service
  | .sub a u => a != 0 && !chain.subs.has u.subscriber
  | _ => false

/-- A child record whose course, or rendition, has no ADD or REPLACE record in the image (R77). -/
def orphan (recs : List Rec) (r : Rec) : Bool :=
  let hasCourse (c : Nat) := recs.any (fun q => match q with | .course a x => a != 2 && x.course == c | _ => false)
  match r with
  | .input i => !hasCourse i.course
  | .layer i => !hasCourse i.course
  | .rung i => !hasCourse i.course
  | .rend i => !hasCourse i.course
  | .hw i => !hasCourse i.course
  | .protect i => !hasCourse i.course
  | .seg s => !recs.any (fun q => match q with | .rend x => x.rendition == s.rendition | _ => false)
  | _ => false

/-- The verdict on an image: accepted with its header, records and resulting structure, or refused. -/
inductive Verdict where
  | accepted (h : HeaderRec) (recs : List Rec) (t : Structure)
  | refused (reason record : Nat)
deriving DecidableEq, Repr, Inhabited

/-- The first failing step of a list of checks. -/
def firstSome : List (Option Nat × Nat) → Option (Nat × Nat)
  | [] => none
  | (some i, c) :: _ => some (c, i)
  | (none, _) :: r => firstSome r

def okAt (b : Bool) (i : Nat) : Option Nat := if b then none else some i

/-- TIMEOUT as an image sets it (R84). -/
def QosRec.timeoutSet (q : QosRec) : Nat := if q.timeout == 0 then 4096 else q.timeout

/-- The checks of R101, in order, on the bytes of an image. -/
def checkImage (x : CheckCtx) (b : Bytes) : Verdict :=
  let h := readHeader b
  let w := walk (b.length / 8 + 1) b []
  let raws := w.1
  let isPartial := h.kind == 1
  let recs := raws.map Raw.toRec
  let result := if isPartial then x.chain.addRecs recs else Structure.addRecs {} recs
  let gone := touchedCourses (x.pendingRecs ++ recs)
  let old := if isPartial then x.running.courses.vals.filter (fun c => gone.contains c.course) else []
  let redone := (x.pendingRecs ++ recs).filterMap (fun r => match r with | .rend q => some q.rendition | _ => none)
  let sigAt := (raws.findIdx? (fun r => r.type == 0xFFF0)).getD 0
  let sig := (raws.find? (fun r => r.type == 0xFFF0)).getD {}
  let signed := b.take (sum ((raws.take sigAt).map (fun r => r.bytes.length)))
  let seqOk := if x.fromPeer then true
    else if isPartial then decide (x.accSeq < h.imageSeq)
    else decide (x.accSeq < h.imageSeq) && decide (x.floor ≤ h.imageSeq)
  let baseOk := if !isPartial then true
    else if x.fromPeer then some h.baseSeq == x.peer
    else h.baseSeq == x.accSeq
  let firsts := [
    (okAt (u16 b 0 == 1 && h.magic == 0x4F5A4349) 0, 0x01),
    (okAt (h.version == 0x0102) 0, 0x02),
    (okAt (h.part == 0x9600) 0, 0x03),
    (okAt (decide (h.totalLength ≤ 16777216) && h.totalLength % 8 == 0 && h.totalLength == b.length) 0, 0x04),
    (framingFault h raws w.2, 0x05),
    (orderFault isPartial raws, 0x06),
    (okAt (h.hashAlg == 1) 0, 0x07),
    (okAt (x.programmed.getD h.keySlot false) 0, 0x08),
    (okAt (!x.revoked.getD h.keySlot false) 0, 0x09),
    (okAt (Config.verifySignature (x.keys.get h.keySlot) signed (beNat (slice sig.bytes 8 48)) (beNat (slice sig.bytes 56 48))) sigAt, 0x0A),
    (okAt seqOk 0, 0x0B),
    (okAt baseOk 0, 0x0C),
    (firstBad raws Raw.reservedZero, 0x0D),
    (raws.findIdx? (fun r => !(r.actionOk isPartial && r.inRange && r.toRec.fieldsOk) || (!r.toRec.isRemove && result.fieldFault r.toRec)), 0x0E),
    (match recs.findIdx? (fun r => orphan recs r || absentFault x.chain r || (!r.isRemove && result.refFault r)) with
      | some i => some i
      | none => if result.all.any result.refFault then some 0 else none, 0x0F),
    (dupFault isPartial x.chain result raws recs, 0x10),
    (okAt (!isPartial || !raws.any (fun r => fullOnly r.type)) ((raws.findIdx? (fun r => fullOnly r.type)).getD 0), 0x11)]
  match firstSome firsts with
  | some (c, i) => .refused c i
  | none =>
    let live : Live :=
      if isPartial then { x.live with place := x.live.place.keep (fun k _ => !redone.contains (k / 16)) }
      else { x.live with place := [], timeout := result.qos.timeoutSet }
    match admitRecs { t := result, l := live
                      extra := old.flatMap x.running.courseBuffers
                      extraTraffic := old.map (fun c => (c, x.running.courseTraffic c)) } recs with
    | some (c, i) => .refused c i
    | none => .accepted h recs result

end Sys2Proof.Machine
end

