-- ==== Sys2Proof/Machine/Pixels.lean ====
section
/-! DEFINITION. Pixels.lean: the arithmetic of samples: packing, depth, scaling, matrices, tables, blending and chroma
(R22, R181, R184, R192 to R197, R208, R213). -/

namespace Sys2Proof.Machine

/-! ### Components (R22, R18) -/

/-- Width and height of component `k` of a picture: sampling 0 is 4:2:0, 1 is 4:2:2, 2 is 4:4:4. -/
def compW (sampling w k : Nat) : Nat := if k == 0 || sampling == 2 then w else w / 2
def compH (sampling h k : Nat) : Nat := if k == 0 || sampling != 0 then h else h / 2

def Pix.comp (p : Pix) (k : Nat) : Plane := match k with | 0 => p.c0 | 1 => p.c1 | _ => p.c2
def Pix.map (p : Pix) (f : Nat → Plane → Plane) : Pix := { c0 := f 0 p.c0, c1 := f 1 p.c1, c2 := f 2 p.c2 }
def Plane.at (p : Plane) (x y : Nat) : Nat := (p.getD y []).getD x 0
/-- A band of `w` × `h` luma samples, given sample by sample. -/
def Pix.make (sampling w h : Nat) (f : Nat → Nat → Nat → Nat) : Pix :=
  let plane (k : Nat) : Plane :=
    (List.range (compH sampling h k)).map (fun y => (List.range (compW sampling w k)).map (fun x => f k x y))
  { c0 := plane 0, c1 := plane 1, c2 := plane 2 }

/-- Black (R18): luma at the black level, chroma neutral; R, G and B at the black level (assumption log entry 101). -/
def blackSample (depth k : Nat) (rgb : Bool) : Nat := if k == 0 || rgb then 2 ^ (depth - 4) else 2 ^ (depth - 1)

/-- An index held inside `n` samples: the nearest edge sample stands for one outside. -/
def clampTo (n : Nat) (i : Int) : Nat := min i.toNat (n - 1)
/-- A value held between 0 and `hi`. -/
def clip (hi : Nat) (v : Int) : Nat := min v.toNat hi

/-- The sample at place `i` of a picture in the working format at byte address `a` (R22): one byte, a third of a 32-bit
word, or a 16-bit container. -/
def workingSample (byte : Nat → Nat) (depth a i : Nat) : Nat :=
  let le (n a : Nat) : Nat := sum ((List.range n).map (fun j => byte (a + j) * 256 ^ j))
  match depth with
  | 8 => byte (a + i)
  | 10 => le 4 (a + 4 * (i / 3)) / 2 ^ (10 * (i % 3)) % 1024
  | _ => le 2 (a + 2 * i) % 4096

/-- Samples of another depth (R181, R236): rounded, or shifted left. -/
def toDepth (src dst x : Nat) : Nat :=
  if dst < src then min ((x + 2 ^ (src - dst - 1)) / 2 ^ (src - dst)) (2 ^ dst - 1) else x * 2 ^ (dst - src)

/-! ### Pixel groups of a received run (R157; ST 2110-20) -/

/-- The samples of `b`, `depth` bits each, most significant first. -/
def unpackBits (depth : Nat) (b : Bytes) : List Nat :=
  let n := 8 * b.length / depth
  let v := beNat b / 2 ^ (8 * b.length - n * depth)
  (List.range n).map (fun k => v / 2 ^ ((n - 1 - k) * depth) % 2 ^ depth)
/-- Every `step`-th element from element `first`. -/
def every (first step : Nat) (l : List Nat) : List Nat :=
  ((List.range l.length).filter (fun i => i % step == first)).map (fun i => l.getD i 0)
/-- Runs of samples that octets of a row give: component, line and column on the component's own grid, and the samples. -/
def runSamples (sampling depth : Nat) (rgb : Bool) (row off : Nat) (data : Bytes) : List (Nat × Nat × Nat × List Nat) :=
  let v := unpackBits depth data
  match (if rgb then 2 else sampling) with
  | 0 =>
    let pair (a b : Nat) : List Nat := (List.range (v.length / 6)).flatMap (fun g => [v.getD (6 * g + a) 0, v.getD (6 * g + b) 0])
    [(0, row, off, pair 0 1), (0, row + 1, off, pair 2 3), (1, row / 2, off / 2, every 4 6 v), (2, row / 2, off / 2, every 5 6 v)]
  | 1 => [(0, row, off, every 1 2 v), (1, row, off / 2, every 0 4 v), (2, row, off / 2, every 2 4 v)]
  | _ =>
    if rgb then [(0, row, off, every 0 3 v), (1, row, off, every 1 3 v), (2, row, off, every 2 3 v)]
    else [(1, row, off, every 0 3 v), (0, row, off, every 1 3 v), (2, row, off, every 2 3 v)]
/-- Put a run into a line or into a plane whose first line is `top`. -/
def putRun (l : List Nat) (off : Nat) (v : List Nat) : List Nat :=
  l.take off ++ List.replicate (off - l.length) 0 ++ v ++ l.drop (off + v.length)
def Plane.putRun (p : Plane) (y off : Nat) (v : List Nat) : Plane :=
  let p := p ++ List.replicate (y + 1 - p.length) []
  p.set y (Machine.putRun (p.getD y []) off v)

/-! ### Scalers (R208) -/

/-- π and the unit of the fixed-point numbers below. -/
def fixOne : Nat := 2 ^ 64
def fixPi : Nat := 57952155664616982739
/-- The series of the sine in an angle of at most a right one, from its term `t` on. -/
def sineTail (sq : Int) : Nat → Nat → Int → Int
  | 0, _, _ => 0
  | fuel + 1, k, t => t + sineTail sq fuel (k + 2) (-(t * sq / fixOne) / ((k + 1) * (k + 2) : Nat))
/-- sin(π n / d). -/
def sinPi (n d : Nat) : Int :=
  let m := n % (2 * d)
  let neg := decide (d ≤ m)
  let m := if neg then m - d else m
  let m := if d < 2 * m then d - m else m
  let t : Int := ((fixPi * m / d : Nat) : Int)
  let v := sineTail (t * t / fixOne) 14 1 t
  if neg then -v else v
/-- The Lanczos window with a = 4 at ±n/d. -/
def lanczos4 (n d : Nat) : Int :=
  if n == 0 then fixOne
  else if 4 * d ≤ n then 0
  else sinPi n d * sinPi n (4 * d) * (4 * d * d : Nat) / ((fixPi * fixPi / fixOne * (n * n) : Nat) : Int)

/-- Destination sample `i` maps to this source position, in 1/64 of a sample rounded down: the fractional part is
quantised (assumption log entry 103). -/
def sourcePos (src dst i : Nat) : Int := (((2 * i + 1 : Nat) * src - dst : Int) * 64) / (2 * dst : Int)

/-- The weights of phase `ph` over the 8 × ceil(r) taps, from the tap `half - 1` places before the position's sample. -/
def rawTaps (src dst ph : Nat) : List Int :=
  let half := 4 * max 1 (ceilDiv src dst)
  (List.range (2 * half)).map (fun j =>
    let d := ((64 * j : Nat) : Int) - ((64 * (half - 1) + ph : Nat) : Int)
    if dst < src then lanczos4 (d.natAbs * dst) (64 * src) else lanczos4 d.natAbs 64)
/-- The coefficients: 10 fractional bits, the residue on the centre tap, so that they sum to 1,024. -/
def taps (src dst ph : Nat) : List Int :=
  let raw := rawTaps src dst ph
  let total := raw.foldl (· + ·) 0
  let q := raw.map (fun v => (2048 * v + total) / (2 * total))
  let c := 4 * max 1 (ceilDiv src dst) - (if ph ≤ 32 then 1 else 0)
  q.set c (q.getD c 0 + (1024 - q.foldl (· + ·) 0))

/-- One filtered sample, rounded to 16 bits. -/
def filterSample (src dst i : Nat) (f : Nat → Nat) : Nat :=
  let p := sourcePos src dst i
  let first := p / 64 - ((4 * max 1 (ceilDiv src dst) - 1 : Nat) : Int)
  let t := taps src dst (p % 64).toNat
  let acc := (List.range t.length).foldl (fun a (j : Nat) => a + t.getD j 0 * (f (clampTo src (first + (j : Int))) : Int)) 0
  clip 65535 ((acc + 512) / 1024)
/-- A line filtered horizontally. -/
def scaleLine (sw dw : Nat) (l : List Nat) : List Nat :=
  (List.range dw).map (fun x => filterSample sw dw x (fun k => l.getD k 0))
/-- Line `y` of a component scaled from `sw` × `sh` to `dw` × `dh`: horizontally, then vertically. -/
def scaledLine (sw sh dw dh y : Nat) (line : Nat → List Nat) : List Nat :=
  let p := sourcePos sh dh y
  let half := 4 * max 1 (ceilDiv sh dh)
  let first := p / 64 - ((half - 1 : Nat) : Int)
  let rows := (List.range (2 * half)).map (fun (j : Nat) => scaleLine sw dw (line (clampTo sh (first + (j : Int)))))
  let t := taps sh dh (p % 64).toNat
  (List.range dw).map (fun x =>
    clip 65535 (((List.range t.length).foldl (fun a j => a + t.getD j 0 * ((rows.getD j []).getD x 0 : Int)) 0 + 512) / 1024))

/-! ### Matrix, tables, blending (R193 to R196) -/

/-- Component `i` of the pre-blend matrix. `m` are its three coefficients, `off` the input offsets. -/
def matrixOut (m off : List Int) (outOff : Int) (v : List Nat) : Nat :=
  let acc := (List.range 3).foldl (fun a j => a + m.getD j 0 * ((v.getD j 0 : Int) - off.getD j 0)) 0
  clip 65535 ((acc + 2048) / 4096 + outOff)

/-- Entry `i` of component `k` of a table; identity where none is loaded. -/
def Lut.entry (u : Lut) (k i : Nat) : Nat :=
  if u.active.isEmpty then i else
    let e := u16 u.active (8192 * k + 2 * i)
    if e < 4096 then e else 4095
/-- The pre-blend table with its interpolation. -/
def Lut.pre (u : Lut) (k v : Nat) : Nat :=
  let i := v / 16
  let f := v % 16
  (u.entry k i * (16 - f) + u.entry k (min (i + 1) 4095) * f + 8) / 16

/-- A pixel of a layer on the 12-bit scale, with its alpha; a pixel of the composite has none. -/
structure Pel where
  a : Nat := 255
  p0 : Nat := 0
  p1 : Nat := 0
  p2 : Nat := 0
deriving DecidableEq, Repr, Inhabited
/-- Source-over blending of one component. -/
def blend (a l c : Nat) : Nat := (a * l + (65025 - a) * c + 32512) / 65025
def Pel.over (l : Pel) (alpha : Nat) (c : Pel) : Pel :=
  let a := l.a * alpha
  { a := 255, p0 := blend a l.p0 c.p0, p1 := blend a l.p1 c.p1, p2 := blend a l.p2 c.p2 }
def Pel.map (p : Pel) (f : Nat → Nat → Nat) : Pel := { a := p.a, p0 := f 0 p.p0, p1 := f 1 p.p1, p2 := f 2 p.p2 }
def Pel.comp (p : Pel) (k : Nat) : Nat := match k with | 0 => p.p0 | 1 => p.p1 | _ => p.p2
/-- Black on the 12-bit scale (R195). -/
def blackPel : Pel := { p0 := 256, p1 := 2048, p2 := 2048 }
/-- Stage 7: a 12-bit value at depth `d`. -/
def roundTo (d x : Nat) : Nat := if d < 12 then min ((x + 2 ^ (11 - d)) / 2 ^ (12 - d)) (2 ^ d - 1) else x

/-! ### Surfaces (R197, R213) -/

/-- A surface pixel: its alpha and its components at 16 bits. -/
def gfxPel (format w : Nat) : Pel :=
  match format with
  | 2 => { a := 85 * bits w 31 30, p0 := bits w 29 20 * 64, p1 := bits w 19 10 * 64, p2 := bits w 9 0 * 64 }
  | _ => { a := bits w 31 24, p0 := bits w 23 16 * 256, p1 := bits w 15 8 * 256, p2 := bits w 7 0 * 256 }
/-- A protected sample over the composite at depth `d`, with α code `k`. -/
def protSample (d k p c : Nat) : Nat :=
  let p := if d == 8 then min ((p + 2) / 4) 255 else if d == 10 then p else p * 4
  (k * p + (3 - k) * c + 1) / 3
def protPel (d w : Nat) (c : Pel) : Pel :=
  let k := bits w 31 30
  { c with p0 := protSample d k (bits w 29 20) c.p0, p1 := protSample d k (bits w 19 10) c.p1, p2 := protSample d k (bits w 9 0) c.p2 }

/-! ### Chroma subsampling (R196) -/

/-- Component `k` of a line at even columns, filtered [1 2 1]; columns from `lo` to below `hi` are an area that takes
nothing from outside it. -/
def chromaLine (k w lo hi : Nat) (l : List Pel) : List Nat :=
  (List.range (w / 2)).map (fun i =>
    let x := 2 * i
    let inside := decide (lo ≤ x) && decide (x < hi)
    let a := if inside then max lo (x - 1) else x - 1
    let b := if inside then min (hi - 1) (x + 1) else min (w - 1) (x + 1)
    let v (j : Nat) : Nat := (l.getD j {}).comp k
    (v a + 2 * v x + v b + 2) / 4)
/-- Pairs of lines averaged, rounded upward. -/
def pairLines : Plane → Plane
  | a :: b :: r => List.zipWith (fun x y => (x + y + 1) / 2) a b :: pairLines r
  | l => l
/-- A band of the composite in the program's sampling. `area` gives the protected columns of each line of the band. -/
def subsample (sampling w : Nat) (area : Nat → Nat × Nat) (lines : List (List Pel)) : Pix :=
  let c (k : Nat) : Plane :=
    if k == 0 || sampling == 2 then lines.map (fun l => l.map (fun p => p.comp k))
    else
      let p := (List.range lines.length).map (fun y => chromaLine k w (area y).1 (area y).2 (lines.getD y []))
      if sampling == 0 then pairLines p else p
  { c0 := c 0, c1 := c 1, c2 := c 2 }

end Sys2Proof.Machine
end

