-- ==== Sys2Proof/Machine/Bands.lean ====
section
/-! DEFINITION. Bands.lean: picture buffers, slots and band marks (R13 to R22). -/

namespace Sys2Proof.Machine

/-! ### Buffers by name -/

def progBuf (c : Nat) : Nat := 256 * c
/-- The buffer of rung `g`: rung 1 is the program picture (R89). -/
def rungBuf (c g : Nat) : Nat := if g == 1 then progBuf c else 256 * c + g
def mapBuf (c : Nat) : Nat := 256 * c + 64
def inputBuf (c i : Nat) : Nat := 256 * c + 128 + i

def State.buf (s : State) (k : Nat) : Buffer := s.bufs.get k
def State.updBuf (s : State) (k : Nat) (f : Buffer → Buffer) : State := { s with bufs := s.bufs.upd k f }

/-- A slot of a new buffer: its content is black (R18) and no band of it is produced. -/
def blackSlot (n : Nat) : Slot := { marks := List.replicate n .empty, locals := List.replicate n false }
def newBuffer (slots bands : Nat) : Buffer := { slots := List.replicate slots (blackSlot bands), cur := slots - 1 }

/-- Bands of `h` lines of height `bh`. -/
def bandsOf (h bh : Nat) : Nat := ceilDiv h bh

/-! ### Slots -/

/-- Assign slot `i` to a new picture: every mark EMPTY, every LOCAL 0 (R15, R16). -/
def Buffer.assign (b : Buffer) (i n : Nat) (info : Slot) : Buffer :=
  { b with slots := b.slots.set i { info with pic := b.pics + 1, marks := List.replicate n .empty, locals := List.replicate n false }
           cur := i, pics := b.pics + 1 }

/-- The next slot in rotation. -/
def Buffer.nextSlot (b : Buffer) : Nat := if b.slots.length == 0 then 0 else (b.cur + 1) % b.slots.length

def Buffer.slot (b : Buffer) (i : Nat) : Slot := b.slots.getD i {}
def Buffer.curSlot (b : Buffer) : Slot := b.slot b.cur
/-- The slot that holds picture `pic`. -/
def Buffer.slotOf (b : Buffer) (pic : Nat) : Option Slot := b.slots.find? (fun x => x.pic == pic)

def Slot.mark (x : Slot) (band : Nat) : Mark := x.marks.getD band .empty
def Slot.isLocal (x : Slot) (band : Nat) : Bool := x.locals.getD band false

/-- Set a mark: only an EMPTY mark changes (R16). -/
def Slot.setMark (x : Slot) (band : Nat) (m : Mark) (l : Bool) : Slot :=
  if x.mark band == .empty && decide (band < x.marks.length) then
    { x with marks := x.marks.set band m, locals := x.locals.set band l } else x

/-- Set a mark in the slot being written. -/
def Buffer.setMark (b : Buffer) (band : Nat) (m : Mark) (l : Bool) : Buffer :=
  { b with slots := b.slots.set b.cur (b.curSlot.setMark band m l) }

/-- Bands of a slot still EMPTY. -/
def Slot.unfinished (x : Slot) : List Nat := (List.range x.marks.length).filter (fun i => x.mark i == .empty)

/-- Freeze bands. -/
def Buffer.freeze (b : Buffer) (bands : List Nat) (l : Bool) : Buffer :=
  bands.foldl (fun b i => b.setMark i .frozen l) b

/-- Where a consumer reads a band (R18): the slot itself when WRITTEN; when FROZEN, the most recent older slot, among
those `held`, with that band WRITTEN; otherwise black. -/
inductive BandSource where
  | notReady
  | slot (pic : Nat)
  | black
deriving DecidableEq, Repr, Inhabited

def Buffer.source (b : Buffer) (pic band : Nat) (held : Nat → Bool) : BandSource :=
  match b.slotOf pic with
  | none => .black
  | some x =>
    match x.mark band with
    | .empty => .notReady
    | .written => .slot pic
    | .frozen =>
      let older := b.slots.filter (fun y => decide (y.pic < pic) && held y.pic && y.mark band == .written)
      match (older.map (·.pic)).foldl (fun (a : Option Nat) p => some (match a with | some q => max p q | none => p)) none with
      | some p => .slot p
      | none => .black

/-- LOCAL of a band as read: its own flag, or that of the band read in its place (R15). -/
def Buffer.readLocal (b : Buffer) (pic band : Nat) (held : Nat → Bool) : Bool :=
  match b.slotOf pic with
  | none => false
  | some x => x.isLocal band || (match b.source pic band held with
    | .slot p => match b.slotOf p with | some y => y.isLocal band | none => false
    | _ => false)

/-- Put the samples of a band into the slot being written. -/
def Buffer.setPix (b : Buffer) (band : Nat) (p : Pix) : Buffer :=
  { b with slots := b.slots.set b.cur { b.curSlot with pix := b.curSlot.pix.set band p } }

/-- The samples of a band as a consumer reads it (R18); none where it reads black. -/
def Buffer.bandPix (b : Buffer) (pic band : Nat) (held : Nat → Bool) : Option Pix :=
  match b.source pic band held with
  | .slot p => (b.slotOf p).bind (fun x => x.pix.find band)
  | _ => none

/-- Line `y` of component `k` of a picture, as a consumer reads it. Bands are `bh` lines of luma; `w` and `black` are the
component's width and its black. -/
def Buffer.line (b : Buffer) (pic : Nat) (held : Nat → Bool) (sampling bh w k black y : Nat) : List Nat :=
  let n := max 1 (compH sampling bh k)
  match b.bandPix pic (y / n) held with
  | some p => (p.comp k).getD (y % n) []
  | none => List.replicate w black

/-- Is every band of `l` non-EMPTY in picture `pic` (R17)? -/
def Buffer.ready (b : Buffer) (pic : Nat) (l : List Nat) : Bool := l.all (fun i => b.source pic i (fun _ => true) != .notReady)

/-- Pictures of input `i` of course `c` that the window in progress holds (R21): those the layers show and showed
before. -/
def State.heldPics (s : State) (c i : Nat) : List Nat :=
  ((s.st.layersOf c).filter (fun l => decide (l.layer < 4) && l.source == i)).flatMap (fun l =>
    let y := s.layers.get (12 * c + l.layer)
    [y.cur, y.prev]) |>.filter (· != 0)

/-- Bands of a source of height `h` and band height `bh` that hold lines [lo, hi). -/
def bandSpan (lo hi bh h : Nat) : List Nat :=
  let last := ceilDiv (min hi h) bh
  (List.range last).filter (fun b => decide (lo / bh ≤ b))

end Sys2Proof.Machine
end

