-- ==== Sys2Proof/Machine/Pace.lean ====
section
/-! DEFINITION. Pace.lean: the stages of a course, and the two events that pace a DRAIN_PACED domain (R55, R470). -/

namespace Sys2Proof.Machine

/-! ### Stages (R13 to R19) -/

def Stage.key : Stage → Nat
  | .mere c => c
  | .cascade c k => 64 + 8 * c + k
  | .headwater c u => 1024 + 8 * c + u
  | .tarn r g => 2048 + 16 * r + g
def State.stage (s : State) (x : Stage) : StageRun := s.stages.get x.key
def State.setStage (s : State) (x : Stage) (r : StageRun) : State := { s with stages := s.stages.set x.key r }
def State.running (s : State) (c : Nat) : Bool := (s.courses.get c).state == .running
/-- The running courses of a domain. -/
def State.runningIn (s : State) (d : Nat) : List Nat :=
  ((s.st.coursesOf d).map (·.course)).filter (fun c => s.running c)
/-- The rungs of a Cascade. -/
def Structure.cascadeRungs (t : Structure) (c k : Nat) : List RungRec := (t.rungsOf c).filter (fun g => g.rung != 1 && g.cascade == k)
/-- The Cascades of a course. -/
def Structure.cascadesOf (t : Structure) (c : Nat) : List Nat :=
  (((t.rungsOf c).filter (·.rung != 1)).map (·.cascade)).eraseDups

/-! ### Unfinished work of a window -/

/-- Does a fixed-rate stage of the course have a band left? -/
def State.stagesBusy (s : State) (c : Nat) : Bool :=
  let x := s.st.courses.get c
  ((s.stage (.mere c)).active && decide ((s.stage (.mere c)).next < bandsOf x.height x.bandHeight)) ||
  (s.st.cascadesOf c).any (fun k => (s.stage (.cascade c k)).active &&
    (s.st.cascadeRungs c k).any (fun g => !((s.buf (rungBuf c g.rung)).curSlot.unfinished).isEmpty)) ||
  (s.st.hwsOf c).any (fun h => (s.stage (.headwater c h.unit)).active && decide ((s.stage (.headwater c h.unit)).next < h.bandCount)) ||
  (s.st.inputsOf c).any (fun i => i.source == 1 && (s.streams.get (4 * c + i.input)).au.isSome)
/-- Has a rendition's picture of the window something left to code or to emit? -/
def State.codingBusy (s : State) (r : Nat) : Bool :=
  match (s.rends.get r).cur with
  | some p => !(p.coded && p.finished && p.shows.isEmpty)
  | none => false
/-- Has the domain's window drained (R55)? -/
def State.drained (s : State) (d : Nat) : Bool :=
  (s.runningIn d).all (fun c => !s.stagesBusy c && ((s.st.rendsOf c).all (fun q => !s.codingBusy q.rendition))) && s.tagged d == 0

/-! ### Input for the next picture -/

/-- The newest picture of an input that a layer shows. -/
def State.shownPic (s : State) (c k : Nat) : Nat :=
  maxOf (((s.st.layersOf c).filter (fun l => decide (l.layer < 4) && l.source == k)).map (fun l => (s.layers.get (12 * c + l.layer)).cur))
/-- Are the lead bands of the input's next picture WRITTEN (R55)? A Fount decodes its picture in the window itself: its
stream has to hold data (assumption log entry 23). -/
def State.leadWritten (s : State) (i : InputRec) : Bool :=
  let cur := s.shownPic i.course i.input
  if i.source == 1 then
    let x := s.streams.get (4 * i.course + i.input)
    x.rptr != x.wptr || !x.recs.isEmpty
  else (s.buf (inputBuf i.course i.input)).slots.any (fun x => decide (cur < x.pic) &&
    (List.range i.leadBands).all (fun b => x.mark b == .written))
/-- Likewise of every input of every running course. -/
def State.leadReady (s : State) (d : Nat) : Bool :=
  (s.runningIn d).all (fun c => (s.st.inputsOf c).all (fun i => s.leadWritten i))

/-- Both events of R55 have happened, or, for a Weir that holds, the second. -/
def State.paceMet (s : State) (d : Nat) : Bool :=
  match (s.dom d).stage with
  | .window | .none => s.drained d && s.leadReady d
  | .hold => s.leadReady d
  | _ => false
/-- The cycle at which they had both happened is kept. -/
def State.paceDom (s : State) (d : Nat) : State :=
  let x := s.dom d
  if x.mode == 1 && x.readyAt.isNone && !(s.runningIn d).isEmpty && s.paceMet d then s.setDom d { x with readyAt := some s.now } else s
def State.pace (s : State) : State := s.st.domains.keys.foldl State.paceDom s

/-- Does a DRAIN_PACED domain wait for input with no Weir in progress (R55, R471)? -/
def State.waitsInput (s : State) (d : Nat) : Bool :=
  (s.dom d).stage == .window && s.drained d && !s.leadReady d && (s.dom d).readyAt.isNone
/-- Is the domain's compute plane idle, so that commands apply at arrival (R130, R470)? -/
def State.idle (s : State) (d : Nat) : Bool :=
  let x := s.dom d
  s.img.stopped.contains d ||
    (x.mode == 1 && (x.stage == .none || x.stage == .window) && ((s.runningIn d).isEmpty || s.waitsInput d))

end Sys2Proof.Machine
end

