-- ==== Sys2Proof/Machine/Fount.lean ====
section
/-! DEFINITION. Fount.lean: bindings, jitter buffers, the choice of access units and decoding into slots (07_fount,
R165 to R190). What the codec's standard decides about an access unit is an operand (AccessUnit). -/

namespace Sys2Proof.Machine

/-- Streams of a Fount in their order (R167). -/
def Structure.fountOrder (t : Structure) (f : Nat) : List InputRec :=
  let l := t.fountInputs f
  l.filter (fun i => (t.courses.get i.course).fixed) ++ l.filter (fun i => !(t.courses.get i.course).fixed)
/-- A register of the stream of input `i` (R167: stream s at +0x100 + 0x40 × s). -/
def State.ftStream (s : State) (i : InputRec) (o : Nat) : Nat :=
  let n := ((s.st.fountOrder i.sourceIndex).map (fun j => (j.course, j.input))).idxOf (i.course, i.input)
  ftReg (0x10000 * i.sourceIndex + 0x100 + 0x40 * n + o)
def inKey (i : InputRec) : Nat := 4 * i.course + i.input
def ftIn (c k o : Nat) : Nat := crsReg c (0x100 + 0x20 * k + o)
def State.stream (s : State) (i : InputRec) : FountStream := s.streams.get (inKey i)
def State.setStream (s : State) (i : InputRec) (x : FountStream) : State := { s with streams := s.streams.set (inKey i) x }
/-- An event of a stream: its Fount is the source. -/
def State.evFt (s : State) (i : InputRec) (code detail : Nat) : State := s.evC code (0x1200 + i.sourceIndex) i.course detail
/-- A counting event of a stream: at most once a millisecond. -/
def State.evFtCount (s : State) (i : InputRec) (code : Nat) : State :=
  s.limited (code * 2 ^ 12 + inKey i) msCycles (fun n s => s.evFt i code (i.input * 2 ^ 24 + sat 16 n))

/-! ### Binding (R168, R169) -/

/-- Is a binding write refused (R168)? -/
def State.bindRefused (s : State) (f c k kind inflow : Nat) : Bool :=
  let r := s.st.inflows.get inflow
  let other (key : Nat) : Bool := key != 4 * c + k &&
    s.fld (ftIn (key / 4) (key % 4) 0) 31 30 == 1 && s.fld (ftIn (key / 4) (key % 4) 0) 9 0 == inflow
  kind == 3 || (kind == 1 &&
    (!s.st.inflows.has inflow || !(r.kind == 3 || r.kind == 4) ||
     (s.st.inputs.any (fun e => e.2.source == 1 && other e.1)) ||
     s.streams.any (fun e => e.1 != 4 * c + k && e.2.bindKind == 1 && e.2.inflow == inflow) ||
     (r.owner != s.st.courseOwner c && f != 0)))

/-- A write of FT_INk_CTRL by function `f`: staged for the next Weir, or ignored and reported. -/
def State.ftBindWrite (s : State) (f c k : Nat) (w : Word) : State :=
  let kind := bits w.toNat 31 30
  let inflow := bits w.toNat 9 0
  if s.bindRefused f c k kind inflow then
    s.evFt (s.st.inputs.get (4 * c + k)) 0x050B (kind * 2 ^ 30 + k * 2 ^ 24 + inflow)
  else s.wrn (ftIn c k 0) (kind * 2 ^ 30 + inflow)
def execFtBindWrite (f c k : Nat) (w : Word) (s : State) : Host.Outcome State Fault Refusal := .next (s.weirWrite f (ftIn c k 0) (fun s => s.ftBindWrite f c k w))

/-- R171: a host stream's write pointer; ignored for another binding. -/
def State.ftWptrWrite (s : State) (c k : Nat) (w : Word) : State :=
  let x := s.streams.get (4 * c + k)
  if x.bindKind == 2 then
    { s with streams := s.streams.set (4 * c + k) { x with wptr := w.toNat, lastRec := s.now } }
  else s
def execFtWptrWrite (c k : Nat) (w : Word) (s : State) : Host.Outcome State Fault Refusal := .next (s.ftWptrWrite c k w)

/-- A stream starts as on first use (R188): it waits for parameter sets; under CLEAN_START the wait for a random access
point begins, and is told. -/
def State.streamRestart (s : State) (i : InputRec) (x : FountStream) : State :=
  let s := s.setStream i { x with state := 1, au := none, cur := {}, held := [], mismatchTold := false, unsTold := false, dpbTold := false }
  if i.cleanStart then s.evFt i 0x0503 i.input else s

/-- A changed binding applies at a Weir (R169). -/
def State.bindApply (s : State) (i : InputRec) : State :=
  let kind := s.effFld (ftIn i.course i.input 0) 31 30
  let inflow := s.effFld (ftIn i.course i.input 0) 9 0
  let x := s.stream i
  if x.bindKind == kind && x.inflow == inflow then s
  else
    let y : FountStream := { x with bindKind := kind, inflow := inflow, recs := [], rptr := 0, wptr := 0, lastRec := s.now }
    let s := s.evFt i 0x050C (kind * 2 ^ 30 + i.input * 2 ^ 24 + inflow)
    if kind == 0 then s.setStream i { y with state := 0, au := none, cur := {}, held := [] } else s.streamRestart i y

/-- Loss of stream (R188): 0 silence, 1 discontinuity, 2 TS program change. -/
def State.streamLost (s : State) (i : InputRec) (cause : Nat) : State :=
  (s.evFt i 0x0509 (i.input * 2 ^ 24 + cause)).streamRestart i (s.stream i)

/-- FT_STREAM_LOSS_TIMEOUT: 500 ms without a new record. STATE shows LOST until the next access unit. -/
def execFtStreamLossTimeout (c k : Nat) (s : State) : Host.Outcome State Fault Refusal :=
  let i := s.st.inputs.get (4 * c + k)
  let x := s.streams.get (4 * c + k)
  .next (if x.bindKind == 0 || x.state == 0 || x.state == 5 then s
    else
      let s := (s.runTo (x.lastRec + 750000000)).streamLost i 0
      s.setStream i { s.stream i with state := 5 })

/-! ### Access units (R170 to R176) -/

/-- Records leave the front of the buffer; a wrap record goes with the record before which it stands. -/
def popRecs : List JbRec → Nat → Nat → Nat → List JbRec × Nat
  | [], _, rptr, _ => ([], rptr)
  | r :: rs, 0, rptr, n => if r.type == 0xFF then popRecs rs 0 0 n else (r :: rs, rptr)
  | r :: rs, k + 1, rptr, n =>
    if r.type == 0xFF then popRecs rs (k + 1) 0 n
    else popRecs rs k (if n == 0 then 0 else (rptr + 16 + roundUp r.payload.length 16) % n) n

/-- RPTR passes an access unit (R171). -/
def FountStream.pass (x : FountStream) (a : AccessUnit) (n : Nat) : FountStream :=
  if x.bindKind == 2 then { x with rptr := if n == 0 then 0 else (x.rptr + a.bytes) % n }
  else
    let p := popRecs x.recs a.recs x.rptr n
    { x with recs := p.1, rptr := p.2 }

/-- JB_DELAY_US in effect (07, Registers). -/
def State.jbDelayNs (s : State) (i : InputRec) : Nat := min 100000 (s.effn (ftIn i.course i.input 4)) * 1000

/-- Is an access unit eligible for the window that the tick at `t0Ns` opens (R175)? -/
def State.eligible (s : State) (i : InputRec) (d : Domain) (a : AccessUnit) : Bool :=
  (s.stream i).bindKind == 2 || d.mode == 1 || decide (a.recvNs + s.jbDelayNs i ≤ d.t0Ns)

/-- Can the stream's sequence be shown (R181)? -/
def formatOk (i : InputRec) (a : AccessUnit) : Bool :=
  a.width == i.width && a.height == i.height && (a.sampling == i.sampling || (a.mono && i.sampling == 0))

/-- An access unit that is not taken leaves the buffer and is counted. -/
def State.auDiscard (s : State) (i : InputRec) (a : AccessUnit) : State :=
  (s.setStream i ((s.stream i).pass a i.jitterBytes)).inc (s.ftStream i 0x24) 1

/-- The next slot in rotation that holds no picture of `busy`. -/
def Buffer.freeSlot (b : Buffer) (busy : List Nat) : Nat :=
  let n := b.slots.length
  let order := (List.range n).map (fun k => (b.cur + 1 + k) % n)
  (order.find? (fun k => (b.slot k).pic == 0 || !busy.contains (b.slot k).pic)).getD (order.headD 0)

/-- The chosen access unit begins decoding (R175, R179, R180): held pictures are brought up to date, a slot is
assigned, and the window's output picture is known. -/
def State.auTake (s : State) (i : InputRec) (a : AccessUnit) : State :=
  let x := s.stream i
  let kept := (a.keep.map (fun j => x.held.getD j {})).filter (fun h => h.pic != 0)
  let further := kept.filter (fun h => h.pic != x.lastOut)
  let past := decide (i.slots - 2 < further.length)
  let gone := if past then (further.take (further.length - (i.slots - 2))).map (·.pic) else []
  let refs := a.refs.map (fun j => x.held.getD j {})
  let lost := (refs.filter (fun h => gone.contains h.pic || h.pic == 0)).length
  let kept' := kept.filter (fun h => !gone.contains h.pic)
  let k := inputBuf i.course i.input
  let b := s.buf k
  let slot := b.freeSlot ([x.lastOut] ++ kept'.map (·.pic))
  let pic := b.pics + 1
  let sub := decide (0 < a.missing + lost) || (a.rap == 0 && refs.any (·.subst))
  let h : HeldPic := { pic, order := a.order, concealed := a.rap == 0 && refs.any (·.concealed), subst := sub }
  let shown := formatOk i a
  let out := if !shown || a.output == 0 then 0 else if a.output == 1 then pic else (x.held.getD (a.output - 2) {}).pic
  let s := s.updBuf k (fun b => b.assign slot (bandsOf i.height 64)
    { concealed := h.concealed, substituted := h.subst, at_ := s.now })
  let s := s.setStream i { x with
    state := 3, au := some { a with missing := a.missing + lost }, cur := h, band := 0, blocks := 0, errClass := 0
    held := kept' ++ [h], outPic := out, lastOut := if out == 0 then x.lastOut else out
    mismatchTold := if a.newSeq then !shown else x.mismatchTold || !shown
    dpbTold := if a.newSeq then past else x.dpbTold || past, unsTold := false }
  let s := if past && (a.newSeq || !x.dpbTold) then s.evFt i 0x050A (i.input * 2 ^ 24 + sat 8 further.length) else s
  let s := if !shown && (a.newSeq || !x.mismatchTold) then s.evFt i 0x0508 (a.width * 2 ^ 16 + a.height) else s
  let s := if x.state == 2 && a.rap != 0 then s.evFt i 0x0504 (i.input * 2 ^ 24 + a.rap) else s
  let m := a.missing + lost
  if m == 0 then s
  else (s.inc (s.ftStream i 0x18) m).evFt i 0x0502 (bnat x.held.isEmpty * 2 ^ 31 + i.input * 2 ^ 24 + sat 8 m)

/-- No access unit is eligible (R176). -/
def State.underrun (s : State) (i : InputRec) : State := (s.inc (s.ftStream i 0x1C) 1).evFtCount i 0x0505

/-- The choice among complete access units in decoding order (R175, R176, R188, R189). -/
def State.auChoose (s : State) (i : InputRec) (d : Domain) : List AccessUnit → State
  | [] => s.underrun i
  | a :: rest =>
    if !s.eligible i d a then s.underrun i
    else
      let s := (s.inc (s.ftStream i 0x28) a.late).inc (s.ftStream i 0x0C) a.errors
      let s := if a.splice != 0 then s.streamLost i a.splice else s
      let x := s.stream i
      let st := if x.state == 5 || (x.state == 4 && a.newSeq && a.unsupported == 0) then 1 else x.state
      if a.unsupported != 0 then
        let told := x.unsTold && !a.newSeq
        let s := s.setStream i { x with state := 4, unsTold := true }
        let s := if told then s else s.evFt i 0x0507 (i.input * 2 ^ 24 + a.unsupported)
        State.auChoose (s.auDiscard i a) i d rest
      else if st == 4 || !a.params then
        State.auChoose (s.auDiscard i a) i d rest
      else
        let st := if st == 1 then (if i.cleanStart then 2 else 3) else st
        let s := s.setStream i { x with state := st }
        if !a.decodable || (st == 2 && a.rap == 0) then State.auChoose (s.auDiscard i a) i d rest
        else s.auTake i a

/-- More than 4 eligible access units: the oldest that no later picture uses for reference is skipped (R176). -/
def State.auSkip (s : State) (i : InputRec) (d : Domain) (aus : List AccessUnit) : State × List AccessUnit :=
  let el := aus.takeWhile (s.eligible i d)
  match (if 4 < el.length then aus.idxOf? ((el.find? (·.nonRef)).getD {}) else none) with
  | none => (s, aus)
  | some j =>
    let a := aus.getD j {}
    let x := s.stream i
    let before := sum ((aus.take j).map (·.recs))
    let x' := if j == 0 then x.pass a i.jitterBytes else { x with recs := x.recs.take before ++ x.recs.drop (before + a.recs) }
    (((s.setStream i x').inc (s.ftStream i 0x20) 1).evFtCount i 0x0506, aus.eraseIdx j)

/-- At a window opening, a bound stream chooses its access unit (R175). `aus` are its complete access units. -/
def State.fountOpen (s : State) (i : InputRec) (d : Domain) (aus : List AccessUnit) : State :=
  let s := s.setStream i { s.stream i with outPic := 0, au := none }
  if (s.stream i).bindKind == 0 || s.retired.contains (0x1200 + i.sourceIndex) then s
  else
    let p := s.auSkip i d aus
    p.1.auChoose i d p.2

/-! ### Decoding (R178, R182 to R186) -/

/-- Cycles of a band (R178). -/
def bandCycles (i : InputRec) (band bits : Nat) : Nat :=
  max (ceilDiv (pix i.width (min 64 (i.height - 64 * band)) * 100) 67) (ceilDiv bits 2)

/-- The picture's last band: its report, its flags, and RPTR past its records (R171, R184, R185). -/
def State.auEnd (s : State) (i : InputRec) (a : AccessUnit) : State :=
  let x := s.stream i
  let bad := decide (0 < x.blocks)
  let h := { x.cur with concealed := x.cur.concealed || bad }
  let y := (x.pass a i.jitterBytes)
  let s := (s.setStream i { y with au := none, cur := h, held := x.held.map (fun p => if p.pic == h.pic then h else p) }).inc64
    (s.ftStream i 0x04) 1
  let k := inputBuf i.course i.input
  let s := s.updBuf k (fun b => { b with slots := b.slots.map (fun y => if y.pic == h.pic then { y with concealed := h.concealed } else y) })
  if bad then s.evFt i 0x0501 (x.errClass * 2 ^ 28 + i.input * 2 ^ 24 + x.blocks % 2 ^ 24) else s

/-- The median of three numbers. -/
def median3 (a b c : Int) : Int := max (min a b) (min (max a b) c)

/-- The held picture nearest to the picture in decode in output order, the earlier one where two are equally near
(R184); none where no other picture is held. -/
def FountStream.nearest (x : FountStream) : Option HeldPic :=
  (x.held.filter (fun h => h.pic != x.cur.pic && h.pic != 0)).foldl (fun (a : Option HeldPic) h =>
    match a with
    | none => some h
    | some g =>
      let d (q : HeldPic) : Nat := 2 * (q.order - x.cur.order).natAbs + (if x.cur.order < q.order then 1 else 0)
      if d h < d g then some h else some g) none

/-- The samples of band `band` of a stream's picture: decoded, or copied from the nearest held picture where a block is
damaged (R184), or mid-grey; in the INPUT record's depth (R181), chroma neutral for a monochrome stream (R165). -/
def State.fountPix (s : State) (i : InputRec) (a : AccessUnit) (band : Nat) (r : BandDecode) : Pix :=
  let x := s.stream i
  let b := s.buf (inputBuf i.course i.input)
  let sm := i.sampling
  Pix.make sm i.width (min 64 (i.height - 64 * band)) (fun k cx cy =>
    let sx := i.width / max 1 (compW sm i.width k)
    let sy := i.height / max 1 (compH sm i.height k)
    let gy := band * compH sm 64 k + cy
    let lx := cx * sx
    let ly := gy * sy
    match r.damaged.find? (fun d => decide (d.x ≤ lx) && decide (lx < d.x + d.w) && decide (d.y ≤ ly) && decide (ly < d.y + d.h)) with
    | none => if a.mono && k != 0 then 2 ^ (i.depth - 1) else toDepth a.depth i.depth ((r.pix.comp k).at cx cy)
    | some d => match x.nearest with
      | none => 2 ^ (i.depth - 1)
      | some h =>
        let mx := median3 d.left.1 d.above.1 d.aboveRight.1 / (sx : Int)
        let my := median3 d.left.2 d.above.2 d.aboveRight.2 / (sy : Int)
        let px := clampTo (compW sm i.width k) ((cx : Int) + mx)
        let py := clampTo (compH sm i.height k) ((gy : Int) + my)
        (b.line h.pic (fun p => x.held.any (fun g => g.pic == p)) sm 64 (compW sm i.width k) k (blackSample i.depth k false) py).getD px 0)

/-- FOUNT_BAND_DONE: band `x.band` of the picture in decode is final (R178). -/
def State.fountBandDone (s : State) (c k : Nat) (r : BandDecode) : State :=
  let i := s.st.inputs.get (4 * c + k)
  let x := s.streams.get (4 * c + k)
  let kb := inputBuf c k
  match x.au with
    | none => s
    | some a =>
      let b := s.buf kb
      let slot := (b.slotOf x.cur.pic).getD {}
      let last := decide (slot.marks.length ≤ x.band + 1)
      if slot.mark x.band != .empty then s
      else
        let u := s.founts.get i.sourceIndex
        let cyc := bandCycles i x.band r.bits
        let start := max u.busy (s.dom (s.domOf c)).openAt
        let s := s.runTo (start + cyc)
        let s := { s with founts := s.founts.set i.sourceIndex { u with busy := start + cyc, used := u.used + cyc } }
        let l := r.reads.any (fun p => b.readLocal p.1 p.2 (fun _ => true))
        let p := s.fountPix i a x.band r
        let s := s.updBuf kb (fun b => { b with slots := b.slots.map (fun y =>
          if y.pic == x.cur.pic then { y.setMark x.band .written l with pix := y.pix.set x.band p } else y) })
        let s := (s.inc (s.ftStream i 0x0C) r.errors).inc (s.ftStream i 0x14) r.blocks
        let s := if r.errors == 0 then s else s.wrn (s.ftStream i 0x10) (r.cls * 2 ^ 28 + r.block % 2 ^ 24)
        let s := s.setStream i { x with band := x.band + 1, blocks := x.blocks + r.blocks
                                        errClass := if x.errClass == 0 then r.cls else x.errClass }
        (if last then s.auEnd i a else s).pace

/-- A Fount stream's remaining bands freeze: at its deadline, its reset or its retirement (R18, R190); a picture with a
FROZEN band is CONCEALED (R185). LOCAL is set (R15). The bands frozen are returned. -/
def State.fountFreeze (s : State) (i : InputRec) : List Nat × State :=
  let x := s.stream i
  match x.au with
  | none => ([], s)
  | some a =>
    let kb := inputBuf i.course i.input
    let slot := ((s.buf kb).slotOf x.cur.pic).getD {}
    let bands := slot.unfinished
    let s := s.updBuf kb (fun b => { b with slots := b.slots.map (fun y =>
      if y.pic == x.cur.pic then { (bands.foldl (fun y n => y.setMark n .frozen true) y) with concealed := true } else y) })
    let h := { x.cur with concealed := true }
    (bands, s.setStream i { (x.pass a i.jitterBytes) with
      au := none, cur := h, held := x.held.map (fun p => if p.pic == h.pic then h else p) })

/-- A Fount's counters at a window opening (07, CYCLES_LAST). -/
def FountUnit.open (u : FountUnit) : FountUnit := { u with used := 0, last := u.used }

end Sys2Proof.Machine
end

