-- ==== Sys2Proof/Machine/Packetise.lean ====
section
/-! DEFINITION. Packetise.lean: media-clock values (R49), RTP payloads (R297), transport stream packets (R298) and
elementary-stream framing (R299), as byte strings. -/

namespace Sys2Proof.Machine

/-! ### Media clocks (R49) -/

/-- The 90 kHz value of a time in nanoseconds, not reduced. -/
def clock90 (t : Nat) : Nat := t / 1000000000 * 90000 + t % 1000000000 * 9 / 100000
/-- The 27 MHz value. -/
def clock27 (t : Nat) : Nat := t / 1000000000 * 27000000 + t % 1000000000 * 27 / 1000

/-! ### Byte strings -/

def b8 (n : Nat) : Byte := BitVec.ofNat 8 n
/-- Pieces of `n` bytes; `fuel` bounds their number. -/
def pieces (n : Nat) : Nat → Bytes → List Bytes
  | 0, _ => []
  | fuel + 1, b => if b.isEmpty then [] else b.take (max 1 n) :: pieces n fuel (b.drop (max 1 n))
/-- LEB128 (AV1). -/
def leb128 : Nat → Nat → Bytes
  | 0, _ => []
  | fuel + 1, n => if n < 128 then [b8 n] else b8 (n % 128 + 128) :: leb128 fuel (n / 128)
/-- Groups of at most `n` strings. -/
def groups (n : Nat) : Nat → List Bytes → List (List Bytes)
  | 0, _ => []
  | fuel + 1, l => if l.isEmpty then [] else l.take (max 1 n) :: groups n fuel (l.drop (max 1 n))

/-! ### RTP (R297) -/

def rtpHeader (marker : Bool) (pt seq ts ssrc : Nat) : Bytes :=
  [0x80, b8 (bnat marker * 128 + pt % 128)] ++ beBytes 2 seq ++ beBytes 4 ts ++ beBytes 4 ssrc

/-- DONL where the rendition carries it. -/
def donlBytes : Option Nat → Bytes
  | some d => beBytes 2 d
  | none => []

/-- A NAL unit as a single packet or fragments; `don` is its decoding order number where DONL is carried, in every
packet (assumption log entry 22). `last` marks the last NAL unit of the picture (VVC's P bit). -/
def nalPackets (codec mp : Nat) (don : Option Nat) (last : Bool) (nal : Bytes) : List Bytes :=
  let d := donlBytes don
  let h0 := u8 nal 0
  let h1 := u8 nal 1
  if codec == 0 then
    if nal.length ≤ mp then [nal]
    else
      let ps := pieces (mp - 2) nal.length (nal.drop 1)
      (List.range ps.length).map (fun i =>
        [b8 (h0 / 32 * 32 + 28), b8 (bnat (i == 0) * 128 + bnat (i + 1 == ps.length) * 64 + h0 % 32)] ++ ps.getD i [])
  else if nal.length + d.length ≤ mp then [nal.take 2 ++ d ++ nal.drop 2]
  else
    let ps := pieces (mp - 3 - d.length) nal.length (nal.drop 2)
    (List.range ps.length).map (fun i =>
      let s := bnat (i == 0) * 128
      let e := bnat (i + 1 == ps.length)
      (if codec == 1 then [b8 (h0 / 128 * 128 + 98 + h0 % 2), b8 h1, b8 (s + e * 64 + h0 / 2 % 64)]
       else [b8 h0, b8 (29 * 8 + h1 % 8), b8 (s + e * 64 + bnat last * e * 32 + h1 / 8)]) ++ d ++ ps.getD i [])

/-- One aggregation packet: STAP-A or AP. -/
def aggregate (codec : Nat) (don : Option Nat) (nals : List Bytes) : Bytes :=
  let one (i : Nat) (n : Bytes) : Bytes := (if i != 0 && don.isSome then [0] else []) ++ beBytes 2 n.length ++ n
  (match codec with
    | 0 => [b8 (maxOf (nals.map (fun n => u8 n 0 / 32 % 4)) * 32 + 24)]
    | 1 => [0x60, 0x01]
    | _ => [0x00, b8 (28 * 8 + 1)]) ++ donlBytes don ++ (List.range nals.length).flatMap (fun i => one i (nals.getD i []))

/-- The non-unit items: aggregated while they fit MAX_PAYLOAD, the rest by their own rule (assumption log entry 22).
`open_` holds the items gathered and the decoding order number of the first. -/
def itemPackets (codec mp : Nat) (don : Option Nat) : List Bytes → List Bytes → Option Nat → List Bytes
  | [], open_, od => if open_.isEmpty then [] else [aggregate codec od open_]
  | n :: rest, open_, od =>
    let next := don.map (fun d => (d + 1) % 65536)
    if (aggregate codec (if open_.isEmpty then don else od) (open_ ++ [n])).length ≤ mp then
      itemPackets codec mp next rest (open_ ++ [n]) (if open_.isEmpty then don else od)
    else
      (if open_.isEmpty then [] else [aggregate codec od open_]) ++
      (if (aggregate codec don [n]).length ≤ mp then itemPackets codec mp next rest [n] don
       else nalPackets codec mp don false n ++ itemPackets codec mp next rest [] next)

/-- Size of an OBU element with its length. -/
def obuElement (b : Bytes) : Bytes := leb128 8 b.length ++ b
/-- The largest piece of an OBU that an AV1 packet holds. -/
def av1Piece (mp : Nat) : Nat := mp - 1 - (leb128 8 (mp - 2)).length

/-- AV1 packets (W = 0): OBUs together while they fit, one that does not fit in fragments. The first packet of a key
picture's temporal unit has N. -/
def av1Packets (mp : Nat) : List Bytes → Bytes → Bool → List Bytes
  | [], open_, n => if open_.isEmpty then [] else [b8 (bnat n * 8) :: open_]
  | b :: rest, open_, n =>
    let e := obuElement b
    if 1 + open_.length + e.length ≤ mp then av1Packets mp rest (open_ ++ e) n
    else
      let head := if open_.isEmpty then [] else [b8 (bnat n * 8) :: open_]
      let n' := n && open_.isEmpty
      if 1 + e.length ≤ mp then head ++ av1Packets mp rest e n'
      else
        let ps := pieces (av1Piece mp) b.length b
        head ++ (List.range ps.length).map (fun i =>
          b8 (bnat (i != 0) * 128 + bnat (i + 1 != ps.length) * 64 + bnat (n' && i == 0) * 8) :: obuElement (ps.getD i [])) ++
          av1Packets mp rest [] false

/-! ### Transport stream (R298) -/

/-- CRC-32 of MPEG-2 sections. -/
def crcMpeg : CrcCfg := { xorout := 0 }

/-- Adaptation field: a PCR where given, stuffing to `room` bytes in all. -/
def adaptation (pcr : Option Nat) (room : Nat) : Bytes :=
  match pcr with
  | some t =>
    let v := clock27 t
    let base := v / 300 % 2 ^ 33
    let ext := v % 300
    [b8 (room - 1), 0x10] ++ beBytes 4 (base / 2) ++ [b8 (base % 2 * 128 + 0x7E + ext / 256), b8 ext] ++ List.replicate (room - 8) 0xFF
  | none => if room == 0 then [] else if room == 1 then [0] else [b8 (room - 1), 0x00] ++ List.replicate (room - 2) 0xFF

/-- One packet of a PID; `b` holds at most 184 bytes, fewer with a PCR. -/
def tsPacket (pid cc : Nat) (start : Bool) (pcr : Option Nat) (b : Bytes) : Bytes :=
  let a := adaptation pcr (184 - b.length)
  [0x47, b8 (bnat start * 64 + pid / 256), b8 pid, b8 (bnat (!a.isEmpty) * 32 + bnat (!b.isEmpty) * 16 + cc % 16)] ++ a ++ b

/-- A byte string as packets of a PID from continuity counter `cc` on; the first carries the PCR. -/
def tsPackets (pid cc : Nat) (start : Bool) (pcr : Nat) (b : Bytes) : List Bytes :=
  let head := b.take 176
  let rest := pieces 184 (b.length + 1) (b.drop 176)
  tsPacket pid cc start (some pcr) head ::
    (List.range rest.length).map (fun i => tsPacket pid (cc + 1 + i) false none (rest.getD i []))

/-- A PSI section of table `id` with extension `ext`, in one packet. -/
def psi (pid cc id ext version : Nat) (body : Bytes) : Bytes :=
  let h := [b8 id, b8 (0xB0 + (body.length + 9) / 256), b8 (body.length + 9)] ++ beBytes 2 ext ++ [b8 (0xC1 + version % 32 * 2), 0, 0]
  let sec := h ++ body ++ beBytes 4 (crcMpeg.of (h ++ body))
  [0x47, b8 (64 + pid / 256), b8 pid, b8 (16 + cc % 16), 0] ++ sec ++ List.replicate (183 - sec.length) 0xFF

def patBody (pmtPid : Nat) : Bytes := beBytes 2 1 ++ beBytes 2 (0xE000 + pmtPid)
/-- The PMT: PCR on the video PID, one stream. -/
def pmtBody (codec videoPid : Nat) : Bytes :=
  let info : Bytes := if codec == 2 then [0x05, 4, 0x41, 0x56, 0x30, 0x31] else []
  let type : Nat := match codec with | 0 => 0x1B | 1 => 0x24 | 2 => 0x06 | _ => 0x33
  beBytes 2 (0xE000 + videoPid) ++ beBytes 2 0xF000 ++ [b8 type] ++ beBytes 2 (0xE000 + videoPid) ++ beBytes 2 (0xF000 + info.length) ++ info

/-- A time stamp of a PES header. -/
def pesTime (tag v : Nat) : Bytes :=
  [b8 (tag * 16 + v / 2 ^ 30 % 8 * 2 + 1)] ++ beBytes 2 (v / 2 ^ 15 % 2 ^ 15 * 2 + 1) ++ beBytes 2 (v % 2 ^ 15 * 2 + 1)
/-- A PES header with its PTS, and its DTS where it differs. -/
def pesHeader (pts dts : Nat) : Bytes :=
  [0, 0, 1, 0xE0, 0, 0, 0x84] ++
  (if pts == dts then [0x80, 5] ++ pesTime 2 pts else [0xC0, 10] ++ pesTime 3 pts ++ pesTime 1 dts)

/-- Bytes of a NAL unit or OBU in the elementary stream of TS: start codes, or the OBU as it is. -/
def esBytes (codec : Nat) (b : Bytes) : Bytes := if codec == 2 then b else [0, 0, 0, 1] ++ b
/-- In a host chunk: a 4-byte length, or the OBU as it is (R299). -/
def chunkBytes (codec : Nat) (b : Bytes) : Bytes := if codec == 2 then b else beBytes 4 b.length ++ b

end Sys2Proof.Machine
end

