-- ==== Sys2Proof/Machine/Compose.lean ====
section
/-! DEFINITION. Compose.lean: the samples of a band as a Mere composes it and as a Cascade scales it (R191 to R197, R203,
R208, R209, R213). -/

namespace Sys2Proof.Machine

def layerKey (c l : Nat) : Nat := 12 * c + l
def lyrReg (c l o : Nat) : Nat := crsReg c (0x400 + 0x80 * l + o)
def State.layer (s : State) (c l : Nat) : Layer := s.layers.get (layerKey c l)
def State.setLayer (s : State) (c l : Nat) (y : Layer) : State := { s with layers := s.layers.set (layerKey c l) y }
def State.mereOf (s : State) (c : Nat) : Nat := (s.st.courses.get c).mere
/-- An event of a course's Mere. -/
def State.evMere (s : State) (c code detail : Nat) : State := s.evC code (0x1300 + s.mereOf c) c detail

/-- The program lines of band `b`. -/
def CourseRec.lines (c : CourseRec) (b : Nat) : Nat × Nat := (b * c.bandHeight, min c.height ((b + 1) * c.bandHeight))

/-! ### Stages 1 to 4 of a layer (R193, R194) -/

/-- A layer's matrix, offsets and table in effect. -/
structure PreBlend where
  m : List Int
  inOff : List Int
  outOff : List Int
  lut : Lut

def State.preBlend (s : State) (c l : Nat) : PreBlend :=
  let coef (k : Nat) : Int :=
    let w := s.effn (lyrReg c l (0x08 + 4 * (k / 2)))
    signed 16 (if k % 2 == 0 then w / 65536 else w)
  { m := (List.range 9).map coef
    inOff := (List.range 3).map (fun j => signed 18 (s.effn (lyrReg c l (0x1C + 4 * j))))
    outOff := (List.range 3).map (fun j => signed 18 (s.effn (lyrReg c l (0x28 + 4 * j))))
    lut := (s.layer c l).lut }

/-- A pixel of 16-bit components through the matrix and the table. -/
def PreBlend.apply (b : PreBlend) (p : Pel) : Pel :=
  let v := [p.p0, p.p1, p.p2]
  p.map (fun i _ => b.lut.pre i (matrixOut ((b.m.drop (3 * i)).take 3) b.inOff (b.outOff.getD i 0) v))

/-! ### What layers show on a line -/

/-- A line of a surface: its first address, and its pixels; a read that returns zero data gives zeros (R197). `bad` are
the 64-byte lines that memory could not deliver. -/
def State.surfaceBad (s : State) (bad : List Nat) (line : Nat) : Bool := bad.contains line || !s.allowed none false line 64
def State.surfaceLine (s : State) (bad : List Nat) (a n format : Nat) : List Pel :=
  (List.range n).map (fun x =>
    let p := a + 4 * x
    gfxPel format (if s.surfaceBad bad (p / 64 * 64) then 0 else u32 (Mem.bytes s.mem p 4) 0))

def State.gfxFormat (s : State) (c l : Nat) : Nat := s.effFld (lyrReg c l 4) 1 0

/-- Line `y` of the destination rectangle of a video layer that shows a picture: scaled, then stages 3 and 4. -/
def State.videoLine (s : State) (c : Nat) (r : LayerRec) (y : Nat) : List Pel :=
  let i := s.st.inputs.get (4 * c + r.source)
  let l := s.layer c r.layer
  let b := s.buf (inputBuf c r.source)
  let sm := if i.rgb then 2 else i.sampling
  let line (k : Nat) : List Nat :=
    scaledLine (compW sm l.geo.srcW k) (compH sm l.geo.srcH k) l.geo.dstW l.geo.dstH y (fun n =>
      (b.line l.cur (fun p => (s.heldPics c r.source).contains p) sm 64 (compW sm i.width k) k (blackSample i.depth k i.rgb) n).map
        (· * 2 ^ (16 - i.depth)))
  let c0 := line 0
  let c1 := line 1
  let c2 := line 2
  let f := s.preBlend c r.layer
  (List.range l.geo.dstW).map (fun x => f.apply { p0 := c0.getD x 0, p1 := c1.getD x 0, p2 := c2.getD x 0 })

/-- Does a layer show a surface: a graphic one, or its slate (R203)? -/
def Layer.slate (l : Layer) : Bool := l.mode == 3 && l.fallback == 2 && l.surface != 0
def State.showsSurface (s : State) (c : Nat) (r : LayerRec) : Bool :=
  let l := s.layer c r.layer
  if r.layer < 4 then l.slate else l.mode != 0

/-- Does a layer's rectangle hold program line `y`? -/
def Geometry.holds (g : Geometry) (y : Nat) : Bool := decide (g.dstY ≤ y) && decide (y < g.dstY + g.dstH)

/-- What a layer lays over program line `y` from column `dstX`, on the 12-bit scale; nothing where it is disabled or shows
the transparent fallback. -/
def State.layerLine (s : State) (c : Nat) (r : LayerRec) (bad : List Nat) (y : Nat) : List Pel :=
  let l := s.layer c r.layer
  let n := y - l.geo.dstY
  let fmt := s.gfxFormat c r.layer
  let surf := s.surfaceLine bad (l.surface + n * l.pitch) l.geo.dstW fmt
  if l.mode == 0 || !l.geo.holds y then []
  else if 4 ≤ r.layer then surf.map (s.preBlend c r.layer).apply
  else if l.mode != 3 then s.videoLine c r n
  else if l.slate then surf.map (fun p => p.map (fun _ v => v / 16))
  else if l.fallback == 1 then []
  else List.replicate l.geo.dstW { p0 := bits l.fill 29 20 * 4, p1 := bits l.fill 19 10 * 4, p2 := bits l.fill 9 0 * 4 }

/-! ### Stages 5 to 9 (R195, R196, R213) -/

/-- Pixels laid over a line from column `x`; those past its end are not composed. -/
def layOver (x : Nat) (pels : List Pel) (f : Pel → Pel → Pel) (base : List Pel) : List Pel :=
  base.take x ++ List.zipWith f pels (base.drop x) ++ base.drop (x + pels.length)

/-- The layers of a course in ascending Z (R191). -/
def State.byZ (s : State) (c : Nat) : List LayerRec :=
  (List.range 12).flatMap (fun z => (s.st.layersOf c).filter (fun r => r.z == z))

/-- The protected pixels of line `y`, where the verified store is shown (R213). -/
def State.protLine (s : State) (c y : Nat) : Nat × List Nat :=
  let r := s.st.protects.get c
  let p := s.prots.get c
  match p.verified with
  | some b =>
    if s.st.protects.has c && p.shown && decide (r.y ≤ y) && decide (y < r.y + r.h) then
      (r.x, (List.range r.w).map (fun x => u32 b (4 * ((y - r.y) * r.w + x)))) else (0, [])
  | none => (0, [])

/-- Program line `y` at the program depth, 4:4:4. -/
def State.composeLine (s : State) (c : Nat) (bad : List Nat) (y : Nat) : List Pel :=
  let x := s.st.courses.get c
  let post := s.postLut.get c
  let blended := (s.byZ c).foldl (fun base r =>
    let l := s.layer c r.layer
    layOver l.geo.dstX (s.layerLine c r bad y) (fun p q => p.over l.alpha q) base) (List.replicate x.width blackPel)
  let rounded := blended.map (fun p => p.map (fun k v => roundTo x.depth (post.entry k v)))
  let q := s.protLine c y
  rounded.take q.1 ++ List.zipWith (protPel x.depth) q.2 (rounded.drop q.1) ++ rounded.drop (q.1 + q.2.length)

/-- The columns of the protected area on line `y` (R196). -/
def State.protArea (s : State) (c y : Nat) : Nat × Nat :=
  let r := s.st.protects.get c
  if s.st.protects.has c && decide (r.y ≤ y) && decide (y < r.y + r.h) then (r.x, r.x + r.w) else (0, 0)

/-- Band `b` of the program picture (R192). -/
def State.composeBand (s : State) (c b : Nat) (bad : List Nat) : Pix :=
  let x := s.st.courses.get c
  let l := x.lines b
  subsample x.sampling x.width (fun y => s.protArea c (l.1 + y))
    ((List.range (l.2 - l.1)).map (fun y => s.composeLine c bad (l.1 + y)))

/-- Surface reads of a band that return zero data, by layer (R197). -/
def State.bandFaults (s : State) (c b : Nat) (bad : List Nat) : List (Nat × Nat) :=
  let x := s.st.courses.get c
  let q := x.lines b
  (s.st.layersOf c).filterMap (fun r =>
    let l := s.layer c r.layer
    let ys := ((List.range (q.2 - q.1)).map (q.1 + ·)).filter l.geo.holds
    let n := sum (ys.map (fun y =>
      ((linesOf (l.surface + (y - l.geo.dstY) * l.pitch) (4 * l.geo.dstW)).filter (s.surfaceBad bad)).length))
    if s.showsSurface c r && n != 0 then some (r.layer, n) else none)

/-! ### Cascades (R208, R209) -/

/-- Band `b` of rung `g`, from the picture of its source rung. -/
def State.scaleBand (s : State) (c : Nat) (g : RungRec) (b : Nat) : Pix :=
  let x := s.st.courses.get c
  let src := s.st.rungs.get (64 * c + g.source)
  let k := s.buf (rungBuf c g.source)
  let h := min x.bandHeight (g.height - b * x.bandHeight)
  let plane (m : Nat) : Plane :=
    (List.range (compH g.sampling h m)).map (fun y =>
      (scaledLine (compW g.sampling src.width m) (compH g.sampling src.height m) (compW g.sampling g.width m)
        (compH g.sampling g.height m) (b * compH g.sampling x.bandHeight m + y) (fun n =>
          (k.line k.curSlot.pic (fun _ => true) g.sampling x.bandHeight (compW g.sampling src.width m) m
            (blackSample g.depth m false) n).map (· * 2 ^ (16 - g.depth)))).map (toDepth 16 g.depth))
  { c0 := plane 0, c1 := plane 1, c2 := plane 2 }

end Sys2Proof.Machine
end

