-- ==== Sys2Proof/Machine/Analyse.lean ====
section
/-! DEFINITION. Analyse.lean: the sample arithmetic of the Headwater analysis: scales, sums, Hadamard costs, decimation and
the search (R223 to R226). -/

namespace Sys2Proof.Machine

/-! ### Scales and decimation (R223, R224) -/

def lumaTo8 (d x : Nat) : Nat := match d with | 8 => x | 10 => (x + 2) / 4 | _ => (x + 8) / 16
def lumaTo10 (d x : Nat) : Nat := match d with | 8 => x * 4 | 10 => x | _ => (x + 2) / 4

/-- The rounded means of 2×2 groups; past the edge the nearest sample counts again. -/
def decimate (p : Plane) (w : Nat) : Plane :=
  (List.range (ceilDiv p.length 2)).map (fun y => (List.range (ceilDiv w 2)).map (fun x =>
    let f (i j : Nat) : Nat := p.at (min (w - 1) (2 * x + i)) (min (p.length - 1) (2 * y + j))
    (f 0 0 + f 1 0 + f 0 1 + f 1 1 + 2) / 4))

/-! ### Hadamard costs (R223) -/

/-- A Hadamard transform of 2^n values. -/
def hadamard : Nat → List Int → List Int
  | 0, l => l
  | n + 1, l =>
    let a := l.take (l.length / 2)
    let b := l.drop (l.length / 2)
    hadamard n (List.zipWith (· + ·) a b) ++ hadamard n (List.zipWith (· - ·) a b)
/-- Σ|H| of an 8×8 block of differences. -/
def satd8 (f : Nat → Nat → Int) : Nat :=
  let rows := (List.range 8).map (fun y => hadamard 3 ((List.range 8).map (fun x => f x y)))
  sum ((List.range 8).flatMap (fun x => (hadamard 3 (rows.map (fun r => r.getD x 0))).map Int.natAbs))
/-- Σ|H| / 2 over the four quarters of a 16×16 block of differences. -/
def satd16 (f : Nat → Nat → Int) : Nat :=
  (satd8 f + satd8 (fun x y => f (x + 8) y) + satd8 (fun x y => f x (y + 8)) + satd8 (fun x y => f (x + 8) (y + 8))) / 2

/-- The prediction of intra class `k` (R221): DC, horizontal and vertical; the others are Config's (assumption log entry
102). -/
def intraSample (k : Nat) (above left : List Nat) (corner x y : Nat) : Nat :=
  match k with
  | 0 => (sum (above.take 16) + sum (left.take 16) + 16) / 32
  | 2 => left.getD y 0
  | 3 => above.getD x 0
  | _ => Config.intraPred k above left corner x y

/-! ### The search (R225) -/

/-- A decimated picture: its size, its lines in a band, and its bands. -/
structure Decim where
  w : Nat
  h : Nat
  bh : Nat
  bands : Tab Plane
/-- A sample, the nearest edge sample outside the picture. -/
def Decim.at (d : Decim) (x y : Int) : Nat :=
  let j := clampTo d.h y
  (d.bands.get (j / max 1 d.bh)).at (clampTo d.w x) (j % max 1 d.bh)
/-- A sample at half positions, bilinear, halves upward. -/
def Decim.half (d : Decim) (x y : Int) : Nat :=
  let i := x / 2
  let j := y / 2
  match x % 2 == 0, y % 2 == 0 with
  | true, true => d.at i j
  | false, true => (d.at i j + d.at (i + 1) j + 1) / 2
  | true, false => (d.at i j + d.at i (j + 1) + 1) / 2
  | false, false => (d.at i j + d.at (i + 1) j + d.at i (j + 1) + d.at (i + 1) (j + 1) + 2) / 4
/-- Is a block of `w` × `h` at (x, y) partly inside the picture, and every band of it valid? -/
def Decim.reads (d : Decim) (valid : List Bool) (x y : Int) (w h : Nat) : Bool :=
  let a := clampTo d.h y / max 1 d.bh
  let b := clampTo d.h (y + h - 1) / max 1 d.bh
  decide (0 < x + w) && decide (x < d.w) && decide (0 < y + h) && decide (y < d.h) &&
    (List.range (b + 1 - a)).all (fun n => valid.getD (a + n) false)

/-- The vectors of a window, in raster order. -/
def searchWindow (cx cy : Int) (rx ry : Nat) : List (Int × Int) :=
  (List.range (2 * ry + 1)).flatMap (fun (j : Nat) => (List.range (2 * rx + 1)).map (fun (i : Nat) =>
    (cx - (rx : Int) + (i : Int), cy - (ry : Int) + (j : Int))))
/-- The best vector: lowest cost, then smallest |x| + |y|, then the first. -/
def bestVector (cost : Int × Int → Option Nat) (l : List (Int × Int)) : Option (Nat × Int × Int) :=
  l.foldl (fun (a : Option (Nat × Int × Int)) v =>
    match cost v, a with
    | none, _ => a
    | some n, none => some (n, v)
    | some n, some (m, u) =>
      if n < m || (n == m && decide (v.1.natAbs + v.2.natAbs < u.1.natAbs + u.2.natAbs)) then some (n, v) else a) none
/-- Is a vector in program pixels in the range of R222? -/
def vectorFits (x y : Int) : Bool := decide (-2048 ≤ x) && decide (x ≤ 2047) && decide (-1024 ≤ y) && decide (y ≤ 1023)

/-- The search of block (bx, b_y) at one distance: `half` and `quarter` are the current picture, `rhalf` and `rquarter` the
searched one with its valid bits, `centre` the second centre on the 16:1 picture. -/
def searchBlock (half quarter rhalf rquarter : Decim) (valid : List Bool) (bx b_y : Nat) (centre : Int × Int) : Cand :=
  let coarse (v : Int × Int) : Option Nat :=
    let x : Int := (4 * bx : Nat) + v.1
    let y : Int := (4 * b_y : Nat) + v.2
    if !(vectorFits (4 * v.1) (4 * v.2) && rquarter.reads valid x y 4 4) then none
    else some (sum ((List.range 16).map (fun (k : Nat) =>
      let i := k % 4
      let j := k / 4
      if quarter.w ≤ 4 * bx + i ∨ quarter.h ≤ 4 * b_y + j then 0
      else ((quarter.at ((4 * bx + i : Nat) : Int) ((4 * b_y + j : Nat) : Int) : Int) - rquarter.at (x + (i : Int)) (y + (j : Int))).natAbs)))
  let fine (v : Int × Int) : Option Nat :=
    let x : Int := (8 * bx : Nat) + v.1 / 2
    let y : Int := (8 * b_y : Nat) + v.2 / 2
    let w := if v.1 % 2 == 0 then 8 else 9
    let h := if v.2 % 2 == 0 then 8 else 9
    if !(vectorFits v.1 v.2 && rhalf.reads valid x y w h) then none
    else some (4 * (satd8 (fun i j =>
      if half.w ≤ 8 * bx + i ∨ half.h ≤ 8 * b_y + j then 0
      else (half.at ((8 * bx + i : Nat) : Int) ((8 * b_y + j : Nat) : Int) : Int) -
        rhalf.half (((16 * bx + 2 * i : Nat) : Int) + v.1) (((16 * b_y + 2 * j : Nat) : Int) + v.2)) / 2))
  match bestVector coarse (searchWindow 0 0 64 32 ++ searchWindow centre.1 centre.2 64 32) with
  | none => {}
  | some q =>
    match bestVector fine ((searchWindow (2 * q.2.1) (2 * q.2.2) 4 4).map (fun v => (2 * v.1, 2 * v.2))) with
    | none => {}
    | some p =>
      match bestVector fine (searchWindow p.2.1 p.2.2 1 1) with
      | none => {}
      | some e => { valid := true, mvx := e.2.1, mvy := e.2.2, cost := e.1 }

/-- A candidate's vector times `d` over 4, to nearest, halves away from zero. -/
def centreOf (v : Int) (d : Nat) : Int := if v < 0 then -(((v.natAbs * d + 2) / 4 : Nat) : Int) else ((v.natAbs * d + 2) / 4 : Nat)

/-! ### A block's measures -/

/-- The luma lines of band `band` of a program picture as the analysis reads them (R18, R233). -/
def State.lumaBand (s : State) (c pic band : Nat) : Plane :=
  let x := s.st.courses.get c
  let l := x.lines band
  (List.range (l.2 - l.1)).map (fun y =>
    (s.buf (progBuf c)).line pic (fun _ => true) x.sampling x.bandHeight x.width 0 (blackSample x.depth 0 false) (l.1 + y))

/-- The sums of the block at column `bx` and block row `j` of a band. `p8` and `p10` are the band's luma, `q10` that of the
same band of the distance-1 picture where its slot still holds it. Borders outside the band or the picture are 128
(assumption log entry 102). -/
def blockSums (w : Nat) (p8 p10 : Plane) (q10 : Option Plane) (bx j : Nat) : BlockMeas :=
  let nx := min 16 (w - 16 * bx)
  let ny := min 16 (p8.length - 16 * j)
  let inside := (List.range ny).flatMap (fun y => (List.range nx).map (fun x => (16 * bx + x, 16 * j + y)))
  let v := inside.map (fun e => p10.at e.1 e.2)
  let border (x y : Int) : Nat :=
    if 0 ≤ x ∧ x < w ∧ 0 ≤ y ∧ y < p8.length then p8.at x.toNat y.toNat else 128
  let x0 : Int := ((16 * bx : Nat) : Int)
  let y0 : Int := ((16 * j : Nat) : Int)
  let above := (List.range 32).map (fun (i : Nat) => border (x0 + (i : Int)) (y0 - 1))
  let left := (List.range 32).map (fun (i : Nat) => border (x0 - 1) (y0 + (i : Int)))
  let corner := border (x0 - 1) (y0 - 1)
  let cost (k : Nat) : Nat := satd16 (fun x y =>
    if nx ≤ x ∨ ny ≤ y then 0 else (p8.at (16 * bx + x) (16 * j + y) : Int) - intraSample k above left corner x y)
  let lap (x y : Nat) : Nat :=
    let f (a b : Nat) : Int := p10.at (16 * bx + x + a - 1) (16 * j + y + b - 1)
    (f 0 0 - 2 * f 1 0 + f 2 0 - 2 * f 0 1 + 4 * f 1 1 - 2 * f 2 1 + f 0 2 - 2 * f 1 2 + f 2 2).natAbs
  { n := inside.length, sum10 := sum v, squares := sum (v.map (fun a => a * a))
    sum8 := sum (inside.map (fun e => p8.at e.1 e.2)), intra := (List.range 9).map cost
    sad := q10.map (fun q => sum (inside.map (fun e => ((p10.at e.1 e.2 : Int) - q.at e.1 e.2).natAbs)))
    lap := sum ((List.range (ny - 2)).flatMap (fun y => (List.range (nx - 2)).map (fun x => lap (x + 1) (y + 1)))) }

end Sys2Proof.Machine
end

