-- ==== Sys2Proof/Machine/Mere.lean ====
section
/-! DEFINITION. Mere.lean: composition and the ladder scalers as band work: layers, latching, tables, host inputs, the
protected layer and the bands that Meres and Cascades write (08_mere_cascade, R191 to R216). -/

namespace Sys2Proof.Machine

/-! ### Bands that a stage needs (R13 to R19) -/

/-- The source lines that scaled lines [lo, hi) of a picture need: 8 taps at destination spacing (R208). -/
def supportLines (lo hi src dst : Nat) : Nat × Nat :=
  let half := 4 * max 1 (ceilDiv src dst)
  let first : Int := ((2 * lo + 1 : Nat) * src - dst : Int) / (2 * dst : Int) - (half - 1 : Int)
  let last : Int := ((2 * hi - 1 : Nat) * src - dst : Int) / (2 * dst : Int) + half
  (first.toNat, min src (last.toNat + 1))

/-- The bands of an input (64 lines) or rung (`bh` lines) behind destination lines [lo, hi); 4:2:0 chroma is filtered on
its own grid. -/
def supportBands (lo hi src dst bh : Nat) (c420 : Bool) : List Nat :=
  if hi ≤ lo then []
  else
    let l := supportLines lo hi src dst
    let k := if c420 then supportLines lo hi (src / 2) dst else (l.1 / 2, l.2 / 2)
    bandSpan (min l.1 (2 * k.1)) (max l.2 (2 * k.2)) bh src

/-- What band `b` of the program picture of course `c` reads: input and bands of the picture shown, for each enabled
video layer over it that shows one. -/
def State.mereNeeds (s : State) (c b : Nat) : List (Nat × Nat × List Nat) :=
  let x := s.st.courses.get c
  let l := x.lines b
  (s.st.layersOf c).filterMap (fun r =>
    let y := s.layer c r.layer
    let i := s.st.inputs.get (4 * c + r.source)
    if r.layer < 4 ∧ (y.mode = 1 ∨ y.mode = 2) then
      let lo := max l.1 y.geo.dstY - y.geo.dstY
      let hi := min l.2 (y.geo.dstY + y.geo.dstH) - y.geo.dstY
      some (r.source, y.cur, supportBands lo hi y.geo.srcH y.geo.dstH 64 (i.sampling == 0))
    else none)

/-- Does any band read for program band `b` carry LOCAL (R15)? -/
def State.mereLocal (s : State) (c b : Nat) : Bool :=
  (s.mereNeeds c b).any (fun n =>
    n.2.2.any (fun k => (s.buf (inputBuf c n.1)).readLocal n.2.1 k (fun p => (s.heldPics c n.1).contains p)))

/-- Band heights of a rung; a Cascade's source needs for band `b` of rung `g`. -/
def State.casNeeds (s : State) (c : Nat) (g : RungRec) (b : Nat) : List Nat :=
  let x := s.st.courses.get c
  let src := s.st.rungs.get (64 * c + g.source)
  supportBands (b * x.bandHeight) (min g.height ((b + 1) * x.bandHeight)) src.height g.height x.bandHeight (src.sampling == 0)

/-- Cycles of one band of a source of width `w` at 4 pixels a cycle. -/
def bandCycles4 (w h bh b : Nat) : Nat := ceilDiv (w * min bh (h - b * bh)) 4

/-- The Mere starts its next band once every band it needs is marked (R17). -/
def State.mereStart (s : State) (c : Nat) : State :=
  let r := s.stage (.mere c)
  let x := s.st.courses.get c
  let ready := (s.mereNeeds c r.next).all (fun n => (s.buf (inputBuf c n.1)).ready n.2.1 n.2.2)
  if r.active && !r.reading && decide (r.next < bandsOf x.height x.bandHeight) && ready && !s.retired.contains (0x1300 + x.mere) then
    let cyc := bandCycles4 x.width x.height x.bandHeight r.next
    s.setStage (.mere c) { r with reading := true, free := s.now + cyc, used := r.used + cyc }
  else s

/-- A Cascade starts reading the next band of its source rung. -/
def State.cascadeStart (s : State) (c k : Nat) : State :=
  let r := s.stage (.cascade c k)
  let x := s.st.courses.get c
  let g := (s.st.cascadeRungs c k).headD {}
  let src := s.st.rungs.get (64 * c + g.source)
  let b := s.buf (rungBuf c g.source)
  if r.active && decide (r.next < bandsOf src.height x.bandHeight) && b.ready b.curSlot.pic [r.next] &&
      !s.retired.contains (0x1400 + k) then
    let s := s.runTo r.free
    let cyc := bandCycles4 src.width src.height x.bandHeight r.next
    s.setStage (.cascade c k) { r with next := r.next + 1, free := s.now + cyc, used := r.used + cyc }
  else s

/-- R197: faults of graphic surfaces in a band; reported once per picture, with its first faulting layer. -/
def State.surfaceFaults (s : State) (c : Nat) (faults : List (Nat × Nat)) (last : Bool) : State :=
  let s := faults.foldl (fun s f =>
    (s.setLayer c f.1 { s.layer c f.1 with faults := (s.layer c f.1).faults + f.2 }).inc (mereReg (0x10000 * s.mereOf c + 0xC)) f.2) s
  if !last then s
  else
    let bad := (s.st.layersOf c).filter (fun l => (s.layer c l.layer).faults != 0)
    let total := sum (bad.map (fun l => (s.layer c l.layer).faults))
    let s' := bad.foldl (fun s l => s.setLayer c l.layer { s.layer c l.layer with faults := 0 }) s
    match bad with
    | [] => s
    | l :: _ => s'.evMere c 0x0606 (l.layer * 2 ^ 24 + sat 16 total)

/-- MERE_BAND_DONE: the band in progress is composed and WRITTEN (R16, R192); `bad` are the 64-byte lines of surfaces that
memory could not deliver. -/
def State.mereBandDone (s : State) (c : Nat) (bad : List Nat) : State :=
  let r := s.stage (.mere c)
  let x := s.st.courses.get c
  if !(r.active && r.reading) then s
    else
      let s := s.runTo r.free
      let l := s.mereLocal c r.next
      let p := s.composeBand c r.next bad
      let faults := s.bandFaults c r.next bad
      let s := s.updBuf (progBuf c) (fun b => (b.setPix r.next p).setMark r.next .written l)
      let s := s.setStage (.mere c) { r with reading := false, next := r.next + 1 }
      (s.surfaceFaults c faults (decide (bandsOf x.height x.bandHeight ≤ r.next + 1))).pace

/-- CASCADE_BAND_DONE: the next band of rung `g` is final (R209). -/
def State.cascadeBandDone (s : State) (c g : Nat) : State :=
  let q := s.st.rungs.get (64 * c + g)
  let r := s.stage (.cascade c q.cascade)
  let out := s.buf (rungBuf c g)
  let needs := s.casNeeds c q (out.curSlot.unfinished.headD 0)
  match out.curSlot.unfinished with
    | [] => s
    | band :: _ =>
      if !(r.active && g != 1 && decide (maxOf needs < r.next)) then s
      else
        let s := if maxOf needs + 1 == r.next then s.runTo r.free else s
        let src := s.buf (rungBuf c q.source)
        let l := needs.any (fun k => src.readLocal src.curSlot.pic k (fun _ => true))
        let p := s.scaleBand c q band
        (s.updBuf (rungBuf c g) (fun b => (b.setPix band p).setMark band .written l)).pace

/-- Freeze the unfinished bands of a stage's picture (R18, R64): LOCAL is set (R15), BANDS_FROZEN told once. -/
def State.freezePicture (s : State) (buf src c : Nat) (bands : List Nat) : State :=
  if bands.isEmpty then s
  else (s.updBuf buf (fun b => b.freeze bands true)).evC 0x0203 src c (bands.headD 0 * 2 ^ 16 + bands.length)

/-- The Mere and the Cascades of a course stop at the deadline, at a reset or at their retirement. -/
def State.freezeMere (s : State) (c : Nat) : State :=
  let r := s.stage (.mere c)
  if !r.active then s
  else (s.setStage (.mere c) { r with active := false, reading := false }).freezePicture (progBuf c) (0x1300 + s.mereOf c) c
    (s.buf (progBuf c)).curSlot.unfinished
def State.freezeCascade (s : State) (c k : Nat) : State :=
  let r := s.stage (.cascade c k)
  if !r.active then s
  else (s.st.cascadeRungs c k).foldl (fun s g => s.freezePicture (rungBuf c g.rung) (0x1400 + k) c
    (s.buf (rungBuf c g.rung)).curSlot.unfinished) (s.setStage (.cascade c k) { r with active := false, reading := false })

/-! ### Latching (R200 to R203) -/

/-- The newest picture that input `i` offers to a layer showing `cur`, none where it is not ready. A host picture counts
when it was posted before `limit`. -/
def State.offered (s : State) (i : InputRec) (cur limit : Nat) : Option Nat :=
  let b := s.buf (inputBuf i.course i.input)
  match i.source with
  | 1 => let p := (s.streams.get (4 * i.course + i.input)).outPic; if p == 0 then none else some p
  | 2 =>
    let p := maxOf ((b.slots.filter (fun x => decide (x.at_ < limit))).map (·.pic))
    if cur < p then some p else none
  | _ => if cur < b.pics then some b.pics else none

/-- One video layer latches at a window opening. -/
def State.latchLayer (s : State) (r : LayerRec) (limit : Nat) : State :=
  let c := r.course
  let y := s.layer c r.layer
  let i := s.st.inputs.get (4 * c + r.source)
  let freeze := (s.st.courses.get c).freezeLimit
  if !y.enabled then s.setLayer c r.layer { y with mode := 0 }
  else match s.offered i y.cur limit with
  | some p =>
    let skipped := if i.source == 1 then 0 else if y.cur == 0 then p - 1 else p - y.cur - 1
    let s := s.setLayer c r.layer { y with mode := 1, shown := true, prev := y.cur, cur := p, run := 0 }
    let s := if y.run == 0 then s else s.evMere c 0x0603 (r.layer * 2 ^ 24 + sat 16 y.run)
    if skipped == 0 then s
    else (s.inc (lyrReg c r.layer 0x44) skipped).limitedBy (0x604 * 2 ^ 12 + layerKey c r.layer) msCycles skipped (fun n s =>
      s.evMere c 0x0604 (r.layer * 2 ^ 24 + sat 16 n))
  | none =>
    if !y.shown then s.setLayer c r.layer { y with mode := 3 }
    else
      let run := y.run + 1
      let fall := decide (freeze < run)
      let s := (s.setLayer c r.layer { y with mode := if fall then 3 else 2, run := run }).inc (lyrReg c r.layer 0x40) 1
      let s := if run == 1 then s.evMere c 0x0601 (r.layer * 2 ^ 24) else s
      if fall && y.mode != 3 then s.evMere c 0x0602 (r.layer * 2 ^ 24 + y.fallback % 4) else s

/-- Every video layer of a course latches, lowest layer first. -/
def State.latchLayers (s : State) (c limit : Nat) : State :=
  ((s.st.layersOf c).filter (fun l => decide (l.layer < 4))).foldl (fun s r => s.latchLayer r limit) s

/-! ### Capture times (R69) -/

/-- C of an ST 2110-20 picture from its RTP timestamp and the arrival of its first packet. -/
def rtpCapture (rtp arrival : Nat) : Nat :=
  let sec := arrival / 1000000000
  let ka := sec * 90000 + arrival % 1000000000 * 9 / 100000
  let k := ((ka : Int) + signed 32 (rtp + 2 ^ 32 - ka % 2 ^ 32)).toNat
  k / 90000 * 1000000000 + ceilDiv (k % 90000 * 100000) 9

/-- C of the program picture that a window opens: nanoseconds, and whole domain periods added. -/
def State.capture (s : State) (c : Nat) : Nat × Nat :=
  let i := s.st.timingInput c
  let tick := (s.dom (s.domOf c)).t0Ns
  let live := (s.st.layersOf c).find? (fun l => decide (l.layer < 4) && l.source == i.input && (s.layer c l.layer).mode == 1)
  match live with
  | some l =>
    let x := ((s.buf (inputBuf c i.input)).slotOf (s.layer c l.layer).cur).getD {}
    if i.source == 0 then (rtpCapture x.rtp x.firstNs, 0) else (tick, 0)
  | none => match (s.courses.get c).cap with
    | some p => (p.1, p.2 + 1)
    | none => (tick, 0)

/-- New pictures for the stages of a course at a window opening: program, map and rung slots (R16, R20). -/
def State.openPictures (s : State) (c : Nat) : State :=
  let x := s.st.courses.get c
  let d := s.dom (s.domOf c)
  let cap := s.capture c
  let n := bandsOf x.height x.bandHeight
  let count := (s.heads.get c).count
  let info : Slot := { tick := d.tick, at_ := s.now, cap := cap.1, capPeriods := cap.2, count }
  let q := s.st.domains.get x.domain
  let at_ := cap.1 + cap.2 * q.num * 1000000000 / max 1 q.den
  let s := { s with courses := s.courses.upd c (fun r => { r with cap := some cap, caps := ((count, at_) :: r.caps).take 8 }) }
  let s := s.updBuf (progBuf c) (fun b => b.assign b.nextSlot n info)
  let s := s.updBuf (mapBuf c) (fun b => b.assign b.nextSlot n info)
  let s := ((s.st.rungsOf c).filter (·.rung != 1)).foldl (fun s g =>
    s.updBuf (rungBuf c g.rung) (fun b => b.assign b.nextSlot (bandsOf g.height x.bandHeight) info)) s
  let go (s : State) (k : Stage) : State :=
    let r := s.stage k
    s.setStage k { active := true, next := 0, reading := false, free := s.now, used := 0, last := r.used }
  let ks := (((s.st.rungsOf c).filter (·.rung != 1)).map (·.cascade)).eraseDups
  let s := ks.foldl (fun s k => go s (.cascade c k)) (go s (.mere c))
  (s.st.hwsOf c).foldl (fun s h => go s (.headwater c h.unit)) s

/-! ### Host inputs (R204) -/

/-- The next slot of a host input that no window may read. -/
def State.hinFree (s : State) (c k : Nat) : Option Nat :=
  let b := s.buf (inputBuf c k)
  let n := b.slots.length
  let held := s.heldPics c k
  let newest := maxOf held
  ((List.range n).map (fun i => (b.cur + 1 + i) % n)).find? (fun i =>
    let p := (b.slot i).pic
    p == 0 || (!held.contains p && decide (p ≤ newest)))

/-- The picture that host software has written into slot `slot` of a host input, in the working format (R22): its bands
of 64 lines as memory holds them. -/
def State.hostBand (s : State) (i : InputRec) (slot b : Nat) : Pix :=
  let sm := if i.rgb then 2 else i.sampling
  Pix.make sm i.width (min 64 (i.height - 64 * b)) (fun k x y =>
    workingSample (fun a => (Mem.byte s.mem a).toNat) i.depth (Config.slotBase (inputBuf i.course i.input) slot)
      (Config.sampleIndex sm i.width i.height k x (b * compH sm 64 k + y)))

/-- HIN_k_POST by the owner or PF0. -/
def State.hinPost (s : State) (c k : Nat) (w : Word) : State :=
  let i := s.st.inputs.get (4 * c + k)
  let h := s.hostIns.get (4 * c + k)
  let slot := w.toNat % 8
  if !(bit w.toNat 31 && s.st.inputs.has (4 * c + k) && i.source == 2) then s
  else if h.next == some slot then
    let n := bandsOf i.height 64
    let s := s.updBuf (inputBuf c k) (fun b =>
      (List.range n).foldl (fun b j => b.setMark j .written false)
        (b.assign slot n { at_ := s.now, pix := (List.range n).map (fun j => (j, s.hostBand i slot j)) }))
    { s with hostIns := s.hostIns.set (4 * c + k) { next := s.hinFree c k } }
  else ((s.st.layersOf c).filter (fun l => decide (l.layer < 4) && l.source == k)).foldl (fun s l => s.inc (lyrReg c l.layer 0x44) 1) s
def execHinPost (c k : Nat) (w : Word) (s : State) : Host.Outcome State Fault Refusal := .next (s.hinPost c k w).pace

/-- At a window opening a slot may become free. -/
def State.hinRefresh (s : State) (c : Nat) : State :=
  ((s.st.inputsOf c).filter (·.source == 2)).foldl (fun s i =>
    if (s.hostIns.get (4 * c + i.input)).next.isNone then
      { s with hostIns := s.hostIns.set (4 * c + i.input) { next := s.hinFree c i.input } } else s) s

/-! ### Tables (R199) -/

/-- The table of layer `l`, or of the post-blend stage for 15. -/
def State.lut (s : State) (c l : Nat) : Lut := if l == 15 then s.postLut.get c else (s.layer c l).lut
def State.setLut (s : State) (c l : Nat) (u : Lut) : State :=
  if l == 15 then { s with postLut := s.postLut.set c u } else s.setLayer c l { s.layer c l with lut := u }
def State.lutAddr (s : State) (c l : Nat) : Nat := if l == 15 then s.rd64 (crsReg c 0xA00) else s.rd64 (lyrReg c l 0x34)

/-- LUT_LOAD: LOAD starts a fetch, or restarts it; a bad address fails at once. -/
def State.lutLoad (s : State) (c l : Nat) (w : Word) : State :=
  let a := s.lutAddr c l
  let u := s.lut c l
  if !bit w.toNat 0 then s
  else if a % 64 != 0 then (s.setLut c l { u with fetching := none, shadow := none, ready := false }).evMere c 0x0605 (l * 2 ^ 24)
  else s.setLut c l { u with fetching := some a, shadow := none, ready := false }
def execLutLoad (c l : Nat) (w : Word) (s : State) : Host.Outcome State Fault Refusal := .next (s.lutLoad c l w)

/-- LUT_FETCH_DONE: the 24,576 bytes are in the shadow table, or a decode error ends the fetch. -/
def execLutFetchDone (c l : Nat) (s : State) : Host.Outcome State Fault Refusal :=
  let u := s.lut c l
  .next (match u.fetching with
    | none => s
    | some a =>
      if s.allowed none false a 24576 then
        s.setLut c l { u with fetching := none, shadow := some (Mem.bytes s.mem a 24576) }
      else ((s.setLut c l { u with fetching := none }).decodeError (13 + s.mereOf c / 4) none false a).evMere c 0x0605 (l * 2 ^ 24 + 1))

/-- At T+0 the tables whose fetch has ended are due; at the Weir they become active. -/
def Lut.mark (u : Lut) : Lut := { u with ready := u.shadow.isSome }
def Lut.apply (u : Lut) : Lut :=
  match u.ready, u.shadow with
  | true, some b => { active := b, shadow := none, ready := false, fetching := u.fetching }
  | _, _ => u
def State.lutsMap (s : State) (c : Nat) (f : Lut → Lut) : State :=
  let s := { s with postLut := s.postLut.upd c f }
  (s.st.layersOf c).foldl (fun s l => s.setLayer c l.layer { s.layer c l.layer with lut := f (s.layer c l.layer).lut }) s

/-! ### The protected layer (R211 to R215) -/

def protReg (f c o : Nat) : Nat := funcReg f (0xC00 + 0x10 * c + o)
def State.prot (s : State) (c : Nat) : Prot := s.prots.get c
def State.setProt (s : State) (c : Nat) (p : Prot) : State := { s with prots := s.prots.set c p }

/-- The bytes of the protected surface: 4 × W of each line, pitch padding left out. -/
def State.protSurface (s : State) (p : ProtectRec) : Bytes :=
  (List.range p.h).flatMap (fun y => Mem.bytes s.mem (p.surface + y * p.pitch) (4 * p.w))

/-- A check that fails or does not finish (R212). -/
def State.protFail (s : State) (c value : Nat) : State :=
  let p := s.prot c
  let s := s.setProt c { p with outcome := some false, failing := true, failWindows := sat 16 (p.failWindows + 1) }
  if p.failing then s else s.evMere c 0x0607 value

/-- PROT_CHECK_DONE: the read of the area has finished. -/
def execProtCheckDone (c : Nat) (s : State) : Host.Outcome State Fault Refusal :=
  let p := s.prot c
  let r := s.st.protects.get c
  .next (if !(s.st.protects.has c && (s.stage (.mere c)).active && !p.hold && p.outcome.isNone) then s
    else
      let bytes := s.protSurface r
      let v := crc32.of bytes
      let s := s.setChk r.checkUnit { s.chk r.checkUnit with run := reverseBits 32 (Nat.xor v 0xFFFFFFFF) }
      let s := s.setProt c { p with candidate := bytes, lastCheck := v, outcome := some (v == p.expect) }
      if v == p.expect then s else s.protFail c v)

/-- The Mere's deadline: a read that has not finished fails (R212). -/
def State.protDeadline (s : State) (c : Nat) : State :=
  if s.st.protects.has c && s.running c && !(s.prot c).hold && (s.prot c).outcome.isNone then s.protFail c 0 else s

/-- At the next Weir a candidate that passed becomes the verified store, and the window's settings are taken. -/
def State.protOpen (s : State) (c : Nat) : State :=
  if !s.st.protects.has c then s
  else
    let o := (s.st.protects.get c).owner
    let p := s.prot c
    let pass := p.outcome == some true
    let q : Prot := { p with
      verified := (if pass then some p.candidate else p.verified), candidate := [], outcome := none
      failing := p.failing && !pass, failWindows := if pass then 0 else p.failWindows
      expect := s.effn (protReg o c 0), hold := s.effFld (protReg o c 4) 1 1 == 1, shown := s.effFld (protReg o c 4) 0 0 == 1 }
    let s := s.setProt c q
    if pass && p.failing then s.evMere c 0x0608 p.failWindows else s

/-- PROT_REG_WRITE (R215): function `f` writes offset `o` of FUNC_Fn.PROT_Cnn. -/
def State.protWrite (s : State) (f n c o : Nat) (w : Word) : State :=
  if !(s.st.protects.has c && (s.st.protects.get c).owner == n) then s
  else if f != n then s.evC 0x0609 (0x5100 + f) c (n * 2 ^ 8 + o)
  else match o with
    | 0 => s.weirWrite f (protReg n c 0) (fun s => s.wr (protReg n c 0) w)
    | 4 => s.weirWrite f (protReg n c 4) (fun s => s.wrn (protReg n c 4) (w.toNat % 4))
    | _ => s
def execProtRegWrite (f n c o : Nat) (w : Word) (s : State) : Host.Outcome State Fault Refusal := .next (s.protWrite f n c o w)

/-- The protected layer when its course starts or its PROTECT record changes (R214): nothing verified, and the check
unit configured. -/
def State.protReset (s : State) (c : Nat) : State :=
  if !s.st.protects.has c then { s with prots := s.prots.del c }
  else
    let u := (s.st.protects.get c).checkUnit
    let s := (((s.wrn (chkReg u 0x00) (2 ^ 31 + 2 ^ 30 + 32)).wr64 (chkReg u 0x08) 0x04C11DB7).wr64 (chkReg u 0x10) 0xFFFFFFFF).wr64
      (chkReg u 0x18) 0xFFFFFFFF
    (s.setChk u { s.chk u with run := 0xFFFFFFFF, restart := false }).setProt c {}

/-- A layer takes the values of its record. -/
def LayerRec.load (l : LayerRec) (y : Layer) : Layer :=
  { y with enabled := l.enabled, geo := l.geo, alpha := l.alpha, fallback := l.fallback, fill := l.fill, surface := l.surface
           pitch := l.pitch }
/-- A layer when its course starts: nothing shown, its table identity (R199, R202, R429). -/
def Layer.start (y : Layer) (l : Nat) : Layer :=
  { y with shown := false, cur := 0, prev := 0, run := 0, lut := {}, faults := 0
           mode := if y.enabled && decide (l < 4) then 3 else if y.enabled then 1 else 0 }
/-- Its matrix and offsets identity. -/
def State.layerIdentity (s : State) (c l : Nat) : State :=
  let s := ((s.wrBoth (lyrReg c l 0x08) 0x10000000).wrBoth (lyrReg c l 0x10) 0x10000000).wrBoth (lyrReg c l 0x18) 0x10000000
  [0x0C, 0x14, 0x1C, 0x20, 0x24, 0x28, 0x2C, 0x30].foldl (fun s o => s.wrBoth (lyrReg c l o) 0) s

end Sys2Proof.Machine
end

