-- ==== Sys2Proof/Machine/Headwater.lean ====
section
/-! DEFINITION. Headwater.lean: the analysis of a course's program pictures (09_headwater, R217 to R235): records,
measures, history, cuts and noise. -/

namespace Sys2Proof.Machine

/-! ### Measures (R222 to R227) -/

/-- LCOST of a cost (R222). -/
def lcost (c : Nat) : Nat :=
  if c == 0 then 0
  else
    let e := c.log2
    8 * e + (if 3 ≤ e then c / 2 ^ (e - 3) % 8 else c * 2 ^ (3 - e) % 8) + 1

/-- VARIANCE (R223). -/
def BlockMeas.variance (m : BlockMeas) : Nat :=
  if m.n == 0 then 0 else min 65535 ((m.n * m.squares - m.sum10 * m.sum10) / (m.n * m.n * 4))

/-- The spatial noise estimate (R226). -/
def BlockMeas.spatial (m : BlockMeas) : Nat := (m.lap * 1117 + 32768) / 65536
/-- The temporal noise estimate (R226). -/
def temporalNoise (sad : Nat) : Nat := (sad * 3630 + 32768) / 65536

/-- Index of the first smallest value among the entries that count. -/
def argMin (l : List (Option Nat)) : Option Nat :=
  ((List.range l.length).foldl (fun (a : Option (Nat × Nat)) i =>
    match l.getD i none, a with
    | some v, none => some (i, v)
    | some v, some (j, w) => if v < w then some (i, v) else some (j, w)
    | none, a => a) none).map (·.1)

/-- The record of a block (R221, R223). `inHist` says of each distance whether its picture is in the history. -/
def BlockMeas.record (m : BlockMeas) (inHist : List Bool) (staticThresh : Nat) : BlockRec :=
  let cands := (List.range 4).map (fun d =>
    let c := m.cands.getD d {}
    if c.valid && inHist.getD d false then c else {})
  let c0 := cands.getD 0 {}
  let best := argMin (cands.map (fun c => if c.valid then some c.cost else none))
  let intra := argMin (m.intra.map some)
  { cands, best := best.getD 0
    inter := match best with | some i => min 65535 (cands.getD i {}).cost | none => 65535
    intra := min 65535 (m.intra.getD (intra.getD 0) 0), cls := intra.getD 0, variance := m.variance
    spatial := m.spatial
    noise := match c0.valid, m.sad with | true, some v => temporalNoise v | _, _ => m.spatial
    mean := if m.n == 0 then 0 else min 255 (m.sum8 / m.n), edge := decide (m.n < 256)
    static := c0.valid && c0.mvx == 0 && c0.mvy == 0 && decide (c0.cost ≤ staticThresh) }

/-- A candidate word (R222). -/
def Cand.word (c : Cand) : Nat :=
  if !c.valid then 0 else unsigned 12 c.mvx * 2 ^ 20 + unsigned 11 c.mvy * 2 ^ 9 + 2 ^ 8 + lcost c.cost

/-- The 32 bytes of a block record (R221). -/
def BlockRec.bytes (r : BlockRec) : Bytes :=
  (List.range 4).flatMap (fun d => leBytes 4 (r.cands.getD d {}).word) ++ leBytes 2 r.inter ++ leBytes 2 r.intra ++
  leBytes 2 r.variance ++ leBytes 2 r.noise ++ leBytes 1 r.mean ++ leBytes 1 r.cls ++
  leBytes 1 (r.best + 4 * bnat r.edge + 8 * bnat r.static) ++ leBytes 5 0

/-- A band from its block records (R220, R227). -/
def bandOf (l : List BlockRec) : MapBand :=
  let n := l.length
  let scored := l.filter (fun b => (b.cands.getD 0 {}).valid && decide (b.intra < (b.cands.getD 0 {}).cost))
  { blocks := l, complexity := sum (l.map (fun b => min b.inter b.intra)), intraSum := sum (l.map (·.intra))
    scene := 65535 * scored.length / n, noiseMean := sum (l.map (·.noise)) / n, spatial := sum (l.map (·.spatial)) / n
    staticBlocks := (l.filter (·.static)).length }

/-- The 16 bytes of a band record (R220). -/
def MapBand.bytes (b : MapBand) : Bytes :=
  leBytes 4 b.complexity ++ leBytes 4 b.intraSum ++ leBytes 2 b.scene ++ leBytes 2 b.noiseMean ++
  leBytes 2 b.staticBlocks ++ leBytes 2 0

/-- DIST_VALID (R219). -/
def MapPic.distValid (m : MapPic) : Nat := 2 ^ m.dist.length - 1

/-- The 64 bytes of a map slot's header (R219). -/
def MapPic.header (m : MapPic) (x : CourseRec) : Bytes :=
  leBytes 8 m.tick ++ leBytes 4 m.count ++ leBytes 1 (bnat m.cut + 2 * bnat m.first + 16 * m.distValid) ++ leBytes 3 0 ++
  leBytes 2 m.noise ++ leBytes 2 (bandsOf x.height x.bandHeight) ++ leBytes 2 (ceilDiv x.width 16) ++
  leBytes 2 (ceilDiv x.height 16) ++ leBytes 40 0

/-! ### A course's analysis -/

def hwaReg (c o : Nat) : Nat := crsReg c (0xC00 + o)
def State.head (s : State) (c : Nat) : CourseHw := s.heads.get c
def State.setHead (s : State) (c : Nat) (h : CourseHw) : State := { s with heads := s.heads.set c h }
/-- The unit whose share holds band 0. -/
def Structure.hwUnit0 (t : Structure) (c : Nat) : Nat := (((t.hwsOf c).find? (fun h => h.firstBand == 0)).getD {}).unit
/-- Bands of a share. -/
def HwRec.bands (h : HwRec) : List Nat := (List.range h.bandCount).map (· + h.firstBand)
/-- The map of a picture of the map buffer. -/
def CourseHw.map (h : CourseHw) (pic : Nat) : Option MapPic := h.maps.find? (fun m => m.pic == pic)
def CourseHw.cur (h : CourseHw) : MapPic := h.maps.headD {}
def CourseHw.setCur (h : CourseHw) (m : MapPic) : CourseHw := { h with maps := m :: h.maps.drop 1 }

/-- A new map at a window opening: the picture analysed last becomes distance 1 (R224). `pic` is the map slot's picture,
`prog` the program picture, `slots` the slots of the map buffer. -/
def CourseHw.open (h : CourseHw) (pic prog tick bands slots : Nat) : CourseHw :=
  let dist := ((if h.slot.valid.isEmpty then [] else [h.slot]) ++ h.hist).take 4
  { h with
    maps := ({ pic, tick, count := h.count, first := dist.isEmpty, noise := h.noise, dist } : MapPic) :: h.maps.take (slots - 1)
    hist := dist, slot := { pic := prog, valid := List.replicate bands false }, count := h.count + 1, ended := false }

/-- No history (R229), told by the unit of band 0: 1 course start, 3 buffers restarted. -/
def State.hwRestart (s : State) (c cause : Nat) : State :=
  let s := (s.setHead c { s.head c with hist := [], slot := {}, noise := 0, ended := true }).inc (hwaReg c 0x0C) 1
  s.evC 0x0461 (0x1100 + s.st.hwUnit0 c) c cause

/-- After the last band of a picture the noise level is smoothed, or taken from a cut's spatial estimates (R226, R228).
Bands that were frozen do not count (assumption log entry 19). -/
def State.hwPictureEnd (s : State) (c : Nat) : State :=
  let h := s.head c
  let m := h.cur
  let done := m.bands.vals
  if h.ended || !((s.buf (mapBuf c)).curSlot.unfinished).isEmpty then s
  else if done.isEmpty then s.setHead c { h with ended := true }
  else if m.cut then s.setHead c { h with ended := true, noise := sum (done.map (·.spatial)) / done.length }
  else s.setHead c { h with ended := true, noise := (7 * h.noise + sum (done.map (·.noiseMean)) / done.length) / 8 }

/-- A unit's share ends in a picture: gaps are told once (R225). -/
def State.hwShareEnd (s : State) (c u : Nat) : State :=
  let m := (s.head c).cur
  let n := m.gaps.get u
  if n == 0 then s
  else
    let s := s.setHead c ((s.head c).setCur { m with gaps := m.gaps.del u })
    s.evC 0x0462 (0x1100 + u) c (m.gapBand.get u * 2 ^ 16 + sat 16 n)

/-- A share starts its next band (R217, R230): the program band is marked, the unit is idle, and no ready share of the
unit stands before it. -/
def State.hwReady (s : State) (c u : Nat) : Bool :=
  let r := s.stage (.headwater c u)
  let h := s.st.hws.get (8 * c + u)
  let b := s.buf (progBuf c)
  r.active && !r.reading && decide (r.next < h.bandCount) && b.ready b.curSlot.pic [h.firstBand + r.next]
def State.headwaterStart (s : State) (c u : Nat) : State :=
  let shares := s.st.hws.vals.filter (·.unit == u)
  let busy := shares.any (fun h => (s.stage (.headwater h.course u)).reading)
  let r := s.stage (.headwater c u)
  let h := s.st.hws.get (8 * c + u)
  let x := s.st.courses.get c
  let first := (shares.filter (fun h => s.hwReady h.course u)).head?.map (fun h => (h.course, h.firstBand))
  if !busy && first == some (c, h.firstBand) && !s.retired.contains (0x1100 + u) then
    let band := h.firstBand + r.next
    let cyc := ceilDiv (x.width * min x.bandHeight (x.height - band * x.bandHeight) * 5) 8
    s.setStage (.headwater c u) { r with reading := true, free := s.now + cyc, used := r.used + cyc }
  else s

/-- The cut decision on band 0 (R228). -/
def State.hwCut (s : State) (c u : Nat) (scene : Nat) : State :=
  let thresh := s.effFld (hwaReg c 0) 31 16
  let h := s.head c
  let m := h.cur
  if thresh == 0 || m.dist.isEmpty || decide (scene < thresh) then s
  else
    let s := s.setHead c { h.setCur { m with cut := true } with hist := [] }
    let s := (s.inc (hwaReg c 0x08) 1).inc (hwaReg c 0x0C) 1
    let s := s.evC 0x0460 (0x1100 + u) c (scene * 2 ^ 16 + m.count % 2 ^ 16)
    s.evC 0x0461 (0x1100 + u) c 2

/-- Candidates of a block left not valid because a band of the searched picture is invalid. -/
def MapPic.gapsOf (m : MapPic) (r : BlockRec) : List Nat :=
  (List.range m.dist.length).filter (fun d => !(r.cands.getD d {}).valid && (m.dist.getD d {}).valid.contains false)

/-- The measures of the blocks of band `band` of the program picture, in raster order (R217, R223 to R226), with the
band's 8-bit luma. -/
def State.hwBlocks (s : State) (c band : Nat) : List BlockMeas × Plane :=
  let x := s.st.courses.get c
  let h := s.head c
  let m := h.cur
  let b := s.buf (progBuf c)
  let rows := s.lumaBand c b.curSlot.pic band
  let p8 := rows.map (fun l => l.map (lumaTo8 x.depth))
  let p10 := rows.map (fun l => l.map (lumaTo10 x.depth))
  let prev := (m.dist.getD 0 {}).pic
  let q10 := if !m.dist.isEmpty && (b.slotOf prev).isSome then
    some ((s.lumaBand c prev band).map (fun l => l.map (lumaTo10 x.depth))) else none
  let half := decimate p8 x.width
  let dec (n : Nat) (t : Tab Plane) : Decim := { w := ceilDiv x.width n, h := ceilDiv x.height n, bh := x.bandHeight / n, bands := t }
  let cur2 := dec 2 [(band, half)]
  let cur4 := dec 4 [(band, decimate half (ceilDiv x.width 2))]
  let old := h.maps.getD 1 {}
  let seen := !old.cut && (s.buf (mapBuf c)).source old.pic band (fun _ => true) == .slot old.pic
  let cols := ceilDiv x.width 16
  let top := band * x.bandHeight / 16
  ((List.range (ceilDiv rows.length 16 * cols)).map (fun k =>
    let c0 := (((old.bands.get band).blocks.getD k {}).cands.getD 0 {})
    { blockSums x.width p8 p10 q10 (k % cols) (k / cols) with
      cands := (List.range m.dist.length).map (fun d =>
        let r := m.dist.getD d {}
        let centre := if seen && c0.valid then (centreOf c0.mvx (d + 1), centreOf c0.mvy (d + 1)) else (0, 0)
        searchBlock cur2 cur4 (dec 2 r.half) (dec 4 r.quarter) r.valid (k % cols) (top + k / cols) centre) }), p8)

/-- Records of one band, its history slot and its mark (R217, R218, R224). -/
def State.hwWriteBand (s : State) (c u band : Nat) : State :=
  let h := s.head c
  let m := h.cur
  let a := s.hwBlocks c band
  let half := decimate a.2 (s.st.courses.get c).width
  let recs := a.1.map (fun b => b.record (m.dist.map (fun _ => true)) (s.effFld (hwaReg c 0) 15 0))
  let gaps := recs.flatMap m.gapsOf
  let bad := gaps.map (fun d => (m.dist.getD d {}).valid.idxOf false)
  let told := m.gapBand.has u || bad.isEmpty
  let m' := { m with
    bands := m.bands.set band (bandOf recs)
    gaps := if gaps.isEmpty then m.gaps else m.gaps.set u (m.gaps.get u + gaps.length)
    gapBand := if told then m.gapBand else m.gapBand.set u (bad.headD 0) }
  let b := s.buf (progBuf c)
  let l := b.readLocal b.curSlot.pic band (fun _ => true)
  let s := (s.setHead c { h.setCur m' with slot := { h.slot with
    valid := h.slot.valid.set band true, half := h.slot.half.set band half
    quarter := h.slot.quarter.set band (decimate half (ceilDiv (s.st.courses.get c).width 2)) } }).inc (hwaReg c 0x10) gaps.length
  s.updBuf (mapBuf c) (fun b => b.setMark band .written l)

/-- A share stops: at its deadline, at a reset or at its retirement; its bands freeze (R231, R234). -/
def State.freezeHeadwater (s : State) (c u : Nat) : State :=
  let r := s.stage (.headwater c u)
  let h := s.st.hws.get (8 * c + u)
  if !r.active then s
  else
    let left := (s.buf (mapBuf c)).curSlot.unfinished.filter (fun b => h.bands.contains b)
    let s := (s.setStage (.headwater c u) { r with active := false, reading := false }).freezePicture (mapBuf c) (0x1100 + u) c left
    (s.hwShareEnd c u).hwPictureEnd c

/-- The map at a window opening, after its slot is assigned. -/
def State.hwOpen (s : State) (c : Nat) : State :=
  let x := s.st.courses.get c
  let b := s.buf (mapBuf c)
  s.setHead c ((s.head c).open b.curSlot.pic (s.buf (progBuf c)).curSlot.pic b.curSlot.tick (bandsOf x.height x.bandHeight) b.slots.length)

/-! ### What consumers read (R232, R233) -/

/-- The band record that a consumer of map picture `pic` reads for band `b`: its own, or under R18 an older slot's; no
record where there is none. -/
def State.mapBand (s : State) (c pic b : Nat) : MapBand :=
  let h := s.head c
  match (s.buf (mapBuf c)).source pic b (fun _ => true) with
  | .slot p => match h.map p with | some m => m.bands.get b | none => {}
  | _ => {}

/-- The header of a map picture. -/
def State.mapPic (s : State) (c pic : Nat) : MapPic := ((s.head c).map pic).getD {}

/-- A candidate scaled to a rung (R232): to nearest, halves away from zero. -/
def scaleMv (v : Int) (rung prog : Nat) : Int :=
  let n := v.natAbs * rung
  let q := (2 * n + prog) / (2 * max 1 prog)
  if v < 0 then -(q : Int) else q

/-- The program block whose record a rung block at (x, y) takes (R232): column and row. -/
def mapBlock (x y w h : Nat) (c : CourseRec) : Nat × Nat :=
  ((x + 8) * c.width / w / 16, (y + 8) * c.height / h / 16)

/-- The vectors that a block seeds its search from: the valid candidates of its record, scaled; none in a cut picture or
in a band read from an older slot. -/
def State.seeds (s : State) (c pic x y w h : Nat) : List (Nat × Int × Int) :=
  let q := s.st.courses.get c
  let m := s.mapPic c pic
  let k := mapBlock x y w h q
  let band := k.2 * 16 / max 1 q.bandHeight
  if m.cut || (s.buf (mapBuf c)).source pic band (fun _ => true) != .slot pic then []
  else
    let rows := k.2 - band * q.bandHeight / 16
    let r := (m.bands.get band).blocks.getD (rows * ceilDiv q.width 16 + k.1) {}
    (List.range 4).filterMap (fun d =>
      let v := r.cands.getD d {}
      if v.valid then some (d + 1, scaleMv v.mvx w q.width, scaleMv v.mvy h q.height) else none)

end Sys2Proof.Machine
end

