-- ==== Sys2Proof/Machine/Ras.lean ====
section
/-! DEFINITION. Ras.lean: live resources, the running structure as placed, replacement causes and alerts, and what every
retirement shares (R75, R106, R258, R407, R412 to R418). -/

namespace Sys2Proof.Machine

/-- Is a unit live? -/
def State.lane (s : State) (n : Nat) : Lane := s.lanes.get n
/-- The Guavo link is up only while its four lanes are (R443). -/
def State.guavoUp (s : State) : Bool := [32, 33, 34, 35].all (fun n => (s.lane n).state == 3)
def State.alive (s : State) (src : Nat) : Bool := !s.retired.contains src
/-- The power domain of a unit (R430). -/
def powerBit (src : Nat) : Option Nat :=
  let n := src % 256
  match src / 256 with
  | 0x10 => some (n / 4) | 0x11 => some (9 + n / 4) | 0x12 => some (11 + n / 4) | 0x13 | 0x14 => some (13 + n / 4)
  | _ => none
def State.unitOff (s : State) (src : Nat) : Bool := (powerBit src).any (fun b => bit (s.rdn (glb 0xA4)) b)

/-! ### Outputs of the health monitor -/

/-- REPLACE_N is low while a cause is set that no injection set (R414). -/
def State.replaceLow (s : State) : Bool :=
  (List.range 64).any (fun i => bit (s.rd64 (glb 0x90)) i && !bit (s.rd64 (rasReg 0x40)) i)
/-- ALERT_N is low while a bit of RAS.ALERT is set. -/
def State.alertLow (s : State) : Bool := s.rdn (rasReg 0x004) != 0

/-- The two pins follow their registers. -/
def State.rasPins (s t : State) : State :=
  let t := if s.replaceLow == t.replaceLow then t else t.emit (.pin .replaceN (!t.replaceLow) t.now)
  if s.alertLow == t.alertLow then t else t.emit (.pin .alertN (!t.alertLow) t.now)

/-- Set a bit of RAS.ALERT. -/
def State.alert (s : State) (b : Nat) : State := s.rasPins (s.wrn (rasReg 0x004) (s.rdn (rasReg 0x004) ||| 2 ^ b))

/-- A cause of R413 is met; `inj` for an injected fault (R418). -/
def State.replace (s : State) (b : Nat) (inj : Bool) : State :=
  let c := s.rd64 (glb 0x90)
  let j := s.rd64 (rasReg 0x40)
  if bit c b && !(bit j b && !inj) then s
  else
    let t := if bit c b then s.wr64 (rasReg 0x40) (j - 2 ^ b)
      else (s.wr64 (glb 0x90) (c + 2 ^ b)).wr64 (rasReg 0x40) (if inj then j ||| 2 ^ b else j)
    (s.rasPins (t.alert 2)).ev 0x0D08 0x5100 b

/-- Is a cause set? -/
def State.replaceHas (s : State) (b : Nat) : Bool := bit (s.rd64 (glb 0x90)) b

/-- 3,600 s in cycles (R412, R413). -/
def hourCycles : Nat := 5400000000000
/-- Cycles of a list that lie within 3,600 s of `now`, with `now` added. -/
def within (l : List Nat) (now : Nat) : List Nat := l.filter (fun t => decide (now < t + hourCycles)) ++ [now]

/-- An armed injection on the next use of a path (R418): none, or the kind and the state that has fired it. -/
def State.injected (s : State) (target : Nat) (kinds : List Nat) : Option (Injection × State) :=
  match s.ras.inj.find? (fun i => i.target == target && kinds.contains i.kind) with
  | none => none
  | some i =>
    let s := { s with ras := { s.ras with inj := s.ras.inj.erase i } }
    some (i, s.ev 0x0D0B target i.kind)

/-! ### The structure as placed (R75) -/

def State.rend (s : State) (r : Nat) : Rend := s.rends.get r
def State.setRend (s : State) (r : Nat) (x : Rend) : State := { s with rends := s.rends.set r x }
def State.segsOf (s : State) (r : Nat) : List SegRec := s.placed.vals.filter (·.rendition == r)
/-- EFFORT as it runs, before the thermal step: lowered by R408. -/
def State.effortBase (s : State) (r : Nat) : Nat := if (s.degraded.get r).fast then 0 else (s.rend r).effort
/-- EFFORT in effect: the thermal step lowers it further (R416). -/
def State.effortOf (s : State) (r : Nat) : Nat := s.effortBase r - (s.dom (s.domOf (s.st.courseOfRend r))).therm
/-- Does a standby code at a lower effort than the journalled step gives (R417)? -/
def State.ownThermal (s : State) (r : Nat) : Bool :=
  (s.pair.role == 1 || s.pair.role == 2) && decide (s.ras.journalled < (s.dom (s.domOf (s.st.courseOfRend r))).therm)
def State.spillOnly (s : State) (r : Nat) : Bool := (s.degraded.get r).spillOnly

/-- The running structure with segments where they are, efforts as they are and spill-only renditions left out. -/
def State.asPlaced (s : State) : Structure :=
  let keep (r : Nat) : Bool := !s.spillOnly r
  { s.st with
    segs := s.placed.keep (fun _ g => keep g.rendition)
    rends := (s.st.rends.keep (fun r _ => keep r)).mapv (fun r x => if s.rends.has r then { x with effort := s.effortBase r } else x) }

/-- The cluster that serves a domain, by the segments placed on its Tarns (R25). -/
def State.clusterDomain (s : State) (k : Nat) : Option Nat :=
  (s.placed.vals.find? (fun g => g.tarn / 4 == k)).map (fun g => s.domOf (s.st.courseOfRend g.rendition))

/-- Does Tarn `n` carry a segment? -/
def State.carries (s : State) (n : Nat) : List SegRec := s.placed.vals.filter (fun g => g.tarn == n && !s.spillOnly g.rendition)

/-- The live spares (R80, R430): those designated, or every Tarn without a segment; none in an OFF cluster. -/
def State.spares (s : State) : List Nat :=
  (List.range 36).filter (fun n => s.alive (0x1000 + n) && !s.unitOff (0x1000 + n) && (s.placed.vals.all (fun g => g.tarn != n)) &&
    (!s.st.device.sparesExplicit || bit s.st.device.spareMask n) && !s.st.courses.isEmpty)

/-- The spare for a Tarn of domain `d`, among `free` (R259). -/
def State.spareFor (s : State) (n d : Nat) (free : List Nat) : Option Nat :=
  match free.find? (fun x => x / 4 == n / 4) with
  | some x => some x
  | none => match free.find? (fun x => s.clusterDomain (x / 4) == some d) with
    | some x => some x
    | none => free.find? (fun x => (s.clusterDomain (x / 4)).isNone)

/-- Live resources (R102, R106). -/
def State.liveRes (s : State) : Live :=
  { retired := s.retired, excluded := s.excluded, selfRefresh := s.selfRefresh
    timeout := s.rdn (cnfReg 0x000) }

/-- Segments of retired Tarns that wait for their Weir stand on the spare that R259 will give them (assumption log
entry 20). -/
def State.prospective (s : State) : State :=
  let lost := ((s.placed.vals.map (·.tarn)).eraseDups).filter (fun n => !s.alive (0x1000 + n))
  let go := lost.foldl (fun (a : Tab SegRec × List Nat) n =>
    match s.spareFor n ((s.clusterDomain (n / 4)).getD 0) a.2 with
    | some x => (a.1.mapv (fun _ g => if g.tarn == n then { g with tarn := x } else g), a.2.erase x)
    | none => a) (s.placed, s.spares)
  { s with placed := go.1 }

/-- Admission is re-run on the live resources (R106). -/
def State.admissionRerun (s : State) : State :=
  if s.st.courses.isEmpty then s
  else
    let l := s.liveRes
    let d := s.st.device
    let below := decide (l.count 0x1000 36 < d.minTarns) || decide (l.channels < d.minChannels) ||
      decide (l.count 0x1100 8 < d.minHeadwater) || decide (l.count 0x1200 8 < d.minFounts) ||
      decide (l.count 0x1300 8 < d.minMeres) || decide (l.count 0x1400 8 < d.minCascades)
    let fits := (admitRecs { t := s.prospective.asPlaced, l } []).isNone
    s.ev 0x0305 0x5100 ((if below then 2 else if fits then 0 else 1) * 2 ^ 24 + l.count 0x1000 36 * 256 + l.channels)

end Sys2Proof.Machine
end

