-- ==== Sys2Proof/Machine/Sluice.lean ====
section
/-! DEFINITION. Sluice.lean: Sluice channels: ownership, triggers, Basin slots, status records and stops
(15_confluence_sluice, R354 to R364). The movement of data stands in Fabric.lean. -/

namespace Sys2Proof.Machine

def State.slc (s : State) (g : Nat) : SluiceChan := s.sluice.get g
def State.setSlc (s : State) (g : Nat) (x : SluiceChan) : State := { s with sluice := s.sluice.set g x }
def sluiceSrc (g : Nat) : Nat := 0x2200 + g

/-! ### Ownership (R120) -/

/-- Channels of the enabled functions below `f`. -/
def State.sluiceBase (s : State) (f : Nat) : Nat :=
  sum ((s.st.funcs.vals.filter (fun r => r.enabled && decide (r.function < f))).map (·.sluice))
/-- The global number of local channel `i` of function `f`. -/
def State.sluiceOf (s : State) (f i : Nat) : Option Nat :=
  let r := s.st.funcs.get f
  let g := s.sluiceBase f + i
  if s.st.funcs.has f && r.enabled && decide (i < r.sluice) && decide (g < 64) then some g else none
/-- The function and local number of a global channel. -/
def State.sluiceOwner (s : State) (g : Nat) : Option (Nat × Nat) :=
  match s.st.funcs.vals.find? (fun r => r.enabled && decide (s.sluiceBase r.function ≤ g) && decide (g < s.sluiceBase r.function + r.sluice)) with
  | some r => some (r.function, g - s.sluiceBase r.function)
  | none => none
def State.sluiceFn (s : State) (g : Nat) : Nat := ((s.sluiceOwner g).getD (0, 0)).1

/-- Is a function in maintenance (R141)? -/
def State.fnMaint (s : State) (f : Nat) : Bool := (s.func f).fresh || !(s.func f).maintBy.isEmpty

/-! ### Registers of a channel (R355) -/

def slcTrigger (cfg : Nat) : Nat := bits cfg 31 30
def slcTick (cfg : Nat) : Bool := bit cfg 29
def hopLimit (cfg : Nat) : Nat := if cfg % 65536 == 0 then 4096 else cfg % 65536
def State.slcCfg (s : State) (g : Nat) : Nat := s.rdn (sluiceReg g 0x10)
def State.slcTimer (s : State) (g : Nat) : Nat := s.rdn (sluiceReg g 0x18)

/-! ### Records (R359, R360) -/

def SluiceRec.bytes (r : SluiceRec) (seq : Nat) : Bytes :=
  leBytes 1 r.status ++ leBytes 1 (bnat r.running) ++ leBytes 2 seq ++ leBytes 4 r.residue ++ leBytes 8 r.addr

/-- Bytes written to a device or host address for function `f`; a failed check is a decode error and writes nothing. -/
def State.sluiceWrite (s : State) (f a : Nat) (b : Bytes) : State :=
  if 2 ^ 63 ≤ a then s.hostWr f (a - 2 ^ 63) b
  else if (targetOf a == .mem || targetOf a == .pool) && s.allowed (some f) true a b.length then { s with mem := Mem.puts s.mem a b }
  else s.decodeError 18 (some f) true a

/-- A channel is triggered (R356): it waits for a slot, or the trigger is missed. `order` is its place. -/
def State.sluiceMissed (s : State) (g : Nat) : State :=
  (s.inc (sluiceReg g 0x58) 1).limited (0xA16 * 2 ^ 12 + g) msCycles (fun n s => s.ev 0x0A16 (sluiceSrc g) n)

/-- The record is written, with its event, its interrupt and LAST_STATUS. -/
def State.sluicePost (s : State) (g : Nat) (r : SluiceRec) : State :=
  let x := s.slc g
  let f := s.sluiceFn g
  let s := s.sluiceWrite f x.stat (r.bytes x.seq)
  let s := s.setSlc g { s.slc g with lastStatus := r.status * 2 ^ 24 + x.seq % 65536 }
  let s := match r.status with
    | 1 => s.ev 0x0A12 (sluiceSrc g) (hopLimit x.cfg)
    | 2 => s.ev 0x0A10 (sluiceSrc g) r.addr
    | 3 => s.ev 0x0A11 (sluiceSrc g) r.addr
    | 4 => s.ev 0x0A17 (sluiceSrc g) r.addr
    | 5 => s.ev 0x0A13 (sluiceSrc g) r.residue
    | 6 => s.ev 0x0A14 (sluiceSrc g) f
    | _ => s
  s.irq f (bits x.cfg 28 24) (bit x.cfg 23)

/-- A trigger of channel `g`. A tick-class channel without a Weir-relative timer posts BAD_DESCRIPTOR instead. -/
def State.sluiceTrigger (s : State) (g : Nat) : State :=
  let x := s.slc g
  let cfg := s.slcCfg g
  let desc := s.rd64 (sluiceReg g 0x00)
  let stat := s.rd64 (sluiceReg g 0x08)
  if x.state != 0 then s.sluiceMissed g
  else if slcTick cfg && !(slcTrigger cfg == 1 && !bit (s.slcTimer g) 28) then
    (s.setSlc g { x with stat, cfg }).sluicePost g { status := 4, addr := desc }
  else
    let x' : SluiceChan := { x with
      state := 1, cfg, stat, cur := desc, hops := 0, bytes := 0, seq := (x.seq + 1) % 65536, order := s.sluiceOrder
      owed := [], error := none, killed := false }
    { s.setSlc g x' with sluiceOrder := s.sluiceOrder + 1 }

/-- Channels that a condition on their written CFG and TIMER triggers, lower numbers first. -/
def State.sluiceTriggerAll (s : State) (p : Nat → Nat → Bool) : State :=
  ((List.range 64).filter (fun g => (s.sluiceOwner g).isSome && p (s.slcCfg g) (s.slcTimer g))).foldl
    State.sluiceTrigger s

/-- A compare unit fires (R43). -/
def State.sluiceCompare (s : State) (m : Nat) : State :=
  if m < 8 then s
  else s.sluiceTriggerAll (fun cfg t => slcTrigger cfg == 1 && bit t 28 && bits t 27 24 == m)

/-- Channels chained to local channel `i` of function `f`. -/
def State.sluiceChain (s : State) (f i : Nat) : State :=
  ((List.range 64).filter (fun g => match s.sluiceOwner g with
    | some o => o.1 == f && slcTrigger (s.slcCfg g) == 2 && bits (s.slcCfg g) 22 17 == i
    | none => false)).foldl State.sluiceTrigger s

/-- SLUICE_TIMER_TRIGGER: the window of the timer's domain has run 16 × offset cycles; once in every window. -/
def State.sluiceTimer (s : State) (g : Nat) : State :=
  let cfg := s.slcCfg g
  let t := s.slcTimer g
  let d := s.dom (bits t 31 29)
  if (s.sluiceOwner g).isNone || slcTrigger cfg != 1 || bit t 28 || d.stage != .window || (s.slc g).fired == some d.tick then s
  else
    let s := s.runTo (d.openAt + 16 * bits t 23 0)
    (s.setSlc g { s.slc g with fired := some d.tick }).sluiceTrigger g
def execSluiceTimerTrigger (g : Nat) (s : State) : Host.Outcome State Fault Refusal := .next (s.sluiceTimer g)

/-- SLUICE_SLOT_GRANT: the waiting channel first in trigger order takes a free slot. -/
def State.slotGrant (s : State) (slot : Nat) : State :=
  let used := s.sluice.vals.any (fun x => (x.state == 2 || x.state == 4) && x.slot == slot)
  let wait := s.sluice.filter (fun e => e.2.state == 1 && !e.2.killed)
  let first := (wait.map (·.2.order)).foldl min (((wait.head?).map (·.2.order)).getD 0)
  match wait.find? (fun e => e.2.order == first) with
  | some e => if used || decide (32 ≤ slot) then s else s.setSlc e.1 { e.2 with state := 2, slot }
  | none => s
def execSluiceSlotGrant (slot : Nat) (s : State) : Host.Outcome State Fault Refusal := .next (s.slotGrant slot)

/-! ### The end of a descriptor and of a channel -/

/-- SLUICE_STATUS_POST: the read-back of the oldest record owed returns; DONE triggers what is chained to it. -/
def State.statusPost (s : State) (g : Nat) : State :=
  let x := s.slc g
  match x.owed with
  | [] => s
  | r :: rest =>
    let s := s.setSlc g { x with owed := rest }
    let s := s.sluicePost g r
    let s := if r.final then s.setSlc g { s.slc g with state := 0, owed := [] } else s
    match r.status, s.sluiceOwner g with
    | 0, some o => s.sluiceChain o.1 o.2
    | _, _ => s
def execSluiceStatusPost (g : Nat) (s : State) : Host.Outcome State Fault Refusal := .next (s.statusPost g)

/-- SLUICE_ERROR_END: every transaction is answered and the error record is posted, without read-back (R362). -/
def State.errorEnd (s : State) (g : Nat) : State :=
  match (s.slc g).error with
  | none => s
  | some r => (s.setSlc g { s.slc g with state := 0, error := none, owed := [] }).sluicePost g r
def execSluiceErrorEnd (g : Nat) (s : State) : Host.Outcome State Fault Refusal := .next (s.errorEnd g)

/-! ### Stops (R363) -/

/-- DISABLE: at once, no record; counts and RESIDUE are undefined (R7). -/
def State.sluiceDisable (s : State) (g : Nat) : State :=
  let x := s.slc g
  let a := s.drawFree
  let b := a.2.drawFree
  let s := (b.2.masterReset 17 (fun t => t.chan == some g)).masterReset 18 (fun t => t.chan == some g)
  s.setSlc g { x with state := 3, owed := [], error := none, hops := a.1.toNat, bytes := b.1.toNat, killed := false }
def execSluiceDisable (f i : Nat) (s : State) : Host.Outcome State Fault Refusal :=
  .next (match s.sluiceOf f i with | some g => s.sluiceDisable g | none => s)

/-- START by doorbell. -/
def State.sluiceStart (s : State) (g : Nat) : State :=
  if (s.slc g).state == 3 || slcTrigger (s.slcCfg g) != 0 then s else s.sluiceTrigger g
def execSluiceStart (f i : Nat) (s : State) : Host.Outcome State Fault Refusal :=
  .next (match s.sluiceOf f i with | some g => s.sluiceStart g | none => s)

/-- At T+0 of a Weir of domain `d` its tick-class channels stop issuing (R356). -/
def State.sluiceKill (s : State) (d : Nat) : State :=
  { s with sluice := s.sluice.mapv (fun g x =>
      if slcTick x.cfg && bits (s.slcTimer g) 31 29 == d && (x.state == 1 || x.state == 2 || x.state == 4) then { x with killed := true } else x) }

/-- At step 3 of the Weir they enter IDLE with their registers kept; SLUICE_TICK_CUT for each. -/
def State.sluiceCut (s : State) (d : Nat) : State :=
  ((s.sluice.filter (fun e => e.2.killed && bits (s.slcTimer e.1) 31 29 == d)).map (·.1)).foldl (fun s g =>
    ((s.sluiceDisable g).setSlc g { (s.sluiceDisable g).slc g with state := 0 }).ev 0x0A15 (sluiceSrc g) d) s

/-- May a channel be aborted? -/
def State.abortable (s : State) (g : Nat) : Bool := s.devMaint || s.fnMaint (s.sluiceFn g)
/-- ABORT outside maintenance: a record, whose RESIDUE and ADDR the spec does not give, and the event. -/
def State.abortRefused (s : State) (g : Nat) : State :=
  let x := s.slc g
  let x := if x.state == 0 || x.state == 3 then { x with stat := s.rd64 (sluiceReg g 0x08), cfg := s.slcCfg g } else x
  let a := s.drawFree
  let b := a.2.drawFree
  let c := b.2.drawFree
  (c.2.setSlc g x).sluicePost g { status := 6, running := true, residue := a.1.toNat, addr := b.1.toNat + 2 ^ 32 * c.1.toNat }
/-- ABORT: a channel that waits or moves data ends with the record ABORTED once its writes are read back; `residue` is
what it has not written of the descriptor in progress. An idle channel, and one whose last record is owed, goes on
(R364). -/
def State.sluiceAbort (s : State) (g residue : Nat) : State :=
  let x := s.slc g
  if !s.abortable g then s.abortRefused g
  else if x.error.isSome || x.owed.any (·.final) then s
  else match x.state with
    | 1 => s.setSlc g { x with state := 4, slot := 32, owed := x.owed ++ [{ status := 5, addr := x.cur, final := true }] }
    | 2 => s.setSlc g { x with state := 4, owed := x.owed ++ [{ status := 5, residue, addr := x.cur + 32, final := true }] }
    | _ => s

/-! ### Descriptors (R357, R358) -/

/-- One side of a descriptor: address, bytes of a line, lines, bytes from line to line. -/
structure SluiceSide where
  addr : Nat := 0
  bytes : Nat := 0
  lines : Nat := 0
  stride : Nat := 0
deriving DecidableEq, Repr, Inhabited
def SluiceSide.total (x : SluiceSide) : Nat := x.bytes * x.lines

/-- A descriptor as read from its 32 bytes. -/
structure SluiceDesc where
  src : SluiceSide := {}
  dst : SluiceSide := {}
  flags : Nat := 0
  spare : Nat := 0
deriving DecidableEq, Repr, Inhabited
def SluiceDesc.last (d : SluiceDesc) : Bool := bit d.flags 0
def SluiceDesc.irq (d : SluiceDesc) : Bool := bit d.flags 1
def SluiceDesc.jump (d : SluiceDesc) : Bool := bit d.flags 2
def sluiceDesc (b : Bytes) : SluiceDesc :=
  { src := { addr := u64 b 0, bytes := u16 b 16 + 65536 * u8 b 18, lines := u16 b 24, stride := 16 * u16 b 28 }
    dst := { addr := u64 b 8, bytes := u16 b 20 + 65536 * u8 b 22, lines := u16 b 26, stride := 16 * u16 b 30 }
    flags := u8 b 19, spare := u8 b 23 }
/-- Bytes that a descriptor writes. -/
def SluiceDesc.total (d : SluiceDesc) : Nat := if d.jump then 0 else d.dst.total
def isChk (a : Nat) : Bool := match targetOf a with | .chk _ => true | _ => false
/-- Is a side's stride wide enough? A data port may be written in place. -/
def SluiceSide.ok (x : SluiceSide) : Bool :=
  decide (1 ≤ x.bytes) && decide (1 ≤ x.lines) &&
  (decide (x.lines ≤ 1) || decide (x.bytes ≤ x.stride) || (isChk x.addr && x.stride == 0))
/-- The rules of R358 on a descriptor's fields. -/
def SluiceDesc.legal (d : SluiceDesc) : Bool :=
  d.spare == 0 && decide (d.flags < 8) &&
  (if d.jump then
    d.src.addr % 32 == 0 && d.dst == {} && d.src.bytes == 0 && d.src.lines == 0 && d.src.stride == 0
   else d.src.ok && d.dst.ok && d.src.total == d.dst.total)
/-- The residue of a channel that stops before it writes anything of its descriptor: free where the descriptor lies
outside device memory. -/
def State.descResidue (s : State) (g : Nat) : Nat × State :=
  let x := s.slc g
  if targetOf x.cur == .mem then ((sluiceDesc (Mem.bytes s.mem x.cur 32)).total, s)
  else (s.drawFree.1.toNat, s.drawFree.2)

/-- A write of a channel's register at BAR2 or BAR0 offset `o`, the doorbell and ABORT left out. DESC_HI ends DISABLED. -/
def State.sluiceReg_ (s : State) (g o : Nat) (w : Word) : State :=
  let s := s.wrn (sluiceReg g o) (if o == 0x10 then putBits w.toNat 16 16 0 else w.toNat)
  if o == 0x04 && (s.slc g).state == 3 then s.setSlc g { s.slc g with state := 0 } else s

end Sys2Proof.Machine
end

