-- ==== Sys2Proof/Machine/Time.lean ====
section
/-! DEFINITION. Time.lean: the time unit (02_time, R28 to R48). -/

namespace Sys2Proof.Machine

def State.updTime (s : State) (f : TimeUnit → TimeUnit) : State := { s with time := f s.time }
/-- TIME.CTRL.SERVO: host mode (R46, R47)? -/
def State.hostMode (s : State) : Bool := bit (s.rdn (timeReg 0x000)) 5

/-- TIME_WRITE_BLOCKED (R46): a write dropped in FIRMWARE mode; the detail is the register's offset. -/
def State.timeBlocked (s : State) (off : Nat) : State := s.ev 0x0107 0x4000 off

/-- Move LOCK and raise LOCK_ACQUIRED or LOCK_LOST (R47, R48); LOCKED frees the held starts (R54). -/
def State.setLock (s : State) (lock detail : Nat) : State :=
  let old := s.time.lock
  let s := s.updTime (fun t => { t with lock := lock })
  let held (_ : Nat) (x : CourseRun) : CourseRun := if x.state == .startHeld then { x with lockReached := true } else x
  let s := if lock == 2 then { s with courses := s.courses.mapv held } else s
  if lock == 2 && old != 2 then s.ev 0x0101 0x4000 detail
  else if old == 2 && lock != 2 then s.ev 0x0102 0x4000 detail
  else s

/-- The values a LOAD takes: SET_NS above 999,999,999 loads as 999,999,999 (02, SET_NS). -/
def State.loadOp (s : State) : TimeOp :=
  .load (s.now + 2) (s.rdn (timeReg 0x028) + 2 ^ 32 * (s.rdn (timeReg 0x02C) % 2 ^ 16))
    (min (s.rdn (timeReg 0x024)) 999999999)
/-- The value a STEP takes (R31). -/
def State.stepOp (s : State) : TimeOp :=
  .step (s.now + 2) (signed 64 (s.rd64 (timeReg 0x030)))

/-- A write of TIME.CTRL: the mode before it judges LOAD and STEP; SERVO and HOST_LOCK take the written value
(R31, R46, R47). LOAD and STEP capture their operands in the cycle of the write. -/
def State.timeCtrlWrite (s : State) (w : Word) : State :=
  let v := w.toNat
  let ops := (if bit v 0 then [s.loadOp] else []) ++ (if bit v 1 then [s.stepOp] else [])
  let blocked := !s.hostMode && ops != []
  let s1 := { s.wrn (timeReg 0x000) (bits v 7 5 * 2 ^ 5) with
              time := { s.time with ops := if s.hostMode then s.time.ops ++ ops else s.time.ops } }
  let s2 := if blocked then s1.timeBlocked 0x000 else s1
  if bit v 5 then s2.setLock (bits v 7 6) 0 else s2

def execTimeLoad (w : Word) (s : State) : Host.Outcome State Fault Refusal := .next (s.timeCtrlWrite w)
def execTimeStep (w : Word) (s : State) : Host.Outcome State Fault Refusal := .next (s.timeCtrlWrite w)
/-- R46: the change of SERVO; UTC_OFFSET shows the new mode's value (R29), a view of the two kept apart. -/
def execTimeServoSelect (w : Word) (s : State) : Host.Outcome State Fault Refusal := .next (s.timeCtrlWrite w)
def execHostLockSet (w : Word) (s : State) : Host.Outcome State Fault Refusal := .next (s.timeCtrlWrite w)

/-- TIME.STATUS.UTC_OFFSET (R29). -/
def State.utcOffset (s : State) : Nat :=
  if s.hostMode then s.fld (timeReg 0x038) 7 0 else s.time.servoUtc

/-! ### Compare units -/

/-- Is the target of `c` reached at linear time `t` (R41: signed 64-bit difference)? -/
def Cmp.due (c : Cmp) (t : Nat) : Bool := decide (0 ≤ signed 64 (t + 2 ^ 64 - c.target))

/-- Intervals added at a firing at time `t` (R41): whole multiples until the target lies after `t`. -/
def Cmp.steps (c : Cmp) (t : Nat) : Nat := if c.interval == 0 then 0 else (t + 2 ^ 64 - c.target) % 2 ^ 64 / c.interval + 1

/-- A firing (R41). -/
def Cmp.fire (c : Cmp) (t : Nat) : Cmp :=
  { c with fired := true, armed := c.interval != 0, target := (c.target + c.steps t * c.interval) % 2 ^ 64,
           missed := sat 16 (c.missed + (c.steps t - 1)) }

/-- The output pins whose source is compare unit `m` (R44): OUT_CFG0 to OUT_CFG3 at 0x050 to 0x05C, OUT_CFG4 at 0x070. -/
def outCfgReg (k : Nat) : Nat := timeReg (if k < 4 then 0x050 + 4 * k else 0x070)
def State.pinSrc (s : State) (k : Nat) : Nat := s.fld (outCfgReg k) 3 0
/-- WIDTH in cycles, 0 acting as 1. -/
def State.pinWidth (s : State) (k : Nat) : Nat := max 1 (s.fld (outCfgReg k) 23 4)
def State.pinsOf (s : State) (m : Nat) : List Nat := if m < 8 then [] else (List.range 5).filter (fun k => s.pinSrc k == m)

/-- A pin rises 6 cycles after the firing and stays high WIDTH cycles; a pulse in progress is extended (R44). -/
def State.raisePins (s : State) (ks : List Nat) : State :=
  { s with
    time := { s.time with pins := ks.foldl (fun t k =>
      t.set k { level := true, rise := s.now + 6, fall := s.now + 6 + s.pinWidth k }) s.time.pins }
    out := s.out ++ (ks.filter (fun k => !(s.time.pins.get k).level)).map (fun k => .pin (.timeOut k) true (s.now + 6)) }

/-- Unit `m` fires at the present time (R41, R44). -/
def State.fireCmp (s : State) (m : Nat) : State :=
  let c := s.time.cmps.get m
  let t := linear s.time.phc
  let n := c.steps t - 1
  let s := (s.updTime (fun u => { u with cmps := u.cmps.set m (c.fire t) })).raisePins (s.pinsOf m)
  if n == 0 then s else s.ev 0x0106 0x4000 (m * 2 ^ 24 + sat 24 n)

/-- Cycles until the PHC's linear time reaches `target` at the present increment (R28, R41). -/
def State.cyclesTo (s : State) (target : Nat) : Nat :=
  let d := signed 64 (target + 2 ^ 64 - linear s.time.phc)
  if d ≤ 0 then 0 else ceilDiv (d.toNat * 2 ^ 32 - s.time.phc.frac) s.addend

/-- COMPARE_FIRE: the clock runs to the first cycle at which the armed unit's target is reached, and it fires. -/
def execCompareFire (m : Nat) (s : State) : Host.Outcome State Fault Refusal :=
  let c := s.time.cmps.get m
  .next (if c.armed then ((s.cycles (s.cyclesTo c.target)).fireCmp m).sluiceCompare m else s)

/-- R42, R43: a write to TGT_LO is staged; writes to CMP0 to CMP7 are ignored. -/
def State.cmpTgtLo (s : State) (m : Nat) (w : Word) : State :=
  if 8 ≤ m && m < 16 then s.updTime (fun t => { t with cmps := t.cmps.upd m (fun c => { c with staged := w.toNat }) })
  else s
def execCmpTgtLoWrite (m : Nat) (w : Word) (s : State) : Host.Outcome State Fault Refusal := .next (s.cmpTgtLo m w)

/-- R42: TGT_HI loads the target from the staged low half and arms the unit. -/
def State.cmpTgtHi (s : State) (m : Nat) (w : Word) : State :=
  if 8 ≤ m && m < 16 then
    s.updTime (fun t => { t with cmps := t.cmps.upd m (fun c =>
      { c with target := c.staged + 2 ^ 32 * w.toNat, armed := true }) })
  else s
def execCmpTgtHiWrite (m : Nat) (w : Word) (s : State) : Host.Outcome State Fault Refusal := .next (s.cmpTgtHi m w)

/-- R42 and CMPm.CTRL: ARMED takes the written bit; FIRED clears on a 1. -/
def State.cmpCtrl (s : State) (m : Nat) (w : Word) : State :=
  if 8 ≤ m && m < 16 then
    s.updTime (fun t => { t with cmps := t.cmps.upd m (fun c =>
      { c with armed := bit w.toNat 0, fired := c.fired && !bit w.toNat 1 }) })
  else s
def execCmpArmedWrite (m : Nat) (w : Word) (s : State) : Host.Outcome State Fault Refusal := .next (s.cmpCtrl m w)

/-- R44: the pulse ends WIDTH cycles after the rise. -/
def execOutputPulseEnd (k : Nat) (s : State) : Host.Outcome State Fault Refusal :=
  let p := s.time.pins.get k
  .next (if p.level then
      let s := s.runTo p.fall
      ({ s with time := { s.time with pins := s.time.pins.set k { p with level := false } } }).emit
        (.pin (.timeOut k) false s.now)
    else s)

/-! ### Operations on the PHC -/

/-- A LOAD takes effect (R31): FRACTION becomes 0. -/
def State.applyLoad (s : State) (sec ns : Nat) : State :=
  s.updTime (fun t => { t with phc := { sec := sec, ns := ns, frac := 0 } })

/-- A STEP takes effect over the full SECONDS (R31), and is reported. -/
def State.applyStep (s : State) (adj : Int) : State :=
  let n : Int := (phcNs s.time.phc : Int) + adj
  let m : Int := (2 ^ 48 : Nat) * 1000000000
  (s.updTime (fun t => { t with phc := phcOf (n % m).toNat t.phc.frac })).ev 0x0103 0x4000 (satS32 adj)

/-- General-purpose units whose target the PHC has passed fire, once (R42). -/
def State.firePassed (s : State) : State :=
  ((List.range 16).filter (fun m => 8 ≤ m && (s.time.cmps.get m).armed &&
      (s.time.cmps.get m).due (linear s.time.phc))).foldl (fun s m => s.fireCmp m) s

def TimeOp.isLoad : TimeOp → Bool | .load .. => true | .step .. => false
def TimeOp.due : TimeOp → Nat | .load d .. => d | .step d _ => d

/-- The pending operations once a conflict is settled: with a LOAD among them every STEP is discarded (R31). -/
def settleOps (ops : List TimeOp) : List TimeOp :=
  if ops.any TimeOp.isLoad then ops.filter TimeOp.isLoad else ops

/-- TIME_OP_EFFECT: two cycles after its write, the oldest pending operation takes effect on one cycle (R31, R42). -/
def execTimeOpEffect (s : State) : Host.Outcome State Fault Refusal :=
  let ops := settleOps s.time.ops
  let conflict := ops != s.time.ops
  .next (match ops with
    | [] => s
    | o :: rest =>
      let s := (s.runTo o.due).updTime (fun t => { t with ops := rest })
      let s := if conflict then s.ev 0x0104 0x4000 0 else s
      let s := match o with
        | .load _ sec ns => s.applyLoad sec ns
        | .step _ adj => s.applyStep adj
      s.firePassed)

/-- The clamp of R30: nominal ±0.1%. -/
def clampAddend (v : Nat) : Nat := max 2860448219 (min 2866174843 v)

/-- R30, R46: dropped in FIRMWARE mode. -/
def State.addendWrite (s : State) (w : Word) : State :=
  if s.hostMode then s.wrn (timeReg 0x020) (clampAddend w.toNat) else s.timeBlocked 0x020
def execTimeAddendWrite (w : Word) (s : State) : Host.Outcome State Fault Refusal := .next (s.addendWrite w)

/-- R47, R46: [7:0] of UTC_CFG. -/
def State.utcCfgWrite (s : State) (w : Word) : State :=
  if s.hostMode then s.wrn (timeReg 0x038) (w.toNat % 256) else s.timeBlocked 0x038
def execUtcCfgWrite (w : Word) (s : State) : Host.Outcome State Fault Refusal := .next (s.utcCfgWrite w)

/-- R33: a read of NOW_NS latches SECONDS and the upper 16 bits of FRACTION, and returns NANOSECONDS. -/
def State.nowNs (s : State) : Nat × State :=
  let t := s.time.phc
  (t.ns, ((s.wrn (timeReg 0x014) t.sec).wrn (timeReg 0x018) (t.sec / 2 ^ 32)).wrn (timeReg 0x01C) (t.frac / 2 ^ 16))
def execNowNsRead (s : State) : Host.Outcome State Fault Refusal := .next (s.nowNs.2.emit (.read (BitVec.ofNat 32 s.nowNs.1)))

/-! ### Transmit timestamps -/

/-- The PHC with a latency in 2^-16 ns added or taken away (R35). -/
def PhcTime.shift (t : PhcTime) (lat : Int) : PhcTime :=
  let f : Int := ((phcNs t * 65536 + t.frac / 65536 : Nat) : Int) + lat
  let n := (f % ((2 ^ 48 * 1000000000 * 65536 : Nat) : Int)).toNat
  phcOf (n / 65536) (n % 65536)

/-- A capture into a port's queue: a full queue keeps its older entries (R37, R38). The fraction holds 16 bits. -/
def State.captureTx (s : State) (port : Nat) (e : TxTs) : State :=
  let q := s.time.txts.get port
  if q.length < 16 then s.updTime (fun t => { t with txts := t.txts.set port (q ++ [e]) })
  else
    let had := s.fld (timePort port 0x08) 8 8 == 1
    let s := (s.inc (timePort port 0x1C) 1).setFld (timePort port 0x08) 8 8 1
    if had then s else s.ev 0x0105 (0x3200 + port) (s.rdn (timePort port 0x1C))

/-- R39: a read of TXTS_POP takes the oldest entry and latches its time; an empty queue returns VALID 0 and changes
nothing. -/
def State.popTx (s : State) (port : Nat) : Nat × State :=
  match s.time.txts.get port with
  | [] => (0, s)
  | e :: r =>
    (2 ^ 31 + e.id % 2 ^ 16, ((({ s with time := { s.time with txts := s.time.txts.set port r } } : State).wrn (timePort port 0x10) e.t.ns).wrn
      (timePort port 0x14) e.t.sec).wrn (timePort port 0x18) (e.t.sec / 2 ^ 32 % 2 ^ 16 + e.t.frac * 2 ^ 16))
def execTxtsPop (port : Nat) (s : State) : Host.Outcome State Fault Refusal :=
  .next ((s.popTx port).2.emit (.read (BitVec.ofNat 32 (s.popTx port).1)))

/-! ### Reference inputs -/

/-- R45: the PHC is captured at a rising edge of PPS_IN. -/
def execPpsInEdge (s : State) : Host.Outcome State Fault Refusal :=
  let t := s.time.phc
  .next ({ (((s.wrn (timeReg 0x040) t.ns).wrn (timeReg 0x044) t.sec).wrn (timeReg 0x048) (t.sec / 2 ^ 32)) with
    time := { s.time with ppsSeen := true, ppsAt := s.now, ppsReported := false } })

/-- R45: 2 s without an edge after one was seen; told once until the next edge. -/
def execPpsInTimeout (s : State) : Host.Outcome State Fault Refusal :=
  .next (if s.time.ppsSeen && !s.time.ppsReported then
      let s := s.runTo (s.time.ppsAt + 3000000000)
      (s.updTime (fun t => { t with ppsReported := true })).ev 0x0108 0x4000 ((s.now - s.time.ppsAt) / 1500000000)
    else s)

/-- R45: FREQ_10M, and FREQ_REF_RANGE beyond 100 ppm. -/
def execFreq10mCountDone (cycles : Nat) (s : State) : Host.Outcome State Fault Refusal :=
  let s := s.wrn (timeReg 0x04C) cycles
  let off := if cycles < 1500000000 then 1500000000 - cycles else cycles - 1500000000
  .next (if 150000 < off then s.ev 0x0109 0x4000 cycles else s)

/-! ### The firmware servo -/

/-- The average increment of the last 64 Sync messages, at which HOLDOVER holds ADDEND (R48). -/
def State.holdAddend (s : State) : State :=
  let l := s.time.addends
  if l.isEmpty then s else s.wrn (timeReg 0x020) (sum l / l.length)

/-- LOCKED is left for HOLDOVER (R48). -/
def State.enterHoldover (s : State) (detail : Nat) : State :=
  ((s.updTime (fun t => { t with goodSyncs := 0 })).holdAddend).setLock 3 detail

/-- PTP_SYNC_RECEIVED, in FIRMWARE mode with a master selected (R46, R48). A step only in FREE or ACQUIRING and only
above 1,000,000 ns; else a slew, whose new ADDEND the spec does not give (a free value, clamped by R30); in HOLDOVER
ADDEND is held. -/
def execPtpSyncReceived (offset : Int) (s : State) : Host.Outcome State Fault Refusal :=
  let t := s.time
  let mag := offset.natAbs
  let good := if mag ≤ s.rdn (timeReg 0x060) then t.goodSyncs + 1 else 0
  let isStep := decide (t.lock < 2) && decide (1000000 < mag)
  let slew := clampAddend (Config.servoAddend s.free offset s.addend)
  let addend := if isStep || t.lock == 3 then s.addend else slew
  .next (if s.hostMode || t.master.isNone then s
    else
      let s := { s.wrn (timeReg 0x020) addend with
        free := s.free + 1
        time := { t with
          syncSeen := (t.syncSeen + 1) % 2 ^ 16, lastOffset := offset, goodSyncs := good
          addends := (t.addends ++ [addend]).drop (t.addends.length + 1 - 64)
          ops := if isStep then t.ops ++ [.step (s.now + 2) (-offset)] else t.ops } }
      if t.lock == 2 then
        (if s.rdn (timeReg 0x064) < mag then s.enterHoldover (satS32 offset) else s)
      else if s.rdn (timeReg 0x068) ≤ good then s.setLock 2 (satS32 offset)
      else s)

/-- PTP_ANNOUNCE_RECEIVED (R46, R29, R48): `best` is the clockIdentity that the BMCA selects, `utc` the
currentUtcOffset when currentUtcOffsetValid is set. -/
def execPtpAnnounceReceived (best utcOffset : Option Nat) (s : State) : Host.Outcome State Fault Refusal :=
  .next (if s.hostMode then s
    else
      let changed := best.isSome && best != s.time.master
      let s1 := s.updTime (fun t => { t with
        servoUtc := match utcOffset with | some u => u % 256 | none => t.servoUtc
        master := if changed then best else t.master
        lock := if changed && t.lock == 0 then 1 else t.lock })
      if changed then s1.ev 0x010A 0x4000 (best.getD 0) else s1)

/-- SYNC_TIMEOUT (R48): three announce intervals without Sync while LOCKED. -/
def execSyncTimeout (s : State) : Host.Outcome State Fault Refusal :=
  .next (if !s.hostMode && s.time.lock == 2 then s.enterHoldover 0x80000000 else s)

end Sys2Proof.Machine
end

