-- ==== Sys2Proof/Machine/RateControl.lean ====
section
/-! DEFINITION. RateControl.lean: deadlines (R61), picture structure (R240, R281), the bucket, the spreading of bits and
the model of a rendition (11_rate_control, R260 to R275, R283), and course key pictures (R279 to R282). -/

namespace Sys2Proof.Machine

/-! ### The deadline (R61) -/

def State.winOf (s : State) (d : Nat) : Nat := s.st.win d
/-- Cycles of a guard in nanoseconds. -/
def guardCycles (g : Nat) : Nat := ceilDiv (g * 3) 2
/-- The cycle at which a forced Weir of the domain falls due (R66). -/
def State.forcedDue (s : State) (d : Nat) : Nat :=
  let x := s.dom d
  if x.unaligned then x.t0 + s.winOf d else x.openAt + 2 * s.winOf d
/-- The cycle of the deadline of the window in progress (R61). -/
def State.deadlineAt (s : State) (d : Nat) : Nat :=
  let x := s.dom d
  if x.mode == 1 then x.openAt + s.winOf d - guardCycles x.guard
  else
    let t := s.now + s.cyclesTo ((x.next + 2 ^ 64 - x.guard) % 2 ^ 64)
    let f := s.forcedDue d
    if f < t then f - guardCycles x.guard else t
/-- Cycles left to the deadline. -/
def State.cyclesLeft (s : State) (d : Nat) : Nat := s.deadlineAt d - s.now

/-! ### Picture structure (R240, R281) -/

/-- Coding order of a group of `n` pictures, by capture position. -/
def groupOrder : Nat → List Nat
  | 1 => [1] | 2 => [2, 1] | 3 => [3, 1, 2] | _ => [4, 2, 1, 3]
/-- Type of a position in a group of `n`: 1 anchor, 2 referenced, 3 not referenced. -/
def groupType (n pos : Nat) : Nat :=
  if pos == n then 1
  else match n, pos with
    | 3, 1 => 2 | 4, 2 => 2 | _, _ => 3

def Gop.group (g : Gop) (n : Nat) : Gop :=
  { g with plan := g.plan ++ (groupOrder n).map (fun p => { cap := g.top + p, type := groupType n p, base := g.top })
           top := g.top + n }

/-- Whole groups until capture `p` is planned. -/
def Gop.reach (g : Gop) (r p : Nat) : Nat → Gop
  | 0 => g
  | fuel + 1 => if g.top < p then Gop.reach (g.group (r + 1)) r p fuel else g

/-- Picture `p` becomes a key picture: the group that holds it ends early (R281). -/
def Gop.forceKey (g : Gop) (r p : Nat) : Gop :=
  if !g.started then { started := true, start := p, pos := 0, plan := [{ cap := p, type := 0, base := p }], top := p }
  else
    let g := g.reach r p 8
    match g.plan.find? (fun e => e.cap == p) with
    | none => g
    | some hit =>
      let a := hit.base
      let gone := (g.plan.filter (fun e => decide (a ≤ e.base) && decide (e.cap < p))).map (·.cap)
      let g := { g with plan := g.plan.filter (fun e => decide (e.base < a)), top := a }
      let g := if gone.isEmpty then g
        else if gone.length == p - a - 1 then g.group gone.length
        else { g with plan := g.plan ++ ((List.range (p - a)).map (· + a)).filterMap (fun x =>
          if gone.contains x then some { cap := x, type := 1, base := a } else none) }
      { g with plan := g.plan ++ [{ cap := p, type := 0, base := p }], top := p }

def Gop.keyPending (g : Gop) : Bool := g.plan.any (fun e => e.type == 0)

/-- The picture coded in the window that captures `newest`, if any: coding position k goes to the window of capture
start + k + r (assumption log entry 21). -/
def Gop.code (g : Gop) (r newest : Nat) : Gop × Option PlanPic :=
  let g := if g.started then g else g.forceKey r newest
  if newest < g.start + g.pos + r then (g, none)
  else
    let g := if g.plan.isEmpty then g.group (r + 1) else g
    match g.plan with
    | [] => (g, none)
    | e :: rest => if newest < e.cap then (g, none) else ({ g with plan := rest, pos := g.pos + 1 }, some e)

/-! ### QP and the model (R260, R261, R272) -/

def qref (cq : Nat) : Nat := (cq * 51 + 31) / 63
def qMax (codec : Nat) : Nat := if codec == 3 then 63 else 51
/-- The base QP of a picture (R261), in the Qr scale. -/
def baseQp (codec cq type : Nat) : Nat :=
  let q := qref cq
  min (qMax codec) (match type with | 0 => q - 3 | 1 => q | 2 => q + 1 | _ => q + 2)
/-- A QP in codec units (R260): AV1's qindex is 5 times it. -/
def codecQp (codec q : Nat) : Nat := if codec == 2 then 5 * q else q

def kTable (i : Nat) : Nat := match i with | 0 => 65536 | 1 => 58386 | 2 => 52016 | 3 => 46341 | 4 => 41285 | _ => 36781
def pred (c q a : Nat) : Nat := a * c * kTable (q % 6) / 2 ^ (24 + q / 6)
/-- The smallest QP from `lo` to `hi` whose prediction fits, else `hi`. -/
def leastQp (c lim a lo hi : Nat) : Nat :=
  (((List.range (hi + 1 - lo)).map (· + lo)).find? (fun q => decide (pred c q a ≤ lim))).getD hi
def clipModel (a : Nat) : Nat := max 1 (min (2 ^ 24) a)

/-! ### Registers and events of a rendition -/

def State.domRend (s : State) (r : Nat) : Nat := s.domOf (s.st.courseOfRend r)
/-- An event of a rendition from its domain. -/
def State.evRd (s : State) (r code detail : Nat) : State := s.evR code (0x4100 + s.domRend r) r detail
def State.perDen (s : State) (r : Nat) : Nat := max 1 (s.st.domains.get (s.domRend r)).den
def State.perNum (s : State) (r : Nat) : Nat := (s.st.domains.get (s.domRend r)).num
/-- The structure with segments as placed, for a rendition's spill sizes (R264). -/
def State.placedSt (s : State) : Structure := { s.st with segs := s.placed }
def State.zKey (s : State) (r : Nat) : Nat := s.placedSt.zKey (s.st.rends.get r)
def State.zInter (s : State) (r : Nat) : Nat := s.placedSt.zInter (s.st.rends.get r)
/-- F ≥ Z_K. -/
def State.keyOk (s : State) (r : Nat) : Bool := decide (s.zKey r * s.perDen r ≤ (s.rend r).full)

/-- Capture count of the course's current picture. -/
def State.capNow (s : State) (c : Nat) : Nat := (s.head c).count - 1

/-! ### Starting, and RC_SET (R262, R269, R283) -/

/-- F_0 in units of 1/PERIOD_DEN bit, from the BUF_SIZE in effect. -/
def State.fullness0 (s : State) (r : Nat) : Nat :=
  (s.st.rends.get r).initFullness * (s.rend r).buf * 1000 / 1024 * s.perDen r
/-- A rendition takes the values of its record: CQ, EFFORT, MAX_RATE and BUF_SIZE. -/
def State.rendLoad (s : State) (r : Nat) : State :=
  let q := s.st.rends.get r
  s.setRend r { s.rend r with rate := q.maxRate, buf := q.bufSize, raiseRate := none, raiseBuf := none, cq := q.cq, effort := q.effort }
/-- A rendition as on first use (R283). Its picture structure begins with a key picture. -/
def State.rendFresh (s : State) (r : Nat) : State :=
  s.setRend r { s.rend r with
    full := s.fullness0 r, aKey := 0, aInter := 0, eKey := [], eInter := [], gop := {}, gopOpen := {}, ownKey := false
    joins := 0, joinAt := 0, lastKey := none, cur := none, refs := [], hidden := [], tuOpen := false, healing := false, digestPic := none }

/-- Detail of RATE_RAISE_DEFERRED and RATE_RAISE_APPLIED. -/
def raiseDetail (rb rr : Option Nat) (rate : Nat) : Nat :=
  bnat rb.isSome * 2 ^ 31 + bnat rr.isSome * 2 ^ 30 + (rr.getD rate) % 2 ^ 30

/-- New values of a rendition's fields (R269): a higher MAX_RATE or BUF_SIZE waits for its next key picture. -/
def State.rateSet (s : State) (r : Nat) (cq effort rate buf : Option Nat) : State :=
  let x := s.rend r
  let upRate := match rate with | some v => if x.rate < v then some v else none | none => x.raiseRate
  let upBuf := match buf with | some v => if x.buf < v then some v else none | none => x.raiseBuf
  let nowRate := match rate with | some v => min v x.rate | none => x.rate
  let nowBuf := match buf with | some v => min v x.buf | none => x.buf
  let y := { x with cq := cq.getD x.cq, effort := effort.getD x.effort, rate := nowRate, buf := nowBuf, raiseRate := upRate
                    raiseBuf := upBuf, full := min x.full (nowBuf * 1000 * s.perDen r) }
  let deferred := (rate.isSome && upRate.isSome) || (buf.isSome && upBuf.isSome)
  let s := s.setRend r y
  let s := if effort.isSome then { s with degraded := s.degraded.set r { s.degraded.get r with fast := false } } else s
  if deferred then s.evRd r 0x0414 (raiseDetail upBuf upRate y.rate) else s

/-! ### Complexity (R270) -/

/-- Program lines of a rung's lines [top, bot). -/
def progLines (top bot progH rungH : Nat) : Nat × Nat := (top * progH / rungH, bot * progH / rungH)

/-- Lines of a band of a segment: its top and bottom in the rung. -/
def State.bandLines (s : State) (r : Nat) (x : SegRun) (b : Nat) : Nat × Nat :=
  let q := s.st.rends.get r
  ((x.top + b) * q.bandH, min (s.st.rungOf r).height ((x.top + b + 1) * q.bandH))

/-- c(s, b) of R270 for band `b` of a segment of the picture `p`. -/
def State.complexity (s : State) (r : Nat) (p : Coding) (x : SegRun) (b : Nat) : Nat :=
  let g := s.st.rungOf r
  let c := s.st.courses.get g.course
  let l := s.bandLines r x b
  let m := s.mapPic g.course p.mapPic
  let intra := p.type == 0 || m.cut || m.first
  let pl := progLines l.1 l.2 c.height g.height
  let lastH := c.height - (bandsOf c.height c.bandHeight - 1) * c.bandHeight
  let term (k : Nat) : Nat :=
    let a := k * c.bandHeight
    let z := min c.height (a + c.bandHeight)
    let rec_ := s.mapBand g.course p.mapPic k
    (if intra then rec_.intraSum else rec_.complexity) * (min pl.2 z - max pl.1 a) * (if z - a == c.bandHeight then lastH else c.bandHeight)
  sum ((bandSpan pl.1 pl.2 c.bandHeight c.height).map term) * x.width / (c.bandHeight * lastH * g.width)

/-! ### Picture start (R261, R266, R267, R271) -/

def SegRun.total (x : SegRun) : Nat := x.cols * x.bands
def SegRun.rows (x : SegRun) : Nat := ceilDiv x.bands (max 1 x.step)
/-- CTUs of unit row `j`. -/
def SegRun.rowCtus (x : SegRun) (j : Nat) : Nat := (min x.bands ((j + 1) * x.step) - j * x.step) * x.cols
/-- The row of a CTU. -/
def SegRun.rowOf (x : SegRun) (ctu : Nat) : Nat := ctu / (max 1 x.step * max 1 x.cols)
/-- First CTU of a row. -/
def SegRun.rowFirst (x : SegRun) (j : Nat) : Nat := j * x.step * x.cols

/-- A segment's grid, as placed (R242, R245). -/
def State.gridOf (s : State) (r : Nat) (g : SegRec) : SegRun :=
  let q := s.st.rends.get r
  let u := s.st.rungOf r
  let w := segW q u g
  { seg := g, width := w, step := (s.placedSt.unitStep q).getD 1, parts := if q.codec == 2 then ceilDiv w 4096 else 1
    cols := ceilDiv w q.colW, bands := if g.kind == 0 then q.bands u else min (q.bands u) (g.first + g.count) - g.first
    top := if g.kind == 0 then 0 else g.first }

/-- S_s of R264. -/
def State.segSpill (s : State) (r : Nat) (key : Bool) (x : SegRun) : Nat :=
  let q := s.st.rends.get r
  let z := spillCtu q.codec q.ctu
  x.total * (if key then z.2.1 else z.1) + x.rows * x.parts * z.2.2.1

/-- Limits of a picture: T, A and H. -/
def State.pictureLimits (s : State) (r : Nat) (key : Bool) : Nat × Nat × Nat :=
  let x := s.rend r
  let den := s.perDen r
  let f := x.full / den
  let rt := x.rate * 1000 * s.perNum r / den
  let t := if key then f else min f (max (s.zInter r) (f + rt - s.zKey r))
  (t, min t (x.full * (if key then 512 else 256) / (1024 * den)), if key then 8192 else 1024)

/-- Emission order of unit rows (R284), as 64 × segment index + row. -/
def unitOrder (codec : Nat) (segs : Tab SegRun) : List Nat :=
  let byCol := segs.flatMap (fun e => (List.range e.2.rows).map (fun j => 64 * e.1 + j))
  if codec == 2 && (segs.head?.map (fun e => e.2.seg.kind)).getD 1 == 0 then
    (List.range (maxOf (segs.map (fun e => e.2.rows)))).flatMap (fun j => segs.filterMap (fun e =>
      if j < e.2.rows then some (64 * e.1 + j) else none))
  else byCol

/-- More than one tile column in HEVC or VVC: RTP carries DONL (R284, R297). -/
def State.donl (s : State) (r : Nat) : Bool :=
  let q := s.st.rends.get r
  (q.codec == 1 || q.codec == 3) && decide (1 < unitCols q (s.st.rungOf r) (s.segsOf r))

/-- Weights, shares and empty logs of the segments (R271). -/
def State.shares (s : State) (r : Nat) (key : Bool) (t a h : Nat) : Tab SegRun :=
  let x := s.rend r
  let q := s.st.rends.get r
  let u := s.st.rungOf r
  let gs := (s.segsOf r).map (s.gridOf r)
  let prev := if key then x.eKey else x.eInter
  let have_ := prev.length == gs.length && decide (0 < sum prev)
  let ws := if have_ then prev else gs.map (fun g => segW q u g.seg * segH q u g.seg)
  let sw := max 1 (sum ws)
  let total := sum (gs.map (s.segSpill r key))
  (List.range gs.length).map (fun i =>
    let g := gs.getD i {}
    let w := ws.getD i 0
    (i, { g with
      w := w, e := (if have_ then some w else none), hard := s.segSpill r key g + (t - h - total) * w / sw
      soft := (a - h) * w / sw
      held := s.spillOnly r || !s.alive (0x1000 + g.seg.tarn) || (s.tarns.get g.seg.tarn).held }))

/-- The inter seed of R283 for a segment's first band. -/
def seedInter (seedBits w sw qb e : Nat) : Nat :=
  clipModel (seedBits * w * 2 ^ (24 + qb / 6) / (sw * kTable (qb % 6) * max 1 e))

/-- The picture in a buffer whose capture count is `n`. -/
def Buffer.ofCount (b : Buffer) (n : Nat) : Slot := (b.slots.find? (fun x => x.pic != 0 && x.count == n)).getD {}

/-- Coding of a picture begins (R261, R266, R267, R269, R271). -/
def State.beginCoding (s : State) (r : Nat) (e : PlanPic) (pos : Nat) : State :=
  let q := s.st.rends.get r
  let c := q.course
  let key := e.type == 0
  let x := s.rend r
  let raised := key && (x.raiseRate.isSome || x.raiseBuf.isSome)
  let s := if raised then
      (s.setRend r { x with rate := x.raiseRate.getD x.rate, buf := x.raiseBuf.getD x.buf, raiseRate := none, raiseBuf := none }).evRd r
        0x0415 (raiseDetail x.raiseBuf x.raiseRate x.rate)
    else s
  let x := s.rend r
  let p := s.capNow c
  let s := if key && decide (0 < x.joins) then
      (s.inc (rndReg r 0x120) 1).evRd r 0x0423 (sat 16 x.joins * 2 ^ 16 + sat 16 (p - x.joinAt)) else s
  let lim := s.pictureLimits r key
  let segs := s.shares r key lim.1 lim.2.1 lim.2.2
  let order := unitOrder q.codec segs
  let donl := s.donl r
  let caps := (s.courses.get c).caps
  let capOf (n : Nat) : Nat := ((caps.find? (fun y => y.1 == n)).getD (0, 0)).2
  let before := (x.gop.plan.map (·.cap)).filter (fun n => decide (n < e.cap))
  let hide := q.codec == 2 && q.reorder != 0 && e.type != 0 && (e.type == 1 || !before.isEmpty)
  let shown := (before.foldl (fun (a : Option Nat) n => some (match a with | some m => min m n | none => n)) none).getD e.cap
  let hidden := x.hidden ++ (if hide then [(e.cap, capOf e.cap)] else [])
  let shows := hidden.filter (fun h => x.gop.plan.all (fun y => decide (h.1 < y.cap)))
  let k : Coding := {
    cap := e.cap, pos, type := e.type, source := ((s.buf (rungBuf c q.rung)).ofCount e.cap).pic
    mapPic := ((s.buf (mapBuf c)).ofCount e.cap).pic, capNs := capOf e.cap, hide, shownNs := (if hide then capOf shown else capOf e.cap), shows
    tick := (s.dom (s.domOf c)).tick, qb := baseQp q.codec x.cq e.type, limit := lim.1
    mode := if key && x.aKey == 0 then 1 else if !key && x.aInter == 0 then 2 else 0
    effort := s.effortOf r, segs, order := (if donl && q.payload / 2 == 0 then [] else order)
    rtpLeft := (if donl && bit q.payload 0 then order else [])
    isLocal := s.spillOnly r || (s.degraded.get r).fast || (s.degraded.get r).moved || s.ownThermal r }
  s.setRend r { s.rend r with
    cur := some k, lastKey := (if key then some p else x.lastKey), joins := (if key then 0 else x.joins)
    ownKey := x.ownKey && !key, hidden := hidden.filter (fun h => !shows.contains h) }

/-! ### Band QPs (R273, R283) -/

/-- The QP of the next band of a segment with complexity `c`, and the segment that has begun it. -/
def State.bandQp (s : State) (r : Nat) (p : Coding) (x : SegRun) (c : Nat) : Nat × SegRun × Bool :=
  let q := s.st.rends.get r
  let y := s.rend r
  let hi := qMax q.codec
  let first := x.begun == 0
  let e := x.e.getD (c * x.bands)
  let sw := sum (p.segs.vals.map (·.w))
  let a := if !first then x.a
    else match p.mode with
      | 2 => seedInter q.seedBits x.w (max 1 sw) p.qb e
      | _ => if p.type == 0 then y.aKey else y.aInter
  if p.mode == 1 then
    (min hi (if q.codec == 2 then q.seedQp / 5 else q.seedQp), { x with e := some e, a, done := x.done + c, begun := x.begun + 1 }, false)
  else
    let plan := leastQp e x.soft a p.qb hi
    let prev := if first then plan else x.qPrev
    let soft := x.soft - x.spent
    let d := max c (e - x.done)
    let beta := if d == 0 then soft else soft * c / d
    let need := leastQp c beta a p.qb hi
    let qb := min (max need (max p.qb (prev - 4))) (min hi (prev + 4))
    (qb, { x with e := some e, a, done := x.done + c, begun := x.begun + 1, qPrev := qb }, first && decide (p.qb < plan))

/-! ### The end of a picture (R262, R274, R278) -/

/-- Bands of a segment that a spill touches. -/
def SegRun.spilledBands (x : SegRun) : List Nat :=
  (List.range x.bands).filter (fun b => x.spilled.contains (b / max 1 x.step))

/-- Bands of the picture with a spilled CTU. -/
def Coding.spilledBands (p : Coding) : List Nat := (p.segs.vals.flatMap (fun x => x.spilledBands.map (· + x.top))).eraseDups

/-- Measured bands of a picture (R274): begun by a Tarn and not spilled. -/
def Coding.measured (p : Coding) : List BandLog :=
  p.segs.vals.flatMap (fun x => (x.log.keep (fun b _ => !x.spilled.contains (b / max 1 x.step))).vals)

/-- The coefficient after a picture (R274, R283). -/
def modelNext (old : Nat) (p : Coding) : Nat :=
  let l := p.measured.filter (fun b => b.c != 0)
  if p.timeSpill || l.isEmpty then old
  else
    let m := sum (l.map (fun b => b.bits * 2 ^ (24 + b.q / 6) / kTable (b.q % 6))) / max 1 (sum (l.map (·.c)))
    if old == 0 then clipModel m else clipModel ((3 * old + m) / 4)

/-- F after a picture of `b` bits (R262). -/
def Rend.refill (x : Rend) (b num den : Nat) : Rend :=
  { x with full := min (x.buf * 1000 * den) (x.full - b * den + x.rate * 1000 * num), lastBits := sat 32 b }

/-! ### Course keys (R279, R280) -/

/-- Every rendition of a course may code a key picture. -/
def State.keysReady (s : State) (c : Nat) : Bool :=
  (s.st.rendsOf c).all (fun q => s.keyOk q.rendition && !(s.rend q.rendition).gop.keyPending)

def CourseKey.add (k : CourseKey) (cause : Nat) : CourseKey :=
  if k.due.contains cause then k else { k with due := k.due ++ [cause] }

/-- The key is taken at `p` (R279). -/
def State.keyTake (s : State) (c p : Nat) : State :=
  let k := s.keys.get c
  let s := { s with keys := s.keys.set c { k with due := [], last := some p, deferring := false, taken := true } }
  s.evC 0x0411 (0x4100 + s.domOf c) c (k.due.headD 0 * 2 ^ 28 + p % 2 ^ 28)

/-- The key is deferred at a picture (R280). -/
def State.keyDefer (s : State) (c : Nat) : State :=
  let k := s.keys.get c
  let rs := s.st.rendsOf c
  let s := rs.foldl (fun s q => s.inc (rndReg q.rendition 0x23C) 1) s
  if k.deferring then s
  else
    let s := { s with keys := s.keys.set c { k with deferring := true } }
    match rs.find? (fun q => !s.keyOk q.rendition) with
    | some q =>
      s.raiseTo [] 0x0412 (0x4100 + s.domOf c) c q.rendition
        (k.due.headD 0 * 2 ^ 28 + sat 28 (s.zKey q.rendition - (s.rend q.rendition).full / s.perDen q.rendition))
    | none => s.evC 0x0412 (0x4100 + s.domOf c) c (k.due.headD 0 * 2 ^ 28)

/-- JOIN_GAP of a rendition (R301). -/
def erSlot (t : Structure) (c r : Nat) : Nat := ((t.rendsOf c).map (·.rendition)).idxOf r
def erReg (c k o : Nat) : Nat := crsReg c (0x1000 + 0x40 * k + o)
def State.erRend (s : State) (r o : Nat) : Nat := erReg (s.st.courseOfRend r) (erSlot s.st (s.st.courseOfRend r) r) o
def State.joinGap (s : State) (r : Nat) : Nat := max 1 (s.fld (s.erRend r 0x14) 15 0)

/-- Does a rendition take a key of its own at capture `p` (R282, R301)? -/
def State.ownKeyDue (s : State) (r p : Nat) : Bool :=
  let x := s.rend r
  let gap := match x.lastKey with | some k => decide (s.joinGap r ≤ p - k) | none => true
  (x.ownKey || (decide (0 < x.joins) && gap)) && s.keyOk r && !x.gop.keyPending

end Sys2Proof.Machine
end

