-- ==== Sys2Proof/Machine/Tarn.lean ====
section
/-! DEFINITION. Tarn.lean: Tarns and Spillway units at work on the pictures of a window: bands taken, CTUs committed,
the time and budget tests, spills, seams, retries and retirements (10_tarn, R63, R70, R72, R275 to R278). -/

namespace Sys2Proof.Machine

def segKey (r g : Nat) : Nat := 16 * r + g
def State.tarn (s : State) (n : Nat) : Tarn := s.tarns.get n
def State.updTarn (s : State) (n : Nat) (f : Tarn → Tarn) : State := { s with tarns := s.tarns.upd n f }
def State.coding (s : State) (r : Nat) : Coding := ((s.rend r).cur).getD {}
def State.updCoding (s : State) (r : Nat) (f : Coding → Coding) : State :=
  { s with rends := s.rends.upd r (fun x => { x with cur := x.cur.map f }) }
def Coding.seg (p : Coding) (g : Nat) : SegRun := p.segs.get g
def Coding.updSeg (p : Coding) (g : Nat) (f : SegRun → SegRun) : Coding := { p with segs := p.segs.upd g f }
def State.spw (s : State) (k : Nat) : SpillUnit := s.spills.get k

/-- CTU cost of a rendition at a Spillway unit (R264). -/
def State.spillCost (s : State) (r : Nat) : Nat := let q := s.st.rends.get r; (spillCtu q.codec q.ctu).2.2.2
/-- spw_backlog of R63: queued cycles. -/
def State.backlog (s : State) (k : Nat) : Nat := sum ((s.spw k).queue.map (fun j => j.left * j.cycles))

/-! ### Release and commitment (R70, R72, R245) -/

/-- The FIXED release time of a unit row, as a linear time (R70): capture of its last band, plus D × LINE, plus r × W. -/
def State.fixedRelease (s : State) (r : Nat) (p : Coding) (x : SegRun) (row : Nat) : Nat :=
  let q := s.st.rends.get r
  let c := s.st.courses.get q.course
  let g := s.st.rungOf r
  let w := s.winOf c.domain
  let i := s.st.timingInput q.course
  let last := (s.bandLines r x (min x.bands ((row + 1) * x.step) - 1)).2 - 1
  let pb := (last + 1) * c.height / g.height - 1
  let line := (pb / max 1 c.bandHeight * c.bandHeight * i.height / max 1 c.height) + c.delayLines
  (p.capNs + ceilDiv ((line * w + q.reorder * w * i.totalLines) * 2) (3 * max 1 i.totalLines)) % 2 ^ 64

/-- A unit row is committed: its last CTU has left stage 9, or a Spillway unit has coded it. -/
def State.commitRow (s : State) (r g row bits : Nat) (spill : Bool) : State :=
  let p := s.coding r
  let x := p.seg g
  let c := s.st.courses.get (s.st.courseOfRend r)
  let rel := if c.fixed then some (s.fixedRelease r p x row) else none
  let t := linear s.time.phc
  let lateNs := match rel with | some v => (t + 2 ^ 64 - v) % 2 ^ 64 | none => 0
  let late := rel.isSome && lateNs != 0 && decide (lateNs < 2 ^ 63)
  let s := s.updCoding r (fun p => { p.updSeg g (fun x => { x with spent := x.spent + bits }) with
    units := p.units.set (64 * g + row) { bits, at_ := s.now, spill, release := rel }, lateTold := p.lateTold || late })
  if !late then s
  else
    let s := s.inc (weirReg c.domain 0x038) 1
    if p.lateTold then s else s.evR 0x0207 (0x4100 + c.domain) r (sat 32 (ceilDiv (lateNs * 3) 2))

/-! ### Final blocks and their digest (R241, R256) -/

/-- The digest of final blocks (R256). -/
def blockDigest (b : FinalBlock) : Nat := crc64.of (leBytes 4 b.index ++ b.samples.flatMap (leBytes 2))
def digestOf (l : List FinalBlock) : Nat := l.foldl (fun a b => Nat.xor a (blockDigest b)) 0
/-- Blocks become final: each stands once, with the samples written last (a discarded CTU's are rewritten, R275). -/
def Coding.putFinals (p : Coding) (blocks : List FinalBlock) : Coding :=
  { p with finals := p.finals.filter (fun f => !blocks.any (fun b => b.index == f.index)) ++ blocks }

/-! ### The end of coding (R256, R274, R278) -/

/-- Every CTU is coded and no seam strip is left. -/
def Coding.done (p : Coding) : Bool := p.segs.vals.all (fun x => x.ctus == x.total && x.pend.isEmpty && x.seams == 0)

/-- Reports, counters, model and digest of a picture when its last CTU is coded. -/
def State.pictureCoded (s : State) (r : Nat) : State :=
  let p := s.coding r
  let x := s.rend r
  let q := s.st.rends.get r
  let key := p.type == 0
  if p.coded || x.cur.isNone || !p.done then s
  else
    let bands := p.spilledBands
    let n := bands.length
    let e := p.segs.vals.map (fun y => sum ((List.range y.bands).map (s.complexity r p y)))
    let seed := ((p.segs.vals.filter (fun y => y.begun != 0)).head?.map (·.a)).getD 0
    let qs := (p.measured.map (·.q)).map (codecQp q.codec)
    let base := codecQp q.codec p.qb
    let qs := if qs.isEmpty then [base] else qs
    let flags := bnat p.isLocal * 2 ^ 31 + bnat key * 2 ^ 30 + bnat (n != 0) * 2 ^ 29 + bnat p.frozen * 2 ^ 28 +
      bnat p.retry * 2 ^ 27 + p.effort * 4
    let y := { x with
      cur := some { p with coded := true }
      aKey := (if key then modelNext x.aKey p else x.aKey)
      aInter := if key then x.aInter else modelNext (if p.mode == 2 then seed else x.aInter) p
      eKey := (if key then e else x.eKey), eInter := (if key then x.eInter else e)
      baseQp := base, maxQp := maxOf qs, minQp := qs.foldl min (qs.headD 0), limit := p.limit
      digest := digestOf p.finals, flags := flags, digestTick := p.tick % 2 ^ 32, digestPic := some p.cap
      refs := if p.type == 3 then x.refs else (({ cap := p.cap, digest := digestOf p.finals, blocks := p.finals } : RefSlot) :: x.refs).take (3 + q.reorder) }
    let s := s.setRend r y
    let s := if key then s.inc (rndReg r 0x238) 1 else s
    let s := if p.raised then s.inc (rndReg r 0x234) 1 else s
    if n == 0 && p.spillUnit.isNone then s
    else
      let s := (s.inc (rndReg r 0x230) n).inc (rndReg r (if p.timeSpill then 0x22C else 0x228)) 1
      s.evR 0x0410 (0x1500 + p.spillUnit.getD 0) r (bnat p.timeSpill * 2 ^ 31 + bnat key * 2 ^ 30 + n % 2 ^ 14 * 2 ^ 16 +
        (s.st.rends.get r).bands (s.st.rungOf r) % 2 ^ 16)

/-! ### Spilling (R63, R258, R275, R277) -/

/-- Unit rows `rows` of a segment go to the Spillway unit of its cluster; their open CTUs are discarded. -/
def State.spillRows (s : State) (r g : Nat) (rows : List Nat) (time : Bool) : State :=
  let p := s.coding r
  let x := p.seg g
  if rows.isEmpty then s
  else
    let k := x.seg.tarn / 4
    let last := maxOf rows
    let next := if last + 1 < x.rows then x.rowFirst (last + 1) else x.total
    let jobs := rows.map (fun j => ({ seg := segKey r g, row := j, left := x.rowCtus j, cycles := s.spillCost r, at_ := s.now } : SpillJob))
    let s := s.updCoding r (fun p => { p.updSeg g (fun x => { x with
      pend := rows.foldl (fun t j => t.set j (x.rowCtus j)) x.pend, spilled := x.spilled ++ rows, unitBits := 0
      ctus := next, begun := max x.begun (min x.bands ((last + 1) * x.step)) }) with
        timeSpill := p.timeSpill || time, isLocal := p.isLocal || time
        spillUnit := some (p.spillUnit.getD k) })
    let s := { s with spills := s.spills.upd k (fun u => { u with queue := u.queue ++ jobs }) }
    s.updTarn x.seg.tarn (fun t =>
      let u := t.segUse.get (segKey r g)
      { t with
        items := t.items.filter (fun i => i.seg != segKey r g)
        segUse := t.segUse.set (segKey r g) (u.1, u.2.1, u.2.2 + rows.length * x.step) })

/-- A segment's uncommitted CTUs, from the first CTU of its open unit to its last. -/
def SegRun.openRows (x : SegRun) : List Nat :=
  (List.range x.rows).filter (fun j => decide (x.rowOf x.ctus ≤ j) && !x.spilled.contains j && x.ctus != x.total)
def SegRun.uncommitted (x : SegRun) : Nat := sum (x.openRows.map x.rowCtus)

def State.spillRest (s : State) (r g : Nat) (time : Bool) : State := s.spillRows r g ((s.coding r).seg g).openRows time

/-- The time test of R63: does the segment still fit, with `extra` cycles for a band about to start? -/
def State.timeFails (s : State) (r : Nat) (x : SegRun) (extra : Nat) : Bool :=
  decide (s.cyclesLeft (s.domRend r) < s.backlog (x.seg.tarn / 4) + x.uncommitted * s.spillCost r + 4096 + extra)

/-- The budget test of R275 as a CTU leaves stage 9: `bits` of the open unit, `after` CTUs and `units` units behind it. -/
def budgetFails (z : Nat × Nat × Nat × Nat) (key : Bool) (x : SegRun) (bits after units : Nat) : Bool :=
  decide ((x.hard : Int) - x.spent - bits < (after * (if key then z.2.1 else z.1) + units * z.2.2.1 : Nat))

/-! ### Taking bands (R17, R242 to R244, R247) -/

/-- Cycles of a band of a segment at the rendition's effort. -/
def State.bandCycles (s : State) (r : Nat) (p : Coding) (x : SegRun) (b : Nat) : Nat :=
  let q := tarnRate (s.st.rends.get r).codec p.effort
  let l := s.bandLines r x b
  cyc (pix x.width (l.2 - l.1)) q.1 q.2

/-- The marks that a band waits on: rung bands over its lines, map band 0, and the map bands of its program lines. -/
def State.bandReady (s : State) (r : Nat) (p : Coding) (x : SegRun) (b : Nat) : Bool :=
  let q := s.st.rends.get r
  let g := s.st.rungOf r
  let c := s.st.courses.get q.course
  let l := s.bandLines r x b
  let pl := progLines l.1 l.2 c.height g.height
  (s.buf (rungBuf q.course q.rung)).ready p.source (bandSpan l.1 l.2 c.bandHeight g.height) &&
  (s.buf (mapBuf q.course)).ready p.mapPic (0 :: bandSpan pl.1 pl.2 c.bandHeight c.height)

/-- The seam strip of the band before, left of a tile-column segment, is written (R247). -/
def Coding.seamReady (p : Coding) (g : Nat) : Bool :=
  let x := p.seg g
  let a := p.seg (g - 1)
  g == 0 || x.seg.kind != 0 || x.begun == 0 || (decide (x.begun * a.cols ≤ a.ctus) && (List.range x.begun).all (fun b => !a.pend.has (a.rowOf (b * a.cols))))

/-- May segment `g` of rendition `r` start its next band on its Tarn? -/
def State.segReady (s : State) (r g : Nat) : Bool :=
  let p := s.coding r
  let x := p.seg g
  (s.rend r).cur.isSome && p.segs.has g && !x.held && decide (x.begun < x.bands) && x.ctus != x.total && p.seamReady g &&
    s.bandReady r p x x.begun

/-- Key of R243 for a segment's next band. -/
def State.itemKey (s : State) (r g : Nat) : Nat :=
  let x := (s.coding r).seg g
  (s.bandLines r x x.begun).1 * (s.st.courses.get (s.st.courseOfRend r)).height / max 1 (s.st.rungOf r).height

/-- The next item of a Tarn (R243): lowest key, then rendition, then segment. -/
def State.nextItem (s : State) (n : Nat) : Option (Nat × Nat) :=
  let l := s.rends.flatMap (fun e => match e.2.cur with
    | some p => p.segs.filterMap (fun y => if y.2.seg.tarn == n && s.segReady e.1 y.1 then some (s.itemKey e.1 y.1, e.1, y.1) else none)
    | none => [])
  let best := maxOf (l.map (fun a => 2 ^ 32 - a.1))
  (l.find? (fun a => 2 ^ 32 - a.1 == best)).map (·.2)

/-- LOCAL and FROZEN of what a band reads (R15, R255). -/
def State.bandFlags (s : State) (r : Nat) (p : Coding) (x : SegRun) (b : Nat) : Bool × Bool :=
  let q := s.st.rends.get r
  let g := s.st.rungOf r
  let c := s.st.courses.get q.course
  let l := s.bandLines r x b
  let pl := progLines l.1 l.2 c.height g.height
  let rb := s.buf (rungBuf q.course q.rung)
  let mb := s.buf (mapBuf q.course)
  let rs := bandSpan l.1 l.2 c.bandHeight g.height
  let ms := 0 :: bandSpan pl.1 pl.2 c.bandHeight c.height
  let frozen (b : Buffer) (pic k : Nat) : Bool := ((b.slotOf pic).getD {}).mark k == .frozen
  (rs.any (fun k => rb.readLocal p.source k (fun _ => true)) || ms.any (fun k => mb.readLocal p.mapPic k (fun _ => true)),
   rs.any (frozen rb p.source) || ms.any (frozen mb p.mapPic))

/-- A Tarn starts the next band of a segment: BAND_READ_START of a Tarn. -/
def State.tarnStart (s : State) (r g : Nat) : State :=
  let p := s.coding r
  let x := p.seg g
  let n := x.seg.tarn
  let t := s.tarn n
  if t.held || !s.alive (0x1000 + n) || decide (8 < sum (t.items.map (·.left))) || s.nextItem n != some (r, g) then s
  else if s.timeFails r x (s.bandCycles r p x x.begun) then (s.spillRest r g true).pictureCoded r
  else
    let b := x.begun
    let c := s.complexity r p x b
    let q := s.bandQp r p x c
    let f := s.bandFlags r p x b
    let s := s.updCoding r (fun p => { p.updSeg g (fun _ => { q.2.1 with log := x.log.set b { q := q.1, c } }) with
      isLocal := p.isLocal || f.1, frozen := p.frozen || f.2, raised := p.raised || q.2.2 })
    s.updTarn n (fun t => { t with
      items := t.items ++ [{ seg := segKey r g, left := x.cols }], since := if t.items.isEmpty then s.now else t.since })

/-! ### Healing as an ACTIVE device sends it (R398) -/

/-- Is the picture in coding one that the rendition's healing covers? -/
def State.heals (s : State) (r : Nat) : Bool :=
  match s.pair.healTx.find r, (s.rend r).cur with
  | some h, some p => h.picture == some p.cap
  | _, _ => false
/-- Is band `b` of a picture final: every CTU and seam strip of it coded? -/
def Coding.bandFinal (p : Coding) (b : Nat) : Bool :=
  p.segs.vals.all (fun x => decide (b < x.top) || decide (x.top + x.bands ≤ b) ||
    (decide ((b - x.top + 1) * x.cols ≤ x.ctus) && !x.pend.has (x.rowOf ((b - x.top) * x.cols)) && x.seams == 0))
/-- Bytes of the HEAL message of band `b`: samples in the working format, and a record of 12 bytes a block for the motion
field, as in a reference slot. -/
def State.healBytes (s : State) (r b : Nat) : Nat :=
  let q := s.st.rends.get r
  let g := s.st.rungOf r
  let h := min q.bandH (g.height - b * q.bandH)
  slotBytes g.width h g.sampling q.depth + 12 * blocks16 g.width h
/-- Bytes of a whole picture. -/
def State.healPicture (s : State) (r : Nat) : Nat :=
  sum ((List.range ((s.st.rends.get r).bands (s.st.rungOf r))).map (s.healBytes r))
def State.healState (s : State) (r : Nat) : HealState :=
  let x := s.rend r
  { full := x.full, rate := x.rate, buf := x.buf, raiseRate := x.raiseRate, raiseBuf := x.raiseBuf, aKey := x.aKey
    aInter := x.aInter, eKey := x.eKey, eInter := x.eInter, gop := x.gop, noise := (s.heads.get (s.st.courseOfRend r)).noise }
/-- One band's message. -/
def State.healBand (s : State) (r b : Nat) (last : Bool) : State :=
  let q := s.st.rends.get r
  let p := s.coding r
  let row := ceilDiv (s.st.rungOf r).width 16 * (q.bandH / 16)
  let m : HealMsg := {
    rend := r, picture := p.cap, order := (s.pair.healTx.get r).order, band := b, bands := q.bands (s.st.rungOf r)
    key := p.type == 0, bytes := s.healBytes r b, blocks := p.finals.filter (fun f => f.index / max 1 row == b)
    state := if last then some (s.healState r) else none }
  let s := (s.updCoding r (fun p => { p with sent := p.sent ++ [b] })).inc64 (guavoReg 0x30) m.bytes
  if s.guavoUp then s.emit (.guavo (.heal m)) else s
/-- Bands that became final are sent; the last one waits for the picture's state. -/
def State.healNext (s : State) (r : Nat) : State :=
  if !s.heals r then s
  else
    let n := (s.st.rends.get r).bands (s.st.rungOf r) - 1
    ((List.range n).filter (fun b => !(s.coding r).sent.contains b && (s.coding r).bandFinal b)).foldl (fun s b => s.healBand r b false) s
/-- The picture is coded and emitted: the rest goes out. A healing ends once it has sent the pictures that a standby needs:
3 + REORDER in a row, or a key picture. -/
def State.healLast (s : State) (r : Nat) : State :=
  if !(s.heals r && (s.coding r).finished) then s
  else
    let q := s.st.rends.get r
    let n := q.bands (s.st.rungOf r)
    let key := (s.coding r).type == 0
    let s := ((List.range n).filter (fun b => !(s.coding r).sent.contains b)).foldl (fun s b => s.healBand r b (b + 1 == n)) s
    let h := s.pair.healTx.get r
    let past := key || decide (3 + q.reorder ≤ h.order)
    { s with pair := { s.pair with healTx := if past then s.pair.healTx.del r else s.pair.healTx.set r { h with picture := none } } }
/-- At a window opening a healing covers the picture that its rendition begins to code. -/
def State.healOpen (s : State) (r : Nat) : State :=
  match s.pair.healTx.find r, (s.rend r).cur with
  | some h, some p => { s with pair := { s.pair with healTx := s.pair.healTx.set r { h with
      order := (if h.picture.isSome then h.order else h.order + 1), picture := some p.cap } } }
  | _, _ => s

/-! ### CTUs (R245) -/

/-- Cycles that a Tarn has spent since its last progress. -/
def Tarn.charge (t : Tarn) (seg now : Nat) (band : Bool) : Tarn :=
  let u := t.segUse.get seg
  { t with used := t.used + (now - t.since), since := now
           segUse := t.segUse.set seg (u.1 + (now - t.since), u.2.1 + bnat band, u.2.2) }

/-- A CTU of the front item leaves stage 9. -/
def State.ctuLeaves (s : State) (r g bits : Nat) (blocks : List FinalBlock) : State :=
  let p := s.coding r
  let x := p.seg g
  let n := x.seg.tarn
  let q := s.st.rends.get r
  let band := x.ctus / max 1 x.cols
  let row := x.rowOf x.ctus
  let endBand := (x.ctus + 1) % max 1 x.cols == 0
  let unit := x.unitBits + bits
  let endUnit := x.ctus + 1 == x.rowFirst (row + 1) || x.ctus + 1 == x.total
  let budget := budgetFails (spillCtu q.codec q.ctu) (p.type == 0) x unit (x.total - x.ctus - 1) ((x.rows - row - 1) * x.parts)
  let late := !endBand && s.timeFails r x 0
  let s := s.updTarn n (fun t => { t.charge (segKey r g) s.now endBand with
    again := (if t.again == some (segKey r g, x.ctus) then none else t.again)
    items := match t.items with
      | i :: l => if i.left ≤ 1 then l else { i with left := i.left - 1 } :: l
      | [] => [] })
  let s := s.updCoding r (fun p => p.putFinals blocks)
  if budget || late then ((s.spillRest r g late).pictureCoded r).healNext r
  else
    let s := s.updCoding r (fun p => p.updSeg g (fun x => { x with
      ctus := x.ctus + 1, unitBits := (if endUnit then 0 else unit)
      log := x.log.upd band (fun b => { b with bits := b.bits + bits }) }))
    let s := if endUnit then s.commitRow r g row unit false else s
    (s.pictureCoded r).healNext r

/-! ### Retry and retirement (R257 to R259) -/

/-- Detail of a CTU in its picture. -/
def State.ctuIndex (s : State) (r : Nat) (x : SegRun) (ctu : Nat) : Nat :=
  let q := s.st.rends.get r
  let col := (if x.seg.kind == 0 then x.seg.first else 0) + ctu % max 1 x.cols
  (x.top + ctu / max 1 x.cols) * q.colsOf (s.st.rungOf r) + col

/-- Segment slot of a segment on its Tarn. -/
def State.segSlot (s : State) (n key : Nat) : Nat := ((s.carries n).map (fun g => segKey g.rendition g.segment)).idxOf key

/-- The segments of pictures in coding that Tarn `n` carries: rendition and segment index. -/
def State.activeOn (s : State) (n : Nat) : List (Nat × Nat) :=
  s.rends.flatMap (fun e => match e.2.cur with
    | some p => p.segs.filterMap (fun y => if y.2.seg.tarn == n && y.2.ctus != y.2.total then some (e.1, y.1) else none)
    | none => [])

/-- Every remaining band of a Tarn's segments goes to its Spillway unit. -/
def State.spillTarn (s : State) (n : Nat) : State :=
  (s.activeOn n).foldl (fun s a => (s.spillRest a.1 a.2 true).pictureCoded a.1) s

/-- A Tarn is retired (R258): cause 1 residue, 2 watchdog, 3 UNIT_RETIRE, 4 other. -/
def State.retireTarn (s : State) (n cause : Nat) (inj : Bool) : State :=
  if !s.alive (0x1000 + n) then s
  else
    let handed := sum ((s.activeOn n).map (fun a => ((s.coding a.1).seg a.2).uncommitted))
    let segs := (s.carries n).length
    let s := { (s.spillTarn n).unitBurst (0x1000 + n) with retired := s.retired ++ [0x1000 + n] }
    let s := (s.updTarn n (fun t => { t with items := [], retiredAt := some s.now, swapped := false })).wrn (tarnReg n 0x018) cause
    let s := s.ev 0x0402 (0x1000 + n) (cause * 2 ^ 24 + segs % 256 * 2 ^ 16 + sat 16 handed)
    let s := if s.spares.isEmpty then s.replace 32 inj else s
    let s := if cause == 4 then s.replace 42 inj else s
    s.admissionRerun

/-- A retry counts toward RETRY_THRESH (R412): at the threshold the unit retires at its domain's next Weir. -/
def State.retryRate (s : State) (src : Nat) (times : List Nat) (due : Bool) : Bool × State :=
  let th := s.rdn (rasReg 0x028)
  if th == 0 || due || decide (times.length < th) then (due, s)
  else (true, (s.alert 4).ev 0x0D0A src times.length)

/-- The `k`-th CTU in flight on a Tarn: segment key and CTU in the segment. -/
def State.inFlight (s : State) (n k : Nat) : Option (Nat × Nat) :=
  let l := (s.tarn n).items.flatMap (fun i => List.replicate i.left i.seg)
  match l[k]? with
  | none => none
  | some key =>
    let x := (s.coding (key / 16)).seg (key % 16)
    if k < 9 then some (key, x.ctus + ((l.take k).filter (fun v => v == key)).length) else none

/-- A residue mismatch of the CTU `k` places behind the front of a Tarn's pipeline, at a stage (R257). -/
def State.residue (s : State) (n stage k : Nat) (inj : Bool) : State :=
  match s.inFlight n k with
  | none => s
  | some (key, ctu) =>
    let r := key / 16
    let x := (s.coding r).seg (key % 16)
    let second := (s.tarn n).again == some (key, ctu)
    let s := s.wrn (tarnReg n 0x014) (stage * 2 ^ 28 + bnat second * 2 ^ 27 + s.segSlot n key % 32 * 2 ^ 16 + sat 16 ctu)
    if second then s.retireTarn n 1 inj
    else
      let times := within (s.tarn n).retries s.now
      let s := (s.inc (tarnReg n 0x00C) 1).updCoding r (fun p => { p with retry := true })
      let s := s.evR 0x0401 (0x1000 + n) r (stage * 2 ^ 28 + key % 16 * 2 ^ 24 + s.ctuIndex r x ctu % 2 ^ 24)
      let due := s.retryRate (0x1000 + n) times (s.tarn n).dueRetire
      due.2.updTarn n (fun t => { t with again := some (key, ctu), retries := times, dueRetire := due.1 })

/-- CTU_COMMIT: the front CTU of the Tarn of segment `g` of rendition `r` leaves stage 9 with `bits` in its unit. -/
def execCtuCommit (r g bits : Nat) (blocks : List FinalBlock) (s : State) : Host.Outcome State Fault Refusal :=
  let n := ((s.coding r).seg g).seg.tarn
  .next (if (s.tarn n).items.head?.map (·.seg) != some (segKey r g) || !s.alive (0x1000 + n) then s
    else match s.injected (0x1000 + n) [1, 2] with
      | some (i, s) =>
        let st := (Config.freeWord s.free).toNat % 9 + 1
        let s := ({ s with free := s.free + 1 }).residue n st 0 true
        if i.kind == 2 then s.residue n st 0 true else s
      | none => (s.ctuLeaves r g bits blocks).pace)

/-- RESIDUE_MISMATCH in a stage of Tarn `n`, in the CTU `k` places behind the front. -/
def execResidueMismatch (n stage k : Nat) (s : State) : Host.Outcome State Fault Refusal :=
  .next (if s.alive (0x1000 + n) then s.residue n stage k false else s)

/-- TARN_WATCHDOG: a CTU has stayed in one stage for more than 262,144 cycles. -/
def execTarnWatchdog (n : Nat) (s : State) : Host.Outcome State Fault Refusal :=
  .next (if (s.tarn n).items.isEmpty then s else s.retireTarn n 2 false)

/-- FETCH_FAULT (R252) in CTU `ctu` of segment `g`: 0 source, 1 reference, 2 map record. A source block's band is
spilled from the first CTU of its open unit. -/
def State.fetchFault (s : State) (r g ctu kind : Nat) : State :=
  let p := s.coding r
  let x := p.seg g
  let n := x.seg.tarn
  if (s.rend r).cur.isNone || !p.segs.has g then s
  else
    let s := (s.inc (tarnReg n 0x010) 1).updCoding r (fun p => { p with isLocal := true, faultTold := true })
    let s := if p.faultTold then s
      else s.evR 0x0405 (0x1000 + n) r (bnat (kind == 1) * 2 ^ 31 + s.ctuIndex r x ctu % 2 ^ 24)
    if kind == 0 then
      (s.spillRows r g (x.openRows.filter (fun j => decide (j ≤ x.rowOf ctu))) true).pictureCoded r
    else s
def execFetchFault (r g ctu kind : Nat) (s : State) : Host.Outcome State Fault Refusal := .next (s.fetchFault r g ctu kind)

/-! ### Spillway units (R264, R276, R277) -/

/-- The front CTU or seam strip of SPW `k` is finished, no sooner than its cycles allow. -/
def State.spillStep (s : State) (k bits : Nat) (blocks : List FinalBlock) : State :=
  match (s.spw k).queue with
  | [] => s
  | j :: rest =>
    let s := s.runTo (max (s.spw k).free j.at_ + j.cycles)
    let r := j.seg / 16
    let g := j.seg % 16
    let p := s.coding r
    let x := p.seg g
    let q := s.st.rends.get r
    let z := spillCtu q.codec q.ctu
    let key := p.type == 0
    let u : SpillUnit := { queue := if j.left ≤ 1 then rest else { j with left := j.left - 1 } :: rest, free := s.now }
    let s := { s with spills := s.spills.set k u }
    let s := s.updCoding r (fun p => p.putFinals blocks)
    if j.seam then
      ((s.inc (spwReg k 0x00C) 1).updCoding r (fun p => p.updSeg g (fun x => { x with seams := x.seams - 1 }))).pictureCoded r |>.healNext r
    else
      let left := x.pend.get j.row - 1
      let b := x.pendBits.get j.row + min bits ((if key then z.2.1 else z.1) + if left == 0 then x.parts * z.2.2.1 else 0)
      let s := s.inc (spwReg k (if key then 0x008 else 0x004)) 1
      let s := s.updCoding r (fun p => p.updSeg g (fun x => { x with
        pend := (if left == 0 then x.pend.del j.row else x.pend.set j.row left), pendBits := x.pendBits.set j.row b }))
      let s := if left == 0 then s.commitRow r g j.row b true else s
      (s.pictureCoded r).healNext r

/-! ### At the deadline and at the Weir (R19, R248, R58) -/

/-- Seam strips of segment `g` that wait for the segment before it (R247, R248). -/
def Coding.seamsWaiting (p : Coding) (g : Nat) : Nat :=
  let x := p.seg g
  let a := p.seg (g - 1)
  let open_ (y : SegRun) (b : Nat) : Bool := decide (y.ctus < (b + 1) * y.cols) || y.pend.has (b / max 1 y.step)
  if g == 0 then 0
  else if x.seg.kind == 0 then
    ((List.range x.bands).filter (fun b => open_ a b && !open_ x b && !x.spilled.contains (b / max 1 x.step))).length
  else if x.bands != 0 && a.bands != 0 && open_ a (a.bands - 1) && !open_ x (x.bands - 1) then 1 else 0

/-- Waiting seam strips are handed over at the deadline (R248). -/
def State.seamHandoff (s : State) (r g : Nat) : State :=
  let p := s.coding r
  let x := p.seg g
  let n := p.seamsWaiting g
  if n == 0 then s
  else
    let len := if x.seg.kind == 0 then (s.st.rends.get r).bandH else x.width
    let job : SpillJob := { seg := segKey r g, left := n, cycles := 16 * ceilDiv len 64, at_ := s.now, seam := true }
    let s := s.updCoding r (fun p => { p.updSeg g (fun x => { x with seams := n }) with isLocal := true })
    let s := { s with spills := s.spills.upd (x.seg.tarn / 4) (fun u => { u with queue := u.queue ++ [job] }) }
    s.evR 0x0406 (0x1000 + x.seg.tarn) r (x.seg.tarn / 4 * 2 ^ 16 + sat 16 n)

/-- Segments of the pictures in coding of a domain. -/
def State.codingSegs (s : State) (d : Nat) : List (Nat × Nat) :=
  s.rends.flatMap (fun e => match e.2.cur with
    | some p => if s.domRend e.1 == d then p.segs.keys.map (fun g => (e.1, g)) else []
    | none => [])

/-- The deadline of a domain's Tarns: waiting work and waiting seam strips go to the Spillway units. -/
def State.tarnDeadline (s : State) (d : Nat) : State :=
  let l := s.codingSegs d
  let s := l.foldl (fun s a => s.seamHandoff a.1 a.2) s
  l.foldl (fun s a => (s.spillRest a.1 a.2 true).pictureCoded a.1) s

/-- Tarns of a domain at its window opening: cycle counts roll over, and reset Tarns resume (R142). -/
def State.tarnsOpen (s : State) (d : Nat) : State :=
  let ns := (List.range 36).filter (fun n => s.clusterDomain (n / 4) == some d)
  ns.foldl (fun s n =>
    (s.updTarn n (fun t => { t with items := [], again := none, held := false, used := 0, last := t.used, segUse := [], segLast := t.segUse })).wrn
      (tarnReg n 0x008) (s.tarn n).used) s

/-- Segments whose Tarn does not code them spill from the window's opening (R142, R258, R409). -/
def State.spillHeld (s : State) (r : Nat) : State :=
  ((s.coding r).segs.filter (fun e => e.2.held)).foldl (fun s e => (s.spillRest r e.1 true).pictureCoded r) s

/-! ### Keys and pictures at a window opening (R279 to R282) -/

/-- One rendition's picture of the window. -/
def State.codeRend (s : State) (c : Nat) (take : Bool) (q : RendRec) : State :=
  let r := q.rendition
  let p := s.capNow c
  let x := s.rend r
  let own := !take && s.ownKeyDue r p
  let g := if take || own then x.gop.forceKey q.reorder p else x.gop
  let k := g.code q.reorder p
  let s := s.setRend r { x with gop := k.1, gopOpen := x.gop, cur := none }
  match k.2 with
  | some e => if x.healing then s else ((s.beginCoding r e (k.1.pos - 1)).healOpen r).spillHeld r
  | none => s

/-- KEY_DECISION at a window opening, then each rendition's picture. -/
def State.keysOpen (s : State) (c : Nat) : State :=
  let p := s.capNow c
  let x := s.st.courses.get c
  let k := s.keys.get c
  let ready := s.keysReady c
  let due := match k.last with | some l => x.keyInterval != 0 && decide (x.keyInterval ≤ p - l) | none => false
  let k := { (if due then k.add 3 else k) with ready := ready, taken := false }
  let s := { s with keys := s.keys.set c k }
  let take := !k.due.isEmpty && ready
  let s := if k.due.isEmpty then s else if ready then s.keyTake c p else s.keyDefer c
  (s.st.rendsOf c).foldl (fun s q => s.codeRend c take q) s

/-- The course key is taken during the window, at its map band 0: pictures already chosen are chosen again. -/
def State.recodeRend (s : State) (c : Nat) (q : RendRec) : State :=
  let r := q.rendition
  let x := s.rend r
  let p := s.capNow c
  let k := (x.gopOpen.forceKey q.reorder p).code q.reorder p
  match k.2, x.cur with
  | some e, some y =>
    if e.cap == y.cap && e.type == y.type then s.setRend r { x with gop := k.1 }
    else (((s.setRend r { x with gop := k.1, cur := none }).beginCoding r e (k.1.pos - 1)).healOpen r).spillHeld r
  | some e, none => if x.healing then s.setRend r { x with gop := k.1 } else
      (((s.setRend r { x with gop := k.1 }).beginCoding r e (k.1.pos - 1)).healOpen r).spillHeld r
  | none, _ => s.setRend r { x with gop := k.1 }

/-- A scene cut in the course's picture (R228, R279). -/
def State.keysCut (s : State) (c : Nat) : State :=
  let x := s.st.courses.get c
  let k := s.keys.get c
  let p := s.capNow c
  let gap := max 1 (s.effFld (crsReg c 0xD00) 31 16)
  let since := match k.last with | some l => p - l | none => gap
  if !x.sceneKey || k.taken then s
  else if since < gap then s.evC 0x0413 (0x4100 + x.domain) c since
  else
    let was := k.due
    let s := { s with keys := s.keys.set c (k.add 4) }
    if k.ready then (s.st.rendsOf c).foldl (fun s q => s.recodeRend c q) (s.keyTake c p)
    else if was.isEmpty then s.keyDefer c else s

/-! ### Consumer stages -/

/-- HW_BAND_DONE: the band in progress of a share is analysed. -/
def State.hwBandDone (s : State) (c u : Nat) : State :=
  let r := s.stage (.headwater c u)
  let h := s.st.hws.get (8 * c + u)
  let band := h.firstBand + r.next
  if !(r.active && r.reading) then s
    else
      let s := (s.runTo r.free).hwWriteBand c u band
      let s := if band == 0 then s.hwCut c u ((s.head c).cur.bands.get 0).scene else s
      let s := if band == 0 && (s.head c).cur.cut then s.keysCut c else s
      let s := s.setStage (.headwater c u) { r with reading := false, next := r.next + 1 }
      let s := if h.bandCount ≤ r.next + 1 then s.hwShareEnd c u else s
      (s.hwPictureEnd c).pace

/-- BAND_READ_START: a consumer stage starts its next band once the marks it needs are set (R17). -/
def execBandReadStart (x : Stage) (s : State) : Host.Outcome State Fault Refusal :=
  .next (match x with
    | .mere c => s.mereStart c
    | .cascade c k => s.cascadeStart c k
    | .headwater c u => s.headwaterStart c u
    | .tarn r g => s.tarnStart r g)

end Sys2Proof.Machine
end

