-- ==== Sys2Proof/Machine/Emission.lean ====
section
/-! DEFINITION. Emission.lean: units written into the emission rings, non-unit items, captions, timestamps, transport
stream upkeep and chunk rings (12_emission, R284 to R302). -/

namespace Sys2Proof.Machine

def State.ring (s : State) (r : Nat) : Ring := s.rings.get r
def State.setRing (s : State) (r : Nat) (x : Ring) : State := { s with rings := s.rings.set r x }
/-- A field of a rendition's EMIT_CFG in effect. -/
def State.emitFld (s : State) (r hi lo : Nat) : Nat := s.effFld (s.erRend r 0x04) hi lo
def State.maxPayload (s : State) (r : Nat) : Nat := s.emitFld r 31 18
def State.rtpPt (s : State) (r : Nat) : Nat := max 96 (s.emitFld r 14 8)
/-- ERk_SSRC: 0x4F5A_0000 + r until it is written. -/
def State.ssrc (s : State) (r : Nat) : Nat :=
  match s.regs.find (s.erRend r 0x08) with | some w => w.toNat | none => 0x4F5A0000 + r

/-! ### TS delay (R296) -/

/-- D of a course in microseconds, as a fraction: cycles over 1,500. -/
def State.courseDelay (s : State) (c : Nat) : Nat :=
  let x := s.st.courses.get c
  if x.fixed then ceilDiv (x.delayLines * s.winOf x.domain) (max 1 (s.st.timingInput c).totalLines)
  else s.placedSt.dMin s.liveRes s.effortOf x
/-- The least TS_DELAY_US. -/
def State.tsDelayMin (s : State) (r : Nat) : Nat :=
  let q := s.st.rends.get r
  let x := s.rend r
  let den := s.perDen r
  let rate := max 1 x.rate
  ceilDiv ((1 + q.reorder) * s.perNum r * 1000000 * 1500 * rate + s.courseDelay q.course * den * rate + x.buf * 1000000 * 1500 * den)
    (den * 1500 * rate)
/-- ERk_TS_DELAY_US as it takes effect. -/
def State.tsDelay (s : State) (r : Nat) : Nat := max (s.rdn (s.erRend r 0x10)) (s.tsDelayMin r)

/-! ### Ring entries (R292, R293) -/

/-- Ring bytes that an entry takes. -/
def Entry.span (e : Entry) : Nat := roundUp (16 + e.packet.length) 64
/-- The 16-byte entry header. -/
def Entry.header (e : Entry) : Bytes :=
  leBytes 2 e.packet.length ++ leBytes 1 e.format ++ leBytes 1 e.flags ++ leBytes 4 e.seq ++ leBytes 8 e.release

/-- An entry goes to the write position; those it overwrites are gone. -/
def Ring.push (x : Ring) (size : Nat) (e : Entry) : Ring :=
  let n := e.span
  let e := { e with off := x.wptr, seq := x.seq }
  { x with
    entries := x.entries.filter (fun y => decide (y.off + y.span ≤ e.off) || decide (e.off + n ≤ y.off)) ++ [e]
    wptr := (if size ≤ x.wptr + n then 0 else x.wptr + n), seq := (x.seq + 1) % 2 ^ 32 }

/-- An entry of rendition `r` is written, after a wrap entry where it would pass the end of the ring. -/
def State.ringPut (s : State) (r : Nat) (e : Entry) : State :=
  let size := (s.st.rends.get r).ringBytes / 64 * 64
  let n := e.span
  let put (s : State) (e : Entry) : State :=
    let x := s.ring r
    let e := { e with off := x.wptr, seq := x.seq }
    let s := ((s.setRing r (x.push size e)).inc64 (rndReg r 0x100) 1).inc64 (rndReg r 0x108) e.span
    { s with mem := Mem.puts s.mem (Config.ringBase r + e.off) (e.header ++ e.packet) }
  let rest := size - (s.ring r).wptr
  let s := if size < (s.ring r).wptr + n then put s { e with format := 0xFF, flags := 0, packet := List.replicate (rest - 16) 0 } else s
  put s e

/-- Packets of one release in a format. `first` and `last` say whether they begin and end the access unit. -/
def State.ringPuts (s : State) (r : Nat) (e : Entry) (packets : List Bytes) (first last : Bool) (key : Bool) : State :=
  (List.range packets.length).foldl (fun s i =>
    let f := first && i == 0
    let l := last && i + 1 == packets.length
    s.ringPut r { e with packet := packets.getD i [], flags := e.flags + bnat f + bnat l * 2 + bnat (f && key) * 4 }) s

/-! ### RTP, transport stream and chunks of one release (R297 to R299) -/

/-- RTP packets around payloads; the marker stands on the last when `last`. -/
def State.putRtp (s : State) (r : Nat) (e : Entry) (ts : Nat) (payloads : List Bytes) (first last key : Bool) : State :=
  let x := s.ring r
  let n := payloads.length
  let pk := (List.range n).map (fun i =>
    rtpHeader (last && i + 1 == n) (s.rtpPt r) ((x.rtpSeq + i) % 65536) (ts % 2 ^ 32) (s.ssrc r) ++ payloads.getD i [])
  let s := s.ringPuts r { e with format := 0 } pk first last key
  s.setRing r { s.ring r with rtpSeq := (x.rtpSeq + n) % 65536 }

/-- Datagrams of TS packets in formats 1 and 2, as the rendition carries them. -/
def State.putTs (s : State) (r : Nat) (e : Entry) (packets : List Bytes) (first last key : Bool) : State :=
  let q := s.st.rends.get r
  let ds := (groups 7 packets.length packets).map (fun l => l.flatMap id)
  let x := s.ring r
  let one := (List.range ds.length).map (fun i =>
    rtpHeader false 33 ((x.tsRtpSeq + i) % 65536) (clock90 e.release % 2 ^ 32) (Config.tsSsrc r) ++ ds.getD i [])
  let s := if bit q.payload 1 then
      let s := s.ringPuts r { e with format := 1 } one first last key
      s.setRing r { s.ring r with tsRtpSeq := (x.tsRtpSeq + ds.length) % 65536 }
    else s
  let s := if bit q.payload 2 then s.ringPuts r { e with format := 2 } ds first last key else s
  s.setRing r { s.ring r with lastTs := some e.release }

def Ring.pmtPid (x : Ring) : Nat := x.pids % 2 ^ 13
def Ring.videoPid (x : Ring) : Nat := x.pids / 2 ^ 16 % 2 ^ 13
/-- Continuity counters after `n` packets with payload on a PID. -/
def Ring.count (x : Ring) (pid n : Nat) : Ring := { x with cc := x.cc.set pid ((x.cc.get pid + n) % 16) }

/-- A PAT and a PMT, and the ring that has counted them. -/
def State.tables (s : State) (r : Nat) : List Bytes × Ring :=
  let x := s.ring r
  let q := s.st.rends.get r
  ([psi 0 (x.cc.get 0) 0 (Config.tsId r % 65536) (Config.tsVersion r) (patBody x.pmtPid),
    psi x.pmtPid (x.cc.get x.pmtPid) 2 1 (Config.tsVersion r) (pmtBody q.codec x.videoPid)],
   { (x.count 0 1).count x.pmtPid 1 with lastTables := some (linear s.time.phc) })

/-- One release of transport stream: tables before a key picture, and the bytes of the PES on the video PID. -/
def State.tsRelease (s : State) (r : Nat) (e : Entry) (bytes : Bytes) (first last key : Bool) : State :=
  if bits (s.st.rends.get r).payload 2 1 == 0 then s
  else
    let t := if first && key then s.tables r else ([], s.ring r)
    let v := tsPackets t.2.videoPid (t.2.cc.get t.2.videoPid) first e.release bytes
    (s.setRing r (t.2.count t.2.videoPid v.length)).putTs r e (t.1 ++ v) first last key

/-! ### Timestamps (R295) -/

/-- PTS and DTS of a picture as 33-bit 90 kHz values. -/
def State.ptsDts (s : State) (r : Nat) (p : Coding) (cap : Nat) : Nat × Nat :=
  let x := s.rend r
  let d := (s.ring r).delay * 1000
  let q := s.st.rends.get r
  let k := (((s.courses.get q.course).caps.find? (fun y => y.1 == x.gop.start + p.pos)).getD (0, cap)).2
  let dts := if q.reorder == 0 then cap + d else k + d - q.reorder * s.perNum r * 1000000000 / s.perDen r
  (clock90 (cap + d) % 2 ^ 33, clock90 dts % 2 ^ 33)

/-- SMPTE ST 12-1 time of day (R289): hours, minutes, seconds, frames and the drop-frame flag. -/
def dropLabel (frames rate : Nat) : Nat :=
  let per10 := rate * 600 - 9 * (rate / 15)
  let per1 := rate * 60 - rate / 15
  let d := frames / per10
  let m := frames % per10
  let drop := rate / 15
  frames + 9 * drop * d + (if drop ≤ m then drop * ((m - drop) / per1) else 0)
/-- The label of capture time `t` (ns) at a period, with the course's offset and the UTC offset. -/
def State.timecode (s : State) (c t : Nat) : Nat × Nat × Nat × Nat × Bool :=
  let d := s.st.domains.get (s.domOf c)
  let off : Int := signed 32 (s.rdn (crsReg c 0xE40))
  let sec : Nat := (((t / 1000000000 : Nat) : Int) - s.utcOffset + off).emod 86400 |>.toNat
  let rate := ceilDiv d.den (max 1 d.num)
  let f := t % 1000000000 * d.den / (max 1 d.num * 1000000000)
  let drop := d.num == 1001 && (rate == 30 || rate == 60)
  let label := if drop && sec % 60 == 0 && sec / 60 % 10 != 0 && decide (f < rate / 15) then f + rate / 15 else f
  (sec / 3600, sec / 60 % 60, sec % 60, label, drop)

/-! ### Non-unit items (R286, R287, R289 to R291) -/

/-- Bytes that an item counts against the allowance. -/
def itemBytes (codec : Nat) (b : Bytes) : Nat := b.length + (if codec == 2 then 0 else 4)

/-- Optional items in their order, kept while they fit; those left out, by kind. -/
def keepItems (codec limit : Nat) : List (Nat × Bytes) → Nat → List Bytes × List Nat
  | [], _ => ([], [])
  | (kind, b) :: rest, used =>
    let n := used + itemBytes codec b
    if n ≤ limit then
      let r := keepItems codec limit rest n
      (b :: r.1, r.2)
    else
      let r := keepItems codec limit rest used
      (r.1, kind :: r.2)

/-- The items of a picture: what the rendition's settings call for, in the order of R287. -/
def State.itemsOf (s : State) (r : Nat) (p : Coding) (i : PicItems) : List (Nat × Bytes) :=
  let caps := if s.emitFld r 2 2 == 1 then (((s.ring r).captions.find? (fun c => c.1 == p.cap)).getD (0, [])).2.length else 0
  (i.captions.take caps).map (fun b => (1, b)) ++ (if s.emitFld r 0 0 == 1 then i.timecode.map (fun b => (2, b)) else []) ++
  (if s.emitFld r 1 1 == 1 && p.type == 0 then i.hdr.map (fun b => (3, b)) else []) ++
  (if (s.st.rends.get r).codec == 3 then i.aps.map (fun b => (4, b)) else [])

/-- The items written before a picture's first unit: their byte strings, and the state that has counted them. -/
def State.takeItems (s : State) (r : Nat) (p : Coding) (i : PicItems) : List Bytes × State :=
  let codec := (s.st.rends.get r).codec
  let limit := if p.type == 0 then 1024 else 128
  let k := keepItems codec limit (s.itemsOf r p i) (sum (i.always.map (itemBytes codec)))
  let caps := min (i.captions.length) ((((s.ring r).captions.find? (fun c => c.1 == p.cap)).getD (0, [])).2.length)
  let all := i.always ++ k.1
  let s := k.2.foldl (fun s kind => (s.inc (rndReg r 0x114) 1).evRd r 0x0420 (kind * 2 ^ 28 + p.cap % 2 ^ 28)) s
  let s := if s.emitFld r 2 2 == 1 then s.inc (rndReg r 0x118) (caps - (k.2.filter (· == 1)).length) else s
  (all, s.updCoding r (fun p => { p with items := all.length, headBits := 8 * sum (all.map (itemBytes codec)) }))

/-! ### EMIT_UNIT (R284, R294) -/

/-- RELEASE of a unit: the time of the write under READY; under FIXED the release time, or the write if later. -/
def State.unitRelease (s : State) (u : UnitOut) : Nat :=
  let t := linear s.time.phc
  match u.release with
  | some v => if 0 < signed 64 (v + 2 ^ 64 - t) then v else t
  | none => t

/-- The bucket takes a finished picture, and the rendition is free of it. -/
def State.pictureFinished (s : State) (r : Nat) : State :=
  let p := s.coding r
  let b := sum (p.units.vals.map (·.bits)) + p.headBits
  if p.coded && p.order.isEmpty && p.rtpLeft.isEmpty && !p.finished then
    let s := s.setRend r ((s.rend r).refill b (s.perNum r) (s.perDen r))
    let s := s.updCoding r (fun p => { p with finished := true })
    s.setRend r { s.rend r with tuOpen := p.hide }
  else s

/-- A key picture brings its TS settings into effect. -/
def State.ringKey (s : State) (r : Nat) : State :=
  s.setRing r { s.ring r with pids := s.rdn (s.erRend r 0x0C), delay := s.tsDelay r }

/-- A unit and what precedes it, in decoding order: RTP unless it runs ahead, transport stream and host chunks. The first
item of an AV1 temporal unit is its delimiter, which RTP and chunks leave out. -/
def State.emitOrdered (s : State) (r : Nat) (p : Coding) (e : Entry) (rtp : Bool) (items nals : List Bytes) (first last : Bool)
    (idx : Nat) : State :=
  let q := s.st.rends.get r
  let key := p.type == 0
  let mp := s.maxPayload r
  let plain := if q.codec == 2 then items.drop 1 else items
  let lastPic := idx + 1 == p.units.length && last
  let s := if !(rtp && bit q.payload 0) then s
    else
      let pk := if q.codec == 2 then av1Packets mp (plain ++ nals) [] (key && first)
        else itemPackets q.codec mp none items [] none ++ nals.flatMap (nalPackets q.codec mp none lastPic)
      s.putRtp r e (clock90 p.shownNs) pk first last key
  let es := (if first then pesHeader e.pts e.dts else []) ++ (items ++ nals).flatMap (esBytes q.codec)
  let s := s.tsRelease r e es first last key
  if !bit q.payload 3 then s
  else
    let chunks := (if items.isEmpty then [] else [plain.flatMap (chunkBytes q.codec)]) ++
      (if nals.isEmpty then [] else [nals.flatMap (chunkBytes q.codec)])
    s.ringPuts r { e with format := 3 } chunks first last key

/-- RTP at commitment, with decoding order numbers (R284, R297). `idx` is the unit's place in decoding order. -/
def State.emitAhead (s : State) (r : Nat) (p : Coding) (e : Entry) (items nals : List Bytes) (first last : Bool) (idx : Nat) : State :=
  let q := s.st.rends.get r
  let mp := s.maxPayload r
  let don := (s.ring r).don
  let pk := itemPackets q.codec mp (some don) items [] none ++
    nals.flatMap (nalPackets q.codec mp (some ((don + p.items + idx) % 65536)) (idx + 1 == p.units.length && p.coded))
  s.putRtp r e (clock90 p.shownNs) pk first last (p.type == 0)

/-- EMIT_UNIT: unit row `row` of segment `g` is written, in every format whose order allows it. `nals` are its coded
NAL units or OBUs; `items` what precedes the picture's first unit. -/
def State.emitUnit (s : State) (r g row : Nat) (nals : List Bytes) (items : PicItems) : State :=
  let p := s.coding r
  let k := 64 * g + row
  let q := s.st.rends.get r
  match (s.rend r).cur, p.units.find k with
  | some _, some u =>
    let ahead := p.rtpLeft.contains k
    let inOrder := p.order.head? == some k
    if !ahead && !inOrder then s
    else
      let fresh := !p.rtpOpen && !p.tsOpen
      let s := if fresh && p.type == 0 then s.ringKey r else s
      let it := if fresh then s.takeItems r p items else ([], s)
      let s := it.2.wrn (rndReg r 0x124) (max (s.rdn (rndReg r 0x124)) (sat 32 (s.now - u.at_)))
      let p := s.coding r
      let t := s.ptsDts r p p.capNs
      let e : Entry := { release := s.unitRelease u, picture := p.cap, pts := t.1, dts := t.2
                         flags := bnat p.isLocal * 8 + bnat u.spill * 16 }
      let all := unitOrder q.codec p.segs
      let idx := all.idxOf k
      let itemsFor (open_ : Bool) : List Bytes := if open_ then [] else if it.1.isEmpty then items.always else it.1
      let s := if !ahead then s
        else
          let s := s.emitAhead r p e (itemsFor p.rtpOpen) nals (!p.rtpOpen) (p.rtpLeft.length == 1) idx
          s.updCoding r (fun p => { p with rtpLeft := p.rtpLeft.erase k, rtpOpen := true })
      let s := if !inOrder then s
        else
          let first := !p.tsOpen && !(s.rend r).tuOpen
          let s := s.emitOrdered r p e (!s.donl r) (itemsFor p.tsOpen) nals first (p.order.length == 1 && !p.hide) idx
          s.updCoding r (fun p => { p with order := p.order.drop 1, tsOpen := true })
      let s := if (s.coding r).order.isEmpty && (s.coding r).rtpLeft.isEmpty then
          s.setRing r { s.ring r with don := ((s.ring r).don + p.items + all.length) % 65536 } else s
      s.pictureFinished r
  | _, _ => s

/-- The show_existing_frame header of a frame coded before (R240, R262): a temporal unit of its own, or the end of the
one that its frame opened. It counts as a picture in the bucket. -/
def State.emitShow (s : State) (r : Nat) (nals : List Bytes) (items : PicItems) : State :=
  let p := s.coding r
  match p.shows with
  | [] => s
  | h :: rest =>
    if !p.finished then s
    else
      let opened := (s.rend r).tuOpen
      let its := if opened then [] else items.always
      let b := 8 * sum ((its ++ nals).map (itemBytes 2))
      let t := s.ptsDts r p h.2
      let e : Entry := { release := linear s.time.phc, picture := h.1, pts := t.1, dts := t.2 }
      let s := s.emitOrdered r { p with shownNs := h.2, type := 1 } e true its nals (!opened) true 0
      let s := s.updCoding r (fun p => { p with shows := rest })
      s.setRend r { (s.rend r).refill b (s.perNum r) (s.perDen r) with tuOpen := false }

/-- `g` = 16 names the show_existing_frame header that a picture waits to emit. -/
def execEmitUnit (r g row : Nat) (nals : List Bytes) (items : PicItems) (s : State) : Host.Outcome State Fault Refusal :=
  .next ((if g == 16 then s.emitShow r nals items else s.emitUnit r g row nals items).healLast r).pace

/-- Has emission nothing left of a rendition's picture? -/
def Coding.emitted (p : Coding) : Bool := p.finished && p.shows.isEmpty

/-- SLICE_RELEASE_TIME: the clock reaches the earliest RELEASE of the rendition still to come, and Outflow may read
it. -/
def execSliceReleaseTime (r : Nat) (s : State) : Host.Outcome State Fault Refusal :=
  let t := linear s.time.phc
  .next (match ((s.ring r).entries.filter (fun e => decide (0 < signed 64 (e.release + 2 ^ 64 - t)))).head? with
    | some e => s.cycles (s.cyclesTo e.release)
    | none => s)

/-! ### Transport stream upkeep (R298) -/

/-- Does a rendition release transport stream? -/
def State.tsLive (s : State) (r : Nat) : Bool :=
  bits (s.st.rends.get r).payload 2 1 != 0 && s.running (s.st.courseOfRend r)

/-- TS_PCR_KEEPALIVE: 20 ms after the last release, a packet that carries a PCR alone. -/
def execTsPcrKeepalive (r : Nat) (s : State) : Host.Outcome State Fault Refusal :=
  .next (match s.tsLive r, (s.ring r).lastTs with
    | true, some t =>
      let s := s.cycles (s.cyclesTo ((t + 20000000) % 2 ^ 64))
      let x := s.ring r
      let at_ := linear s.time.phc
      s.putTs r { release := at_ } [tsPacket x.videoPid (x.cc.get x.videoPid + 15) false (some at_) []] false false false
    | _, _ => s)

/-- TS_TABLE_REPEAT: 100 ms after the last PAT and PMT they are sent again. -/
def execTsTableRepeat (r : Nat) (s : State) : Host.Outcome State Fault Refusal :=
  .next (match s.tsLive r, (s.ring r).lastTables with
    | true, some t =>
      let s := s.cycles (s.cyclesTo ((t + 100000000) % 2 ^ 64))
      let v := s.tables r
      (s.setRing r v.2).putTs r { release := linear s.time.phc } v.1 false false false
    | _, _ => s)

/-! ### Chunk rings (R299) -/

def State.chunk (s : State) (r : Nat) : HostRing := s.chunks.get r
def State.setChunk (s : State) (r : Nat) (x : HostRing) : State := { s with chunks := s.chunks.set r x }

/-- The 32-byte record of an entry. -/
def chunkRecord (addr : Nat) (e : Entry) (phase : Bool) : Bytes :=
  leBytes 8 addr ++ leBytes 4 e.packet.length ++ leBytes 4 e.picture ++ leBytes 5 e.pts ++ leBytes 5 e.dts ++
  leBytes 1 (bnat phase * 128 + e.flags % 32) ++ [0] ++ leBytes 4 e.seq

/-- CHUNK_RECORD_WRITE: the oldest host-chunk entry not yet told, once its RELEASE is reached.
A standby writes none (R391). -/
def execChunkRecordWrite (r : Nat) (s : State) : Host.Outcome State Fault Refusal :=
  let x := s.chunk r
  let owner := s.st.courseOwner (s.st.courseOfRend r)
  .next (match x.en, (s.ring r).entries.find? (fun e => e.format == 3 && !e.told) with
    | true, some e =>
      let s := s.cycles (s.cyclesTo e.release)
      let s := s.setRing r { s.ring r with entries := (s.ring r).entries.map (fun y => if y.seq == e.seq then { y with told := true } else y) }
      let size := 2 ^ x.sizeLog2
      if s.standby then s
      else if (x.tail + 1) % size == x.head then
        (s.inc (s.erRend r 0x2C) 1).limited (0x422 * 2 ^ 12 + r) msCycles (fun n s => s.evRd r 0x0422 n)
      else
        let s := s.hostWr owner (s.rd64 (s.erRend r 0x18) + 32 * x.tail) (chunkRecord (Config.ringBase r + e.off + 16) e x.phase)
        let s := s.irq owner x.vector (x.irqEn && x.armed)
        s.setChunk r { x with tail := (x.tail + 1) % size, phase := xor x.phase (x.tail + 1 == size), armed := false }
    | _, _ => s)

/-- CHUNK_HEAD_WRITE: records are released; the ring's next record signals again (R134). -/
def State.chunkHead (s : State) (c k : Nat) (w : Word) : State :=
  let r := ((s.st.rendsOf c)[k]?.map (·.rendition)).getD 0
  let x := s.chunk r
  if (s.st.rendsOf c).length ≤ k then s
  else s.setChunk r { x with head := w.toNat % 2 ^ max 1 x.sizeLog2, armed := true }
def execChunkHeadWrite (c k : Nat) (w : Word) (s : State) : Host.Outcome State Fault Refusal := .next (s.chunkHead c k w)

/-- CHUNK_RING_ENABLE: a write of ERk_CHUNK_CFG. SIZE_LOG2 holds while EN is 1; an enable needs an aligned base, a size
of 4 to 12 and a rendition that carries host chunks. -/
def State.chunkCfg (s : State) (c k : Nat) (w : Word) : State :=
  let q := ((s.st.rendsOf c)[k]?).getD {}
  let r := q.rendition
  let x := s.chunk r
  let size := if x.en then x.sizeLog2 else bits w.toNat 4 0
  let en := bit w.toNat 31 && s.rd64 (erReg c k 0x18) % 4096 == 0 && decide (4 ≤ size) && decide (size ≤ 12) && bit q.payload 3
  let y : HostRing := { x with en := en, vector := bits w.toNat 20 16, irqEn := bit w.toNat 8, sizeLog2 := size }
  if (s.st.rendsOf c).length ≤ k then s
  else s.setChunk r (if en && !x.en then { y with head := 0, tail := 0, phase := true, armed := true } else y)
def execChunkRingEnable (c k : Nat) (w : Word) (s : State) : Host.Outcome State Fault Refusal := .next (s.chunkCfg c k w)

/-! ### Captions (R291) -/

def capReg (c o : Nat) : Nat := crsReg c (0xE00 + o)

/-- CAPTION_RING_ENABLE: a write of CAP_CFG. -/
def State.captionCfg (s : State) (c : Nat) (w : Word) : State :=
  let old := s.rdn (capReg c 0x08)
  let size := if bit old 31 then bits old 4 0 else bits w.toNat 4 0
  let base := s.rd64 (capReg c 0x00)
  let owner := s.st.courseOwner c
  let placed := match s.st.regionAt base with
    | some g => bit g.writers owner && decide (base + 2 ^ size ≤ g.base + g.size)
    | none => false
  let en := bit w.toNat 31 && base % 16 == 0 && decide (12 ≤ size) && decide (size ≤ 20) && placed
  let s := s.wrn (capReg c 0x08) (bnat en * 2 ^ 31 + size)
  if en && !bit old 31 then s.wrn (capReg c 0x10) 0 else s
def execCaptionRingEnable (c : Nat) (w : Word) (s : State) : Host.Outcome State Fault Refusal := .next (s.captionCfg c w)

/-- Renditions of a course with CAPTIONS set. -/
def State.captioned (s : State) (c : Nat) : List Nat :=
  ((s.st.rendsOf c).map (·.rendition)).filter (fun r => s.emitFld r 2 2 == 1)

/-- A caption goes into picture `p` of every captioned rendition. -/
def State.captionTake (s : State) (c p : Nat) (b : Bytes) : State :=
  (s.captioned c).foldl (fun s r =>
    let x := s.ring r
    let old := ((x.captions.find? (fun e => e.1 == p)).getD (p, [])).2
    s.setRing r { x with captions := ((x.captions.filter (fun e => e.1 != p)) ++ [(p, old ++ [b])]).drop (x.captions.length - 7) }) s

/-- A late caption is dropped. -/
def State.captionDrop (s : State) (c pic : Nat) : State :=
  (s.captioned c).foldl (fun s r => (s.inc (rndReg r 0x11C) 1).evRd r 0x0421 pic) s

/-- Records that CAP_WPTR covers, read in order for picture `p`; `n` are already taken. -/
def State.captionLoop (s : State) (c p : Nat) : Nat → Nat → State
  | 0, _ => s
  | fuel + 1, n =>
    let base := s.rd64 (capReg c 0x00)
    let size := 2 ^ s.fld (capReg c 0x08) 4 0
    let rp := s.rdn (capReg c 0x10)
    let head := Mem.bytes s.mem (base + rp) 8
    let len := u16 head 4
    let pic := u32 head 0
    if rp == s.rdn (capReg c 0x0C) % size then s
    else if len == 0 then (s.wrn (capReg c 0x10) 0).captionLoop c p fuel n
    else
      let next := (rp + roundUp (8 + len) 16) % size
      if pic < p then ((s.wrn (capReg c 0x10) next).captionDrop c pic).captionLoop c p fuel n
      else if p < pic || 4 ≤ n then s
      else
        let b := Mem.bytes s.mem (base + rp + 8) (min 256 len)
        ((s.wrn (capReg c 0x10) next).captionTake c p b).captionLoop c p fuel (n + 1)

/-- CAPTION_READ at a Weir, for the picture that its window captures. -/
def State.captionRead (s : State) (c : Nat) : State :=
  if bit (s.rdn (capReg c 0x08)) 31 then s.captionLoop c (s.head c).count (2 ^ (s.fld (capReg c 0x08) 4 0 - 4)) 0 else s

/-! ### Key requests on joining (R301) -/

/-- A KEY_ON_JOIN request reaches its rendition at a Weir. -/
def State.joinRequest (s : State) (r : Nat) : State :=
  let x := s.rend r
  let p := (s.head (s.st.courseOfRend r)).count
  s.setRend r { x with joins := x.joins + 1, joinAt := if x.joins == 0 then p else x.joinAt }

end Sys2Proof.Machine
end

