-- ==== Sys2Proof/Machine/Packet.lean ====
section
/-! DEFINITION. Packet.lean: the parts of received frames that Inlet reads (R144, R146, R147, R157): Ethernet, 802.1Q,
IPv4, IPv6, UDP, RTP and RFC 4175 headers, all in network byte order. -/

namespace Sys2Proof.Machine

def be16 (b : Bytes) (i : Nat) : Nat := u8 b i * 256 + u8 b (i + 1)
def be32 (b : Bytes) (i : Nat) : Nat := be16 b i * 65536 + be16 b (i + 2)

/-- What classification needs of a frame (R146, R147). `udp` holds for a frame that may match the flow table. -/
structure Pkt where
  dstMac : Nat := 0
  tags : Nat := 0
  vlan : Nat := 65535
  pause : Bool := false
  badSum : Bool := false
  query : Bool := false
  udp : Bool := false
  dstIp : Nat := 0
  srcIp : Nat := 0
  dstUdp : Nat := 0
  payload : Bytes := []
deriving DecidableEq, Repr, Inhabited

/-- Ones' complement sum of 16-bit words. -/
def onesSum : Bytes → Nat
  | a :: b :: r => let s := a.toNat * 256 + b.toNat + onesSum r; s % 65536 + s / 65536
  | [a] => a.toNat * 256
  | [] => 0

def v4Mapped (ip : Nat) : Nat := 0xFFFF * 2 ^ 32 + ip

/-- The UDP part of an IP payload. -/
def Pkt.withUdp (p : Pkt) (b : Bytes) : Pkt :=
  { p with udp := true, dstUdp := be16 b 2, payload := slice b 8 (be16 b 4 - 8) }

/-- The network layer of a frame. -/
def Pkt.withIp (p : Pkt) (etype : Nat) (b : Bytes) : Pkt :=
  if etype == 0x0800 && u8 b 0 / 16 == 4 then
    let ihl := 4 * (u8 b 0 % 16)
    let p := { p with srcIp := v4Mapped (be32 b 12), dstIp := v4Mapped (be32 b 16), badSum := onesSum (b.take ihl) != 65535 }
    let fragment := bits (be16 b 6) 13 13 == 1 || bits (be16 b 6) 12 0 != 0
    if u8 b 9 == 17 && !fragment then p.withUdp (slice b ihl (be16 b 2 - ihl))
    else { p with query := u8 b 9 == 2 && u8 b ihl == 0x11 }
  else if etype == 0x86DD && u8 b 0 / 16 == 6 then
    let p := { p with srcIp := beNat (slice b 8 16), dstIp := beNat (slice b 24 16) }
    if u8 b 6 == 17 then p.withUdp (slice b 40 (be16 b 4))
    else { p with query := u8 b 6 == 0 && u8 b 40 == 58 && u8 b (48 + 8 * u8 b 41) == 130 }
  else p

/-- Number of 802.1Q (or 802.1ad) tags from offset 12. -/
def tagCount : Nat → Bytes → Nat
  | 0, _ => 0
  | fuel + 1, b => if be16 b 0 == 0x8100 || be16 b 0 == 0x88A8 then 1 + tagCount fuel (b.drop 4) else 0

/-- A frame from its destination MAC address on. -/
def readFrame (b : Bytes) : Pkt :=
  let tags := tagCount 4 (b.drop 12)
  let etype := be16 b (12 + 4 * tags)
  let p : Pkt := { dstMac := beNat (b.take 6), tags, vlan := if tags == 0 then 65535 else be16 b 14 % 4096, pause := etype == 0x8808 }
  p.withIp etype (b.drop (14 + 4 * tags))

/-- An RTP header and its payload. -/
structure Rtp where
  ok : Bool := false
  marker : Bool := false
  seq : Nat := 0
  ts : Nat := 0
  payload : Bytes := []
deriving DecidableEq, Repr, Inhabited

def readRtp (b : Bytes) : Rtp :=
  let csrc := 4 * (u8 b 0 % 16)
  let ext := if bit (u8 b 0) 4 then 4 + 4 * be16 b (12 + csrc + 2) else 0
  { ok := decide (12 ≤ b.length) && u8 b 0 / 64 == 2, marker := bit (u8 b 1) 7, seq := be16 b 2, ts := be32 b 4,
    payload := b.drop (12 + csrc + ext) }

/-- A sample row data header of RFC 4175: bytes, row and pixel offset; and the octets of its run. -/
structure Srd where
  len : Nat := 0
  row : Nat := 0
  off : Nat := 0
  data : Bytes := []
deriving DecidableEq, Repr, Inhabited

/-- The headers after the 16-bit extended sequence number; `fuel` bounds their number. -/
def readSrds : Nat → Bytes → List Srd
  | 0, _ => []
  | fuel + 1, b =>
    let h : Srd := { len := be16 b 0, row := be16 b 2 % 32768, off := be16 b 4 % 32768 }
    if bit (be16 b 4) 15 then h :: readSrds fuel (b.drop 6) else [h]

/-- Each header takes its octets from the data that follow the headers. -/
def withData : List Srd → Bytes → List Srd
  | [], _ => []
  | h :: r, b => { h with data := b.take h.len } :: withData r (b.drop h.len)

/-- Octets and luma samples of a pixel group, and the rows it covers (ST 2110-20). RGB is sampled as 4:4:4. -/
def pgroup (sampling depth : Nat) (rgb : Bool) : Nat × Nat × Nat :=
  match (if rgb then 2 else sampling), depth with
  | 0, 8 => (6, 2, 2) | 0, 10 => (15, 4, 2) | 0, _ => (9, 2, 2)
  | 1, 8 => (4, 2, 1) | 1, 10 => (5, 2, 1) | 1, _ => (6, 2, 1)
  | _, 8 => (3, 1, 1) | _, 10 => (15, 4, 1) | _, _ => (9, 2, 1)

end Sys2Proof.Machine
end

