-- ==== Sys2Proof/Machine/Inlet.lean ====
section
/-! DEFINITION. Inlet.lean: ports, classification, meters, merging, delivery and the exception path (06_inlet, R143 to
R164). -/

namespace Sys2Proof.Machine

def inlPort (n o : Nat) : Nat := inlReg (0x1000 + 0x100 * n + o)
def inlFlow (i o : Nat) : Nat := inlReg (0x40000 + 0x40 * i + o)
def State.updInl (s : State) (f : Inlet → Inlet) : State := { s with inl := f s.inl }

/-- A counting event of a flow: at most once a millisecond, with the count since the last (06, Events). -/
def State.flowEvent (s : State) (code flow mark : Nat) : State :=
  s.limited (code * 2 ^ 12 + flow) msCycles (fun n s =>
    s.evTo (s.st.inflows.get flow).owner code 0x3000 (flow * 2 ^ 16 + mark + sat (if code == 0x0709 then 15 else 16) n))

/-- A frame dropped into a counter of its flow, with its counting event. -/
def State.flowDrop (s : State) (flow counter code : Nat) : State :=
  let s := s.inc (inlFlow flow counter) 1
  if code == 0 then s else s.flowEvent code flow 0

/-! ### Meters (R148, R151 to R154) -/

inductive Colour where
  | green | yellow | red
deriving DecidableEq, Repr, Inhabited

/-- Bucket units per byte: a rate of one 8 kbit/s unit earns one of them a cycle. -/
def unitsPerByte : Nat := 1500000

/-- Full buckets. -/
def fullMeter (cbs ebs now : Nat) : Meter := { c := cbs * unitsPerByte, e := ebs * unitsPerByte, at_ := now }

/-- RFC 2697, colour-blind: the second bucket takes what overflows the first. -/
def meterSingle (m : Meter) (cir cbs ebs now len : Nat) : Colour × Meter :=
  let c := m.c + (now - m.at_) * cir
  let c1 := min c (cbs * unitsPerByte)
  let e1 := min (m.e + (c - c1)) (ebs * unitsPerByte)
  let b := len * unitsPerByte
  if b ≤ c1 then (.green, { c := c1 - b, e := e1, at_ := now })
  else if b ≤ e1 then (.yellow, { c := c1, e := e1 - b, at_ := now })
  else (.red, { c := c1, e := e1, at_ := now })

/-- RFC 2698, colour-blind. -/
def meterTwo (m : Meter) (cir pir cbs pbs now len : Nat) : Colour × Meter :=
  let c1 := min (m.c + (now - m.at_) * cir) (cbs * unitsPerByte)
  let p1 := min (m.e + (now - m.at_) * pir) (pbs * unitsPerByte)
  let b := len * unitsPerByte
  if p1 < b then (.red, { c := c1, e := p1, at_ := now })
  else if c1 < b then (.yellow, { c := c1, e := p1 - b, at_ := now })
  else (.green, { c := c1 - b, e := p1 - b, at_ := now })

def InflowRec.meterFrame (f : InflowRec) (m : Meter) (now len : Nat) : Colour × Meter :=
  if f.meter == 0 then meterSingle m f.cir f.cbs f.ebs now len else meterTwo m f.cir f.pir f.cbs f.ebs now len

/-- A flow's context when its entry is created: full buckets (R151). -/
def newFlow (f : InflowRec) (now : Nat) : FlowState := { lastFrame := now, meter := fullMeter f.cbs f.ebs now }

/-! ### Targets and fill measures (R149, R154) -/

/-- An INPUT names a flow when its SOURCE_INDEX is the flow or its merge peer. -/
def InflowRec.names (f : InflowRec) (i : Nat) : Bool := i == f.inflow || (f.mergePeer != 65535 && i == f.mergePeer)

def State.videoTarget (s : State) (f : InflowRec) : Option InputRec :=
  s.st.inputs.vals.find? (fun i => i.source == 0 && f.names i.sourceIndex)
/-- The Fount stream (key 4c+i) bound to a flow (R168). -/
def State.streamTarget (s : State) (f : InflowRec) : Option Nat :=
  (s.streams.find? (fun e => e.2.bindKind == 1 && f.names e.2.inflow)).map (·.1)
def State.inputSlotBytes (i : InputRec) : Nat := slotBytes i.width i.height i.sampling i.depth

/-- Pictures of an input not yet released by the Mere: those held and those after them (R21, R200). -/
def State.unreleased (s : State) (i : InputRec) : Nat :=
  let b := s.buf (inputBuf i.course i.input)
  let held := s.heldPics i.course i.input
  let newest := maxOf held
  (b.slots.filter (fun x => x.pic != 0 && (held.contains x.pic || decide (newest < x.pic)))).length

/-- Bytes of a jitter buffer not yet consumed (R170). -/
def FountStream.used (x : FountStream) (n : Nat) : Nat := if n == 0 then 0 else (x.wptr + n - x.rptr) % n

/-- The fill measure of a flow (R149). -/
def State.fill (s : State) (f : InflowRec) : Nat :=
  match f.kind with
  | 0 => match s.videoTarget f with
    | some i => s.unreleased i * State.inputSlotBytes i
    | none => 0
  | 1 | 2 => sum ((s.outf.subs.get f.passSub).queue.map (·.length))
  | 3 | 4 => match s.streamTarget f with
    | some k => (s.streams.get k).used (s.st.inputs.get k).jitterBytes
    | none => 0
  | 5 => if s.hostMode then (s.inl.rx.get 0).filled * 9216 else 0
  | _ => (s.inl.rx.get f.owner).filled * 9216

/-! ### Merging (R155, R156) -/

/-- A `w`-bit sequence number extended near the highest so far. -/
def extendSeq (w : Nat) (high : Option Nat) (v : Nat) : Nat :=
  match high with
  | none => 4 * 2 ^ w + v
  | some h => ((h : Int) + signed w (v + 2 ^ w - h % 2 ^ w)).toNat

inductive MergeWay where
  | forward | duplicate | late
deriving DecidableEq, Repr, Inhabited

/-- R155, on the numbers first forwarded within the skew. -/
def SeqState.judge (q : SeqState) (now skew ext : Nat) : MergeWay × SeqState :=
  let win := q.window.filter (fun e => decide (now ≤ e.2 + skew * msCycles))
  if win.any (fun e => e.1 == ext) then (.duplicate, { q with window := win })
  else if !win.isEmpty && win.all (fun e => decide (ext < e.1)) then (.late, { q with window := win })
  else (.forward, { q with window := win ++ [(ext, now)] })

/-- Numbers missing before `ext`, and the highest number after it (06, SEQ_GAP). -/
def SeqState.pass (q : SeqState) (ext : Nat) : Nat × SeqState :=
  match q.high with
  | none => (0, { q with high := some ext })
  | some h => (ext - h - 1, { q with high := some (max h ext) })

/-- Pair key: the lower entry of the pair. -/
def InflowRec.pairKey (f : InflowRec) : Nat := min f.inflow f.mergePeer

/-- A frame on a leg: LEG_UP and its event (R156). -/
def State.legFrame (s : State) (f : InflowRec) : State :=
  let x := s.inl.flows.get f.inflow
  let leg := f.mergePeer != 65535
  let x' : FlowState := { x with lastFrame := s.now, legUp := leg, wasDown := false }
  let s' := s.updInl (fun n => { n with flows := n.flows.set f.inflow x' })
  if leg && x.wasDown then s'.evTo f.owner 0x0707 0x3000 f.inflow else s'

/-! ### Exception rings (R162) -/

def ExcRing.size (r : ExcRing) : Nat := 2 ^ r.sizeLog2

/-- A 32-byte receive descriptor with the device's fields and DONE. -/
def rxDescBytes (d : Bytes) (len flow port kind : Nat) (t : PhcTime) : Bytes :=
  slice d 0 10 ++ leBytes 2 len ++ leBytes 2 flow ++ leBytes 1 port ++ leBytes 1 (128 + kind) ++ leBytes 4 t.ns ++
  leBytes 6 t.sec ++ leBytes 2 (t.frac % 65536) ++ List.replicate 4 0

/-- R162, step 3: a frame finds no buffer. -/
def State.excRxDrop (s : State) (fn : Nat) : State :=
  (s.inc (funcReg fn 0x420) 1).limited (0x70C * 2 ^ 12 + fn) msCycles (fun n s => s.ev 0x070C (0x5100 + fn) n)

/-- A frame for function `fn`'s receive ring; `desc` is the descriptor at EXC_RX_HEAD. -/
def State.excDeliver (s : State) (fn : Nat) (frame desc : Bytes) (flow port kind : Nat) (t : PhcTime) : State :=
  let r := s.inl.rx.get fn
  if r.head == r.tail || decide (u16 desc 8 < frame.length) then s.excRxDrop fn
  else
    let base := s.rd64 (funcReg fn 0x400)
    let s := (s.hostWr fn (u64 desc 0) frame).hostWr fn (base + 32 * r.head) (rxDescBytes desc frame.length flow port kind t)
    let s := s.updInl (fun n => { n with rx := n.rx.set fn { r with head := (r.head + 1) % r.size, filled := r.filled + 1, armed := false } })
    s.irq fn r.vector (r.irqEn && r.armed)

/-! ### Membership (R164) -/

def multicast (ip : Nat) : Bool := ip / 2 ^ 120 == 0xFF || (ip / 2 ^ 32 == 0xFFFF && bits ip 31 28 == 0xE)
/-- A report or leave for a flow leaves its port. -/
def State.membership (s : State) (leave : Bool) (f : InflowRec) : State :=
  s.emit (.frame f.port (.membership leave f.vlan f.dstIp f.srcIp))
def State.fwMembership (s : State) : Bool := s.fld (inlReg 0) 1 1 == 0

/-- An inflow is created: its context, its first report and the second one second later. -/
def State.inflowCreated (s : State) (f : InflowRec) : State :=
  let s := s.updInl (fun n => { n with flows := n.flows.set f.inflow (newFlow f s.now), seqs := (n.seqs.del f.inflow).del f.pairKey })
  if multicast f.dstIp && s.fwMembership then
    (s.updInl (fun n => { n with reports := n.reports.set f.inflow (s.now + 1500000000) })).membership false f
  else s

/-- An inflow is deleted (its entry is already out of the table): a leave when it was the group's last on the port. -/
def State.inflowDeleted (s : State) (f : InflowRec) : State :=
  let s := s.updInl (fun n => { n with flows := n.flows.del f.inflow, seqs := (n.seqs.del f.inflow).del f.pairKey, reports := n.reports.del f.inflow })
  let last := !s.st.inflows.vals.any (fun g => g.port == f.port && g.vlan == f.vlan && g.dstIp == f.dstIp)
  if multicast f.dstIp && s.fwMembership && last then s.membership true f else s

/-- MEMBERSHIP_REPORT_TIMER: the second unsolicited report. -/
def execMembershipReportTimer (i : Nat) (s : State) : Host.Outcome State Fault Refusal :=
  .next (match s.inl.reports.find i with
    | none => s
    | some due =>
      let s := (s.runTo due).updInl (fun n => { n with reports := n.reports.del i })
      if s.fwMembership then s.membership false (s.st.inflows.get i) else s)

/-- A query on a port and VLAN is answered for each group joined there. -/
def State.answerQuery (s : State) (port vlan : Nat) : State :=
  (s.st.inflows.vals.filter (fun f => f.port == port && f.vlan == vlan && multicast f.dstIp)).foldl
    (fun s f => s.membership false f) s

/-! ### Video reception (R157 to R159) -/

/-- The bands of a picture that close FROZEN (R159). -/
def State.closeBands (s : State) (k : Nat) (bands : List Nat) : State :=
  s.updBuf k (fun b => b.freeze (bands.filter (fun i => b.curSlot.mark i == .empty)) false)

/-- The picture being received ends: its unwritten bands close, reported once. -/
def State.endPicture (s : State) (i : InputRec) : State :=
  let k := inputBuf i.course i.input
  let v := s.inl.videos.get (4 * i.course + i.input)
  let s := s.closeBands k (s.buf k).curSlot.unfinished
  let x := (s.buf k).curSlot
  let frozen := (List.range x.marks.length).filter (fun b => x.mark b == .frozen)
  let done := v.ts.isNone || v.dropping || v.told
  let s := if done then s else s.updInl (fun n => { n with videos := n.videos.set (4 * i.course + i.input) { v with told := true } })
  if done || frozen.isEmpty then s
  else s.evC 0x0705 0x3000 i.course (frozen.headD 0 * 2 ^ 16 + frozen.length)

/-- A new picture begins (R158): the next slot in rotation, unless the window in progress holds it. -/
def State.beginPicture (s : State) (i : InputRec) (ts : Nat) (t : PhcTime) : State :=
  let k := inputBuf i.course i.input
  let b := s.buf k
  let v := s.inl.videos.get (4 * i.course + i.input)
  let next := b.nextSlot
  let heldSlot := b.slots.isEmpty || ((b.slot next).pic != 0 && (s.heldPics i.course i.input).contains (b.slot next).pic)
  let v' : VideoIn := { ts := some ts, dropping := heldSlot, lines := [], told := false, seen := v.seen + 1 }
  let s := s.updInl (fun n => { n with videos := n.videos.set (4 * i.course + i.input) v' })
  if heldSlot then s.evC 0x0704 0x3000 i.course ts
  else s.updBuf k (fun b => b.assign next (bandsOf i.height 64) { rtp := ts, firstNs := phcNs t, at_ := s.now })

/-- Luma samples of a run of `len` octets. -/
def runPixels (i : InputRec) (len : Nat) : Nat :=
  let g := pgroup i.sampling i.depth i.rgb
  len / g.1 * g.2.1
def runRows (i : InputRec) (row : Nat) : List Nat :=
  (List.range (pgroup i.sampling i.depth i.rgb).2.2).map (row + ·)

/-- Is a line complete? -/
def lineDone (v : VideoIn) (i : InputRec) (row : Nat) : Bool := decide (i.width ≤ sum ((v.lines.get row).map (·.2)))
/-- The lines of band `b`. -/
def inputLines (i : InputRec) (b : Nat) : List Nat := (List.range (min 64 (i.height - 64 * b))).map (64 * b + ·)

/-- A run of samples of one component into its line of the slot being written; a band that has closed keeps what it
holds. -/
def Buffer.putLine (b : Buffer) (i : InputRec) (x : Nat × Nat × Nat × List Nat) : Buffer :=
  let n := compH (if i.rgb then 2 else i.sampling) 64 x.1
  let band := x.2.1 / n
  if b.curSlot.mark band != .empty then b
  else b.setPix band ((b.curSlot.pix.get band).map (fun k p => if k == x.1 then p.putRun (x.2.1 % n) x.2.2.1 x.2.2.2 else p))

/-- One run of samples of the current picture: earlier bands close, lines fill, a complete band is WRITTEN. -/
def State.videoRun (s : State) (i : InputRec) (h : Srd) : State :=
  let k := inputBuf i.course i.input
  let kv := 4 * i.course + i.input
  let rows := runRows i h.row
  let band := h.row / 64
  let s := s.closeBands k (List.range (band - 1))
  let v := s.inl.videos.get kv
  let run := (h.off, runPixels i h.len)
  let v := { v with lines := rows.foldl (fun t r => t.upd r (fun l => if l.contains run then l else run :: l)) v.lines }
  let s := s.updInl (fun n => { n with videos := n.videos.set kv v })
  let s := s.updBuf k (fun b => (runSamples i.sampling i.depth i.rgb h.row h.off h.data).foldl (fun b x => b.putLine i x) b)
  if (inputLines i band).all (fun r => lineDone v i r) then s.updBuf k (fun b => b.setMark band .written false) else s

/-- The sample row data headers of an RFC 4175 payload, at most three; none where the packet is malformed (R157). -/
def videoRuns (i : InputRec) (rtp : Rtp) : Option (List Srd) :=
  let hs := readSrds 4 (rtp.payload.drop 2)
  let dataLen := rtp.payload.length - 2 - 6 * hs.length
  if rtp.ok && hs.length ≤ 3 && sum (hs.map (·.len)) ≤ dataLen &&
      hs.all (fun h => (runRows i h.row).all (fun r => decide (r < i.height)) && decide (h.off + runPixels i h.len ≤ i.width))
  then some (withData hs (rtp.payload.drop (2 + 6 * hs.length))) else none

/-- A forwarded video packet (R158, R159). -/
def State.videoPacket (s : State) (f : InflowRec) (i : InputRec) (rtp : Rtp) (hs : List Srd) (t : PhcTime) : State :=
  let kv := 4 * i.course + i.input
  let v := s.inl.videos.get kv
  let diff := match v.ts with | none => 1 | some c => signed 32 (rtp.ts + 2 ^ 32 - c)
  if diff < 0 then s.flowDrop f.inflow 0x24 0
  else
    let s := if 0 < diff then (s.endPicture i).beginPicture i rtp.ts t else s
    if (s.inl.videos.get kv).dropping then s
    else
      let s := hs.foldl (fun s h => s.videoRun i h) s
      if rtp.marker then s.endPicture i else s

/-! ### Compressed and pass-through delivery (R160, R161, R170) -/

/-- One record into a jitter buffer of `n` bytes; none where it does not fit. A wrap record fills the end. -/
def FountStream.record (x : FountStream) (n now : Nat) (r : JbRec) : Option FountStream :=
  let size := 16 + roundUp r.payload.length 16
  let tail := n - x.wptr
  if size ≤ tail then
    if x.used n + size < n then some { x with recs := x.recs ++ [r], wptr := (x.wptr + size) % n, lastRec := now } else none
  else if x.used n + tail + size < n then
    some { x with recs := x.recs ++ [{ type := 0xFF }, r], wptr := size, lastRec := now }
  else none

def State.jitterRecord (s : State) (f : InflowRec) (k : Nat) (payload : Bytes) (t : PhcTime) : State :=
  let type := if f.kind == 3 then 0 else if u8 payload 0 == 0x47 then 2 else 1
  match (s.streams.get k).record (s.st.inputs.get k).jitterBytes s.now { type, recvNs := phcNs t, payload } with
  | some x => { s with streams := s.streams.set k x }
  | none => s.flowDrop f.inflow 0x30 0x070A

/-- Room in Outflow's packet buffer (R312). -/
def State.passRoom (s : State) (u n : Nat) : Bool :=
  decide (sum ((s.outf.subs.get u).queue.map (·.length)) + n ≤ 65536) &&
  decide (sum (s.outf.subs.vals.map (fun x => sum (x.queue.map (·.length)))) + n ≤ 2097152)

def State.passPacket (s : State) (f : InflowRec) (payload : Bytes) : State :=
  if s.passRoom f.passSub payload.length then
    { s with outf := { s.outf with subs := s.outf.subs.upd f.passSub (fun x => { x with queue := x.queue ++ [payload] }) } }
  else s.flowDrop f.inflow 0x30 0x070B

/-! ### A received frame -/

/-- Does a flow have its target (R149)? -/
def State.hasTarget (s : State) (f : InflowRec) : Bool :=
  match f.kind with
  | 0 => (s.videoTarget f).isSome
  | 1 | 2 => s.st.subs.has f.passSub && (s.st.subs.get f.passSub).enabled
  | 3 | 4 => (s.streamTarget f).isSome
  | 5 => !s.hostMode || (s.inl.rx.get 0).en
  | _ => (s.inl.rx.get f.owner).en

/-- Delivery by kind of a frame that is forwarded (R149). -/
def State.deliverFlow (s : State) (f : InflowRec) (p : Pkt) (frame desc : Bytes) (t : PhcTime) : State :=
  let rtp := readRtp p.payload
  let runs := match s.videoTarget f with | some i => (videoRuns i rtp).map (fun hs => (i, hs)) | none => none
  if !s.hasTarget f then s.flowDrop f.inflow 0x28 0x0703
  else if f.kind == 0 && runs.isNone then s.flowDrop f.inflow 0x2C 0x070E
  else
    let s := (s.inc64 (inlFlow f.inflow 0x04) 1).inc64 (inlFlow f.inflow 0x0C) (frame.length + 4)
    match f.kind with
    | 0 => match runs with | some x => s.videoPacket f x.1 rtp x.2 t | none => s
    | 1 | 2 => s.passPacket f p.payload
    | 3 | 4 => match s.streamTarget f with | some k => s.jitterRecord f k p.payload t | none => s
    | 5 => if s.hostMode then s.excDeliver 0 frame desc f.inflow f.port 1 t else s
    | _ => s.excDeliver f.owner frame desc f.inflow f.port 0 t

/-- The number that orders a flow's packets: 32 bits of RFC 4175, else the 16-bit RTP number (R155). -/
def InflowRec.seqOf (f : InflowRec) (rtp : Rtp) : Nat × Nat :=
  if f.kind == 0 then (32, be16 rtp.payload 0 * 65536 + rtp.seq) else (16, rtp.seq)

/-- Does the flow carry RTP in this payload? -/
def InflowRec.carriesRtp (f : InflowRec) (rtp : Rtp) : Bool := rtp.ok && (decide (f.kind ≤ 4) || f.mergePeer != 65535)

/-- Merging and sequence numbers, then delivery (R155). -/
def State.mergeFlow (s : State) (f : InflowRec) (p : Pkt) (frame desc : Bytes) (t : PhcTime) : State :=
  let rtp := readRtp p.payload
  let leg := f.mergePeer != 65535
  let key := if leg then f.pairKey else f.inflow
  let q := s.inl.seqs.get key
  let ext := extendSeq (f.seqOf rtp).1 q.high (f.seqOf rtp).2
  if leg && !rtp.ok then s.flowDrop f.inflow 0x2C 0x070E
  else if !f.carriesRtp rtp then s.deliverFlow f p frame desc t
  else
    let j := if leg then q.judge s.now f.skewMs ext else (.forward, q)
    match j.1 with
    | .duplicate => (s.updInl (fun n => { n with seqs := n.seqs.set key j.2 })).inc (inlFlow f.inflow 0x20) 1
    | .late => (s.updInl (fun n => { n with seqs := n.seqs.set key j.2 })).flowDrop f.inflow 0x24 0x0708
    | .forward =>
      let g := j.2.pass ext
      ((s.updInl (fun n => { n with seqs := n.seqs.set key g.2 })).inc (inlFlow f.inflow 0x1C) g.1).deliverFlow f p frame desc t

/-- The flow-table entry of a packet: a specific source wins over a wildcard (R146). -/
def State.lookup (s : State) (port : Nat) (p : Pkt) : Option InflowRec :=
  let m (f : InflowRec) := f.port == port && f.vlan == p.vlan && f.dstIp == p.dstIp && f.dstUdp == p.dstUdp
  match s.st.inflows.vals.find? (fun f => m f && f.srcIp == p.srcIp) with
  | some f => some f
  | none => s.st.inflows.vals.find? (fun f => m f && f.srcIp == 0)

/-- The default exception path (R148). -/
def State.defaultPath (s : State) (port : Nat) (p : Pkt) (frame desc : Bytes) (t : PhcTime) : State :=
  let s := if p.query && s.fwMembership then s.answerQuery port p.vlan else s
  let m := meterSingle s.inl.defMeter (s.rdn (inlReg 4)) 65536 0 s.now (frame.length + 4)
  if !(s.fld (inlReg 0) 0 0 == 1 && (s.inl.rx.get 0).en) then s.inc (inlPort port 0x28) 1
  else
    let s := s.updInl (fun n => { n with defMeter := m.2 })
    if m.1 == .green then s.excDeliver 0 frame desc 0xFFFF port 2 t else s.inc (inlPort port 0x28) 1

/-- An accepted frame: classified, metered, merged and delivered (R146 to R155). -/
def State.frameAccepted (s : State) (port : Nat) (p : Pkt) (frame desc : Bytes) : State :=
  let t := s.time.phc.shift (-(s.rdn (timePort port 0x00) : Int))
  if p.badSum then s
  else
    match (if p.udp then s.lookup port p else none) with
    | none => s.defaultPath port p frame desc t
    | some f =>
      let s := s.legFrame f
      let m := f.meterFrame (s.inl.flows.get f.inflow).meter s.now (frame.length + 4)
      let s := s.updInl (fun n => { n with flows := n.flows.upd f.inflow (fun x => { x with meter := m.2 }) })
      match m.1 with
      | .red => (s.inc (inlFlow f.inflow 0x14) 1).flowEvent 0x0709 f.inflow (2 ^ 15)
      | .yellow =>
        if f.yellow < s.fill f then (s.inc (inlFlow f.inflow 0x18) 1).flowEvent 0x0709 f.inflow 0
        else s.mergeFlow f p frame desc t
      | .green => s.mergeFlow f p frame desc t

/-- Is the port formed and its link up? -/
def State.portLive (s : State) (n : Nat) : Bool := s.st.portFormed n && s.inl.up.contains n

/-- FRAME_RECEIVED (R144): the filters in their order, then classification. `desc` is the receive descriptor that the
device reads for an exception-path delivery. -/
def execFrameReceived (port : Nat) (x : RxFrame) (desc : Bytes) (s : State) : Host.Outcome State Fault Refusal :=
  let p := readFrame x.bytes
  let len := x.bytes.length + 4
  let mac := s.rdn (inlPort port 0x04) + 2 ^ 32 * (s.rdn (inlPort port 0x08) % 2 ^ 16)
  .next (if !s.portLive port then s
    else
      let s := (s.inc (inlPort port 0x2C) x.fecCorr).inc (inlPort port 0x30) x.fecUncorr
      if len < 64 || 9216 < len then s.inc (inlPort port 0x1C) 1
      else if !x.fcsOk then s.inc (inlPort port 0x18) 1
      else if p.pause then s.inc (inlPort port 0x20) 1
      else if 2 ≤ p.tags then s.inc (inlPort port 0x24) 1
      else if !(p.dstMac == mac || bit p.dstMac 40) then s
      else ((s.inc64 (inlPort port 0x10) 1).frameAccepted port p x.bytes desc).pace)

/-- The lanes of a formed port (R80). -/
def Structure.portLanes (t : Structure) (n : Nat) : List Nat :=
  let c := t.device.portCfg.getD n 0
  (List.range (Sys2Proof.Machine.portLanes c)).map (Sys2Proof.Machine.portFirst c + ·)

/-- PORT_UP (R145): only when all lanes of the port are UP (R441). LED_Pnn is low while the link is up (R464). -/
def execPortUp (n : Nat) (s : State) : Host.Outcome State Fault Refusal :=
  .next (if s.st.portFormed n && !s.inl.up.contains n && (s.st.portLanes n).all (fun l => (s.lanes.get l).state == 3) then
      ((s.updInl (fun i => { i with up := n :: i.up })).emit (.pin (.led n) false s.now)).ev 0x0701 (0x3200 + n)
        (bits (s.st.device.portCfg.getD n 0) 7 6)
    else s)

/-- A port loses its link: 0 lost, 1 re-formed (R145). -/
def State.portDown (s : State) (n cause : Nat) : State :=
  if s.inl.up.contains n then
    ((s.updInl (fun i => { i with up := i.up.filter (· != n) })).emit (.pin (.led n) true s.now)).ev 0x0702 (0x3200 + n) cause
  else s
def execPortDown (n : Nat) (s : State) : Host.Outcome State Fault Refusal := .next (s.portDown n 0)

/-- Firmware writes the latencies of a formed or re-formed port (R36): values the spec does not give. -/
def State.portFormedLat (s : State) (n : Nat) : State :=
  let a := s.drawFree
  let b := a.2.drawFree
  (b.2.wr (timePort n 0x00) a.1).wr (timePort n 0x04) b.1

/-- MERGE_LEG_TIMEOUT (R156). -/
def execMergeLegTimeout (i : Nat) (s : State) : Host.Outcome State Fault Refusal :=
  let f := s.st.inflows.get i
  let x := s.inl.flows.get i
  .next (if s.st.inflows.has i && f.mergePeer != 65535 && !x.wasDown then
      let s := s.runTo (x.lastFrame + 150000000)
      (s.updInl (fun n => { n with flows := n.flows.set i { x with legUp := false, wasDown := true } })).evTo f.owner 0x0706 0x3000 i
    else s)

/-! ### Exception ring commands -/

/-- An exception ring's configuration word (R162): EN, VECTOR, IRQ_EN, SIZE_LOG2. An enable with a bad size or base is
refused; a ring that becomes enabled starts empty. -/
def ExcRing.config (r : ExcRing) (base v : Nat) : ExcRing :=
  let en := bit v 31 && decide (4 ≤ bits v 3 0) && decide (bits v 3 0 ≤ 12) && base % 4096 == 0
  let r1 : ExcRing := { r with en := en, vector := bits v 20 16, irqEn := bit v 8, sizeLog2 := bits v 3 0 }
  if en && !r.en then { r1 with head := 0, tail := 0, filled := 0, armed := true } else r1

/-- EXC_RING_ENABLE: a write of EXC_RX_CFG or EXC_TX_CFG. -/
def State.excCfgWrite (s : State) (f : Nat) (tx : Bool) (w : Word) : State :=
  if tx then s.updInl (fun n => { n with tx := n.tx.upd f (fun r => r.config (s.rd64 (funcReg f 0x410)) w.toNat) })
  else s.updInl (fun n => { n with rx := n.rx.upd f (fun r => r.config (s.rd64 (funcReg f 0x400)) w.toNat) })
def execExcRingEnable (f : Nat) (tx : Bool) (w : Word) (s : State) : Host.Outcome State Fault Refusal :=
  .next (s.excCfgWrite f tx w)

/-- A new tail: buffers posted again leave the fill measure. -/
def ExcRing.post (r : ExcRing) (v : Nat) : ExcRing :=
  { r with tail := v, filled := r.filled - (v + r.size - r.tail) % r.size, armed := true }

def State.excRxDoorbell (s : State) (f v : Nat) : State :=
  let r := s.inl.rx.get f
  if r.en && tailOk r.size r.head r.tail v then s.updInl (fun n => { n with rx := n.rx.set f (r.post v) })
  else s.doorbellInvalid f 0xE000 v
def execExcRxTailDoorbell (f v : Nat) (s : State) : Host.Outcome State Fault Refusal := .next (s.excRxDoorbell f v)

def State.excTxDoorbell (s : State) (f v : Nat) : State :=
  let r := s.inl.tx.get f
  if r.en && tailOk r.size r.head r.tail v then s.updInl (fun n => { n with tx := n.tx.set f (r.post v) })
  else s.doorbellInvalid f 0xE800 v
def execExcTxTailDoorbell (f v : Nat) (s : State) : Host.Outcome State Fault Refusal := .next (s.excTxDoorbell f v)

/-- The rules of a transmit descriptor (R163): length, reserved fields, a formed port, and a VF's own inflow there. -/
def State.excTxOk (s : State) (f : Nat) (d : Bytes) : Bool :=
  let port := u8 d 10
  decide (60 ≤ u16 d 8) && decide (u16 d 8 ≤ 9212) && decide (port < 16) && bits (u8 d 11) 5 1 == 0 && u16 d 14 == 0 &&
  u32 d 28 == 0 && s.st.portFormed port &&
  (f == 0 || s.st.inflows.vals.any (fun i => i.owner == f && i.port == port))

/-- A transmit descriptor completed: DONE, and the timestamp when one was asked for. -/
def txDescBytes (d : Bytes) (ts : Option PhcTime) : Bytes :=
  let keep := u8 d 11 % 2
  match ts with
  | some t => slice d 0 11 ++ leBytes 1 (128 + 64 + keep) ++ slice d 12 4 ++ leBytes 4 t.ns ++ leBytes 6 t.sec ++
      leBytes 2 (t.frac % 65536) ++ slice d 28 4
  | none => slice d 0 11 ++ leBytes 1 (128 + keep) ++ slice d 12 20

/-- Bucket units that a port's line moves in a cycle (R304). -/
def State.lineRate (s : State) (n : Nat) : Nat := max 1 (s.st.portPir n)
/-- A frame of `len` bytes from destination MAC through FCS starts on a port (R305, R320): the MAC takes the next one
after its wire bytes; one that is really sent has left it after its preamble and last byte. -/
def State.occupy (s : State) (n len : Nat) (sent : Bool) : State :=
  let cycles (b : Nat) := s.now + ceilDiv (b * unitsPerByte) (s.lineRate n)
  { s with outf := { s.outf with ports := s.outf.ports.upd n (fun x =>
      { x with free := cycles (len + 20), sending := if sent then cycles (len + 8) else x.sending }) } }

/-- EXC_TX_SEND (R163, R37): function `f`'s descriptor at EXC_TX_HEAD, read as `desc`, with the frame it names. The
clock runs until the port's cap allows it; the timestamp is the PHC when its first byte leaves, plus TX_LAT. -/
def execExcTxSend (f : Nat) (desc frame : Bytes) (s : State) : Host.Outcome State Fault Refusal :=
  let r := s.inl.tx.get f
  let base := s.rd64 (funcReg f 0x410)
  let port := u8 desc 10
  .next (if !r.en || r.head == r.tail then s
    else
      let adv (s : State) (b : Bytes) : State :=
        ((s.hostWr f (base + 32 * r.head) b).updInl (fun n => { n with
          tx := n.tx.set f { r with head := (r.head + 1) % r.size, armed := false } })).irq f r.vector (r.irqEn && r.armed)
      if !s.excTxOk f desc then (adv s (txDescBytes desc none)).ev 0x070D (0x5100 + f) r.head
      else
        let s := s.runTo (max (s.inl.txFree.get port) (s.outf.ports.get port).free)
        let t := s.time.phc.shift (s.rdn (timePort port 0x04) : Int)
        let want := bit (u8 desc 11) 0
        let bytes := frame.take (u16 desc 8)
        let spacing := ceilDiv ((u16 desc 8 + 4) * unitsPerByte) (max 1 (s.rdn (inlPort port 0x0C)))
        let s := s.updInl (fun n => { n with txFree := n.txFree.set port (s.now + spacing) })
        let s := if s.inl.up.contains port then (s.emit (.frame port (.bytes bytes))).occupy port (u16 desc 8 + 4) true else s
        let s := if want && f == 0 then s.captureTx port { id := u16 desc 12, t := t } else s
        adv s (txDescBytes desc (if want then some t else none)))

end Sys2Proof.Machine
end

