-- ==== Sys2Proof/Machine/Outflow.lean ====
section
/-! DEFINITION. Outflow.lean: the tree of ports, services and subscribers, ring reading, frames on the wire, duplicate
egress and the egress gate (13_outflow, R303 to R320). -/

namespace Sys2Proof.Machine

def outPort (n o : Nat) : Nat := outReg (0x1000 + 0x100 * n + o)
def outSvc (v o : Nat) : Nat := outReg (0x10000 + 0x40 * v + o)
def outSub (u o : Nat) : Nat := outReg (0x20000 + 0x80 * u + o)

def State.updOut (s : State) (f : Outflow → Outflow) : State := { s with outf := f s.outf }
def State.oport (s : State) (n : Nat) : OutPort := s.outf.ports.get n
def State.osvc (s : State) (v : Nat) : Node := s.outf.svcs.get v
def State.osub (s : State) (u : Nat) : OutSub := s.outf.subs.get u
def State.setOport (s : State) (n : Nat) (x : OutPort) : State := s.updOut (fun o => { o with ports := o.ports.set n x })
def State.setOsvc (s : State) (v : Nat) (x : Node) : State := s.updOut (fun o => { o with svcs := o.svcs.set v x })
def State.setOsub (s : State) (u : Nat) (x : OutSub) : State := s.updOut (fun o => { o with subs := o.subs.set u x })

/-! ### Buckets and tags (R304 to R308) -/

/-- Both buckets brought up to cycle `now`. -/
def Node.gain (n : Node) (r : Rates) (now : Nat) : Node :=
  let dt := now - n.at_
  { n with c := min (n.c + (dt * r.cir : Nat)) (r.cbs * unitsPerByte : Nat),
           p := min (n.p + (dt * r.pir : Nat)) (r.pbs * unitsPerByte : Nat), at_ := now }

/-- Wire bytes are charged; a level is never below minus one frame (R305). -/
def Node.charge (n : Node) (wire : Nat) : Node :=
  let u : Int := (wire * unitsPerByte : Nat)
  { n with c := max (n.c - u) (-u), p := max (n.p - u) (-u) }

/-- RESET_TO (R315): 0 full buckets with the new depths, 1 empty ones. -/
def Node.resetTo (n : Node) (r : Rates) (how now : Nat) : Node :=
  if how == 0 then { n with c := (r.cbs * unitsPerByte : Nat), p := (r.pbs * unitsPerByte : Nat), at_ := now }
  else { n with c := 0, p := 0, at_ := now }

/-- A node as it is made: full buckets and its parent's virtual time (R95, R308). -/
def newNode (r : Rates) (v now : Nat) : Node := ({ tag := v } : Node).resetTo r 0 now

/-- The later of two tags by their signed 48-bit difference (R308). -/
def wakeTag (t v : Nat) : Nat := if signed 48 (t + 2 ^ 48 - v) < 0 then v else t
/-- A tag after a frame (R307). -/
def nextTag (t wire weight : Nat) : Nat := (t + ceilDiv (wire * 1024) (max 1 weight)) % 2 ^ 48

/-- What a parent chooses among: number, tag, committed-eligible or not; a child that is not backlogged or not eligible is
not listed. -/
structure Child where
  num : Nat
  tag : Nat
  committed : Bool

/-- The smallest tag, ties to the lower number; tags compare by signed difference, here to the parent's V. -/
def smallestTag (v : Nat) : List Child → Option Child
  | [] => none
  | x :: r => match smallestTag v r with
    | none => some x
    | some y => if signed 48 (x.tag + 2 ^ 48 - v) ≤ signed 48 (y.tag + 2 ^ 48 - v) then some x else some y

/-- The two passes of R307. -/
def choose (v : Nat) (l : List Child) : Option Nat :=
  match smallestTag v (l.filter (·.committed)) with
  | some x => some x.num
  | none => (smallestTag v l).map (·.num)

/-! ### Subscribers and services -/

/-- A subscriber's events (13, Events): its course, and its rendition unless it is pass-through. -/
def State.subEvent (s : State) (code u detail : Nat) : State :=
  let q := s.st.subs.get u
  s.raiseTo [(s.st.services.get q.service).owner] code 0x3100 (s.st.courseOfRend q.rendition)
    (if q.pass then 0xFFFF else q.rendition) (u * 2 ^ 20 + detail)

def State.svcsOf (s : State) (n : Nat) : List Nat := (s.st.services.vals.filter (·.port == n)).map (·.service)
def State.subsOfSvc (s : State) (v : Nat) : List Nat := (s.st.subs.vals.filter (·.service == v)).map (·.subscriber)

/-- A subscriber starts (R310): at the ring's write position, in WAIT_KEY unless it is pass-through. -/
def State.subStart (s : State) (u : Nat) : State :=
  let q := s.st.subs.get u
  s.setOsub u { s.osub u with waitKey := !q.pass, next := (s.ring q.rendition).seq, skipped := 0 }

/-- A subscriber's node is made (R95, R308); its record is already in the table. -/
def State.subMake (s : State) (u : Nat) : State :=
  let q := s.st.subs.get u
  (s.setOsub u { node := newNode q.rates (s.osvc q.service).vtime s.now, waitKey := !q.pass }).subStart u
/-- A service's node is made. -/
def State.svcMake (s : State) (v : Nat) : State :=
  let q := s.st.services.get v
  s.setOsvc v (newNode q.rates (s.oport q.port).node.vtime s.now)
/-- A formed port's node: line rate, 65,536-byte depths, full. -/
def State.portMake (s : State) (n : Nat) : State :=
  let r : Rates := { cir := s.lineRate n, pir := s.lineRate n, cbs := 65536, pbs := 65536 }
  s.setOport n { s.oport n with rates := r, node := newNode r (s.oport n).node.vtime s.now }

/-- A KEY_ON_JOIN request (R301) of subscriber `u`, when it issues one. -/
def State.joinOf (s : State) (u : Nat) : Option Nat :=
  let q := s.st.subs.get u
  if q.keyOnJoin && !q.pass && q.enabled && (s.st.rends.get q.rendition).keyOnJoin then some q.rendition else none

/-! ### Reading the rings (R310, R311) -/

/-- The subscriber's read position moves over entries that it does not send. -/
def State.readRing (s : State) (u : Nat) : Nat → State
  | 0 => s
  | fuel + 1 =>
    let q := s.st.subs.get u
    let x := s.osub u
    let ring := s.ring q.rendition
    let step (y : OutSub) : State := s.setOsub u { y with next := (x.next + 1) % 2 ^ 32 }
    if x.next == ring.seq then s
    else match ring.entries.find? (fun e => e.seq == x.next) with
      | none =>
        let passed := ((((ring.entries.head?).map (·.seq)).getD ring.seq) + 2 ^ 32 - x.next) % 2 ^ 32
        let s := (s.inc (outSub u 0x28) 1).setOsub u { x with waitKey := true, next := ring.seq, skipped := 0 }
        s.limitedBy (0x801 * 2 ^ 12 + u) msCycles passed (fun n s => s.subEvent 0x0801 u (sat 20 n))
      | some e =>
        if e.format != q.payload then (step x).readRing u fuel
        else if !x.waitKey then s
        else if !bit e.flags 2 then (step { x with skipped := x.skipped + 1 }).readRing u fuel
        else (s.setOsub u { x with waitKey := false, skipped := 0 }).subEvent 0x0802 u (sat 20 x.skipped)

/-- The packet a subscriber sends next, when it is ready (R306, R314). -/
def State.subFrame (s : State) (u : Nat) : Option Bytes :=
  let q := s.st.subs.get u
  let x := s.osub u
  if !q.enabled || !s.running (s.st.courseOfRend q.rendition) then none
  else if q.pass then x.queue.head?
  else if x.waitKey then none
  else match (s.ring q.rendition).entries.find? (fun e => e.seq == x.next && e.format == q.payload) with
    | some e => if signed 64 (e.release + 2 ^ 64 - linear s.time.phc) ≤ 0 then some e.packet else none
    | none => none

/-- A subscriber as a selection finds it: its position, its buckets and its wake (R308). -/
def State.refreshSub (s : State) (u : Nat) : State :=
  let q := s.st.subs.get u
  let s := if q.enabled && !q.pass then s.readRing u ((s.ring q.rendition).entries.length + 1) else s
  let x := s.osub u
  let n := x.node.gain q.rates s.now
  let ready := (s.subFrame u).isSome
  s.setOsub u { x with node := { n with tag := if ready && n.idle then wakeTag n.tag (s.osvc q.service).vtime else n.tag
                                        idle := !ready } }

/-- The subscribers a service can choose. -/
def State.subChildren (s : State) (v : Nat) : List Child :=
  ((s.subsOfSvc v).filter (fun u => (s.subFrame u).isSome && decide (0 < (s.osub u).node.p))).map
    (fun u => { num := u, tag := (s.osub u).node.tag, committed := decide (0 < (s.osub u).node.c) })

/-- A service as a selection finds it. -/
def State.refreshSvc (s : State) (v : Nat) : State :=
  let s := (s.subsOfSvc v).foldl State.refreshSub s
  let q := s.st.services.get v
  let n := (s.osvc v).gain q.rates s.now
  let ready := !(s.subChildren v).isEmpty
  s.setOsvc v { n with tag := (if ready && n.idle then wakeTag n.tag (s.oport q.port).node.vtime else n.tag), idle := !ready }

/-- The services a port can choose. -/
def State.svcChildren (s : State) (n : Nat) : List Child :=
  ((s.svcsOf n).filter (fun v => !(s.subChildren v).isEmpty && decide (0 < (s.osvc v).p))).map
    (fun v => { num := v, tag := (s.osvc v).tag, committed := decide (0 < (s.osvc v).c) })

/-! ### Frames on the wire (R313) -/

/-- Ones' complement checksum of a byte string. -/
def inetSum (b : Bytes) : Nat := 65535 - onesSum b

/-- A UDP datagram; the checksum is computed under IPv6. -/
def udpBytes (q : SubRec) (payload : Bytes) : Bytes :=
  let len := payload.length + 8
  let head (sum : Nat) : Bytes := beBytes 2 q.srcUdp ++ beBytes 2 q.dstUdp ++ beBytes 2 len ++ beBytes 2 sum
  if isV4 q.dstIp then head 0 ++ payload
  else
    let c := inetSum (beBytes 16 q.srcIp ++ beBytes 16 q.dstIp ++ beBytes 4 len ++ [0, 0, 0, 17] ++ head 0 ++ payload)
    head (if c == 0 then 65535 else c) ++ payload

/-- The IP datagram of a subscriber's packet. -/
def ipBytes (q : SubRec) (ttl ident : Nat) (payload : Bytes) : Bytes :=
  let udp := udpBytes q payload
  if isV4 q.dstIp then
    let head (sum : Nat) : Bytes := [0x45, BitVec.ofNat 8 (q.dscp * 4)] ++ beBytes 2 (20 + udp.length) ++ beBytes 2 ident ++
      [0x40, 0] ++ [BitVec.ofNat 8 ttl, 17] ++ beBytes 2 sum ++ beBytes 4 q.srcIp ++ beBytes 4 q.dstIp
    head (inetSum (head 0)) ++ udp
  else beBytes 4 (6 * 2 ^ 28 + q.dscp * 4 * 2 ^ 20) ++ beBytes 2 udp.length ++ [17, BitVec.ofNat 8 ttl] ++
    beBytes 16 q.srcIp ++ beBytes 16 q.dstIp ++ udp

/-- A frame from a port with this MAC, without FCS. -/
def frameBytes (q : SubRec) (mac ttl ident : Nat) (payload : Bytes) : Bytes :=
  beBytes 6 q.dstMac ++ beBytes 6 mac ++
  (if q.vlan == 65535 then [] else [0x81, 0x00] ++ beBytes 2 (q.dscp / 8 * 2 ^ 13 + q.vlan % 4096)) ++
  (if isV4 q.dstIp then [0x08, 0x00] else [0x86, 0xDD]) ++ ipBytes q ttl ident payload

def State.portMac (s : State) (n : Nat) : Nat :=
  let f := Config.fuseMac n
  let part (o v : Nat) : Nat := ((s.regs.find (inlPort n o)).map (·.toNat)).getD v
  part 0x04 f % 2 ^ 32 + 2 ^ 32 * (part 0x08 (f / 2 ^ 32) % 2 ^ 16)
/-- TTL of a port; 0 acts as 1. -/
def State.portTtl (s : State) (n : Nat) : Nat := max 1 (s.fld (outPort n 0) 15 8)

/-! ### Port rates (R315, R316) -/

/-- A staged port rate or depth; the rates reset to the line rate. -/
def State.stagedRate (s : State) (n o : Nat) : Nat :=
  match s.regs.find (outPort n o) with | some w => w.toNat | none => if o ≤ 0x08 then s.lineRate n else 65536

/-- OUT_OVERCOMMIT (R316): a parent's children together commit more than its PIR. -/
def State.overcommitPort (s : State) (n : Nat) : State :=
  if (s.oport n).rates.pir < sum ((s.svcsOf n).map (fun v => (s.st.services.get v).rates.cir)) then s.ev 0x0807 0x3100 n else s
def State.overcommitSvc (s : State) (v : Nat) : State :=
  let q := s.st.services.get v
  if q.rates.pir < sum ((s.subsOfSvc v).map (fun u => (s.st.subs.get u).rates.cir)) then s.evTo q.owner 0x0807 0x3100 (2 ^ 31 + v) else s

/-- Staged rates take effect at the port's frame boundary `at_`. -/
def State.portApply (s : State) (n at_ : Nat) : State :=
  let x := s.oport n
  let r : Rates := { cir := min (s.stagedRate n 0x04) (s.lineRate n), pir := min (s.stagedRate n 0x08) (s.lineRate n)
                     cbs := s.stagedRate n 0x0C, pbs := s.stagedRate n 0x10 }
  (s.setOport n { x with apply := false, rates := r, node := x.node.resetTo r (s.fld (outPort n 0) 1 1) at_ }).overcommitPort n

/-- A port whose frame boundary has passed takes the rates that waited for it. -/
def State.portSettle (s : State) (n : Nat) : State :=
  if (s.oport n).apply && decide ((s.oport n).free ≤ s.now) then s.portApply n (s.oport n).free else s

/-- PORT_BUCKET_APPLY: a write of OUT_Pn.CFG. APPLY acts at the frame boundary: at once where no frame is being sent. -/
def State.portCfgWrite (s : State) (n : Nat) (w : Word) : State :=
  let s := (s.portSettle n).wrn (outPort n 0) (bits w.toNat 15 8 * 256 + bits w.toNat 1 1 * 2)
  if !bit w.toNat 0 || !s.st.portFormed n then s
  else if (s.oport n).free ≤ s.now then s.portApply n s.now
  else s.setOport n { s.oport n with apply := true }
def execPortBucketApply (n : Nat) (w : Word) (s : State) : Host.Outcome State Fault Refusal := .next (s.portCfgWrite n w)

/-! ### Selection (R307, R309, R317 to R319) -/

/-- A frame at its first byte: the gate, then the link. `first` is false for a duplicate copy. -/
def State.sendFrame (s : State) (n u : Nat) (b : Bytes) (first : Bool) : State :=
  let len := b.length + 4
  let wire := len + 20
  let v := (s.st.subs.get u).service
  if !s.outf.gate then ((s.occupy n len false).inc (outPort n 0x34) 1).inc (outSub u 0x2C) 1
  else if !s.inl.up.contains n then (s.occupy n len false).inc (outPort n 0x38) 1
  else
    let s := (s.occupy n len true).emit (.frame n (.bytes b))
    if !first then s
    else (((((s.inc64 (outPort n 0x24) 1).inc64 (outPort n 0x2C) wire).inc64 (outSvc v 0x1C) 1).inc64 (outSvc v 0x24) wire).inc64
      (outSub u 0x18) 1).inc64 (outSub u 0x20) wire

/-- The second copy of a frame is offered to PORT2's duplicate queue (R317). -/
def State.offerCopy (s : State) (u ident : Nat) (packet : Bytes) : State :=
  let q := s.st.subs.get u
  let n := q.port2
  let x := s.oport n
  if !q.dup then s
  else if 64 ≤ x.dups.length then
    ((s.inc (outPort n 0x3C) 1).inc (outSub u 0x34) 1).limited (0x806 * 2 ^ 12 + n) msCycles (fun k s =>
      s.ev 0x0806 (0x3200 + n) (u * 2 ^ 20 + sat 16 k))
  else s.setOport n { x with dups := x.dups ++ [(u, frameBytes q (s.portMac n) (s.portTtl n) ident packet)] }

/-- The subscriber's read position or queue moves past its packet. -/
def State.takePacket (s : State) (u : Nat) : State :=
  let x := s.osub u
  if (s.st.subs.get u).pass then s.setOsub u { x with queue := x.queue.drop 1 }
  else s.setOsub u { x with next := (x.next + 1) % 2 ^ 32 }

/-- Subscriber `u` of service `v` on port `n` is selected with this packet. -/
def State.sendSelected (s : State) (n v u : Nat) (packet : Bytes) : State :=
  let q := s.st.subs.get u
  let b := frameBytes q (s.portMac n) (s.portTtl n) (s.osub u).ipId packet
  let len := b.length + 4
  let wire := len + 20
  let s := s.takePacket u
  if 9216 < len then
    (s.inc (outSub u 0x30) 1).limited (0x805 * 2 ^ 12 + u) msCycles (fun _ s => s.subEvent 0x0805 u (len % 65536))
  else
    let x := s.osub u
    let sv := s.osvc v
    let pt := s.oport n
    let s := s.setOsub u { x with ipId := (if isV4 q.dstIp then (x.ipId + 1) % 65536 else x.ipId)
                                  node := { x.node.charge wire with tag := nextTag x.node.tag wire q.weight } }
    let s := s.setOsvc v { sv.charge wire with vtime := x.node.tag, tag := nextTag sv.tag wire (s.st.services.get v).weight }
    let s := s.setOport n { pt with node := { pt.node.charge wire with vtime := sv.tag } }
    (s.sendFrame n u b true).offerCopy u x.ipId packet

/-- OUTFLOW_SELECT: port `n`'s MAC can accept a frame. -/
def execOutflowSelect (n : Nat) (s : State) : Host.Outcome State Fault Refusal :=
  .next (if !s.st.portFormed n then s
    else
      let s := (s.runTo (s.oport n).free).portSettle n
      let x := s.oport n
      let s := s.setOport n { x with node := x.node.gain x.rates s.now }
      let x := s.oport n
      match x.dups with
      | (u, b) :: rest =>
        (s.setOport n { x with dups := rest, node := x.node.charge (b.length + 24) }).sendFrame n u b false
      | [] =>
        let s := (s.svcsOf n).foldl State.refreshSvc s
        let svc := if 0 < x.node.p then choose x.node.vtime (s.svcChildren n) else none
        match svc with
        | none => s
        | some v =>
          match choose (s.osvc v).vtime (s.subChildren v) with
          | none => s
          | some u =>
            match s.subFrame u with
            | none => s
            | some packet => (s.svcsOf n).foldl State.refreshSvc (s.sendSelected n v u packet))

/-! ### The egress gate (R319, R320) -/

/-- Frames on the wire. -/
def State.inTransmission (s : State) : Nat := (s.outf.ports.vals.filter (fun x => decide (s.now < x.sending))).length

/-- The gate opens. -/
def State.gateOpen (s : State) : State :=
  if s.outf.gate then s else (s.updOut (fun o => { o with gate := true })).ev 0x0803 0x3100 0

/-- The gate closes and GATE_CLOSES counts it; `drain` when ACT_OUT is to fall (R320). -/
def State.gateClose (s : State) (drain : Bool) : State :=
  let s := if s.outf.gate then s.inc (outReg 0x008) 1 else s
  s.updOut (fun o => { o with gate := false, draining := drain, drainFrom := s.now, drainFrames := s.inTransmission })

/-- The drain ends: the clock runs until the last frame has left its MAC, and EGRESS_GATE_CLOSED reports it. -/
def State.drainEnd (s : State) : State :=
  let s := s.runTo (maxOf (s.outf.ports.vals.map (·.sending)))
  let o := s.outf
  (s.updOut (fun o => { o with draining := false })).ev 0x0804 0x3100 (o.drainFrames * 65536 + sat 16 (s.now - o.drainFrom))

end Sys2Proof.Machine
end

