-- ==== Sys2Proof/Machine/Pairing.lean ====
section
/-! DEFINITION. Pairing.lean: roles, ACT_OUT and the egress gate, and what a withdrawal and a fatal condition do
(R381 to R387, R405, R406). -/

namespace Sys2Proof.Machine

def State.updPair (s : State) (f : Pair → Pair) : State := { s with pair := f s.pair }
/-- Is the device paired: a structure with an enabled PAIR record (R387)? -/
def State.paired (s : State) : Bool := s.img.present && s.st.pair.enabled
/-- Is the device eligible (R382)? -/
def State.canClaim (s : State) : Bool := s.img.present && !s.pair.hold && !s.pair.fatal

/-- The role changes and is reported. -/
def State.setRole (s : State) (r : Nat) : State :=
  if s.pair.role == r then s
  else (s.updPair (fun p => { p with role := r })).ev 0x0C02 0x4200 (s.pair.role * 16 + r)
/-- ACT_OUT is asserted or deasserted; the ball follows 4 cycles later (R381). -/
def State.setActOut (s : State) (b : Bool) : State :=
  if s.pair.actOut == b then s else (s.updPair (fun p => { p with actOut := b })).emit (.pin .actOut b (s.now + 4))

/-- The hold-off count of a STANDBY (R383): it runs while the device is eligible and ACT_IN deasserted, and any break
restarts it. While it is not eligible, the stretch of PAIR_NO_ACTIVE runs instead (R384). -/
def State.pairSettle (s : State) : State :=
  let quiet := s.pair.role == 1 && !s.pair.actIn
  let from_ (on : Bool) (t : Option Nat) : Option Nat := if !on then none else if t.isSome then t else some s.now
  s.updPair (fun p => { p with count := from_ (quiet && s.canClaim) p.count, noneFrom := from_ (quiet && !s.canClaim) p.noneFrom })

/-- The gate closes; ACT_OUT falls once the drain of R320 has ended. A CLAIMING device, whose gate has not opened, returns
to STANDBY at once. -/
def State.withdraw (s : State) : State :=
  match s.pair.role with
  | 1 | 4 => s.pairSettle
  | 2 => ((s.setActOut false).setRole 1).pairSettle
  | r =>
    let s := if s.pair.actOut then s.gateClose true else s.gateClose false
    if r == 3 then s.setRole 4 else s

/-- FATAL_CONDITION (R405, R406); the first cause is latched. -/
def State.fatal (s : State) (cause : Nat) (inj : Bool) : State :=
  if s.ras.fatal != 0 then s
  else
    let s := { s with ras := { s.ras with fatal := cause } }
    let s := ((s.ev 0x0D09 0x5100 cause).alert 3).replace 45 inj
    let s := (s.updPair (fun p => { p with fatal := true })).withdraw
    let s := (List.range 64).foldl (fun s g => if (s.slc g).state == 3 then s else s.sluiceDisable g) s
    [0, 1].foldl (fun s b => if (s.bce b).busy then s.bceDrop b 0 else s) s

end Sys2Proof.Machine
end

