-- ==== Sys2Proof/Machine/Reliability.lean ====
section
/-! DEFINITION. Reliability.lean: errors of units and arrays, retirement, fatal conditions and the thermal policy
(18_reliability, R401 to R418). -/

namespace Sys2Proof.Machine

/-! ### Retirement (R407, R412) -/

/-- The courses that a unit serves. -/
def State.unitServes (s : State) (src : Nat) : List Nat :=
  let n := src % 256
  match src / 256 with
  | 0x10 => ((s.carries n).map (fun g => s.st.courseOfRend g.rendition)).eraseDups
  | 0x11 => ((s.st.hws.vals.filter (·.unit == n)).map (·.course)).eraseDups
  | 0x12 => ((s.st.fountOrder n).map (·.course)).eraseDups
  | 0x13 => (s.st.courses.vals.filter (·.mere == n)).map (·.course)
  | 0x14 => ((s.st.rungs.vals.filter (fun g => g.rung != 1 && g.cascade == n)).map (·.course)).eraseDups
  | _ => []
/-- The first domain that a unit serves (R142). -/
def State.unitDomain (s : State) (src : Nat) : Option Nat :=
  if src / 256 == 0x10 then s.clusterDomain (src % 256 / 4)
  else ((s.unitServes src).map s.domOf).foldl (fun a d => match a with | some e => some (min d e) | none => some d) none

/-- Number of units of a kind. -/
def unitCount (kind : Nat) : Nat := match kind with | 0x10 => 36 | 0x15 => 9 | 0x11 | 0x12 | 0x13 | 0x14 => 8 | _ => 0
def isUnit (src : Nat) : Bool := decide (src % 256 < unitCount (src / 256))
/-- A unit that UNIT_RETIRE can name (R142). -/
def retirable (src : Nat) : Bool := isUnit src && src / 256 != 0x15

/-- A fixed-rate unit's remaining bands freeze (R190, R216, R234). -/
def State.freezeUnit (s : State) (src : Nat) : State :=
  let n := src % 256
  match src / 256 with
  | 0x11 => (s.unitServes src).foldl (fun s c => s.freezeHeadwater c n) s
  | 0x12 => (s.st.fountOrder n).foldl (fun s i => (s.fountFreeze i).2) s
  | 0x13 => (s.unitServes src).foldl State.freezeMere s
  | 0x14 => (s.unitServes src).foldl (fun s c => s.freezeCascade c n) s
  | _ => s

/-- A unit retires: a Tarn under R258, the others under R407. Cause: 1 residue, 2 control array, 3 UNIT_RETIRE,
4 retry rate. -/
def State.retireUnit (s : State) (src cause : Nat) (inj : Bool) : State :=
  if !retirable src || !s.alive src then s
  else if src / 256 == 0x10 then s.retireTarn (src % 256) (if cause == 2 then 4 else cause) inj
  else
    let s := { (s.freezeUnit src).unitBurst src with retired := s.retired ++ [src] }
    let bitNo := match src / 256 with | 0x11 => 33 | 0x12 => 34 | 0x13 => 35 | _ => 36
    let s := (s.ev 0x0D04 src cause).replace bitNo inj
    (if cause == 4 then s.replace 42 inj else s).admissionRerun

/-! ### Residue mismatches (R401) -/

/-- A residue mismatch in block `k` of a fixed-rate unit: recomputed once, then the unit retires. -/
def State.unitResidue (s : State) (src k : Nat) (inj : Bool) : State :=
  if !s.alive src then s
  else if s.ras.again.find src == some k then s.retireUnit src 1 inj
  else
    let times := within (s.ras.retries.get src) s.now
    let s := s.ev 0x0D03 src (k % 2 ^ 24)
    let due := s.retryRate src times (s.ras.dueRetire.contains src)
    { due.2 with ras := { due.2.ras with
        again := due.2.ras.again.set src k, retries := due.2.ras.retries.set src times
        dueRetire := if due.1 then (due.2.ras.dueRetire ++ [src]).eraseDups else due.2.ras.dueRetire } }
/-- UNIT_RESIDUE_MISMATCH in the 16×16 block `k` of a Headwater unit, Fount, Mere or Cascade. -/
def execUnitResidueMismatch (src k : Nat) (s : State) : Host.Outcome State Fault Refusal :=
  .next (if retirable src && src / 256 != 0x10 then s.unitResidue src k false else s)

/-- The next use of a unit's datapath fires an armed injection of kind 1 or 2 (R418), in an open block. -/
def State.unitUse (s : State) (src : Nat) : State :=
  match s.injected src [1, 2] with
  | none => s
  | some (i, s) =>
    let k := (Config.freeWord s.free).toNat % 2 ^ 24
    let s := ({ s with free := s.free + 1 }).unitResidue src k true
    if i.kind == 2 then s.unitResidue src k true else s

/-- MERE_BAND_DONE: the band in progress of course `c` is final; `bad` are the 64-byte lines of surfaces that memory could
not deliver. -/
def execMereBandDone (c : Nat) (bad : List Nat) (s : State) : Host.Outcome State Fault Refusal :=
  .next ((s.unitUse (0x1300 + s.mereOf c)).mereBandDone c bad)
/-- CASCADE_BAND_DONE for rung `g`. -/
def execCascadeBandDone (c g : Nat) (s : State) : Host.Outcome State Fault Refusal :=
  .next ((s.unitUse (0x1400 + (s.st.rungs.get (64 * c + g)).cascade)).cascadeBandDone c g)
/-- HW_BAND_DONE for the share of unit `u`. -/
def execHwBandDone (c u : Nat) (s : State) : Host.Outcome State Fault Refusal :=
  .next ((s.unitUse (0x1100 + u)).hwBandDone c u)
/-- FOUNT_BAND_DONE for input `k` of course `c`. -/
def execFountBandDone (c k : Nat) (r : BandDecode) (s : State) : Host.Outcome State Fault Refusal :=
  .next ((s.unitUse (0x1200 + (s.st.inputs.get (4 * c + k)).sourceIndex)).fountBandDone c k r)

/-! ### Spillway units (R401, R405) -/

/-- The CTU in work at a Spillway unit: its job's segment and row with the CTUs left name it. -/
def State.spillCtuId (s : State) (k : Nat) : Nat :=
  match (s.spw k).queue with
  | [] => 0
  | j :: _ => j.seg * 2 ^ 32 + j.row * 2 ^ 20 + j.left
/-- SPILLWAY_COMPARE_MISMATCH: the CTU is coded again, at its cycles; a second mismatch in it is fatal. -/
def State.spillMismatch (s : State) (k : Nat) (inj : Bool) : State :=
  match (s.spw k).queue with
  | [] => s
  | j :: _ =>
    let src := 0x1500 + k
    let id := s.spillCtuId k
    if s.ras.again.find src == some id then s.fatal 2 inj
    else
      let x := (s.coding (j.seg / 16)).seg (j.seg % 16)
      let ctu := s.ctuIndex (j.seg / 16) x (x.rowFirst j.row + (x.rowCtus j.row - j.left))
      let s := s.runTo (max (s.spw k).free j.at_ + j.cycles)
      let s := { s with ras := { s.ras with again := s.ras.again.set src id }, spills := s.spills.upd k (fun u => { u with free := s.now }) }
      s.ev 0x0D03 src (ctu % 2 ^ 24)
def execSpillwayCompareMismatch (k : Nat) (s : State) : Host.Outcome State Fault Refusal := .next (s.spillMismatch k false)
/-- SPILL_CTU_DONE: the front CTU or seam strip of SPW `k` is finished with `bits` in its unit. -/
def execSpillCtuDone (k bits : Nat) (blocks : List FinalBlock) (s : State) : Host.Outcome State Fault Refusal :=
  .next (match s.injected (0x1500 + k) [1, 2] with
    | some (i, s) =>
      let s := s.spillMismatch k true
      if i.kind == 2 then s.spillMismatch k true else s
    | none => (s.spillStep k bits blocks).pace)

/-! ### SRAM errors (R402 to R404) -/

/-- A corrected word: counted, reported at most once a millisecond per source, and rated over an hour (R413). -/
def State.sramCorrected (s : State) (src index : Nat) (inj : Bool) : State :=
  let times := within s.ras.sram s.now
  let th := s.rdn (rasReg 0x024)
  let s := (s.inc (rasReg 0x01C) 1).limited (0xD01 * 2 ^ 16 + src) msCycles (fun n s => s.ev 0x0D01 src (index % 2 ^ 16 * 2 ^ 16 + sat 16 n))
  let s := { s with ras := { s.ras with sram := times } }
  if th < times.length then (if s.replaceHas 41 then s else s.alert 4).replace 41 inj else s

/-- The band in progress of a stage, or of a Fount's picture, freezes. -/
def State.freezeNext (s : State) (x : Stage) : State :=
  let r := s.stage x
  let skip (s : State) : State := s.setStage x { r with reading := false, next := r.next + 1 }
  match x with
  | .mere c => if r.active then (skip s).freezePicture (progBuf c) (0x1300 + s.mereOf c) c [r.next] else s
  | .cascade c k => if r.active then (s.st.cascadeRungs c k).foldl (fun s g =>
      s.freezePicture (rungBuf c g.rung) (0x1400 + k) c ((s.buf (rungBuf c g.rung)).curSlot.unfinished.take 1)) s else s
  | .headwater c u => if r.active then ((skip s).freezePicture (mapBuf c) (0x1100 + u) c [(s.st.hws.get (8 * c + u)).firstBand + r.next]).hwPictureEnd c else s
  | .tarn _ _ => s
def State.freezeFountBand (s : State) (c k : Nat) : State :=
  let i := s.st.inputs.get (4 * c + k)
  let x := s.stream i
  match x.au with
  | none => s
  | some a =>
    let kb := inputBuf c k
    let n := (((s.buf kb).slotOf x.cur.pic).getD {}).marks.length
    let s := s.updBuf kb (fun b => { b with slots := b.slots.map (fun y =>
      if y.pic == x.cur.pic then { y.setMark x.band .frozen true with concealed := true } else y) })
    let s := s.setStream i { x with band := x.band + 1, cur := { x.cur with concealed := true } }
    if n ≤ x.band + 1 then s.auEnd i a else s

/-- A transaction in flight gets a TARGET response (R348). -/
def State.failTxn (s : State) (id : Nat) : State := { s with fabric := { s.fabric with flight := s.fabric.flight.upd id (fun x => { x with bad := true }) } }

/-- What the owner of the array does with an uncorrectable word (R404). -/
def State.arrayFault (s : State) (src : Nat) (a : ArrayOwner) (inj : Bool) : State :=
  match a with
  | .tarnData r g ctu kind => s.fetchFault r g ctu kind
  | .stageData x => s.freezeNext x
  | .fountData c k => s.freezeFountBand c k
  | .control => s.retireUnit src 2 inj
  | .basin g => (s.setSlc g { s.slc g with error := (some { status := 2, running := false, final := true }) }).errorEnd g
  | .packet u => (s.setOsub u { s.osub u with queue := (s.osub u).queue.drop 1 }).inc (outSub u 0x2C) 1
  | .dup n => match (s.oport n).dups with
    | [] => s
    | e :: r => (s.setOport n { s.oport n with dups := r }).inc (outSub e.1 0x2C) 1
  | .pool id | .beat id => s.failTxn id
  | .shared => s.fatal 1 inj

/-- SRAM_ERROR in a unit's array: 0 corrected, 1 uncorrectable, 2 parity. An armed injection of kind 3 or 4 is what the
read meets (R418). -/
def State.sramError (s : State) (src index kind : Nat) (a : ArrayOwner) : State :=
  let (inj, kind, s) := match s.injected src [3, 4] with
    | some (i, s) => (true, i.kind - 3, s)
    | none => (false, kind, s)
  let s := s.wrn (rasReg 0x02C) (src % 2 ^ 16 * 2 ^ 16 + index % 2 ^ 16)
  if kind == 0 then s.sramCorrected src index inj
  else ((s.inc (rasReg 0x020) 1).ev 0x0D02 src (index % 2 ^ 16 * 2 ^ 16 + bnat (kind == 2))).arrayFault src a inj
def execSramError (src index kind : Nat) (a : ArrayOwner) (s : State) : Host.Outcome State Fault Refusal :=
  .next (s.sramError src index kind a)

/-- FATAL_CONDITION with a cause of R405. -/
def execFatalCondition (cause : Nat) (s : State) : Host.Outcome State Fault Refusal :=
  .next (if 1 ≤ cause && cause ≤ 6 then s.fatal cause false else s)

/-! ### Temperature (R415 to R417) -/

/-- A step's threshold in 1/16 °C. -/
def thermAt (k : Nat) : Int := if k == 1 then 1760 else 1840
/-- Excursions within 24 hours. -/
def withinDay (l : List Nat) (now : Nat) : List Nat := l.filter (fun t => decide (now < t + 24 * hourCycles)) ++ [now]

/-- The cycles since which the temperature has been 5 °C below each step's threshold. -/
def State.thermBelow (s : State) (t : Int) : Tab Nat :=
  [1, 2].foldl (fun b k => if t < thermAt k - 80 then (if b.has k then b else b.set k s.now) else b.del k) s.ras.below

/-- Step 1 is requested from step 0: an excursion. -/
def State.excursion (s : State) (inj : Bool) : State :=
  let l := withinDay s.ras.excursions s.now
  let s := { (s.inc (rasReg 0x030) 1) with ras := { s.ras with excursions := l } }
  if 4 ≤ l.length then s.replace 43 inj else s

/-- THERM_TRIP_N follows the junction itself, not an injected offset. -/
def State.thermTrip (s : State) (raw : Int) (inj : Bool) : State :=
  let on := decide (2000 ≤ raw)
  let s := if on == s.ras.trip then s else ({ s with ras := { s.ras with trip := on } }).emit (.pin .thermTripN (!on) s.now)
  let s := if on then s.replace 44 false else s
  if decide (2000 ≤ raw + s.ras.offset) then s.fatal 5 inj else s

/-- THERMAL_SAMPLE: the hottest die sensor and the hottest HBM stack, in 1/16 °C. -/
def State.thermalSample (s : State) (die hbm : Int) : State :=
  let t := die + s.ras.offset
  let inj := s.ras.offset != 0
  let s := s.wrn (rasReg 0x008) (unsigned 16 t * 2 ^ 16 + unsigned 16 hbm)
  let s := match decide (1600 ≤ t), s.ras.warmSince with
    | true, none => (({ s with ras := { s.ras with warmSince := some s.now } }).alert 0).ev 0x0F80 0x5100 (unsigned 16 t)
    | false, some w => ({ s with ras := { s.ras with warmSince := none } }).ev 0x0F82 0x5100 (sat 32 ((s.now - w) / 1500000000))
    | _, _ => s
  let want := if 1840 ≤ t then 2 else if 1760 ≤ t then 1 else 0
  let s := if s.ras.wanted == 0 && 0 < want then s.excursion inj else s
  let s := { s with ras := { s.ras with wanted := max s.ras.wanted want, below := s.thermBelow t } }
  s.thermTrip die inj
def execThermalSample (die hbm : Int) (s : State) : Host.Outcome State Fault Refusal := .next (s.thermalSample die hbm)

/-- THERM_STEP_RELEASE_TIMER: step `k` has been cool for 1 s. -/
def execThermStepReleaseTimer (k : Nat) (s : State) : Host.Outcome State Fault Refusal :=
  .next (match s.ras.below.find k with
    | none => s
    | some t =>
      if s.ras.wanted != k then s
      else
        let s := s.runTo (t + 1500000000)
        { s with ras := { s.ras with wanted := k - 1 } })

/-- At a domain's Weir the requested step takes effect in it (R416); a standby's own step never lies below the journalled
one (R417). -/
def State.thermApply (s : State) (d : Nat) : State :=
  let want := if s.standby then max s.ras.wanted s.ras.journalled else s.ras.wanted
  let changed := (s.dom d).therm != want
  let s := s.updDom d (fun x => { x with therm := want })
  let s := if changed && s.pair.role == 3 then s.updPair (fun p =>
      { p with journal := p.journal.upd d (fun l => l ++ [.reg 0 (rasReg 0x00C) (BitVec.ofNat 32 want)]) }) else s
  if s.ras.step == want then s
  else
    let j := if s.pair.role == 3 then want else s.ras.journalled
    ((({ s with ras := { s.ras with step := want, journalled := j } }).wrn (rasReg 0x00C) j).alert 1).ev 0x0F81 0x5100
      (s.fld (rasReg 0x008) 31 16 * 2 ^ 16 + want)

end Sys2Proof.Machine
end

