-- ==== Sys2Proof/Machine/Course.lean ====
section
/-! DEFINITION. Course.lean: a course as on first use (R18, R107, R112, R283, R429), its start and stop (R54), and the
application of latched commands (R127, R130 to R132). -/

namespace Sys2Proof.Machine

/-! ### First use -/

/-- A buffer as a course's start leaves it: black, every mark EMPTY (R18). -/
def State.blacken (s : State) (k slots bands : Nat) : State := { s with bufs := s.bufs.set k (newBuffer slots bands) }
def State.blackInput (s : State) (i : InputRec) : State := s.blacken (inputBuf i.course i.input) i.slots (bandsOf i.height 64)
def State.blackRung (s : State) (g : RungRec) : State :=
  s.blacken (rungBuf g.course g.rung) g.slots (bandsOf g.height (s.st.courses.get g.course).bandHeight)
/-- The program picture and the map. -/
def State.blackProg (s : State) (c : Nat) : State :=
  let x := s.st.courses.get c
  let n := bandsOf x.height x.bandHeight
  (s.blacken (progBuf c) (3 + s.st.maxReorder c) n).blacken (mapBuf c) (2 + s.st.maxReorder c) n

/-- An input as its course starts: a picture in reception is let go, a Fount input is unbound (R169), the host's first
slot is free. -/
def State.freshInput (s : State) (i : InputRec) : State :=
  let s := s.blackInput i
  let k := 4 * i.course + i.input
  match i.source with
  | 0 => s.updInl (fun n => { n with videos := n.videos.upd k (fun v => { v with dropping := v.ts.isSome, lines := [], told := false }) })
  | 1 => { (s.wrBoth (ftIn i.course i.input 0) 0).setStream i {} with founts := s.founts }
  | _ => { s with hostIns := s.hostIns.set k { next := some 0 } }

/-- The composition of a course: layers, tables, matrices, protected layer (R199, R202, R214). -/
def State.freshLayers (s : State) (c : Nat) : State :=
  let s := { s with postLut := s.postLut.del c }
  let s := (s.st.layersOf c).foldl (fun s l =>
    (s.setLayer c l.layer ((s.layer c l.layer).start l.layer)).layerIdentity c l.layer) s
  s.protReset c

/-- A rendition stops being SYNCED (R397): cause 1 mismatch, 2 image, 3 start, 4 HEAL. -/
def State.unsync (s : State) (r cause picture : Nat) : State :=
  let x := s.rend r
  if x.unsynced && !x.healing then s
  else
    let s := s.setRend r { x with unsynced := true, healing := false }
    if s.paired then s.evRd r 0x0C0C (cause * 2 ^ 28 + picture % 2 ^ 28) else s

/-- Every buffer of a course black, its composition and analysis at their start. -/
def State.courseBlank (s : State) (c : Nat) : State :=
  let s := s.blackProg c
  let s := ((s.st.rungsOf c).filter (·.rung != 1)).foldl State.blackRung s
  let s := (s.st.inputsOf c).foldl State.freshInput s
  (s.setHead c {}).freshLayers c

/-- A course as on first use, with its parameters as they stand. -/
def State.courseFresh (s : State) (c : Nat) : State :=
  let s := (s.courseBlank c).hwRestart c 1
  let s := (s.st.rendsOf c).foldl (fun s q => (s.unsync q.rendition 3 0).rendFresh q.rendition) s
  { s with keys := s.keys.set c { due := [1] } }

/-- Parameters of a course from its records (an image's load). -/
def State.courseLoad (s : State) (c : Nat) : State :=
  let s := (s.st.layersOf c).foldl (fun s l => s.setLayer c l.layer (l.load (s.layer c l.layer))) s
  (s.st.rendsOf c).foldl (fun s q => s.rendLoad q.rendition) s

/-! ### Start and stop (R54) -/

/-- The course runs from the next window on, as on first use. -/
def State.courseBegin (s : State) (c : Nat) : State :=
  let s := s.courseFresh c
  { s with courses := s.courses.set c { state := .running } }

/-- Courses of a domain in START_HELD. -/
def State.heldIn (s : State) (d : Nat) : List Nat :=
  ((s.st.coursesOf d).map (·.course)).filter (fun c => (s.courses.get c).state == .startHeld)

/-- COURSE_START applies: held in a PTP_PACED domain that is not LOCKED. -/
def State.courseStart (s : State) (c : Nat) : State :=
  let d := s.domOf c
  if (s.courses.get c).state != .stopped || s.img.stopped.contains d then s
  else if (s.dom d).mode == 0 && s.time.lock != 2 then
    let s := { s with courses := s.courses.set c { s.courses.get c with state := .startHeld, lockReached := false } }
    s.ev 0x0208 (0x4100 + d) (s.heldIn d).length
  else s.courseBegin c

/-- COURSE_STOP applies: the course's stages and emission stop (R294); a held start is withdrawn. -/
def State.courseStop (s : State) (c : Nat) : State :=
  let off (s : State) (k : Stage) : State := s.setStage k { s.stage k with active := false, reading := false }
  if (s.courses.get c).state == .stopped then s
  else
    let s := { s with courses := s.courses.set c { s.courses.get c with state := .stopped, lockReached := false } }
    let s := off s (.mere c)
    let s := (s.st.cascadesOf c).foldl (fun s k => off s (.cascade c k)) s
    let s := (s.st.hwsOf c).foldl (fun s h => off s (.headwater c h.unit)) s
    (s.st.rendsOf c).foldl (fun s q => s.setRend q.rendition { s.rend q.rendition with cur := none }) s

/-- The held starts of a domain begin at the first Weir after LOCKED is reached, or in FREE_RUN (R54, R68). -/
def State.heldStart (s : State) (d : Nat) : State :=
  (s.heldIn d).foldl (fun s c =>
    if (s.dom d).mode != 0 || s.time.lock == 2 || (s.courses.get c).lockReached then s.courseBegin c else s) s

/-! ### Effects of W commands (R127) -/

/-- COURSE_SET: 1 FREEZE_LIMIT, 2 KEY_INTERVAL, 3 SCENE_KEY, 4 DELAY_LINES. -/
def State.courseSet (s : State) (c field v : Nat) : State :=
  let x := s.st.courses.get c
  let y := match field with
    | 1 => { x with freezeLimit := v } | 2 => { x with keyInterval := v } | 3 => { x with sceneKey := v == 1 }
    | _ => { x with delayLines := v }
  { s with st := { s.st with courses := s.st.courses.set c y } }

/-- RC_SET, by its MASK. -/
def State.rcSet (s : State) (r : Nat) (p : RcSet) : State :=
  let on (k v : Nat) : Option Nat := if bit p.mask k then some v else none
  s.rateSet r (on 0 p.cq) (on 3 p.effort) (on 1 p.maxRate) (on 2 p.bufSize)

/-- LAYER_SET, by its MASK. A layer that becomes enabled has shown nothing (R202). -/
def State.layerSet (s : State) (c l : Nat) (p : LayerSet) : State :=
  let y := s.layer c l
  let y := if bit p.mask 0 then { y with geo := p.geo } else y
  let y := if bit p.mask 1 then
      (let on := p.enabled == 1
       { y with enabled := on, shown := y.shown && on && y.enabled, run := if y.enabled then y.run else 0
                mode := if !on then 0 else if decide (4 ≤ l) then 1 else if y.enabled then y.mode else 3 })
    else y
  let y := if bit p.mask 2 then { y with alpha := p.alpha } else y
  s.setLayer c l (if bit p.mask 3 then { y with fallback := p.fallback, fill := p.fill } else y)

def State.layerFlip (s : State) (c l surface pitch : Nat) : State :=
  s.setLayer c l { s.layer c l with surface, pitch }

/-- KEY_NOW gathers its cause (R279). -/
def State.keyNow (s : State) (c : Nat) : State := { s with keys := s.keys.upd c (fun k => k.add 2) }

/-- The effect of a latched command. -/
def State.applyW (s : State) : WCmd → State
  | .courseStart c => s.courseStart c
  | .courseStop c => s.courseStop c
  | .courseSet c f v => s.courseSet c f v
  | .keyNow c => s.keyNow c
  | .rcSet r p => s.rcSet r p
  | .layerSet c l p => s.layerSet c l p
  | .layerFlip c l a p => s.layerFlip c l a p
  | .unitRetire src => s.retireUnit src 3 false
  | .joinKey r => s.joinRequest r

/-! ### Fields and supersession (R131, R132) -/

/-- A field that a command sets. -/
inductive Field where
  | run (c : Nat)
  | course (c f : Nat)
  | rend (r k : Nat)
  | layer (c l k : Nat)
  | surface (c l : Nat)
deriving DecidableEq, Repr, Inhabited

/-- The fields of a command with their MASK bits, in order. -/
def WCmd.fields : WCmd → List (Nat × Field)
  | .courseStart c | .courseStop c => [(0, .run c)]
  | .courseSet c f _ => [(0, .course c f)]
  | .rcSet r p => ((List.range 4).filter (bit p.mask)).map (fun k => (k, .rend r k))
  | .layerSet c l p => ((List.range 4).filter (bit p.mask)).map (fun k => (k, .layer c l k))
  | .layerFlip c l _ _ => [(0, .surface c l)]
  | _ => []

/-- The course a command concerns. -/
def State.wCourse (s : State) : WCmd → Option Nat
  | .courseStart c | .courseStop c | .courseSet c _ _ | .keyNow c | .layerSet c _ _ | .layerFlip c _ _ _ => some c
  | .rcSet r _ | .joinKey r => some (s.st.courseOfRend r)
  | .unitRetire _ => none

/-- The last of `later` that sets a field. -/
def overriddenBy (later : List Latched) (f : Field) : Option Latched :=
  (later.filter (fun l => l.cmd.fields.any (fun e => e.2 == f))).getLast?

/-- Does the object of a latched command still exist (R110)? -/
def State.wThere (s : State) : WCmd → Bool
  | .courseStart c | .courseStop c | .courseSet c _ _ | .keyNow c => s.st.courses.has c
  | .layerSet c l _ | .layerFlip c l _ _ => s.st.layers.has (12 * c + l)
  | .rcSet r _ | .joinKey r => s.st.rends.has r
  | .unitRetire _ => true

/-- One command's completion, with the commands latched after it at the same Weir. -/
def State.finishW (s : State) (x : Latched) (later : List Latched) (tick : Nat) : State :=
  if !s.wThere x.cmd then s.complete x.o .badParam 0 0 else
  let fs := x.cmd.fields
  let lost := fs.filter (fun f => (overriddenBy later f.2).isSome)
  match lost.getLast?.bind (fun f => overriddenBy later f.2) with
  | none => s.complete x.o .ok 0 tick
  | some w =>
    if lost.length == fs.length then
      (s.complete x.o .superseded 0 tick).raiseTo [w.o.fn, x.o.fn] 0x0B01 (0x5100 + w.o.fn) 0xFFFF 0xFFFF (x.o.tag * 2 ^ 16 + w.o.tag)
    else s.complete x.o .ok (sum (lost.map (fun f => 2 ^ f.1))) tick

/-- Does the command's own run-state field fall to a later command? -/
def Latched.inert (x : Latched) (later : List Latched) : Bool :=
  match x.cmd with
  | .courseStart c | .courseStop c => (overriddenBy later (.run c)).isSome
  | _ => false

/-- The effects of a list of latched commands, one a cycle, in order. -/
def State.applyEach (s : State) : List Latched → State
  | [] => s
  | x :: r => (if x.inert r || !s.wThere x.cmd then s.cycles 1 else (s.applyW x.cmd).cycles 1).applyEach r
/-- Their completions, in order. -/
def State.finishEach (s : State) (tick : Nat) : List Latched → State
  | [] => s
  | x :: r => (s.finishW x r tick).finishEach tick r

/-- What an ACTIVE device journals of the commands a Weir applies (R394): all that stand but UNIT_RETIRE. -/
def journalOf : List Latched → List Journal
  | [] => []
  | x :: r =>
    let keep := match x.cmd with | .unitRetire _ => false | _ => true
    let gone := !x.cmd.fields.isEmpty && x.cmd.fields.all (fun f => (overriddenBy r f.2).isSome)
    (if keep && !gone then [Journal.weir x.o.fn x.cmd] else []) ++ journalOf r
/-- Entries for a domain's next snapshot. -/
def State.journal (s : State) (d : Nat) (l : List Journal) : State :=
  if s.pair.role == 3 then s.updPair (fun p => { p with journal := p.journal.upd d (fun e => e ++ l) }) else s

/-- Step 4 of a Weir, or an idle domain's arrivals: a list of latched commands applies and completes. -/
def State.applyLatched (s : State) (d tick : Nat) (l : List Latched) : State :=
  ((s.applyEach l).finishEach tick l).journal d (journalOf (l.filter (fun x => s.wThere x.cmd)))

/-- Arrivals in one cycle are ordered by function, PF0 after VF63 (R131). -/
def Origin.rank (o : Origin) : Nat := if o.fn == 0 then 64 else o.fn
def latchInto (x : Latched) : List Latched → List Latched
  | [] => [x]
  | y :: r => if y.at_ == x.at_ && decide (x.o.rank < y.o.rank) then x :: y :: r else y :: latchInto x r

/-- A W command that has passed its checks latches for the next Weir of domain `d`, or applies at arrival (R130). -/
def State.latchW (s : State) (d : Nat) (o : Origin) (c : WCmd) : State :=
  if s.idle d then
    let x := s.dom d
    let tick := if x.stage == .none then x.tick else x.tick + 1
    ((s.applyW c).complete o .ok 0 tick).journal d (journalOf [{ o, cmd := c }]) |>.pace
  else s.updDom d (fun x => { x with latched := latchInto { o, at_ := s.now, cmd := c } x.latched })

end Sys2Proof.Machine
end

