-- ==== Sys2Proof/Machine/Reservoir.lean ====
section
/-! DEFINITION. Reservoir.lean: the channel controllers: queues and order, refresh, row-disturb protection, error
correction, scrub, retraining and self-refresh (14_reservoir, R321 to R341). -/

namespace Sys2Proof.Machine

def State.chan (s : State) (n : Nat) : Chan := s.chans.get n
def State.setChan (s : State) (n : Nat) (x : Chan) : State := { s with chans := s.chans.set n x }
def State.updChan (s : State) (n : Nat) (f : Chan → Chan) : State := s.setChan n (f (s.chan n))
def memSrc (n : Nat) : Nat := 0x2000 + n

/-- Pseudo-channel and bank of a line: 48 banks in each, 16 to a stack ID, 4 to a group. -/
def lineBank (line : Nat) : Nat :=
  let d := dramAddr line
  48 * d.pc + 16 * d.stackId + 4 * d.group + d.bank

/-- REFI of a channel (R330). -/
def Chan.refi (x : Chan) : Nat := if x.hot then 2925 else 5850
/-- RT requests queued for a bank. -/
def Chan.rtQueued (x : Chan) (b : Nat) : Bool := (x.rq ++ x.wq).any (fun r => r.rt && lineBank r.line == b)

/-! ### Refresh (R330, R331) -/

/-- A refresh is issued at cycle `at_`: it holds its bank for 240 cycles and closes its row. -/
def Bank.refresh (b : Bank) (at_ : Nat) : Bank := { b with held := max b.held at_ + 240, row := none }

/-- Owed refreshes issued up to cycle `now`, one each 240 cycles, while the bank has no RT request queued. -/
def Bank.payUp (b : Bank) (rt : Bool) (now : Nat) : Bank :=
  if rt || b.owed == 0 || decide (now < b.pay) then b
  else
    let k := min b.owed ((now - b.pay) / 240 + 1)
    { b.refresh (b.pay + 240 * (k - 1)) with owed := b.owed - k, pay := b.pay + 240 * k }
def Chan.payBank (x : Chan) (b now : Nat) : Chan :=
  { x with banks := x.banks.upd b (fun k => k.payUp (x.rtQueued b) now) }

/-- Settings that wait for a refresh of their pseudo-channel are taken (R340). -/
def Chan.takeLanes (x : Chan) (pc : Nat) : Chan :=
  { x with lanes := x.lanes.mapv (fun k l => match l.next with
      | some v => if k / 4 == pc then { l with vref := v.1, wr := v.2.1, rd := v.2.2, next := none } else l
      | none => l) }

/-- REFRESH_DUE of a bank: issued, postponed up to 8, or forced. -/
def State.refreshDue (s : State) (n b : Nat) : State :=
  let s := match ((s.chan n).banks.get b).due with | some d => s.runTo d | none => s
  let x := (s.chan n).payBank b s.now
  let k := x.banks.get b
  let next : Bank := { k with due := some (s.now + x.refi) }
  if s.selfRefresh.contains n then s
  else if x.rtQueued b && decide (k.owed < 8) then
    let s := s.setChan n { x with banks := x.banks.set b { next with owed := k.owed + 1, pay := s.now } }
    s.wrn (resReg n 0x024) (max (s.rdn (resReg n 0x024)) (k.owed + 1))
  else
    let s := s.setChan n (({ x with banks := x.banks.set b (next.refresh s.now) } : Chan).takeLanes (b / 48))
    if !x.rtQueued b then s
    else
      let s := s.wrn (resReg n 0x024) (max (s.rdn (resReg n 0x024)) 9)
      (s.inc (resReg n 0x028) 1).ev 0x0908 (memSrc n) (b / 48 * 256 + b % 48)
def execRefreshDue (n b : Nat) (s : State) : Host.Outcome State Fault Refusal := .next (s.refreshDue n b)

/-! ### Queues (R326 to R328) -/

/-- Is a request held behind an earlier one to its line (R328)? -/
def Chan.blocked (x : Chan) (r : MemReq) : Bool :=
  (x.rq ++ x.wq).any (fun q => q.line / 64 == r.line / 64 && decide (q.ord < r.ord) && (q.write || r.write))

def Chan.hit (x : Chan) (r : MemReq) : Bool := (x.banks.get (lineBank r.line)).row == some (dramAddr r.line).row

/-- The request that pseudo-channel `pc` issues next among `l`, oldest first (R327). -/
def Chan.pick (x : Chan) (pc now : Nat) (l : List MemReq) : Option MemReq :=
  let l := l.filter (fun r => (dramAddr r.line).pc == pc && !x.blocked r && decide ((x.banks.get (lineBank r.line)).held ≤ now))
  match l.find? (fun r => r.rt && x.hit r) with
  | some r => some r
  | none => match l.find? (·.rt) with
    | some r => some r
    | none => match l.find? (fun r => decide (r.at_ + 2048 < now)) with
      | some r => some r
      | none => match l.find? x.hit with
        | some r => some r
        | none => l.head?

/-- A drain batch begins (R327). -/
def Chan.beginBatch (x : Chan) : Chan :=
  if x.batch.isNone && (decide (48 ≤ x.wq.length) || (!x.rq.any (·.rt) && !x.wq.isEmpty)) then { x with batch := some 0 } else x
/-- A drain batch after one write: it ends at 16 entries, or after 32 writes while an RT read waits. -/
def Chan.afterWrite (x : Chan) : Chan :=
  match x.batch with
  | some k => if decide (x.wq.length ≤ 16) || (decide (32 ≤ k + 1) && x.rq.any (·.rt)) then { x with batch := none }
    else { x with batch := some (k + 1) }
  | none => x

/-! ### Row-disturb protection (R332, R333) -/

/-- One step of the LFSR of x³² + x²² + x² + x + 1. -/
def lfsrStep (v : Nat) : Nat :=
  v * 2 % 2 ^ 32 + (bits v 31 31 + bits v 21 21 + bits v 1 1 + bits v 0 0) % 2
/-- The LFSR's value; before its first step, the seed read from the entropy source, 1 for 0. -/
def Chan.lfsrOf (x : Chan) (n : Nat) : Nat := x.lfsr.getD (let v := (Config.entropy n).toNat; if v == 0 then 1 else v)

/-- An activate of a row: the LFSR steps, and the neighbours it selects are refreshed before the bank's next activate. -/
def State.activate (s : State) (n line : Nat) : State :=
  let x := s.chan n
  let v := lfsrStep (x.lfsrOf n)
  let row := (dramAddr line).row
  let cfg := s.rdn (glb 0x84)
  let near := ([1] ++ if bit cfg 8 then [2] else []).flatMap (fun d =>
    (if d ≤ row then [row - d] else []) ++ (if row + d ≤ 16383 then [row + d] else []))
  let k := if v % 2 ^ bits cfg 4 0 == 0 then near.length else 0
  let b := lineBank line
  let s := s.setChan n { x with lfsr := some v, banks := x.banks.upd b (fun y => { y with row := some row, held := s.now + 48 * k }) }
  if k == 0 then s else s.inc (resReg n 0x02C) k

/-! ### Error correction (R334, R336) -/

/-- An injected symbol error of the codeword at a device address (R418). -/
def State.memInjected (s : State) (n dev : Nat) (r : CodeRead) : CodeRead × State :=
  match s.ras.inj.find? (fun i => i.target == memSrc n && (i.kind == 5 || i.kind == 6) && i.addr / 32 == dev / 32) with
  | none => (r, s)
  | some i => ({ kind := i.kind - 4, sym := i.arg % 36 },
      { s with ras := { s.ras with inj := s.ras.inj.erase i } }.ev 0x0D0B (memSrc n) i.kind)

/-- A corrected codeword: counted, reported, queued for write-back unless a write to its line is queued. -/
def State.memCorrected (s : State) (n local_ dev sym : Nat) (scrub : Bool) : State :=
  let x := s.chan n
  let times := within x.ceTimes s.now
  let line := local_ / 64 * 64
  let back : MemReq := { ord := x.ord, line, dev := dev / 64 * 64, write := true, at_ := s.now }
  let has := x.wq.any (fun r => r.line / 64 == local_ / 64)
  let s := s.setChan n { x with ceTimes := times, wq := (if has then x.wq else x.wq ++ [back]), ord := x.ord + 1
                                passCe := x.passCe + bnat scrub }
  let s := (s.inc (resReg n 0x008) 1).wrn (resReg n 0x010) (bnat scrub * 2 ^ 30 + sym % 64 * 2 ^ 24)
  let s := (s.wrn (resReg n 0x014) line).limited (0x901 * 2 ^ 12 + n) msCycles (fun k s =>
    s.ev 0x0901 (memSrc n) (sym % 64 * 2 ^ 26 + k % 2 ^ 26))
  if s.rdn (resReg n 0x018) < times.length then
    s.limited (0x903 * 2 ^ 12 + n) hourCycles (fun _ s => (s.ev 0x0903 (memSrc n) times.length).replace 40 false)
  else s

/-- An uncorrectable or poisoned codeword. -/
def State.memBad (s : State) (n local_ : Nat) (poisoned scrub : Bool) : State :=
  let s := s.updChan n (fun x => { x with passUe := x.passUe + bnat scrub })
  let s := (s.inc (resReg n 0x00C) 1).wrn (resReg n 0x010) (2 ^ 31 + bnat scrub * 2 ^ 30 + 63 * 2 ^ 24)
  (s.wrn (resReg n 0x014) (local_ / 64 * 64)).ev 0x0902 (memSrc n)
    (bnat scrub * 2 ^ 31 + bnat poisoned * 2 ^ 30 + (dramAddr local_).pc * 2 ^ 29 + local_ / 64 % 2 ^ 25)

/-- One codeword is read and decoded. Answers whether it is lost. -/
def State.decodeWord (s : State) (n local_ dev : Nat) (r : CodeRead) (scrub : Bool) : Bool × State :=
  let i := s.memInjected n dev r
  let s := i.2
  if (s.chan n).poison.contains (local_ / 32 * 32) then (true, s.memBad n local_ true scrub)
  else match i.1.kind with
    | 0 => (false, s)
    | 1 => (false, s.memCorrected n local_ dev i.1.sym scrub)
    | _ => (true, s.memBad n local_ false scrub)

def Chan.poisonAt (x : Chan) (local_ : Nat) (on : Bool) : Chan :=
  { x with poison := if on then (if x.poison.contains (local_ / 32 * 32) then x.poison else local_ / 32 * 32 :: x.poison)
      else x.poison.filter (· != local_ / 32 * 32) }

/-! ### Issuing a request (R327 to R329) -/

/-- One codeword of a write: a partial one is read and merged first (R329); one whose read is lost is poisoned. Its bytes
stand in memory since the channel took the request, because every later request to the line follows it (R328). -/
def State.writeWord (s : State) (n local_ dev : Nat) (d : List (Option Byte)) (r : CodeRead) : State :=
  let full := d.length == 32 && d.all (·.isSome)
  let x := if full then (false, s) else s.decodeWord n local_ dev r false
  x.2.updChan n (fun c => if x.1 then c.poisonAt local_ true else if full then c.poisonAt local_ false else c)

/-- A line of a read returns to its transaction; the last one answers it (R343, R348). -/
def State.lineRead (s : State) (r : MemReq) (bad : Bool) : State :=
  match s.fabric.flight.find r.id with
  | none => s
  | some f =>
    let a := max f.t.addr r.dev
    let n := min (f.t.addr + f.t.len) (r.dev + 64) - a
    let b := ((r.data.drop (a - r.dev)).take n).map (·.getD 0)
    let f := { f with left := f.left - 1, bad := f.bad || bad, got := f.got ++ [(a, b)] }
    let keep := s.updFab (fun x => { x with flight := x.flight.set r.id f })
    if f.left != 0 || f.cut then keep
    else
      let sorted : Tab Bytes := f.got.foldl (fun t e => t.set e.1 e.2) []
      (s.updFab (fun x => { x with flight := x.flight.del r.id })).respond f.t (if f.bad then 2 else 0)
        (if f.bad then List.replicate f.t.len 0 else sorted.vals.flatMap id)

/-- A request is issued to the DRAM; `a` and `b` are what the decoder finds in its two codewords. -/
def State.issue (s : State) (n : Nat) (r : MemReq) (a b : CodeRead) : State :=
  let bank := lineBank r.line
  let s := if (s.chan n).hit r then s else s.activate n r.line
  let s := s.updChan n (fun x => { x with rq := x.rq.filter (fun q => q.ord != r.ord), wq := x.wq.filter (fun q => q.ord != r.ord) })
  let s := s.updChan n (fun x => { x with banks := x.banks.upd bank (fun k => { k with pay := max k.pay s.now }) })
  let s := s.updChan n (fun x => x.payBank bank s.now)
  if r.write then
    let s := (s.updChan n Chan.afterWrite).inc64 (resReg n 0x03C) 1
    if r.data.isEmpty then s
    else (s.writeWord n r.line r.dev (r.data.take 32) a).writeWord n (r.line + 32) (r.dev + 32) (r.data.drop 32) b
  else
    let s := s.inc64 (resReg n 0x034) 1
    let x := s.decodeWord n r.line r.dev a false
    let y := x.2.decodeWord n (r.line + 32) (r.dev + 32) b false
    y.2.lineRead r (x.1 || y.1)

/-! ### The channel as a target (R326, R341) -/

/-- A channel holds new requests while it enters or is in self-refresh. -/
def State.holding (s : State) (n : Nat) : Bool := (s.chan n).entering || s.selfRefresh.contains n

/-- Room for a transaction: one entry per line. -/
def State.memRoom (s : State) (t : Txn) : Bool :=
  let n := s.targetNo t.addr
  let lines := (linesOf t.addr t.len).length
  !s.holding n && decide ((if t.write then (s.chan n).wq else (s.chan n).rq).length + lines ≤ 64)

/-- Bytes of a transaction's line, enables off outside the transaction. -/
def Txn.lineData (t : Txn) (line : Nat) : List (Option Byte) :=
  (List.range 64).map (fun i => if t.addr ≤ line + i ∧ line + i < t.addr + t.len then (t.data.getD (line + i - t.addr) none) else none)

/-- A granted transaction enters the channel's queue; a write is answered at once (R343). A read takes the bytes that
the requests before it leave in its line (R328). -/
def State.memServe (s : State) (w : AtArbiter) (cyc : Nat) : State :=
  let n := s.targetNo w.t.addr
  let lines := linesOf w.t.addr w.t.len
  let rt := s.classOf w.t == 0
  let add (s : State) (line : Nat) : State :=
    let x := s.chan n
    let loc := ((s.st.chanOf line).map (·.2)).getD 0
    let r : MemReq := { id := w.id, ord := x.ord, line := loc, dev := line, write := w.t.write, rt, at_ := cyc
                        data := if w.t.write then w.t.lineData line else (Mem.bytes s.mem line 64).map some }
    let waits := !w.t.write && x.wq.any (fun q => q.line == loc)
    let x := if rt then x.payBank (lineBank loc) cyc else x
    let s := s.setChan n { x with ord := x.ord + 1, rq := (if w.t.write then x.rq else x.rq ++ [r])
                                  wq := if w.t.write then x.wq ++ [r] else x.wq }
    let s := if w.t.write then { s with mem := Mem.putEnabled s.mem line (w.t.lineData line) } else s
    if waits then s.inc (resReg n 0x020) 1 else s
  match s.injectTimeout w n cyc with
  | some s => s
  | none =>
    let s := lines.foldl add s
    if w.t.write then s.respond w.t 0 []
    else s.updFab (fun f => { f with flight := f.flight.set w.id { t := w.t, target := n, at_ := cyc, left := lines.length } })

/-- Grants of a channel up to the present cycle. -/
def State.memGrants (s : State) (n : Nat) : State :=
  s.grants State.memRoom State.memServe n ((s.tport n).waiting.length + 66) 0

/-- A channel that has abandoned self-refresh entry takes new requests once its queues are empty. -/
def State.srAbandon (s : State) (n : Nat) : State :=
  let x := s.chan n
  if x.abandoned && x.rq.isEmpty && x.wq.isEmpty then s.setChan n { x with entering := false, abandoned := false } else s

/-- MEM_REQUEST: channel `n` issues the next request of pseudo-channel `pc`. -/
def State.memRequest (s : State) (n pc : Nat) (a b : CodeRead) : State :=
  let s := (s.runTo (s.chan n).ready).memGrants n
  let x := (s.chan n).beginBatch
  let l := if x.batch.isSome then x.wq else x.rq
  let mine := l.filter (fun r => (dramAddr r.line).pc == pc && !x.blocked r)
  let free := (mine.map (fun r => (x.banks.get (lineBank r.line)).held)).foldl min (((mine.head?).map (fun r =>
    (x.banks.get (lineBank r.line)).held)).getD 0)
  let s := (s.setChan n x).runTo (if mine.isEmpty then 0 else free)
  match x.pick pc s.now l with
  | none => s
  | some r => (s.issue n r a b).srAbandon n
def execMemRequest (n pc : Nat) (a b : CodeRead) (s : State) : Host.Outcome State Fault Refusal := .next (s.memRequest n pc a b).pace

/-! ### Scrub (R335) -/

/-- Cycles between two scrub reads of a channel: its 25,165,824 lines once per SCRUB_HOURS. -/
def State.scrubPace (s : State) : Nat := s.fld (glb 0x84) 31 16 * hourCycles / 25165824

/-- The device address of a channel-local line; 2^40 where no region holds it. -/
def State.devOf (s : State) (n local_ : Nat) : Nat :=
  if 0x5FE00000 ≤ local_ then 0xBFC000000 + n * 2097152 + (local_ - 0x5FE00000)
  else
    let m (r : RegionRec) : Nat := (popcount 32 r.chMask)
    match s.st.regions.vals.find? (fun r => bit r.chMask n && decide (s.st.chanBase r.region n ≤ local_) &&
        decide (local_ < s.st.chanBase r.region n + r.size / max 1 (m r))) with
    | none => 2 ^ 40
    | some r =>
      let off := local_ - s.st.chanBase r.region n
      let hi := off / 2 ^ r.grain
      let cand := (List.range (m r)).map (fun k => r.base + (hi * m r + k) * 2 ^ r.grain + off % 2 ^ r.grain)
      (cand.find? (fun a => s.st.chanOf a == some (n, local_))).getD (2 ^ 40)

/-- SCRUB_READ: the channel's next patrol read; a codeword that cannot be corrected is poisoned. -/
def State.scrubRead (s : State) (n : Nat) (a b : CodeRead) : State :=
  if s.fld (resReg n 0x004) 1 1 == 0 || s.selfRefresh.contains n || s.excluded.contains n || !(s.chan n).live then s
  else
    let s := match (s.chan n).scrubAt with | some t => s.runTo (t + s.scrubPace) | none => s
    let pos := (s.chan n).scrubPos
    let word (s : State) (k : Nat) (r : CodeRead) : State :=
      let x := s.decodeWord n (pos + k) (s.devOf n pos + k) r true
      if x.1 then x.2.updChan n (fun c => c.poisonAt (pos + k) true) else x.2
    let s := word (word s 0 a) 32 b
    let last := pos + 64 == 0x60000000
    let x := s.chan n
    let s := s.setChan n { x with scrubPos := (if last then 0 else pos + 64), scrubAt := some s.now
                                  passCe := (if last then 0 else x.passCe), passUe := if last then 0 else x.passUe }
    if last then s.ev 0x090D (memSrc n) (sat 16 x.passCe * 65536 + sat 16 x.passUe) else s
def execScrubRead (n : Nat) (a b : CodeRead) (s : State) : Host.Outcome State Fault Refusal := .next (s.scrubRead n a b)

/-! ### Training and retraining (R337 to R340) -/

/-- LANE_RETRAIN: the channel's next byte lane is swept; `found` is the new centre (reference, write delay, read delay)
and the eye, none where no setting passes. -/
def State.laneRetrain (s : State) (n : Nat) (found : Option (Nat × Nat × Nat × Nat)) : State :=
  let x := s.chan n
  let k := x.visit
  if !x.live || s.selfRefresh.contains n then s
  else
    let s := match x.visited.find k with | some t => s.runTo (t + 150000000) | none => s
    let l := x.lanes.get k
    let s := s.setChan n { x with visit := (k + 1) % 8, visited := x.visited.set k s.now }
    let set (s : State) (y : DramLane) : State := s.updChan n (fun x => { x with lanes := x.lanes.set k y })
    match found with
    | none => (set s { l with state := 2 }).ev 0x0906 (memSrc n) (k * 256)
    | some v =>
      let moved := (v.1, v.2.1, v.2.2.1) != (l.vref, l.wr, l.rd)
      let s := set s { l with state := (if l.repaired then 1 else 0), eye := v.2.2.2
                              next := if moved then some (v.1, v.2.1, v.2.2.1) else none }
      if l.state == 2 then s.ev 0x0907 (memSrc n) (k * 256 + v.2.2.2 % 256) else s
def execLaneRetrain (n : Nat) (found : Option (Nat × Nat × Nat × Nat)) (s : State) : Host.Outcome State Fault Refusal :=
  .next (s.laneRetrain n found)

/-- A channel is excluded (R339): reason 1 strobe, 2 repair exhausted, 3 no response. -/
def State.excludeChan (s : State) (n lane reason : Nat) : State :=
  let s := s.updChan n (fun x => { x with live := false, reason, lanes := x.lanes.upd lane (fun l => { l with state := 3 }) })
  let s := { s with excluded := if s.excluded.contains n then s.excluded else s.excluded ++ [n] }
  ((s.wrn (glb 0x80) (putBits (s.rdn (glb 0x80)) n n 0)).ev 0x0905 (memSrc n) (lane * 256 + reason)).replace n false

/-- What training leaves of one channel. -/
def State.trainChan (s : State) (t : ChanTraining) : State :=
  let n := t.chan
  let lanes : Tab DramLane := (List.range 8).map (fun k =>
    let v := t.lanes.getD k (0, 0, 0, 0)
    let rep := t.repaired.any (fun e => e.1 == k)
    (k, { state := bnat rep, vref := v.1, wr := v.2.1, rd := v.2.2.1, eye := v.2.2.2, repaired := rep }))
  let used (pc : Nat) : Nat := (t.repaired.filter (fun e => e.1 / 4 == pc)).length
  let s := s.updChan n (fun x => { x with lanes, repair := (used 0, used 1) })
  let s := t.repaired.foldl (fun s e => s.ev 0x0904 (memSrc n) (e.1 * 256 + e.2 % 256)) s
  match t.excluded with
  | some e => s.excludeChan n e.1 e.2
  | none => (s.updChan n (fun x => { x with live := true })).wrn (glb 0x80) (putBits (s.rdn (glb 0x80)) n n 1)

/-- A stack crosses 85 °C; REFI changes at each bank's next refresh (R330, R331). -/
def execMemTempChange (stack : Nat) (hot : Bool) (s : State) : Host.Outcome State Fault Refusal :=
  .next ((List.range 16).foldl (fun s k =>
    let n := 16 * stack + k
    if (s.chan n).hot == hot then s
    else (s.updChan n (fun x => { x with hot })).ev 0x090E (memSrc n) (bnat hot)) s)

/-! ### Self-refresh (R341) -/

/-- SR_REQ_SET. -/
def State.srSet (s : State) (n : Nat) : State :=
  let s := s.memGrants n
  let rt := s.st.regions.vals.any (fun r => r.cls == 0 && bit r.chMask n)
  let ex := s.excluded.contains n
  if rt || ex then (s.setFld (resReg n 0x004) 0 0 0).ev 0x090B (memSrc n) (bnat rt + 2 * bnat ex)
  else
    let s := s.setFld (resReg n 0x004) 0 0 1
    if s.holding n then s.updChan n (fun x => { x with abandoned := false })
    else s.updChan n (fun x => { x with entering := true, abandoned := false, srAt := s.now })
def execSrReqSet (n : Nat) (s : State) : Host.Outcome State Fault Refusal := .next (s.srSet n)

/-- Stack 1 reports SELF_REFRESH once every channel has entered (R432). -/
def State.stackEntered (s : State) : State :=
  if s.boot.srEntering && (List.range 16).all (fun i => s.selfRefresh.contains (16 + i) || s.excluded.contains (16 + i)) then
    ({ s.wrn (glb 0xA4) (s.rdn (glb 0xA4) ||| 2 ^ 25) with boot := { s.boot with srEntering := false } }).ev 0x0F04 0x5100 (25 * 2 ^ 24 + 1)
  else s

/-- SR_ENTRY_DONE: nothing is queued; the refreshes owed are issued, and the channel enters self-refresh. -/
def State.srEntered (s : State) (n : Nat) : State :=
  let x := s.chan n
  if !x.entering || x.abandoned || !x.rq.isEmpty || !x.wq.isEmpty then s
  else
    let owed := maxOf (x.banks.vals.map (·.owed))
    let s := s.runTo (s.now + 240 * owed)
    let s := s.setChan n { x with entering := false, banks := x.banks.mapv (fun _ b => { b with owed := 0, row := none }) }
    ({ s with selfRefresh := s.selfRefresh ++ [n] }.ev 0x0909 (memSrc n) (s.now - x.srAt)).stackEntered
def execSrEntryDone (n : Nat) (s : State) : Host.Outcome State Fault Refusal := .next (s.srEntered n)

/-- SR_REQ_CLEAR: exit, or the entry is abandoned once what was queued is done. -/
def State.srClear (s : State) (n : Nat) : State :=
  let s := s.setFld (resReg n 0x004) 0 0 0
  if s.selfRefresh.contains n then
    let s := { s with selfRefresh := s.selfRefresh.filter (· != n) }
    (s.updChan n (fun x => { x with ready := s.now + 600 })).ev 0x090A (memSrc n) (s.tport n).waiting.length
  else if (s.chan n).entering then (s.updChan n (fun x => { x with abandoned := true })).srAbandon n
  else s
def execSrReqClear (n : Nat) (s : State) : Host.Outcome State Fault Refusal := .next (s.srClear n)

/-- A write of RES_n.CTRL. -/
def State.resCtrl (s : State) (n : Nat) (w : Word) : State :=
  let s := s.setFld (resReg n 0x004) 1 1 (bits w.toNat 1 1)
  let was := s.fld (resReg n 0x004) 0 0 == 1
  if bit w.toNat 0 && !was then s.srSet n else if !bit w.toNat 0 && was then s.srClear n else s

end Sys2Proof.Machine
end

