-- ==== Sys2Proof/Machine/Host.lean ====
section
/-! DEFINITION. Host.lean: queues and doorbells, event queues, function resets, maintenance, VFs and the PCIe link
(05_host_interface, R113, R119 to R123, R134 to R136, R139 to R141). -/

namespace Sys2Proof.Machine

def sqReg (f q o : Nat) : Nat := funcReg f (0x100 + 0x40 * q + o)
def fnSrc (f : Nat) : Nat := 0x5100 + f
def State.sqOf (s : State) (f q : Nat) : SqPair := (s.func f).sqs.get q
def State.setSq (s : State) (f q : Nat) (x : SqPair) : State := s.updFunc f (fun y => { y with sqs := y.sqs.set q x })
/-- MAX_SQ of a function (R119): PF0 has 8 before the first accepted image. -/
def State.maxSqOf (s : State) (f : Nat) : Nat := if f == 0 && !s.img.everAccepted then 8 else (s.st.funcs.get f).maxSq

/-! ### Maintenance (R141) -/

/-- A change that may move a function's maintenance state is reported. -/
def State.maintStep (s : State) (f : Nat) (g : Func → Func) : State :=
  let t := s.updFunc f g
  if s.fnMaint f == t.fnMaint f then t else t.ev 0x0B06 (fnSrc f) (bnat (t.fnMaint f))
/-- The device enters or leaves maintenance. -/
def State.setDevMaint (s : State) (on : Bool) : State :=
  if s.devMaint == on then s else ({ s with devMaint := on }).ev 0x0B06 0x5100 (0x100 + bnat on)

/-! ### Queues (R119, R123) -/

/-- Every origin that a command in progress carries. -/
def State.mapOrigins (s : State) (g : Origin → Origin) : State :=
  let ls (l : List Latched) : List Latched := l.map (fun x => { x with o := g x.o })
  { s with
    doms := s.doms.mapv (fun _ d => { d with latched := ls d.latched, closing := ls d.closing })
    waiting := s.waiting.map (fun x => { x with o := g x.o })
    resets := s.resets.map (fun x => { x with o := g x.o })
    img := { s.img with loading := match s.img.loading with | some (.command o) => some (.command (g o)) | l => l }
    pair := { s.pair with yieldBy := s.pair.yieldBy.map (fun y => (g y.1, y.2)) } }
/-- A command of queue `q` of function `f` whose completion is to be discarded: it moves to queue 8, which is never
enabled. -/
def Origin.orphan (f q : Nat) (o : Origin) : Origin := if o.fn == f && o.q == q && o.tag != 0xFFFF then { o with q := 8 } else o

/-- Disabling a queue stops its fetching; commands already fetched run on, and their completions are discarded (R123). -/
def State.queueDisable (s : State) (f q : Nat) : State :=
  let x := s.sqOf f q
  let y := s.sqOf f 8
  ((s.mapOrigins (Origin.orphan f q)).setSq f q { x with en := false, running := 0 }).setSq f 8 { y with running := y.running + x.running }

/-- Is an enable refused (R119)? -/
def State.queueBad (s : State) (f q : Nat) (x : SqPair) : Bool :=
  decide (s.maxSqOf f ≤ q) || s.rdn (sqReg f q 0x00) % 4096 != 0 || s.rdn (sqReg f q 0x08) % 4096 != 0 ||
  decide (s.msixOf f ≤ x.vector) || x.sizeM1 == 0

/-- QUEUE_ENABLE: a write of FUNC_Ff.SQq_CFG. SIZE_M1 is ignored while the queue is enabled. -/
def State.queueCfg (s : State) (f q : Nat) (w : Word) : State :=
  let v := w.toNat
  let x : SqPair := { s.sqOf f q with vector := bits v 20 16, irqEn := bit v 8 }
  if 8 ≤ q || 64 ≤ f then s
  else if x.en then (if bit v 31 then s.setSq f q x else (s.setSq f q x).queueDisable f q)
  else
    let x := { x with sizeM1 := bits v 7 0 }
    if !bit v 31 then s.setSq f q x
    else if s.queueBad f q x then s.setSq f q { x with reason := 3 }
    else
      (s.setSq f q { en := true, vector := x.vector, irqEn := x.irqEn, sizeM1 := x.sizeM1, armed := true }).maintStep f
        (fun y => { y with fresh := false })
def execQueueEnable (f q : Nat) (w : Word) (s : State) : Host.Outcome State Fault Refusal := .next (s.queueCfg f q w)

/-- SQ_TAIL_DOORBELL: `whole` for a 32-bit write (R120). -/
def State.sqTail (s : State) (f q v : Nat) (whole : Bool) : State :=
  let x := s.sqOf f q
  if whole && decide (q < 8) && x.en && tailOk (x.sizeM1 + 1) x.sqHead x.sqTail v then s.setSq f q { x with sqTail := v }
  else s.doorbellInvalid f (0x1000 * q) v
def execSqTailDoorbell (f q v : Nat) (whole : Bool) (s : State) : Host.Outcome State Fault Refusal := .next (s.sqTail f q v whole)

/-- CQ_HEAD_DOORBELL: entries are released and the interrupt is armed again (R134). -/
def State.cqHead (s : State) (f q v : Nat) (whole : Bool) : State :=
  let x := s.sqOf f q
  if whole && decide (q < 8) && x.en && headOk (x.sizeM1 + 1) x.cqHead x.cqTail v then s.setSq f q { x with cqHead := v, armed := true }
  else s.doorbellInvalid f (0x1000 * q + 0x800) v
def execCqHeadDoorbell (f q v : Nat) (whole : Bool) (s : State) : Host.Outcome State Fault Refusal := .next (s.cqHead f q v whole)

/-! ### Event queues (R135, R136) -/

/-- EVQ_ENABLE: a write of FUNC_Ff.EVQ_CTRL. SIZE_LOG2 is ignored while the queue is enabled. -/
def State.evqCtrl (s : State) (f : Nat) (w : Word) : State :=
  let v := w.toNat
  let q := (s.func f).evq
  let q := { q with vector := bits v 20 16, overflow := q.overflow && !bit v 30 }
  let put (q : Evq) : State := s.updFunc f (fun y => { y with evq := q })
  if 64 ≤ f then s
  else if q.en then
    (if bit v 31 then put q else s.updFunc f (fun y => { y with evq := { q with en := false }, heldEvents := [] }))
  else
    let q := { q with sizeLog2 := bits v 4 0 }
    if bit v 31 && decide (6 ≤ q.sizeLog2) && decide (q.sizeLog2 ≤ 16) && s.rdn (funcReg f 0x800) % 4096 == 0 then
      put { q with en := true, head := 0, tail := 0, armed := true }
    else put q
def execEvqEnable (f : Nat) (w : Word) (s : State) : Host.Outcome State Fault Refusal := .next (s.evqCtrl f w)

/-- Records dropped are told once there is space. -/
def Func.tellDropped (y : Func) (f : Nat) (lost : Bool) (tick : Nat) : Func × List Output :=
  let q := y.evq
  if q.unsaid == 0 || q.full || y.d3hot then (y, [])
  else
    let r := ({ q with unsaid := 0 } : Evq).put f lost { code := 0x0B04, src := fnSrc f, tick, detail := q.unsaid % 2 ^ 32 }
    let i := ({ y with evq := r.1 } : Func).irq f q.vector (q.armed && !lost)
    (i.1, r.2 ++ i.2)
/-- EVQ_HEAD_WRITE: records are released; a value that does not stand is ignored. -/
def State.evqHead (s : State) (f : Nat) (w : Word) : State :=
  let q := (s.func f).evq
  if q.en && headOk q.size q.head q.tail w.toNat then
    let y : Func := { s.func f with evq := { q with head := w.toNat, armed := true } }
    let r := y.tellDropped f s.pcie.lost (s.eventTick 0xFFFF)
    { s with funcs := s.funcs.set f r.1, out := s.out ++ r.2 }
  else s
def execEvqHeadWrite (f : Nat) (w : Word) (s : State) : Host.Outcome State Fault Refusal := .next (s.evqHead f w)

/-! ### Image loads that are given up (R100) -/

/-- An IMAGE_LOAD is abandoned with reason ABANDONED. -/
def State.abandonLoad (s : State) : State :=
  match s.img.loading with
  | some (.command _) =>
    ({ s with img := { s.img with loading := none, reason := 0x12, failRecord := 0 } }).ev 0x0302 0x5100 (0x12 * 2 ^ 24)
  | _ => s

/-! ### Function-level reset (R139, R140) -/

/-- Commands of function `f` that have not begun: latched W commands and waiting P commands. -/
def State.notBegun (s : State) (f : Nat) : Nat :=
  sum (s.doms.vals.map (fun d => ((d.latched ++ d.closing).filter (fun x => x.o.fn == f)).length)) +
  (s.waiting.filter (fun x => x.o.fn == f)).length
def State.withdrawAll (s : State) (f : Nat) : State :=
  let keep (l : List Latched) : List Latched := l.filter (fun x => x.o.fn != f)
  { s with doms := s.doms.mapv (fun _ d => { d with latched := keep d.latched, closing := keep d.closing })
           waiting := s.waiting.filter (fun x => x.o.fn != f) }
/-- Commands of `f` that have begun and have not completed. -/
def State.begun (s : State) (f : Nat) : Nat :=
  (s.resets.filter (fun x => x.o.fn == f)).length + bnat (s.pair.yieldBy.any (fun y => y.1.fn == f))

/-- The Sluice channels of a function. -/
def State.sluicesOf (s : State) (f : Nat) : List Nat := (List.range 64).filter (fun g => (s.sluiceOwner g).any (fun o => o.1 == f))

/-- The maintenance commands that function `f` holds end. -/
def State.endMaint (s : State) (f : Nat) : State :=
  let s := (s.funcs.keys.filter (fun t => t != f && (s.func t).maintBy.contains f)).foldl (fun s t =>
    s.maintStep t (fun y => { y with maintBy := y.maintBy.filter (· != f) })) s
  if f == 0 && s.devMaintCmd then ({ s with devMaintCmd := false }).setDevMaint (!s.img.everAccepted) else s

/-- One function's reset. -/
def State.flrOne (s : State) (f : Nat) : State :=
  let withdrawn := s.notBegun f + bnat (f == 0 && s.img.loading.any (fun l => match l with | .command _ => true | _ => false))
  let gs := s.sluicesOf f
  let s := (s.withdrawAll f).mapOrigins (fun o => if o.fn == f && o.tag != 0xFFFF then { o with q := 8 } else o)
  let s := if f == 0 then s.abandonLoad else s
  let was := s.fnMaint f
  let y : Func := { sqs := Tab.set [] 8 { running := s.begun f }, maintBy := (s.func f).maintBy.filter (· != f) }
  let s := { s with
    funcs := s.funcs.set f y
    regs := s.regs.keep (fun a _ => !(decide (funcReg f 0 ≤ a) && decide (a < funcReg f 0x1000)))
    inl := { s.inl with rx := s.inl.rx.del f, tx := s.inl.tx.del f } }
  let s := gs.foldl State.sluiceDisable s
  let s := [0, 1].foldl (fun s b => if (s.bce b).holder == some f then s.bceDrop b 0 else s) s
  let s := (s.masterReset 20 (fun t => t.fn == some f)).endMaint f
  let s := if was then s else s.ev 0x0B06 (fnSrc f) 1
  s.ev 0x0B05 (fnSrc f) (sat 16 withdrawn * 2 ^ 16 + gs.length)

/-- The VFs above `n` are reset when VF Enable is cleared or NumVFs falls. -/
def State.setVfs (s : State) (n : Nat) : State :=
  if s.pcie.numVfs == n then s
  else
    let gone := (List.range (s.pcie.numVfs + 1)).filter (fun v => decide (n < v))
    (gone.foldl State.flrOne { s with pcie := { s.pcie with numVfs := n } }).ev 0x0B0A 0x5000 n
/-- FUNCTION_LEVEL_RESET; a reset of PF0 clears VF Enable (R140). -/
def State.flr (s : State) (f : Nat) : State := let s := s.flrOne f; if f == 0 then s.setVfs 0 else s
def execFunctionLevelReset (f : Nat) (s : State) : Host.Outcome State Fault Refusal := .next (if f < 64 then s.flr f else s)
/-- VF_ENABLE_CHANGED: NumVFs, 0 when disabled. -/
def execVfEnableChanged (n : Nat) (s : State) : Host.Outcome State Fault Refusal := .next (s.setVfs (min n 63))

/-! ### The link and power states (R113) -/

/-- LINK_UP at `rate` GT/s and `width` lanes. -/
def execLinkUp (rate width : Nat) (s : State) : Host.Outcome State Fault Refusal :=
  .next (if s.pcie.up || s.boot.perst then s
    else ({ s with pcie := { s.pcie with up := true, lost := false, rate, width } }).ev 0x0B08 0x5000 (rate % 256 * 256 + width % 256))
def State.linkDown (s : State) (ltssm : Nat) : State :=
  if s.pcie.up then ({ s with pcie := { s.pcie with up := false, lost := true } }).ev 0x0B09 0x5000 ltssm else s
/-- LINK_DOWN from LTSSM state `ltssm`. -/
def execLinkDown (ltssm : Nat) (s : State) : Host.Outcome State Fault Refusal := .next (s.linkDown ltssm)

/-- What a function held in D3hot is posted on its return to D0. -/
def State.wake (s : State) (f : Nat) : State :=
  let y := s.func f
  let s := { s with funcs := s.funcs.set f { y with d3hot := false, heldEvents := [], heldDone := [] } }
  let s := y.heldEvents.foldl (fun s e =>
    let r := (s.func f).deliver f s.pcie.lost (s.eventTick 0xFFFF) e
    { s with funcs := s.funcs.set f r.1, out := s.out ++ r.2 }) s
  y.heldDone.foldl (fun s c =>
    let x := s.func f
    if !(x.sqs.get c.q).en then s
    else
      let r := x.postDone f s.pcie.lost c
      let s := { s with funcs := s.funcs.set f r.1, out := s.out ++ r.2 }
      if s.pcie.lost && !(x.sqs.get c.q).error then s.ev 0x0B03 (fnSrc f) (c.q * 2 ^ 24 + 2 * 2 ^ 16) else s) s
/-- FUNCTION_POWER_STATE: D3hot or D0. -/
def execFunctionPowerState (f : Nat) (d3 : Bool) (s : State) : Host.Outcome State Fault Refusal :=
  .next (if 64 ≤ f then s else if d3 then s.updFunc f (fun y => { y with d3hot := true }) else if (s.func f).d3hot then s.wake f else s)

end Sys2Proof.Machine
end

