-- ==== Sys2Proof/Machine/Command.lean ====
section
/-! DEFINITION. Command.lean: the checks and the latching of commands that arrive at the arbiter (R118, R126 to R132),
P commands at their packet boundary (R314), unit resets and retirements (R142), maintenance and injection (R141, R418).
A command's operands are its submission entry as fields; a record that it reads from host memory is given as bytes, none
where the read fails (R123). -/

namespace Sys2Proof.Machine

/-! ### What the checks of R128 share -/

/-- Is the issuer PF0 or the owner? -/
def Origin.owns (o : Origin) (owner : Nat) : Bool := o.fn == 0 || o.fn == owner
/-- Before WAIT_IMAGE and in RECOVERY no object exists (R424). -/
def State.early (s : State) : Bool := decide (s.boot.stage < 3) || s.boot.stage == 15
/-- A device in fatal state takes no command that changes state (R406). -/
def State.isFatal (s : State) : Bool := s.ras.fatal != 0
def State.courseThere (s : State) (c : Nat) : Bool := s.st.courses.has c && !s.early
def State.rendThere (s : State) (r : Nat) : Bool := s.st.rends.has r && !s.early
/-- The checks of a command on a course that changes state: its values and its target, its owner, standby, fatal. -/
def State.courseChecks (s : State) (o : Origin) (c : Nat) (ok : Bool) : List (Bool × Status) :=
  [(ok && s.courseThere c, .badParam), (o.owns (s.st.courseOwner c), .notOwner), (!s.standby, .standby), (!s.isFatal, .noResource)]
/-- A host buffer that cannot be read or written ends its command with INFO 0xFFFF (R123). -/
def State.bufferLost (s : State) (o : Origin) : State := s.complete o .badParam 0xFFFF 0
/-- Latch for the Weir of a course's domain. -/
def State.latchC (s : State) (c : Nat) (o : Origin) (x : WCmd) : State := s.latchW (s.domOf c) o x

/-! ### Course commands -/

def execCourseStart (o : Origin) (c : Nat) (s : State) : Host.Outcome State Fault Refusal :=
  .next (s.checked o (s.courseChecks o c true) (fun s => s.latchC c o (.courseStart c)))
def execCourseStop (o : Origin) (c : Nat) (s : State) : Host.Outcome State Fault Refusal :=
  .next (s.checked o (s.courseChecks o c true) (fun s => s.latchC c o (.courseStop c)))
/-- KEY_NOW, from a queue or from CRS_Cnn.KEY_CTRL (R118). -/
def State.keyNowCmd (s : State) (o : Origin) (c : Nat) : State :=
  s.checked o (s.courseChecks o c true) (fun s => s.latchC c o (.keyNow c))
def execKeyNow (o : Origin) (c : Nat) (s : State) : Host.Outcome State Fault Refusal := .next (s.keyNowCmd o c)

/-! ### Admission of a latched change (R129) -/

/-- Commands latched in a domain, those of a Weir in progress first. -/
def State.latchedIn (s : State) (d : Nat) : List WCmd := ((s.dom d).closing ++ (s.dom d).latched).map (·.cmd)
/-- The slowest effort of a rendition among the running one and those latched. -/
def State.slowest (s : State) (l : List WCmd) (r : Nat) : Nat :=
  maxOf (s.effortBase r :: l.filterMap (fun w => match w with
    | .rcSet q p => if q == r && bit p.mask 3 then some p.effort else none | _ => none))
/-- The delays of a course among the running one and those latched. -/
def State.delays (s : State) (l : List WCmd) (c : Nat) : List Nat :=
  (s.st.courses.get c).delayLines :: l.filterMap (fun w => match w with
    | .courseSet q 4 v => if q == c then some v else none | _ => none)
/-- The reason that refuses a change in domain `d`: 0x25 DELAY, 0x26 TARN_LOAD. -/
def State.admitsW (s : State) (d : Nat) (own : WCmd) : Option Nat :=
  let l := s.latchedIn d ++ [own]
  let t := s.asPlaced
  let eff := s.slowest l
  let ns := (t.segs.vals.filter (fun g => s.domOf (t.courseOfRend g.rendition) == d)).map (·.tarn)
  if (t.coursesOf d).any (fun c => c.fixed && (let v := s.delays l c.course
      !t.delayOk s.liveRes eff c (v.foldl min (v.headD 0)) (maxOf v))) then some 0x25
  else if ns.eraseDups.any (fun n => decide (t.cap d < t.tarnLoad {} eff n)) then some 0x26
  else none
/-- Check 7, then latching. -/
def State.admitLatch (s : State) (d : Nat) (o : Origin) (x : WCmd) (adm : Bool) : State :=
  match if adm then s.admitsW d x else none with
  | some r => s.complete o .refusedAdmission r 0
  | none => s.latchW d o x

/-- Range of a COURSE_SET value: that of the record field; DELAY_LINES is 0 in a READY course (R86). -/
def State.courseSetOk (s : State) (c field v : Nat) : Bool :=
  match field with
  | 1 => decide (1 ≤ v) && decide (v ≤ 255)
  | 2 => decide (v ≤ 65535)
  | 3 => decide (v ≤ 1)
  | 4 => decide (v ≤ 65535) && ((s.st.courses.get c).fixed || v == 0)
  | _ => false
def execCourseSet (o : Origin) (c field v : Nat) (s : State) : Host.Outcome State Fault Refusal :=
  .next (s.checked o (s.courseChecks o c (s.courseSetOk c field v)) (fun s =>
    s.admitLatch (s.domOf c) o (.courseSet c field v) (field == 4)))

/-- Ranges of RC_SET and the combinations of R127: fields outside MASK are not looked at. -/
def State.rcSetOk (s : State) (r : Nat) (p : RcSet) : Bool :=
  let q := s.st.rends.get r
  let x := s.rend r
  let rate := if bit p.mask 1 then p.maxRate else x.raiseRate.getD x.rate
  let buf := if bit p.mask 2 then p.bufSize else x.raiseBuf.getD x.buf
  decide (p.mask < 16) && (!bit p.mask 0 || decide (p.cq ≤ 63)) && (!bit p.mask 3 || decide (p.effort ≤ 2)) &&
    (!bit p.mask 1 || (decide (64 ≤ p.maxRate) && decide (p.maxRate ≤ 400000000))) &&
    (p.mask / 2 % 4 == 0 || (s.placedSt.rateOk q rate buf && ringFits q buf))
def execRcSet (o : Origin) (r : Nat) (p : RcSet) (s : State) : Host.Outcome State Fault Refusal :=
  let c := s.st.courseOfRend r
  .next (s.checked o (s.courseChecks o c (s.rendThere r && s.rcSetOk r p)) (fun s =>
    s.admitLatch (s.domOf c) o (.rcSet r p) (bit p.mask 3)))

/-! ### Layers (R198, R205 to R207) -/

/-- The layer as the command would leave it. -/
def Layer.with (y : Layer) (p : LayerSet) : Geometry × Bool :=
  (if bit p.mask 0 then p.geo else y.geo, if bit p.mask 1 then p.enabled == 1 else y.enabled)
/-- Check 1 of LAYER_SET: ranges, and R205 for a geometry. -/
def State.layerSetOk (s : State) (c l : Nat) (p : LayerSet) : Bool :=
  let r := s.st.layers.get (12 * c + l)
  let i := s.st.inputs.get (4 * c + r.source)
  s.st.layers.has (12 * c + l) && decide (l < 12) && decide (p.mask < 16) && decide (p.fill < 2 ^ 30) &&
    (!bit p.mask 0 || geometryOk (s.st.courses.get c) (l < 4) i.width i.height p.geo) &&
    (!bit p.mask 1 || decide (p.enabled ≤ 1)) && (!bit p.mask 2 || decide (p.alpha ≤ 255)) &&
    (!bit p.mask 3 || decide (p.fallback ≤ 2))
/-- Check 6: a layer without geometry stays disabled, the line store, the Mere's source budget. -/
def State.layerFits (s : State) (c l : Nat) (p : LayerSet) : Bool :=
  let x := s.st.courses.get c
  let n := (s.layer c l).with p
  let budget := sum ((s.st.layersOf c).map (fun r =>
    let y := if r.layer == l then n else ((s.layer c r.layer).geo, (s.layer c r.layer).enabled)
    if r.layer < 4 && y.2 then y.1.srcW * y.1.srcH else 0))
  !(n.2 && n.1.absent) && (!bit p.mask 0 || decide (4 ≤ l) || lineFit mereStore n.1.srcW n.1.srcH n.1.dstH) &&
    decide (budget ≤ 4 * pix x.width x.height)
def execLayerSet (o : Origin) (c l : Nat) (p : LayerSet) (s : State) : Host.Outcome State Fault Refusal :=
  .next (s.checked o (s.courseChecks o c (s.layerSetOk c l p) ++ [(s.layerFits c l p, .layerGeometry)]) (fun s =>
    s.latchC c o (.layerSet c l p)))
/-- Check 1 of LAYER_FLIP (R198). -/
def State.flipOk (s : State) (c l surface pitch : Nat) : Bool :=
  let g := (s.layer c l).geo
  let video := decide (l < 4)
  s.st.layers.has (12 * c + l) && decide (l < 12) &&
    ((video && surface == 0) ||
     (surface != 0 && pitchOk surface pitch (if video then g.dstW else g.srcW) &&
      s.st.surfaceOk (s.st.courseOwner c) surface pitch (if video then g.dstH else g.srcH)))
def execLayerFlip (o : Origin) (c l surface pitch : Nat) (s : State) : Host.Outcome State Fault Refusal :=
  .next (s.checked o (s.courseChecks o c (s.flipOk c l surface pitch)) (fun s => s.latchC c o (.layerFlip c l surface pitch)))

/-! ### P commands: arrival (R127, R128, R150, R314 to R316) -/

/-- The structure once a P command has taken effect. -/
def Structure.applyP (t : Structure) : PCmd → Structure
  | .subAdd r | .subPut r => { t with subs := t.subs.set r.subscriber r }
  | .subDel n => { t with subs := t.subs.del n }
  | .subSet n p =>
    let u := t.subs.get n
    let u := if bit p.mask 0 then { u with rates := p.rates } else u
    let u := if bit p.mask 1 then { u with weight := p.weight } else u
    let u := if bit p.mask 2 then { u with enabled := p.enabled == 1 } else u
    { t with subs := t.subs.set n (if bit p.mask 3 then { u with dscp := p.dscp } else u) }
  | .serviceAdd r _ | .servicePut r => { t with services := t.services.set r.service r }
  | .serviceReplace r _ =>
    { t with services := t.services.set r.service { t.services.get r.service with rates := r.rates, weight := r.weight } }
  | .serviceRemove n => { t with services := t.services.del n }
  | .inflowAdd r | .inflowPut r => { t with inflows := t.inflows.set r.inflow r }
  | .inflowDel n => { t with inflows := t.inflows.del n }

/-- The structure once every waiting P command has taken effect: what numbers and quotas are counted against. -/
def State.soon (s : State) : Structure := s.waiting.foldl (fun t w => t.applyP w.cmd) s.st
/-- Is the count of a function below its quota (R83)? A function without an enabled FUNCTION record owns nothing. -/
def Structure.below (t : Structure) (f count : Nat) (quota : FunctionRec → Nat) : Bool :=
  (t.funcs.get f).enabled && decide (count < quota (t.funcs.get f))
/-- A P command waits for its packet boundary. -/
def State.await (s : State) (o : Origin) (c : PCmd) : State := { s with waiting := s.waiting ++ [{ o, cmd := c }] }

/-- Does a record hold by itself and in the running structure (check 1)? -/
def State.recOk (s : State) (r : Rec) : Bool := let t := s.st.addRec r; !t.fieldFault r && !t.refFault r && !s.early
/-- R316 for a subscriber about to be added. -/
def Structure.cirFits (t : Structure) (ports : Tab OutPort) (u : SubRec) : Bool :=
  let v := t.services.get u.service
  decide (t.childCir v.service ≤ v.rates.pir) && decide (t.portCir v.port ≤ (ports.get v.port).rates.pir)

/-- SUB_ADD, with the record as read from host memory. -/
def State.subAdd (s : State) (o : Origin) (b : Bytes) : State :=
  match hostRecord 0x0220 b with
  | some (.sub _ r) =>
    let own := (s.st.services.get r.service).owner
    let t := s.soon
    let n := (t.subs.vals.filter (fun u => (t.services.get u.service).owner == own)).length
    s.checked o [(s.recOk (.sub 0 r), .badParam), (o.owns own, .notOwner), (!s.standby, .standby),
      (!s.isFatal && !t.subs.has r.subscriber && t.below own n (·.maxSubscribers), .noResource)] (fun s =>
      if (t.applyP (.subAdd r)).cirFits s.outf.ports r then s.await o (.subAdd r) else s.complete o .refusedAdmission 0x20 0)
  | _ => s.complete o .badParam 0 0
def execSubAdd (o : Origin) (b : Option Bytes) (s : State) : Host.Outcome State Fault Refusal :=
  .next (match b with | some b => s.subAdd o b | none => s.bufferLost o)

/-- The checks of a P command on a present object. -/
def State.objChecks (s : State) (o : Origin) (ok : Bool) (owner : Nat) : List (Bool × Status) :=
  [(ok && !s.early, .badParam), (o.owns owner, .notOwner), (!s.standby, .standby), (!s.isFatal, .noResource)]
def State.subOwner (s : State) (u : Nat) : Nat := (s.st.services.get (s.st.subs.get u).service).owner
def execSubDel (o : Origin) (n : Nat) (s : State) : Host.Outcome State Fault Refusal :=
  .next (s.checked o (s.objChecks o (s.st.subs.has n) (s.subOwner n)) (fun s => s.await o (.subDel n)))

/-- Rates of a record in range (R95). -/
def Rates.inRange (r : Rates) : Bool :=
  [r.cir, r.pir].all (fun v => decide (8 ≤ v) && decide (v ≤ 50000000)) && [r.cbs, r.pbs].all (fun v => decide (1 ≤ v) && decide (v ≤ 16777216)) && r.ok
def SubSet.ok (p : SubSet) : Bool :=
  decide (p.mask < 16) && (!bit p.mask 0 || (p.rates.inRange && decide (p.resetTo ≤ 1))) &&
    (!bit p.mask 1 || (decide (1 ≤ p.weight) && decide (p.weight ≤ 1023))) && (!bit p.mask 2 || decide (p.enabled ≤ 1)) &&
    (!bit p.mask 3 || decide (p.dscp ≤ 63))
def execSubSet (o : Origin) (n : Nat) (p : SubSet) (s : State) : Host.Outcome State Fault Refusal :=
  .next (s.checked o (s.objChecks o (s.st.subs.has n && p.ok) (s.subOwner n)) (fun s => s.await o (.subSet n p)))

/-- SERVICE_SET add. -/
def State.serviceAdd (s : State) (o : Origin) (target resetTo : Nat) (b : Bytes) : State :=
  match hostRecord 0x0210 b with
  | some (.service _ r) =>
    let t := s.soon
    let n := (t.services.vals.filter (fun v => v.owner == r.owner)).length
    s.checked o [(r.service == target && decide (resetTo ≤ 1) && s.recOk (.service 0 r), .badParam), (o.owns r.owner, .notOwner),
      (!s.standby, .standby), (!s.isFatal && !t.services.has r.service && t.below r.owner n (·.maxServices), .noResource)]
      (fun s => s.await o (.serviceAdd r resetTo))
  | _ => s.complete o .badParam 0 0
def execServiceSetAdd (o : Origin) (target resetTo : Nat) (b : Option Bytes) (s : State) : Host.Outcome State Fault Refusal :=
  .next (match b with | some b => s.serviceAdd o target resetTo b | none => s.bufferLost o)
/-- SERVICE_SET replace: OWNER and PORT stay. -/
def State.serviceReplace (s : State) (o : Origin) (target resetTo : Nat) (b : Bytes) : State :=
  match hostRecord 0x0210 b with
  | some (.service _ r) =>
    let v := s.st.services.get target
    s.checked o (s.objChecks o (s.st.services.has target && r.service == target && decide (resetTo ≤ 1) && r.owner == v.owner && r.port == v.port)
      v.owner) (fun s => s.await o (.serviceReplace r resetTo))
  | _ => s.complete o .badParam 0 0
def execServiceSetReplace (o : Origin) (target resetTo : Nat) (b : Option Bytes) (s : State) : Host.Outcome State Fault Refusal :=
  .next (match b with | some b => s.serviceReplace o target resetTo b | none => s.bufferLost o)
/-- SERVICE_SET remove: refused while the service has subscribers, those that wait to be added included. -/
def execServiceSetRemove (o : Origin) (n : Nat) (s : State) : Host.Outcome State Fault Refusal :=
  let used := (s.st.subs.vals ++ s.soon.subs.vals).any (fun u => u.service == n)
  .next (s.checked o (s.objChecks o (s.st.services.has n && !used) (s.st.services.get n).owner) (fun s => s.await o (.serviceRemove n)))

/-- INFLOW_ADD (R150). -/
def State.inflowAdd (s : State) (o : Origin) (b : Bytes) : State :=
  match hostRecord 0x0200 b with
  | some (.inflow _ r) =>
    let t := s.soon
    let n := (t.inflows.vals.filter (fun f => f.owner == r.owner)).length
    s.checked o [(s.recOk (.inflow 0 r) && !t.inflows.vals.any (fun f => f.inflow != r.inflow && f.key == r.key), .badParam),
      (o.owns r.owner, .notOwner), (!s.standby, .standby),
      (!s.isFatal && !t.inflows.has r.inflow && t.below r.owner n (·.maxInflows), .noResource)] (fun s => s.await o (.inflowAdd r))
  | _ => s.complete o .badParam 0 0
def execInflowAdd (o : Origin) (b : Option Bytes) (s : State) : Host.Outcome State Fault Refusal :=
  .next (match b with | some b => s.inflowAdd o b | none => s.bufferLost o)
/-- INFLOW_DEL: refused while an INPUT record names the inflow. -/
def execInflowDel (o : Origin) (n : Nat) (s : State) : Host.Outcome State Fault Refusal :=
  let named := s.st.inputs.vals.any (fun i => i.source == 0 && i.sourceIndex == n)
  .next (s.checked o (s.objChecks o (s.st.inflows.has n && !named) (s.st.inflows.get n).owner) (fun s => s.await o (.inflowDel n)))

/-! ### P commands: the packet boundary (R130, R314, R394) -/

/-- Registers [a, b) return to their reset values: the counters of a new object. -/
def State.clearRegs (s : State) (a b : Nat) : State := { s with regs := s.regs.keep (fun k _ => !(decide (a ≤ k) && decide (k < b))) }
/-- The port at whose frame boundary a P command takes effect; none for an inflow. -/
def Structure.pPort (t : Structure) : PCmd → Option Nat
  | .subAdd r | .subPut r => some (t.services.get r.service).port
  | .subDel n | .subSet n _ => some (t.services.get (t.subs.get n).service).port
  | .serviceAdd r _ | .servicePut r => some r.port
  | .serviceReplace r _ => some (t.services.get r.service).port
  | .serviceRemove n => some (t.services.get n).port
  | _ => none

/-- The key request of a joining subscriber enters as a command of the course's owner; a standby makes none (R301). -/
def State.joinLatch (s : State) (u : Nat) : State :=
  match s.joinOf u with
  | some r => if s.standby then s else s.latchW (s.domRend r) { fn := s.st.courseOwner (s.st.courseOfRend r) } (.joinKey r)
  | none => s
/-- A subscriber is made: its record is in the table. -/
def State.subCreate (s : State) (u : Nat) : State := ((s.clearRegs (outSub u 0) (outSub u 0x80)).subMake u).joinLatch u
def State.svcCreate (s : State) (v resetTo : Nat) : State :=
  let s := (s.clearRegs (outSvc v 0) (outSvc v 0x40)).svcMake v
  s.setOsvc v ((s.osvc v).resetTo (s.st.services.get v).rates resetTo s.now)

/-- Does the object that a P command names exist at its boundary? -/
def State.pThere (s : State) : PCmd → Bool
  | .subAdd r | .subPut r => s.st.rends.has r.rendition && s.st.services.has r.service
  | .subDel n | .subSet n _ => s.st.subs.has n
  | .serviceReplace r _ => s.st.services.has r.service
  | .serviceRemove n => s.st.services.has n
  | .inflowDel n => s.st.inflows.has n
  | _ => true

/-- SUB_SET takes effect: the record is already changed, `old` is it before. -/
def State.subSetDone (s : State) (n : Nat) (p : SubSet) (old : SubRec) : State :=
  let u := s.st.subs.get n
  let x := s.osub n
  let s := if bit p.mask 0 then (s.setOsub n { x with node := x.node.resetTo u.rates p.resetTo s.now }).overcommitSvc u.service else s
  if u.enabled && !old.enabled then (s.subStart n).joinLatch n else s

/-- A P command takes effect (R314, R315, R150). -/
def State.applyP (s : State) (c : PCmd) : State :=
  let old := s.st
  let s := { s with st := s.st.applyP c }
  match c with
  | .subAdd r => s.subCreate r.subscriber
  | .subPut r => s.subCreate r.subscriber
  | .subDel n => s.updOut (fun o => { o with subs := o.subs.del n })
  | .subSet n p => s.subSetDone n p (old.subs.get n)
  | .serviceAdd r how => (s.svcCreate r.service how).overcommitPort r.port
  | .servicePut r => (s.svcCreate r.service 0).overcommitPort r.port
  | .serviceReplace r how =>
    let v := r.service
    let s := s.setOsvc v ((s.osvc v).resetTo r.rates how s.now)
    (s.overcommitSvc v).overcommitPort (s.st.services.get v).port
  | .serviceRemove n => s.updOut (fun o => { o with svcs := o.svcs.del n })
  | .inflowAdd r => s.inflowCreated r
  | .inflowPut r => (if old.inflows.has r.inflow then s.inflowDeleted (old.inflows.get r.inflow) else s).inflowCreated r
  | .inflowDel n => s.inflowDeleted (old.inflows.get n)

/-- INFO of a P command's completion (R125). -/
def PCmd.info : PCmd → Nat
  | .subAdd r => r.subscriber
  | .serviceAdd r _ | .serviceReplace r _ => r.service
  | .serviceRemove n => n
  | .inflowAdd r => r.inflow
  | _ => 0
/-- The domain in whose snapshot an ACTIVE device journals a P command (R394). -/
def State.pDomain (s : State) (c : PCmd) : Nat :=
  match c with
  | .subAdd r => s.domRend r.rendition
  | .subDel n | .subSet n _ => s.domRend (s.st.subs.get n).rendition
  | _ => s.st.domains.keys.headD 0

/-- Has every record of a partial image applied (R108)? The P commands of an image carry function 64 and its sequence. -/
def State.imageDone (s : State) (p : Partial) : Bool :=
  p.recs.isEmpty && !s.waiting.any (fun w => w.o.fn == 64 && w.o.q == p.seq)
def State.imageApplied (s : State) (p : Partial) : State :=
  let s := { s with img := { s.img with
    partials := s.img.partials.filter (fun q => q.seq != p.seq), runningSeq := max s.img.runningSeq p.seq } }
  p.domains.foldl (fun s d => s.ev 0x0303 (0x4100 + d) p.seq) s
/-- Partial images that have applied everywhere are reported. -/
def State.imageSettle (s : State) : State :=
  if s.img.replacing.isSome then s else (s.img.partials.filter s.imageDone).foldl State.imageApplied s

/-- P_COMMAND_APPLY: the `k`-th waiting command reaches its packet boundary. Commands on one port, and those on inflows,
take effect in order of arrival. -/
def State.pApply (s : State) (k : Nat) : State :=
  match s.waiting[k]? with
  | none => s
  | some w =>
    let t := s.soon
    let port := t.pPort w.cmd
    if (s.waiting.take k).any (fun v => t.pPort v.cmd == port) then s
    else
      let s := match port with | some n => (s.runTo (s.oport n).free).portSettle n | none => s
      let s := { s with waiting := s.waiting.eraseIdx k }
      if !s.pThere w.cmd then (s.complete w.o .badParam 0 0).imageSettle
      else
        let d := s.pDomain w.cmd
        let time := linear s.time.phc
        let s := (s.applyP w.cmd).complete w.o .ok w.cmd.info time
        if w.o.fn == 64 then s.imageSettle else s.journal d [.packet w.o.fn time w.cmd]
def execPCommandApply (k : Nat) (s : State) : Host.Outcome State Fault Refusal := .next (s.pApply k)

/-! ### Unit resets and retirements (R142, R430) -/

/-- Does UNIT_RESET accept the unit? -/
def State.resettable (s : State) (src : Nat) : Bool :=
  let n := src % 256
  match src / 256 with
  | 0x22 => decide (n < 64) | 0x23 => decide (n < 2) | 0x24 => decide (n < 16) | 0x32 => decide (n < 16) && s.st.portFormed n
  | _ => retirable src && !s.unitOff src
/-- What the reset does to the unit. -/
def State.unitStop (s : State) (src : Nat) : State :=
  let n := src % 256
  match src / 256 with
  | 0x10 => (s.spillTarn n).updTarn n (fun t => { t with items := [], held := true })
  | 0x22 => s.sluiceDisable n
  | 0x23 => s.bceDrop n 0
  | 0x24 => s.chkReset n
  | 0x32 => (s.portDown n 1).portFormedLat n
  | _ => s.freezeUnit src
/-- UNIT_RESET. -/
def execUnitReset (o : Origin) (src : Nat) (s : State) : Host.Outcome State Fault Refusal :=
  .next (s.checked o [(s.resettable src && !s.early, .badParam), (o.fn == 0, .notOwner)] (fun s =>
    let s := (s.unitStop src).unitBurst src
    { s with resets := s.resets ++ [{ o, src, at_ := s.now }] }))
/-- UNIT_RESET_DONE: the first reset of the unit that began has taken `cycles`, at most 4,096 + TIMEOUT. -/
def execUnitResetDone (src cycles : Nat) (s : State) : Host.Outcome State Fault Refusal :=
  .next (match s.resets.find? (fun x => x.src == src) with
    | none => s
    | some x =>
      if 4096 + s.rdn (cnfReg 0x000) < cycles then s
      else
        let s := { s.runTo (x.at_ + cycles) with resets := s.resets.erase x }
        (s.complete x.o .ok 0 cycles).ev 0x0B07 src cycles)

/-- UNIT_RETIRE latches for the first domain the unit serves; a unit that serves none retires on arrival. -/
def execUnitRetire (o : Origin) (src : Nat) (s : State) : Host.Outcome State Fault Refusal :=
  .next (s.checked o [(retirable src && !s.early, .badParam), (o.fn == 0, .notOwner)] (fun s =>
    match s.unitDomain src with
    | some d => s.latchW d o (.unitRetire src)
    | none => (s.retireUnit src 3 false).complete o .ok 0 0))

/-! ### TEST_CTL (R141, R418) -/

/-- Who may issue TEST_CTL: PF0, or a VF with SCOPE 0 for itself. -/
def Origin.mayTest (o : Origin) (target scope : Nat) : Bool := o.fn == 0 || (scope == 0 && target == o.fn)
def testOk (target scope : Nat) : Bool :=
  decide (scope ≤ 1) && (decide (target < 64) || (scope == 1 && target == 0xFFFF))
def State.testChecks (s : State) (o : Origin) (target scope : Nat) : List (Bool × Status) :=
  [(testOk target scope && !s.early, .badParam), (o.mayTest target scope, .notOwner)]
def execTestCtlEnterMaint (o : Origin) (target scope : Nat) (s : State) : Host.Outcome State Fault Refusal :=
  .next (s.checked o (s.testChecks o target scope) (fun s =>
    let s := if scope == 1 then ({ s with devMaintCmd := true }).setDevMaint true
      else s.maintStep target (fun f => { f with maintBy := if f.maintBy.contains o.fn then f.maintBy else f.maintBy ++ [o.fn] })
    s.complete o .ok 0 0))
def execTestCtlLeaveMaint (o : Origin) (target scope : Nat) (s : State) : Host.Outcome State Fault Refusal :=
  .next (s.checked o (s.testChecks o target scope) (fun s =>
    let s := if scope == 1 then ({ s with devMaintCmd := false }).setDevMaint (!s.img.everAccepted)
      else s.maintStep target (fun f => { f with maintBy := f.maintBy.filter (· != o.fn) })
    s.complete o .ok 0 0))

/-- Does a KIND of injection suit its target (R418)? -/
def injectable (target kind arg : Nat) : Bool :=
  match kind with
  | 1 | 2 => isUnit target
  | 3 | 4 => isUnit target || (target / 256 == 0x20 && decide (target % 256 < 32)) || target == 0x2100 ||
      (target / 256 == 0x22 && decide (target % 256 < 64)) || (target / 256 == 0x23 && decide (target % 256 < 2)) ||
      (target / 256 == 0x24 && decide (target % 256 < 16)) || target == 0x3000 || target == 0x3100 ||
      (target / 256 == 0x32 && decide (target % 256 < 16)) || target == 0x4000 || target == 0x4200 || target == 0x5000
  | 5 | 6 => target / 256 == 0x20 && decide (target % 256 < 32)
  | 7 => target == 0x2100 && decide (arg < 38)
  | 8 | 10 => target == 0x5100
  | 9 => target == 0x4200
  | _ => false
/-- TEST_CTL SUBOP 16. KIND 8 holds its offset from now on; KIND 10 meets its path at once. -/
def execTestCtlInject (o : Origin) (scope target kind addr arg : Nat) (s : State) : Host.Outcome State Fault Refusal :=
  .next (s.checked o [(scope == 1 && injectable target kind arg && !s.early, .badParam), (o.fn == 0, .notOwner),
      (s.devMaint, .notMaintenance)] (fun s =>
    let s := match kind with
      | 8 => { s with ras := { s.ras with offset := signed 32 arg } }
      | 10 => (s.ev 0x0D0B target 10).fatal 6 true
      | _ => { s with ras := { s.ras with inj := s.ras.inj ++ [Injection.mk target kind addr arg] } }
    s.complete o .ok 0 0))

end Sys2Proof.Machine
end

