-- ==== Sys2Proof/Machine/Healing.lean ====
section
/-! DEFINITION. Healing.lean: healing as it is asked for, granted and received (R398). -/

namespace Sys2Proof.Machine

/-! ### On an ACTIVE device -/

/-- Bytes reserved in the windows of a domain. -/
def State.healReserved (s : State) (d : Nat) : Nat :=
  sum ((s.pair.healTx.filter (fun e => s.domRend e.1 == d)).map (·.2.reserved))
/-- A listed rendition begins to be healed where the budget left covers a whole picture of it. -/
def State.healStart (s : State) (r : Nat) : State :=
  let n := s.healPicture r
  if !s.st.rends.has r || s.pair.healTx.has r || decide (s.st.pair.healBudget < s.healReserved (s.domRend r) + n) then s
  else { s with pair := { s.pair with healTx := s.pair.healTx.set r { reserved := n } } }
/-- HEAL_LIST_RECEIVED: a STATUS message, in the order in which the standby lists its renditions. -/
def execHealListReceived (rends : List Nat) (s : State) : Host.Outcome State Fault Refusal :=
  .next (if s.pair.role == 3 && s.guavoUp && s.st.pair.healBudget != 0 then rends.foldl State.healStart s else s)

/-! ### On a standby -/

/-- The renditions that a standby lists: UNSYNCED or HEALING, in descending PRIORITY, then ascending number. -/
def State.healList (s : State) : List Nat :=
  ((s.st.rends.vals.filter (fun q => (s.rend q.rendition).unsynced || (s.rend q.rendition).healing)).mergeSort (fun a b =>
    decide (b.priority < a.priority) || (a.priority == b.priority && decide (a.rendition ≤ b.rendition)))).map (·.rendition)

/-- A rendition's picture in coding is let go, with its bands on Tarns and at Spillway units. -/
def State.dropCoding (s : State) (r : Nat) : State :=
  { s with
    rends := s.rends.upd r (fun x => { x with cur := none })
    tarns := s.tarns.mapv (fun _ t => { t with items := t.items.filter (fun i => i.seg / 16 != r) })
    spills := s.spills.mapv (fun _ u => { u with queue := u.queue.filter (fun j => j.seg / 16 != r) }) }

/-- One band of a picture arrives: a new picture begins, or the run begins again where one is missing. -/
def HealRx.take (h : HealRx) (m : HealMsg) : HealRx :=
  let goesOn := h.got == [] && decide (0 < h.run) && m.order == h.order + 1
  let h := if m.picture == h.picture && m.order == h.order && h.got != [] then h
    else if goesOn then { h with picture := m.picture, order := m.order, key := m.key, got := [], blocks := [] }
    else { total := h.total, picture := m.picture, order := m.order, key := m.key }
  let h := if h.got.contains m.band then h
    else { h with got := h.got ++ [m.band], blocks := h.blocks ++ m.blocks, state := m.state.orElse (fun _ => h.state) }
  if h.got.length < m.bands then h
  else { h with
    got := [], run := h.run + 1, total := h.total + 1, fromKey := if h.run == 0 then h.key else h.fromKey
    pics := h.pics ++ [h.picture], contents := h.contents ++ [h.blocks] }

/-- HEAL_RECEIVED: from the first message of an UNSYNCED rendition the standby is HEALING it and codes nothing of it. -/
def State.healReceived (s : State) (m : HealMsg) : State :=
  let r := m.rend
  let x := s.rend r
  if !(s.standby && s.st.rends.has r && (x.unsynced || x.healing)) then s
  else
    let s := if x.healing then s else (s.dropCoding r).setRend r { (s.dropCoding r).rend r with healing := true }
    ({ s with pair := { s.pair with healRx := s.pair.healRx.set r ((s.pair.healRx.get r).take m) } }).inc64 (guavoReg 0x30) m.bytes
def execHealReceived (m : HealMsg) (s : State) : Host.Outcome State Fault Refusal := .next (s.healReceived m).pace

/-- Does a standby hold what it needs to resume a rendition? -/
def HealRx.enough (h : HealRx) (reorder : Nat) : Bool :=
  h.state.isSome && decide (0 < h.run) && h.got == [] && (h.fromKey || decide (3 + reorder ≤ h.run))
/-- At a window opening the rendition resumes with the state of the last picture received. -/
def State.healResume (s : State) (q : RendRec) : State :=
  let r := q.rendition
  let h := s.pair.healRx.get r
  let x := s.rend r
  match h.state with
  | some y =>
    if !(x.healing && h.enough q.reorder) then s
    else
      let refs := ((h.pics.zip h.contents).map (fun e => ({ cap := e.1, digest := digestOf e.2, blocks := e.2 } : RefSlot))).reverse
      let s := s.setRend r { x with
        healing := false, unsynced := true, full := y.full, rate := y.rate, buf := y.buf, raiseRate := y.raiseRate, raiseBuf := y.raiseBuf
        aKey := y.aKey, aInter := y.aInter, eKey := y.eKey, eInter := y.eInter, gop := y.gop, refs := refs.take (3 + q.reorder) }
      let s := { s with pair := { s.pair with healRx := s.pair.healRx.del r } }
      (s.setHead q.course { s.head q.course with noise := y.noise }).evRd r 0x0C0E h.total
  | none => s

end Sys2Proof.Machine
end

