-- ==== Sys2Proof/Machine/Lanes.lean ====
section
/-! DEFINITION. Lanes.lean: calibration, bring-up, electrical idle, link training, loopbacks, patterns and margining
(20_lanes, R436 to R448). -/

namespace Sys2Proof.Machine

def State.setLane (s : State) (n : Nat) (x : Lane) : State := { s with lanes := s.lanes.set n x }
def laneSrc (n : Nat) : Nat := 0x3300 + n
def isEth (n : Nat) : Bool := decide (n < 32)
def isGv (n : Nat) : Bool := decide (32 ≤ n) && decide (n < 36)
/-- Lanes that this chapter brings up (R436). -/
def ownLane (n : Nat) : Bool := decide (n < 36)

/-- The port that a lane belongs to, where one is formed. -/
def State.portOfLane (s : State) (n : Nat) : Option Nat :=
  if isEth n then (List.range 16).find? (fun p => s.st.portFormed p && (s.st.portLanes p).contains n) else none
/-- A lane's port loses its link. -/
def State.lanePortDown (s : State) (n : Nat) : State :=
  match s.portOfLane n with | some p => s.portDown p 0 | none => s

/-- The power domain of a lane: an Ethernet group, or the Guavo lanes (R430). -/
def laneDomain (n : Nat) : Nat := if isEth n then 15 + n / 4 else 23
/-- Is a power domain on? -/
def State.domainOn (s : State) (k : Nat) : Bool := s.fld (glb 0xA4) k k == 0

/-- Is a lane kept in electrical idle (R444)? -/
def State.laneIdle (s : State) (n : Nat) : Bool :=
  s.boot.inReset || !s.domainOn (laneDomain n) || s.fld (laneReg n 0) 27 27 == 1 || (isEth n && (s.portOfLane n).isNone)

/-- A lane returns to electrical idle; the receiver keeps its settings. -/
def Lane.idle (x : Lane) : Lane :=
  { x with state := 0, saved := x.saved || x.state == 3, signal := false, cdr := false, aligned := false, burst := none }
/-- Acquisition from its first step (R441). -/
def Lane.acquire (x : Lane) : Lane :=
  { x with state := 2, signal := false, cdr := false, aligned := false, trying := false, burst := none }

/-- REPLACE_CAUSE bit of a lane's group (R413). -/
def laneCause (n : Nat) : Nat := if isEth n then 37 else if isGv n then 38 else 39

/-- A lane fails (R442): LANE_FAILED once, and its group's replacement cause. -/
def State.laneFail (s : State) (n reason : Nat) : State :=
  let x := s.lane n
  let s := s.setLane n { x with state := 4, reason, told := true, failedAt := s.now, aligned := false, burst := none }
  let s := if x.told then s else s.ev 0x0E03 (laneSrc n) reason
  s.replace (laneCause n) false

/-- LANE_CALIBRATION_DONE. -/
def State.laneCalibrated (s : State) (n : Nat) (ok : Bool) : State :=
  let x := s.lane n
  if x.calibrated then s
  else if !ok then s.laneFail n 1
  else
    let y : Lane := { x with calibrated := true, told := false, reason := 0 }
    s.setLane n (if !ownLane n || s.laneIdle n then y.idle else y.acquire)
def execLaneCalibrationDone (n : Nat) (ok : Bool) (s : State) : Host.Outcome State Fault Refusal := .next (s.laneCalibrated n ok)

/-- LANE_SIGNAL_DETECT: a signal, and clock recovery locked (R441, step 1). -/
def execLaneSignalDetect (n : Nat) (s : State) : Host.Outcome State Fault Refusal :=
  let x := s.lane n
  .next (if x.state == 2 && ownLane n then
      s.setLane n { x with signal := true, cdr := true, signalAt := s.now, cdrAt := s.now, triedAt := s.now, trained := false
                           trying := s.fld (laneReg n 0) 29 28 == 2 }
    else s)

/-- LANE_POLARITY_SWITCH: under automatic polarity the other one is tried after 1 ms (R441, step 2). -/
def execLanePolaritySwitch (n : Nat) (s : State) : Host.Outcome State Fault Refusal :=
  let x := s.lane n
  let pol := s.fld (laneReg n 0) 29 28
  .next (if x.state == 2 && x.cdr && x.burst.isNone && (pol == 0 || pol == 3) then
      let s := s.runTo (x.triedAt + msCycles)
      s.setLane n { x with trying := !x.trying, triedAt := s.now }
    else s)

/-- Another lane of the same port or link holds a logical position. -/
def State.positionTaken (s : State) (n logical : Nat) : Bool :=
  let mates := match s.portOfLane n with
    | some p => s.st.portLanes p
    | none => if isGv n then [32, 33, 34, 35] else []
  mates.any (fun m => m != n && (s.lane m).state == 3 && (s.lane m).logical == logical)

/-- LANE_ALIGNMENT_LOCK: the markers name the far port's lane as of this port (`own`) and a logical position (R441 step 3,
R442 reason 3). -/
def State.laneAlign (s : State) (n logical : Nat) (own : Bool) : State :=
  let x := s.lane n
  let width := match s.portOfLane n with | some p => (s.st.portLanes p).length | none => 4
  if x.state != 2 || !ownLane n || !(x.cdr || x.burst.isSome) then s
  else if !own || width ≤ logical || s.positionTaken n logical then s.laneFail n 3
  else
    let inv := if x.burst.isSome then x.inverted else x.trying
    let s := s.setLane n { x with state := 3, signal := true, cdr := true, aligned := true, inverted := inv, logical, reason := 0
                                  told := false, saved := true, upAt := s.now, burst := none }
    let s := if inv then s.ev 0x0E04 (laneSrc n) 1 else s
    s.ev 0x0E01 (laneSrc n) (logical * 256 + bnat inv)
def execLaneAlignmentLock (n logical : Nat) (own : Bool) (s : State) : Host.Outcome State Fault Refusal :=
  .next (s.laneAlign n logical own)

/-- LANE_ACQUIRE_TIMEOUT: 100 ms after CDR lock. -/
def execLaneAcquireTimeout (n : Nat) (s : State) : Host.Outcome State Fault Refusal :=
  let x := s.lane n
  .next (if x.state == 2 && x.cdr && x.burst.isNone then (s.runTo (x.cdrAt + 150000000)).laneFail n 2 else s)

/-- GUAVO_LANE_TIMEOUT: another Guavo lane has been UP for 300 ms. -/
def execGuavoLaneTimeout (n : Nat) (s : State) : Host.Outcome State Fault Refusal :=
  let ups := ([32, 33, 34, 35].filter (fun m => m != n && (s.lane m).state == 3)).map (fun m => (s.lane m).upAt)
  .next (if isGv n && (s.lane n).state != 3 && (s.lane n).state != 4 && !ups.isEmpty then
      (s.runTo (ups.foldl min (ups.headD 0) + 450000000)).laneFail n 4
    else s)

/-- LANE_RETRY_TIMER: a FAILED lane is tried again after 10 s. -/
def execLaneRetryTimer (n : Nat) (s : State) : Host.Outcome State Fault Refusal :=
  let x := s.lane n
  .next (if x.state == 4 then
      let s := s.runTo (x.failedAt + 15000000000)
      s.setLane n (if x.calibrated then x.acquire else { x with state := 1 })
    else s)

/-- LANE_LOSS_OF_LOCK of an UP lane. -/
def execLaneLossOfLock (n : Nat) (s : State) : Host.Outcome State Fault Refusal :=
  .next (if (s.lane n).state == 3 then
      let s := ((s.setLane n (s.lane n).acquire).inc (laneReg n 0x02C) 1).lanePortDown n
      s.ev 0x0E02 (laneSrc n) (s.rdn (laneReg n 0x02C))
    else s)

/-- LANE_IDLE_EXIT: the burst, with the receiver's saved settings; a lane without any goes through full acquisition, and
one whose group was OFF calibrates first (R444). -/
def State.laneIdleExit (s : State) (n : Nat) : State :=
  let x := s.lane n
  if x.state != 0 || !ownLane n || s.laneIdle n then s
  else if !x.calibrated then s.setLane n { x with state := 1 }
  else if x.saved then s.setLane n { x with state := 2, burst := some (s.now + if isEth n then 116 else 110) }
  else s.setLane n x.acquire
def execLaneIdleExit (n : Nat) (s : State) : Host.Outcome State Fault Refusal := .next (s.laneIdleExit n)

/-- LANE_IDLE_RELOCK_TIMEOUT: no alignment lock 1 ms after the burst. -/
def execLaneIdleRelockTimeout (n : Nat) (s : State) : Host.Outcome State Fault Refusal :=
  .next (match (s.lane n).state, (s.lane n).burst with
    | 2, some e => let s := s.runTo (e + msCycles); s.setLane n { (s.lane n).acquire with saved := false }
    | _, _ => s)

/-! ### Transmit taps and link training (R438, R439) -/

/-- The limits of R438 on the words of TX_FFE0 and TX_FFE1. -/
def tapsOk (a b : Nat) : Bool :=
  let pre := [bits a 31 24, bits a 23 16, bits a 15 8].map (fun v => (signed 8 v).natAbs)
  let main := signed 8 (bits a 7 0)
  decide (0 < main) && decide (sum pre + main.natAbs + (signed 8 (bits b 7 0)).natAbs ≤ 64) && pre.all (fun v => decide (v ≤ 16))

/-- TX_FFE_WRITE: register 0 or 1, checked together with the other. -/
def State.txFfe (s : State) (n : Nat) (second : Bool) (w : Word) : State :=
  let a := if second then s.rdn (laneReg n 0x008) else w.toNat
  let b := if second then w.toNat % 256 else s.rdn (laneReg n 0x00C)
  if !ownLane n then s
  else if tapsOk a b then (s.wrn (laneReg n 0x008) a).wrn (laneReg n 0x00C) b
  else s.ev 0x0E06 (laneSrc n) a
def execTxFfeWrite (n : Nat) (second : Bool) (w : Word) (s : State) : Host.Outcome State Fault Refusal := .next (s.txFfe n second w)

/-- LT_UPDATE: the link partner sets the taps, within the same limits. -/
def execLtUpdate (n : Nat) (a b : Word) (s : State) : Host.Outcome State Fault Refusal :=
  .next (if isEth n && s.fld (laneReg n 0) 31 31 == 1 && !(s.lane n).trained && (s.lane n).state == 2 && tapsOk a.toNat (b.toNat % 256) then
      (s.wr (laneReg n 0x008) a).wrn (laneReg n 0x00C) (b.toNat % 256)
    else s)

/-- LT_TIMEOUT: 500 ms after signal detection without a training frame. -/
def execLtTimeout (n : Nat) (s : State) : Host.Outcome State Fault Refusal :=
  let x := s.lane n
  .next (if isEth n && x.state == 2 && x.signal && !x.trained && s.fld (laneReg n 0) 31 31 == 1 then
      let s := s.runTo (x.signalAt + 750000000)
      s.setLane n { x with trained := true }
    else s)

/-! ### Loopback, patterns, margining (R445 to R448) -/

/-- May a lane be tested (R446)? -/
def State.laneTest (s : State) (n : Nat) : Bool :=
  s.devMaint || (isEth n && (s.portOfLane n).isNone) || (isGv n && !s.st.pair.enabled)

/-- Loopback in effect: 4 to 15 act as 0. -/
def loopOf (v : Nat) : Nat := if v % 16 ≤ 3 then v % 16 else 0

/-- The state of a lane once its loopback and generator are as written: TEST takes its port down; a lane of a formed
port returns to acquisition. -/
def State.laneTestState (s : State) (n : Nat) : State :=
  let x := s.lane n
  let on := loopOf (s.rdn (laneReg n 0)) != 0 || s.fld (laneReg n 0x010) 31 31 == 1
  if on && x.state != 5 then (s.setLane n { x with state := 5, aligned := false, cdr := false, burst := none }).lanePortDown n
  else if !on && x.state == 5 then s.setLane n (if s.laneIdle n then x.idle else x.acquire)
  else s

/-- LANE_CFG_WRITE. -/
def State.laneCfg (s : State) (n : Nat) (w : Word) : State :=
  let v := w.toNat
  let old := s.rdn (laneReg n 0)
  if !ownLane n then s
  else if loopOf v != 0 && loopOf v != loopOf old && !s.laneTest n then s.ev 0x0E05 (laneSrc n) (v % 16)
  else
    let s := (s.wrn (laneReg n 0) (bits v 31 27 * 2 ^ 27 + bits v 20 16 * 2 ^ 16 + v % 16)).laneTestState n
    if bit v 27 && (s.lane n).state != 5 then (s.setLane n (s.lane n).idle).lanePortDown n else s
def execLaneCfgWrite (n : Nat) (w : Word) (s : State) : Host.Outcome State Fault Refusal := .next (s.laneCfg n w)

/-- PATTERN_WRITE. -/
def State.lanePattern (s : State) (n : Nat) (w : Word) : State :=
  let v := w.toNat
  let old := s.rdn (laneReg n 0x010)
  if !ownLane n || decide (7 ≤ bits v 27 24) || decide (7 ≤ bits v 19 16) then s
  else if bits v 31 30 != 0 && !s.laneTest n then s.ev 0x0E05 (laneSrc n) (bits v 31 31 * 16 + bits v 30 30 * 32)
  else
    let s := s.wrn (laneReg n 0x010) (bits v 31 30 * 2 ^ 30 + bits v 27 24 * 2 ^ 24 + bits v 19 16 * 2 ^ 16)
    let s := if bit v 30 && !bit old 30 then (s.wr64 (laneReg n 0x014) 0).wr64 (laneReg n 0x01C) 0 else s
    s.laneTestState n
def execPatternWrite (n : Nat) (w : Word) (s : State) : Host.Outcome State Fault Refusal := .next (s.lanePattern n w)

/-- MARGIN_START: in every state but FAILED, unless a measurement is in progress. -/
def State.marginStart (s : State) (n : Nat) : State :=
  let x := s.lane n
  if x.state == 4 || x.measuring then s
  else s.setLane n { x with measuring := true }
/-- A write of LANE_n.MARGIN. -/
def State.marginWrite (s : State) (n : Nat) (w : Word) : State :=
  let s := if bit w.toNat 30 then s.setFld (laneReg n 0x024) 30 30 0 else s
  if bit w.toNat 31 then s.marginStart n else s
def execMarginStart (n : Nat) (s : State) : Host.Outcome State Fault Refusal := .next (s.marginStart n)

/-- MARGIN_COMPLETE. -/
def execMarginComplete (n left right vert : Nat) (s : State) : Host.Outcome State Fault Refusal :=
  let v := left % 256 * 65536 + right % 256 * 256 + vert % 256
  .next (if (s.lane n).measuring then
      ((s.setLane n { s.lane n with measuring := false }).wrn (laneReg n 0x024) (2 ^ 30 + v)).ev 0x0E07 (laneSrc n) v
    else s)

end Sys2Proof.Machine
end

