-- ==== Sys2Proof/Machine/Power.lean ====
section
/-! DEFINITION. Power.lean: power domains (R430 to R434). Bit numbers are those of R430. -/

namespace Sys2Proof.Machine

/-- Does a power domain carry work, and why may it not go down (R431): 1 work, 2 formed port, 3 pairing, 4 stack 0, 5 RT
region? -/
def State.powerWork (s : State) (b : Nat) : Option Nat :=
  let why (x : Bool) (n : Nat) : Option Nat := if x then some n else none
  if b < 9 then why (s.placed.vals.any (fun g => g.tarn / 4 == b)) 1
  else if b < 11 then why (s.st.hws.vals.any (fun h => h.unit / 4 == b - 9)) 1
  else if b < 13 then why (s.st.inputs.vals.any (fun i => i.source == 1 && i.sourceIndex / 4 == b - 11)) 1
  else if b < 15 then why (s.st.courses.vals.any (fun c => c.mere / 4 == b - 13) ||
    s.st.rungs.vals.any (fun g => g.rung != 1 && g.cascade / 4 == b - 13)) 1
  else if b < 23 then why ((List.range 4).any (fun i => (s.portOfLane (4 * (b - 15) + i)).isSome)) 2
  else if b == 23 then why s.st.pair.enabled 3
  else if b == 24 then some 4
  else why (s.st.regions.vals.any (fun r => r.cls == 0 && r.chMask / 2 ^ 16 != 0)) 5

/-- The tick domain that a power domain serves, else the lowest-numbered (R432). -/
def State.powerServes (s : State) (b : Nat) : Option Nat :=
  let ds := (List.range 4).filterMap (fun i =>
    if b < 9 then s.clusterDomain b
    else if b < 11 then s.unitDomain (0x1100 + 4 * (b - 9) + i)
    else if b < 13 then s.unitDomain (0x1200 + 4 * (b - 11) + i)
    else if b < 15 then (match s.unitDomain (0x1300 + 4 * (b - 13) + i) with
      | some d => some d | none => s.unitDomain (0x1400 + 4 * (b - 13) + i))
    else none)
  match ds with
  | d :: r => some (r.foldl min d)
  | [] => s.st.domains.keys.head?

def State.pwrReq (s : State) (b : Nat) : Bool := bit (s.rdn (glb 0xA0)) b
def State.pwrState (s : State) (b : Nat) : Bool := bit (s.rdn (glb 0xA4)) b

/-- The lanes of a lane group. -/
def groupLanes (b : Nat) : List Nat := if b == 23 then [32, 33, 34, 35] else if 15 ≤ b ∧ b < 23 then (List.range 4).map (· + 4 * (b - 15)) else []

/-- A domain goes down. A lane group loses its calibration; stack 1 enters self-refresh on every channel (R341). -/
def State.powerDown (s : State) (b : Nat) : State :=
  if b == 25 then
    let s := { s with boot := { s.boot with srEntering := true } }
    ((List.range 16).foldl (fun (s : State) i => if s.excluded.contains (16 + i) then s else s.srSet (16 + i)) s).stackEntered
  else
    let s := s.setFld (glb 0xA4) b b 1
    let s := (groupLanes b).foldl (fun s n => s.setLane n { (s.lane n).idle with calibrated := false, saved := false, trained := false }) s
    s.ev 0x0F04 0x5100 (b * 2 ^ 24 + 1)
/-- A domain comes up (R433); an entry of stack 1 not yet ended is abandoned. -/
def State.powerUp (s : State) (b : Nat) : State :=
  let was := s.pwrState b
  let s := if b == 25 then { s with boot := { s.boot with srEntering := false } } else s
  let s := if b == 25 then (List.range 16).foldl (fun (s : State) i => if s.holding (16 + i) then s.srClear (16 + i) else s) s else s
  if was then (s.setFld (glb 0xA4) b b 0).ev 0x0F04 0x5100 (b * 2 ^ 24) else s

/-- A refused request (R431). -/
def State.powerRefuse (s : State) (b why : Nat) : State := (s.setFld (glb 0xA0) b b 0).ev 0x0F05 0x5100 (b * 2 ^ 24 + why)

/-- The change point of one domain: the state, and whether it changed. -/
def State.powerChange (s : State) (b : Nat) : State × Bool :=
  let down := s.pwrState b || (b == 25 && s.boot.srEntering)
  let held := if b < 15 then s.outstanding b else 0
  match s.powerWork b with
  | some why =>
    if down && b != 24 then ((s.setFld (glb 0xA0) b b 0).powerUp b, true)
    else if s.pwrReq b then (s.powerRefuse b why, false) else (s, false)
  | none =>
    if s.pwrReq b == down then (s, false)
    else if held != 0 then (s.ev 0x0F06 0x5100 (b * 2 ^ 24 + sat 16 held), false)
    else if down then (s.powerUp b, true) else (s.powerDown b, true)

/-- Change points of a list of domains, and P in cycles. -/
def powerChanges : List Nat → State → Nat → State × Nat
  | [], s, p => (s, p)
  | b :: r, s, p => let a := s.powerChange b; powerChanges r a.1 (p + bnat a.2)
/-- Step 6 of a Weir of domain `d` for power (R432, R434). -/
def State.powerWeir (s : State) (d : Nat) : State × Nat :=
  powerChanges ((List.range 26).filter (fun b => s.powerServes b == some d)) s 0

/-- A write of GLB.PWR_REQ: new requests whose domain carries work are refused; with no tick domain, changes take place
at once. -/
def State.pwrReqWrite (s : State) (w : Word) : State :=
  let old := s.rdn (glb 0xA0)
  let s := s.wrn (glb 0xA0) (w.toNat % 2 ^ 26)
  let s := ((List.range 26).filter (fun b => bit w.toNat b && !bit old b)).foldl (fun s b =>
    match s.powerWork b with | some why => s.powerRefuse b why | none => s) s
  if s.st.domains.isEmpty then (powerChanges (List.range 26) s 0).1 else s
def execPwrReqWrite (w : Word) (s : State) : Host.Outcome State Fault Refusal := .next (s.pwrReqWrite w)

end Sys2Proof.Machine
end

