-- ==== Sys2Proof/Machine/Placement.lean ====
section
/-! DEFINITION. Placement.lean: the swap step of a Weir for Tarns: spares, the degraded order and restoration (R258, R259,
R408 to R412). -/

namespace Sys2Proof.Machine

def State.putSegs (s : State) (r : Nat) (l : List SegRec) : State :=
  { s with placed := l.foldl (fun t g => t.set (16 * r + g.segment) g) (s.placed.keep (fun _ g => g.rendition != r)) }
def State.updDegraded (s : State) (r : Nat) (f : Degraded → Degraded) : State := { s with degraded := s.degraded.upd r f }

/-- Does a placement fit (R408): every live Tarn's load at most the cap, and R245 and R246 for rendition `r`? -/
def State.placeFits (s : State) (r : Nat) : Bool :=
  let t := s.asPlaced
  t.segMapOk (t.rends.get r) && (List.range 36).all (fun n => !s.alive (0x1000 + n) ||
    (match s.clusterDomain (n / 4) with
     | some d => decide (t.tarnLoad {} t.recEffort n ≤ t.cap d)
     | none => true))

/-- SEGMENT_REDISTRIBUTED for segments placed by a step. -/
def State.tellPlaced (s : State) (r step : Nat) (l : List SegRec) : State :=
  l.foldl (fun s g => s.evR 0x0D05 (0x1000 + g.tarn) r (step * 2 ^ 28 + g.segment % 16 * 2 ^ 24 + sat 16 (s.segsOf r).length)) s

/-- Step 1: one segment of the same KIND per live Tarn that carried any. -/
def State.resplit (s : State) (r : Nat) : Option State :=
  let old := s.segsOf r
  let ts := (List.range 36).filter (fun n => s.alive (0x1000 + n) && old.any (·.tarn == n))
  let kind := (old.head?.map (·.kind)).getD 0
  let total := if kind == 0 then (s.st.rends.get r).colsOf (s.st.rungOf r) else (s.st.rends.get r).bands (s.st.rungOf r)
  let k := max 1 ts.length
  let first (i : Nat) : Nat := i * (total / k) + min i (total % k)
  let l : List SegRec := (List.range ts.length).map (fun i =>
    { rendition := r, segment := i, tarn := ts.getD i 0, kind, first := first i, count := first (i + 1) - first i })
  let s := (s.putSegs r l).updDegraded r (fun x => { x with fast := true, moved := true })
  if ts.isEmpty || total < k then none else if s.placeFits r then some s else none

/-- Step 2 for one orphan: the course Tarn of lowest load, then of lowest number, that fits with it. -/
def State.moveSeg (s : State) (r : Nat) (g : SegRec) : Option State :=
  let c := s.st.courseOfRend r
  let t := s.asPlaced
  let ts := (List.range 36).filter (fun n => s.alive (0x1000 + n) && (s.carries n).any (fun x => s.st.courseOfRend x.rendition == c))
  let load (n : Nat) : Nat := t.tarnLoad {} t.recEffort n
  (ts.mergeSort (fun a b => decide (load a < load b) || (load a == load b && decide (a ≤ b)))).findSome? (fun n =>
    let s := { s with placed := s.placed.set (16 * r + g.segment) { g with tarn := n } }
    if s.placeFits r then some s else none)
/-- Step 2: every orphaned segment of the rendition moves. -/
def State.moveAll (s : State) (r : Nat) : Option State :=
  let lost := (s.segsOf r).filter (fun g => !s.alive (0x1000 + g.tarn))
  let s := s.updDegraded r (fun x => { x with fast := true, moved := true })
  (lost.foldl (fun a g => match a with | some s => s.moveSeg r g | none => none) (some s)).bind (fun s =>
    if s.placeFits r then some s else none)

/-- Steps 1 and 2; `step` is reported where they are tried again. -/
def State.placeOnce (s : State) (r : Nat) (step : Option Nat) : Option State :=
  match s.resplit r with
  | some t => some (t.tellPlaced r (step.getD 1) (t.segsOf r))
  | none =>
    let lost := ((s.segsOf r).filter (fun g => !s.alive (0x1000 + g.tarn))).map (·.segment)
    match s.moveAll r with
    | some t => some (t.tellPlaced r (step.getD 2) ((t.segsOf r).filter (fun g => lost.contains g.segment)))
    | none => none
/-- Step 3: every rendition of the course runs at FAST. -/
def State.fastCourse (s : State) (c : Nat) : State :=
  (s.st.rendsOf c).foldl (fun s q => s.updDegraded q.rendition (fun x => { x with fast := true })) s

/-- The rendition that step 4 chooses: lowest PRIORITY, then highest number. -/
def State.lowest (s : State) (c : Nat) : Option RendRec :=
  ((s.st.rendsOf c).filter (fun q => !s.spillOnly q.rendition)).foldl (fun a q => match a with
    | some b => if q.priority ≤ b.priority then some q else some b
    | none => some q) none
def State.makeSpillOnly (s : State) (q : RendRec) : State :=
  (s.updDegraded q.rendition (fun x => { x with spillOnly := true })).evR 0x0D06 (0x4100 + s.domOf q.course) q.rendition q.priority
/-- Step 4, as often as it takes. -/
def State.placeLast (s : State) (r : Nat) : Nat → State
  | 0 => s
  | fuel + 1 =>
    match s.lowest (s.st.courseOfRend r) with
    | none => s
    | some q =>
      let s := s.makeSpillOnly q
      if q.rendition == r then s
      else match s.placeOnce r (some 4) with
        | some t => t
        | none => s.placeLast r fuel

/-- The orphaned segments of a rendition are placed (R408). -/
def State.placeOrphans (s : State) (r : Nat) : State :=
  if s.spillOnly r then s
  else match s.placeOnce r none with
    | some t => t
    | none =>
      let s := s.fastCourse (s.st.courseOfRend r)
      match s.placeOnce r (some 3) with
      | some t => t
      | none => s.placeLast r ((s.st.rendsOf (s.st.courseOfRend r)).length + 1)

/-! ### Spares (R259) -/

/-- Retired Tarns of a domain that wait for the swap step of its Weir. -/
def State.swapping (s : State) (d : Nat) : List Nat :=
  (List.range 36).filter (fun n =>
    !(s.tarn n).swapped && (match (s.tarn n).retiredAt with | some t => decide (t < (s.dom d).t0) | none => false) &&
    s.clusterDomain (n / 4) == some d && !(s.carries n).isEmpty)
/-- One of them passes to its spare; without a spare its renditions are added to `lost`. -/
def State.swapTarn (s : State) (d n : Nat) : State × List Nat :=
  let l := s.carries n
  let s := s.updTarn n (fun t => { t with swapped := true })
  match s.spareFor n d s.spares with
  | some x =>
    (({ s with placed := s.placed.mapv (fun _ g => if g.tarn == n then { g with tarn := x } else g) }).ev 0x0403 (0x1000 + x)
      (n * 2 ^ 24 + l.length), [])
  | none => (s.ev 0x0404 (0x1000 + n) l.length, l.map (·.rendition))
def swapTarns (d : Nat) : List Nat → State → List Nat → State × List Nat
  | [], s, lost => (s, lost)
  | n :: r, s, lost =>
    let a := s.swapTarn d n
    swapTarns d r a.1 (lost ++ a.2)

/-! ### Restoration (R410) -/

/-- Spill-only renditions of a domain in descending PRIORITY. -/
def State.toRestore (s : State) (d : Nat) : List RendRec :=
  (s.st.rends.vals.filter (fun q => s.spillOnly q.rendition && s.domOf q.course == d)).mergeSort (fun a b => decide (b.priority ≤ a.priority))
/-- The Tarn that last carried a rendition's first segment. -/
def State.lastTarn (s : State) (r : Nat) : Nat := ((s.segsOf r).head?.map (·.tarn)).getD 0
def State.restoreRend (s : State) (d : Nat) (q : RendRec) : State :=
  let r := q.rendition
  let done (s : State) (how : Nat) : State := s.evR 0x0D07 (0x4100 + d) r how
  match s.spareFor (s.lastTarn r) d s.spares with
  | some n =>
    let s := { s with degraded := s.degraded.del r, rends := s.rends.upd r (fun x => { x with effort := q.effort }) }
    done (s.putSegs r ((s.st.segsOf r).map (fun g => { g with tarn := n }))) 1
  | none =>
    let t := s.updDegraded r (fun x => { x with spillOnly := false })
    match t.placeOnce r none with
    | some t => done t 2
    | none => match (t.fastCourse q.course).placeOnce r (some 3) with
      | some t => done t 2
      | none => s
/-- Restoration runs where a partial image applies or a spare is live for a spill-only rendition. -/
def State.restore (s : State) (d : Nat) (applied : Bool) : State :=
  let l := s.toRestore d
  if applied || l.any (fun q => (s.spareFor (s.lastTarn q.rendition) d s.spares).isSome) then l.foldl (fun s q => s.restoreRend d q) s
  else s

/-! ### The swap step (R56 step 5) -/

/-- Units that a retry rate has marked (R412) retire at their domain's Weir. -/
def State.retireDue (s : State) (d : Nat) : State :=
  let s := ((List.range 36).filter (fun n => (s.tarn n).dueRetire && s.unitDomain (0x1000 + n) == some d)).foldl (fun s n =>
    (s.retireTarn n 4 false).updTarn n (fun t => { t with dueRetire := false })) s
  (s.ras.dueRetire.filter (fun u => s.unitDomain u == some d)).foldl (fun s u =>
    let s := s.retireUnit u 4 false
    { s with ras := { s.ras with dueRetire := s.ras.dueRetire.filter (· != u) } }) s

/-- Restoration, spares, then the degraded order; the courses whose placement changed are counted against S. -/
def State.swapUnits (s : State) (d : Nat) (applied : Bool) : State × Nat :=
  let old := s.placed
  let was := s.degraded
  let s := s.restore d applied
  let a := swapTarns d (s.swapping d) s []
  let s := (a.2.eraseDups.mergeSort (fun x y => decide (x ≤ y))).foldl State.placeOrphans a.1
  let cs := (s.st.rends.vals.filter (fun q =>
    s.placed.keep (fun _ g => g.rendition == q.rendition) != old.keep (fun _ g => g.rendition == q.rendition) ||
      s.degraded.get q.rendition != was.get q.rendition)).map (·.course)
  (s.retireDue d, cs.eraseDups.length)

end Sys2Proof.Machine
end

