-- ==== Sys2Proof/Machine/Swap.lean ====
section
/-! DEFINITION. Swap.lean: the courses of a partial image at the swap step of a Weir (R108 to R112). -/

namespace Sys2Proof.Machine

/-! ### Records of an image by what they concern (R108) -/

/-- Does a record belong to course `c`, whose renditions in the image are `rs`? -/
def Rec.ofCourse (c : Nat) (rs : List Nat) : Rec → Bool
  | .course _ x => x.course == c
  | .input x | .layer x | .rung x | .rend x | .hw x | .protect x => x.course == c
  | .seg x => rs.contains x.rendition
  | _ => false
/-- Renditions that a list of records gives course `c`. -/
def rendsIn (recs : List Rec) (c : Nat) : List Nat :=
  recs.filterMap (fun r => match r with | .rend x => if x.course == c then some x.rendition else none | _ => none)
def courseRecs (recs : List Rec) (c : Nat) : List Rec := recs.filter (Rec.ofCourse c (rendsIn recs c))

/-! ### A course as its records make it -/

/-- Every run-time object of a rendition goes. -/
def State.dropRend (s : State) (r : Nat) : State :=
  { s with
    rends := s.rends.del r, rings := s.rings.del r, chunks := s.chunks.del r, degraded := s.degraded.del r
    placed := s.placed.keep (fun _ g => g.rendition != r) }
/-- Every run-time object of a course goes: it has stopped. -/
def State.dropRun (s : State) (c : Nat) : State :=
  let s := ((s.st.rendsOf c).map (·.rendition)).foldl State.dropRend s
  { s with
    courses := s.courses.del c, heads := s.heads.del c, prots := s.prots.del c, keys := s.keys.del c, postLut := s.postLut.del c
    bufs := s.bufs.keep (fun k _ => k / 256 != c), streams := s.streams.keep (fun k _ => k / 4 != c)
    hostIns := s.hostIns.keep (fun k _ => k / 4 != c), layers := s.layers.keep (fun k _ => k / 12 != c)
    inl := { s.inl with videos := s.inl.videos.keep (fun k _ => k / 4 != c) } }
/-- The segments of a course stand where the image puts them. -/
def State.placeCourse (s : State) (c : Nat) : State :=
  (s.st.rendsOf c).foldl (fun s q => { s.putSegs q.rendition (s.st.segsOf q.rendition) with degraded := s.degraded.del q.rendition }) s
/-- A course whose records are in the structure: stopped, black, its parameters those of the records. -/
def State.courseEnter (s : State) (c : Nat) : State :=
  ((({ s with courses := s.courses.set c {} }).placeCourse c).courseLoad c).courseBlank c
/-- AUTOSTART (R86, R112). -/
def State.courseAuto (s : State) (c : Nat) : State := if (s.st.courses.get c).autostart then s.courseStart c else s

/-! ### ADD, REMOVE and REPLACE -/

def State.courseAdd (s : State) (d c : Nat) (recs : List Rec) : State :=
  let s := ({ s with st := s.st.addRecs recs }).courseEnter c
  (s.evC 0x0306 (0x4100 + d) c (s.st.rendsOf c).length).courseAuto c

/-- REMOVE: the course stops, and its subscribers go with it (R110). -/
def State.courseRemove (s : State) (d c : Nat) (recs : List Rec) : State :=
  let rs := (s.st.rendsOf c).map (·.rendition)
  let us := (s.st.subs.vals.filter (fun u => rs.contains u.rendition)).map (·.subscriber)
  let s := ((s.courseStop c).evC 0x0307 (0x4100 + d) c (sat 16 us.length)).dropRun c
  us.foldl (fun s u => s.updOut (fun o => { o with subs := o.subs.del u })) { s with st := s.st.addRecs recs }

/-- Is a rendition's structure unchanged (R111)? -/
def sameRend (old new : Structure) (q : RendRec) : Bool :=
  let p := old.rends.get q.rendition
  let g := old.rungOf q.rendition
  let h := new.rungOf q.rendition
  old.rends.has q.rendition && p.course == q.course && g.width == h.width && g.height == h.height && p.codec == q.codec &&
    p.profile == q.profile && p.ctu == q.ctu && p.depth == q.depth && p.reorder == q.reorder
/-- Is an input's buffer unchanged in size and format? -/
def sameInput (p q : InputRec) : Bool :=
  p.source == q.source && p.width == q.width && p.height == q.height && p.sampling == q.sampling && p.depth == q.depth &&
    p.slots == q.slots && p.codec == q.codec && p.jitterBytes == q.jitterBytes && p.rgb == q.rgb
def sameRung (p q : RungRec) : Bool :=
  p.width == q.width && p.height == q.height && p.sampling == q.sampling && p.depth == q.depth && p.slots == q.slots
def sameProg (p q : CourseRec) : Bool :=
  p.width == q.width && p.height == q.height && p.sampling == q.sampling && p.depth == q.depth && p.bandHeight == q.bandHeight

/-- The rate fields of a kept rendition that the record changes, as an RC_SET would (R111). -/
def State.keepRend (s : State) (q : RendRec) : State :=
  let x := s.rend q.rendition
  let new (old v : Nat) : Option Nat := if old == v then none else some v
  s.rateSet q.rendition (new x.cq q.cq) (new x.effort q.effort) (new (x.raiseRate.getD x.rate) q.maxRate)
    (new (x.raiseBuf.getD x.buf) q.bufSize)
/-- A rendition of a replaced course that starts with a key picture. -/
def State.restartRend (s : State) (q : RendRec) : State :=
  let r := q.rendition
  let was := s.rend r
  let s := { s with rends := s.rends.set r { unsynced := was.unsynced, healing := was.healing }, rings := s.rings.del r }
  ((s.rendLoad r).unsync r 3 0).rendFresh r

/-- The buffers of a course replaced in place: those unchanged in size and format keep their content. -/
def State.replaceBufs (s : State) (old : Structure) (c : Nat) : State :=
  let o := old.courses.get c
  let n := s.st.courses.get c
  let same := sameProg o n && old.maxReorder c == s.st.maxReorder c
  let s := if same then s else (s.blackProg c).hwRestart c 3
  let s := ((s.st.rungsOf c).filter (fun g => g.rung != 1 && !(sameRung (old.rungs.get (64 * c + g.rung)) g && o.bandHeight == n.bandHeight))).foldl
    State.blackRung s
  let gone := (old.inputsOf c).filter (fun i => !s.st.inputs.has (inKey i))
  let s := gone.foldl (fun s i => { s with
    bufs := s.bufs.del (inputBuf c i.input), streams := s.streams.del (inKey i), hostIns := s.hostIns.del (inKey i) }) s
  ((s.st.inputsOf c).filter (fun i => !(old.inputs.has (inKey i) && sameInput (old.inputs.get (inKey i)) i))).foldl State.freshInput s
/-- Its layers take the records' values; one whose input restarted, or that is new, has shown nothing. -/
def State.replaceLayers (s : State) (old : Structure) (c : Nat) : State :=
  let gone := (old.layersOf c).filter (fun l => !s.st.layers.has (12 * c + l.layer))
  let s := { s with layers := s.layers.keep (fun k _ => !gone.any (fun l => 12 * c + l.layer == k)) }
  (s.st.layersOf c).foldl (fun s l =>
    let y := l.load (s.layer c l.layer)
    let p := old.inputs.get (4 * c + l.source)
    let keep := old.layers.has (12 * c + l.layer) && (decide (4 ≤ l.layer) ||
      ((old.layers.get (12 * c + l.layer)).source == l.source && sameInput p (s.st.inputs.get (4 * c + l.source))))
    let mode := if !y.enabled then 0 else if 4 ≤ l.layer then 1 else if y.mode == 0 then 3 else y.mode
    if keep then s.setLayer c l.layer { y with mode } else (s.setLayer c l.layer (y.start l.layer)).layerIdentity c l.layer) s

/-- REPLACE (R111): in place, or as on first use where the domain moves (R112). -/
def State.courseReplace (s : State) (d c : Nat) (recs : List Rec) : State :=
  let old := s.st
  let new := s.st.addRecs recs
  let moved := (old.courses.get c).domain != (new.courses.get c).domain
  let rs := new.rendsOf c
  let kept := if moved then [] else rs.filter (sameRend old new)
  let gone := ((old.rendsOf c).map (·.rendition)).filter (fun r => !new.rends.has r)
  let s := if moved then (s.courseStop c).dropRun c else gone.foldl State.dropRend s
  let s := { s with st := new }
  let s :=
    if moved then s.courseEnter c
    else
      let s := ((s.placeCourse c).replaceBufs old c).replaceLayers old c
      let s := rs.foldl (fun s q => if kept.contains q then s.keepRend q else s.restartRend q) s
      if old.protects.find c == new.protects.find c then s else s.protReset c
  let s := s.evC 0x0308 (0x4100 + d) c (kept.length * 65536 + (rs.length - kept.length))
  if moved then s.courseAuto c else s

/-! ### The swap step -/

/-- One record of an image at the swap step of domain `d`: a course with its children, an inflow, a subscriber, which waits
for its packet boundary. -/
def State.swapRec (s : State) (d seq : Nat) (recs : List Rec) : Rec → State
  | .course 2 x => s.courseRemove d x.course [.course 2 x]
  | .course 1 x => s.courseReplace d x.course (courseRecs recs x.course)
  | .course _ x => s.courseAdd d x.course (courseRecs recs x.course)
  | .inflow 2 x => if s.st.inflows.has x.inflow then s.applyP (.inflowDel x.inflow) else s
  | .inflow _ x => s.applyP (.inflowPut x)
  | .sub 2 x => s.await { fn := 64, q := seq } (.subDel x.subscriber)
  | .sub _ x => s.await { fn := 64, q := seq } (.subPut x)
  | _ => s
/-- The courses that a list of records swaps. -/
def swapped (recs : List Rec) : Nat := (recs.filter (fun r => match r with | .course _ _ => true | _ => false)).length
/-- The records of one image for domain `d`; one cycle for each course. -/
def State.swapRecs (s : State) (d seq : Nat) (recs : List Rec) : State :=
  (recs.foldl (fun s r => s.swapRec d seq recs r) s).cycles (swapped recs)

end Sys2Proof.Machine
end

