-- ==== Sys2Proof/Machine/Image.lean ====
section
/-! DEFINITION. Image.lean: loading, acceptance and installation of Course images, the flash image area, key slots and the
sequence floor (04_course_image, R79, R97 to R101, R107 to R112, R426 to R428, R434). -/

namespace Sys2Proof.Machine

/-! ### Tick arithmetic (R52) -/

/-- T_N of a domain in nanoseconds, not reduced. -/
def Domain.tickNs (x : Domain) (n : Nat) : Nat := ceilDiv (n * x.num * 1000000000) (max 1 x.den) + x.phase
/-- The first tick after the time `t`. -/
def Domain.tickAfter (x : Domain) (t : Nat) : Nat :=
  if t < x.phase then 0 else (t - x.phase) * x.den / max 1 (x.num * 1000000000) + 1
/-- The pending tick is `n`: its linear time stands in the domain's compare unit (R43, R52). -/
def State.loadTick (s : State) (d n : Nat) : State :=
  let t := (s.dom d).tickNs n % 2 ^ 64
  (s.updDom d (fun x => { x with next := t })).updTime (fun u => { u with cmps := u.cmps.set d { target := t, armed := true } })

/-! ### The context of the checks (R101, R109) -/

/-- The running structure for admission: segments and efforts as they are. -/
def State.chainBase (s : State) : Structure :=
  let t := s.soon
  { t with segs := s.placed, rends := t.rends.mapv (fun r x => if s.rends.has r then { x with effort := s.effortBase r } else x) }
/-- Records of the partial images that wait, in order of acceptance. -/
def State.pendingRecs (s : State) : List Rec := s.img.partials.flatMap (fun p => p.recs.vals.flatten)
/-- The structure that the next image would follow. -/
def State.chainSt (s : State) : Structure :=
  match s.img.replacing with
  | some (seq, t) => ((s.img.partials.filter (fun p => decide (seq < p.seq))).flatMap (fun p => p.recs.vals.flatten)).foldl Structure.addRec t
  | none => s.chainBase.addRecs s.pendingRecs
/-- Live resources with the segments of spill-only renditions held by no Tarn (R409). -/
def State.liveImage (s : State) : Live :=
  { s.liveRes with place := (s.placed.filter (fun e => s.spillOnly e.2.rendition)).map (fun e => (e.1, 64)) }
def State.checkCtx (s : State) : CheckCtx :=
  { running := if s.img.replacing.isSome then {} else { s.st with segs := s.placed }
    chain := s.chainSt, pendingRecs := s.pendingRecs, accSeq := s.img.accSeq, floor := s.rd64 (glb 0x54)
    programmed := s.img.slotProgrammed, revoked := s.img.slotRevoked, keys := s.img.slotKeys, live := s.liveImage }

/-! ### What a record concerns (R108) -/

/-- The domain at whose Weir a record applies, among the records `recs` of its image; `t` is the structure before and `u`
after it. -/
def recDomain (t u : Structure) (recs : List Rec) : Rec → Option Nat
  | .course 2 x => some (t.courses.get x.course).domain
  | .course _ x => some x.domain
  | .input x | .layer x | .rung x | .rend x | .hw x | .protect x => some (u.courses.get x.course).domain
  | .seg x => some (u.courses.get (u.courseOfRend x.rendition)).domain
  | .sub a x =>
    let r := if a == 2 then (t.subs.get x.subscriber).rendition else x.rendition
    let v := if u.rends.has r then u else t
    some (v.courses.get (v.courseOfRend r)).domain
  | .inflow _ x => recs.findSome? (fun r => match r with
      | .input i => if i.source == 0 && i.sourceIndex == x.inflow then some (u.courses.get i.course).domain else none
      | _ => none)
  | _ => none
/-- The P command of a record that takes effect at the first packet boundary after acceptance. -/
def Rec.asP : Rec → Option PCmd
  | .inflow 2 x => some (.inflowDel x.inflow)
  | .inflow _ x => some (.inflowPut x)
  | .service 2 x => some (.serviceRemove x.service)
  | .service _ x => some (.servicePut x)
  | _ => none
/-- The records of a partial image by domain, and those that concern none. -/
def byDomain (t u : Structure) (recs : List Rec) : Tab (List Rec) × List Rec :=
  recs.foldl (fun a r => match recDomain t u recs r with
    | some d => (a.1.upd d (fun l => l ++ [r]), a.2)
    | none => if r.asP.isSome then (a.1, a.2 ++ [r]) else a) ([], [])

/-! ### Partial images (R108) -/

/-- Is a Weir of the domain past its T+0 and its window not yet open? -/
def State.inWeir (s : State) (d : Nat) : Bool :=
  match (s.dom d).stage with | .none | .window => false | _ => true
/-- Does a DRAIN_PACED domain run no Weir (R470)? -/
def State.noWeirs (s : State) (d : Nat) : Bool :=
  (s.dom d).mode == 1 && (s.dom d).stage == .window && (s.runningIn d).isEmpty && (s.dom d).readyAt.isNone

/-- One domain's records of a waiting partial image apply. -/
def State.applyPartial (s : State) (d : Nat) (p : Partial) : State :=
  let s := { s with img := { s.img with partials := s.img.partials.map (fun (q : Partial) => if q.seq == p.seq then { q with recs := q.recs.del d } else q) } }
  s.swapRecs d p.seq (p.recs.get d)

/-- A partial image takes its place among those that wait; `l` holds its records by domain and those that concern none. -/
def State.takePartial (s : State) (seq : Nat) (l : Tab (List Rec)) (ps : List Rec) : State :=
  let held := s.img.replacing.isSome
  let p : Partial := {
    seq, recs := if held && !ps.isEmpty then l.set 8 ps else l, domains := l.keys, fresh := l.keys.filter s.inWeir }
  let s := { s with img := { s.img with partials := s.img.partials ++ [p] } }
  if held then s
  else
    let s := (ps.filterMap Rec.asP).foldl (fun s c => s.await { fn := 64, q := seq } c) s
    let s := if l.isEmpty then s.journal (s.st.domains.keys.headD 0) [.image seq true] else s
    let now := l.keys.filter s.noWeirs
    let s := now.foldl (fun s d => (s.applyPartial d p).journal d [.image seq true]) s
    s.imageSettle.pace

/-! ### Installation (R107, R427, R428, R434) -/

/-- Registers that a DOMAIN record loads. -/
def State.loadDomainRegs (s : State) (d : Nat) (q : DomainRec) (defined : Bool) : State :=
  let g := if defined then (if q.guard == 0 then 12000 else q.guard) else 0
  ((s.wrBoth (weirReg d 0) (if defined && q.mode != 1 then 16 * q.mode else 0)).wrBoth (weirReg d 0x10) (if defined then q.phase else 0)).wrBoth
    (weirReg d 0x14) g
/-- A domain of a newly installed structure: its first Weir falls under R428. -/
def State.domainMake (s : State) (q : DomainRec) : State :=
  let d := q.domain
  let x : Domain := { mode := q.mode, modeReq := if q.mode == 1 then 0 else q.mode, num := q.num, den := q.den, phase := q.phase
                      guard := guardNs q.guard, auto := true }
  let s := (s.loadDomainRegs d q true).setDom d x
  if q.mode == 1 then s.setDom d { x with next := s.now + 512 }
  else
    let n := x.tickAfter (phcNs s.time.phc)
    let soon := decide (s.cyclesTo (x.tickNs n % 2 ^ 64) < oMax (s.rdn (cnfReg 0x000)) s.st.pair.enabled)
    s.loadTick d (if soon then n + 1 else n)
/-- The port formation of the new structure (R143, R145). -/
def State.formPorts (s : State) (old : DeviceRec) : State :=
  (List.range 16).foldl (fun s n =>
    let was := old.portCfg.getD n 0
    let cfg := s.st.device.portCfg.getD n 0
    if portLanes was == portLanes cfg && portFirst was == portFirst cfg then s
    else
      let s := s.portDown n 1
      let lanes := (List.range (portLanes was)).map (portFirst was + ·) ++ s.st.portLanes n
      let s := lanes.foldl (fun s l => s.setLane l (s.lane l).idle) s
      if s.st.portFormed n then (s.portFormedLat n).portMake n else s) s
/-- The pairing role once a structure is installed (R382, R387). -/
def State.installRole (s : State) (was : Bool) : State :=
  let on := s.st.pair.enabled
  if was == on && s.pair.role != 0 then s.updPair (fun p => { p with
      journal := [], dump := [], arrived := [], resync := [], resynced := [], owed := [], late := [], healTx := [], healRx := [] })
  else if was == on then s
  else
    let s := if s.outf.gate || s.pair.actOut then s.gateClose s.pair.actOut else s
    let s := s.updPair (fun p => { actIn := p.actIn, lowSince := s.now, actOut := p.actOut, fatal := p.fatal, hold := p.hold, role := p.role,
                                   hbAt := s.now, intervalAt := s.now })
    (s.setRole (if on then 1 else 0)).pairSettle

/-- The structure that stands goes: courses, inflows, services, subscribers, images that wait (R107 step 3). -/
def State.dropStructure (s : State) : State :=
  let s := s.img.partials.foldl (fun s p => s.ev 0x0304 0x5100 p.seq) s
  let ws := s.waiting
  let s := { s with waiting := [], img := { s.img with partials := [] } }
  let s := ws.foldl (fun s w => s.complete w.o .badParam 0 0) s
  let s := (s.st.courses.keys.foldl (fun s c => (s.courseStop c).dropRun c) s)
  let old := s.st.inflows.vals
  let s := old.foldl State.inflowDeleted { s with st := { s.st with inflows := [] } }
  s.updOut (fun o => { o with svcs := [], subs := [], ports := o.ports.mapv (fun _ x => { x with dups := [] }) })

/-- A structure is installed. -/
def State.install (s : State) (seq : Nat) (t : Structure) : State :=
  let was := s.paired
  let old := s.st.device
  let s := s.dropStructure
  let s := { s with
    st := t, placed := t.segs, degraded := [], stages := [], doms := []
    img := { s.img with present := true, replacing := none, stopped := [], runningSeq := seq
                        kept := s.img.kept.filter (fun k => decide (seq ≤ k.seq)) } }
  let s := s.wrn (cnfReg 0x000) t.qos.timeoutSet
  let s := s.wrn (glb 0x84) ((if t.device.scrubHours == 0 then 24 else t.device.scrubHours) * 65536 + bnat t.device.disturbPm2 * 256 +
    (if t.device.disturbK == 0 then 11 else t.device.disturbK))
  let s := (List.range 8).foldl (fun s d => if t.domains.has d then s else s.loadDomainRegs d {} false) s
  let s := t.domains.vals.foldl State.domainMake s
  let s := s.formPorts old
  let s := t.courses.keys.foldl (fun s c =>
    let s := (t.rendsOf c).foldl (fun s q => { s with rends := s.rends.set q.rendition {}, rings := s.rings.del q.rendition }) s
    s.courseEnter c) s
  let s := t.inflows.vals.foldl State.inflowCreated s
  let s := t.services.vals.foldl (fun s v => s.svcCreate v.service 0) s
  let s := t.subs.vals.foldl (fun s u => s.subCreate u.subscriber) s
  let s := ((List.range 26).filter (fun b => s.pwrState b && (s.powerWork b).isSome)).foldl (fun s b =>
    (s.setFld (glb 0xA0) b b 0).powerUp b) s
  let s := s.installRole was
  if s.boot.done then s
  else ({ s with boot := { s.boot with done := true, stage := 4 } }).ev 0x0F01 0x5100
    (sat 16 ((s.now - s.boot.at_) / 1500000) * 65536 + s.boot.fwCopy % 2)

/-! ### A full image while a structure runs (R107) -/

/-- A domain stops its courses for good: the structure is about to change, or the device is in fatal state. -/
def State.stopDomain (s : State) (d : Nat) : State :=
  let s := ((s.st.coursesOf d).map (·.course)).foldl State.courseStop s
  let s := s.updDom d (fun x => { x with stage := .none, readyAt := none, latched := [], closing := [], auto := false })
  if s.img.stopped.contains d then s else { s with img := { s.img with stopped := s.img.stopped ++ [d] } }
/-- A domain whose compute plane is idle: its latched commands apply, then it stops at once. -/
def State.stopIdle (s : State) (d : Nat) : State :=
  let x := s.dom d
  let l := x.closing ++ x.latched
  let tick := if x.stage == .window then x.tick + 1 else x.tick
  ((s.updDom d (fun y => { y with latched := [], closing := [] })).applyLatched d tick l).stopDomain d
/-- Every domain that need not wait for its Weir stops; the others stop at theirs. -/
def State.startReplace (s : State) (seq : Nat) (t : Structure) : State :=
  let s := { s with img := { s.img with replacing := some (seq, t) } }
  (s.st.domains.keys.filter (fun d => !s.img.stopped.contains d && ((s.runningIn d).isEmpty || ((s.dom d).mode == 1 && (s.waitsInput d || (s.dom d).stage == .hold))))).foldl
    State.stopIdle s
/-- Have all domains stopped? -/
def State.allStopped (s : State) : Bool := s.st.domains.keys.all (fun d => s.img.stopped.contains d)

/-- IMAGE_INSTALL: the last domain has stopped. -/
def execImageInstall (s : State) : Host.Outcome State Fault Refusal :=
  .next (match s.img.replacing with
    | some (seq, t) => if s.allStopped then (s.install seq t).pace else s
    | none => s)

/-! ### Acceptance (R79, R141, R392) -/

/-- An image is accepted. -/
def State.imageAccept (s : State) (h : HeaderRec) (recs : List Rec) (t : Structure) (b : Bytes) : State :=
  let part := h.kind == 1
  let first := !s.img.everAccepted
  let s := ({ s with img := { s.img with
    accSeq := h.imageSeq, everAccepted := true, kept := s.img.kept ++ [KeptImage.mk h.imageSeq part b] } }).ev 0x0301 0x5100 h.imageSeq
  let s := if first then s.setDevMaint s.devMaintCmd else s
  let s := if s.pair.role == 3 && s.guavoUp then s.emit (.guavo (.image b)) else s
  if part then (let l := byDomain s.chainSt (s.chainSt.addRecs recs) recs; s.takePartial h.imageSeq l.1 l.2)
  else if s.img.present then s.startReplace h.imageSeq t
  else (s.install h.imageSeq t).pace
/-- An image is refused (R101). -/
def State.imageRefuse (s : State) (reason record : Nat) : State :=
  ({ s with img := { s.img with reason, failRecord := record } }).ev 0x0302 0x5100 (reason * 2 ^ 24 + record % 2 ^ 24)

/-! ### IMAGE_LOAD and IMAGE_STATUS (R100, R127) -/

/-- IMAGE_LOAD: the read of `len` bytes at `addr` begins. -/
def execImageLoad (o : Origin) (addr len : Nat) (s : State) : Host.Outcome State Fault Refusal :=
  .next (s.checked o [(decide (addr < 2 ^ 64) && decide (len < 2 ^ 32), .badParam), (o.fn == 0, .notOwner), (!s.standby, .standby),
    (s.img.loading.isNone && !s.isFatal, .noResource)] (fun s => { s with img := { s.img with loading := some (.command o) } }))

/-- IMAGE_CHECK_DONE: the image as read, none where a host read failed. It waits for the flash copies (R424, R426). -/
def State.imageChecked (s : State) (o : Origin) (b : Option Bytes) : State :=
  let s := { s with img := { s.img with loading := none } }
  match b with
  | none => s.bufferLost o
  | some b =>
    match checkImage s.checkCtx b with
    | .accepted h recs t => (s.imageAccept h recs t b).complete o .ok 0 h.imageSeq
    | .refused reason record =>
      let adm := decide (0x20 ≤ reason)
      (s.imageRefuse reason record).complete o (if adm then .refusedAdmission else .badParam) (if adm then reason else 0)
        (reason * 2 ^ 24 + record % 2 ^ 24)
def execImageCheckDone (b : Option Bytes) (s : State) : Host.Outcome State Fault Refusal :=
  .next (match s.img.loading with
    | some (.command o) => if s.boot.trained && s.boot.flashImage != 0 then s.imageChecked o b else s
    | _ => s)

/-- GLB.IMG_STATUS. -/
def State.imgStatus (s : State) : Nat :=
  s.img.reason % 256 * 2 ^ 24 + sat 16 s.img.failRecord * 256 + bnat (!s.img.partials.isEmpty) * 16 + bnat s.img.replacing.isSome * 8 +
    bnat s.img.loading.isSome * 4 + bnat s.img.present
/-- IMAGE_STATUS writes 32 bytes to host memory; `wrote` is false where that failed (R123). -/
def execImageStatus (o : Origin) (addr : Nat) (wrote : Bool) (s : State) : Host.Outcome State Fault Refusal :=
  .next (if !wrote then s.bufferLost o
    else (s.hostWr o.fn addr (leBytes 8 s.imgStatus ++ leBytes 8 s.img.runningSeq ++ leBytes 8 s.img.accSeq ++ leBytes 8 0)).complete o .ok 0
      s.imgStatus)

/-! ### The flash image area (R99, R426) -/

/-- The verdict on a flash copy; only KIND 0 is taken. -/
def State.flashCheck (s : State) (b : Bytes) : Verdict :=
  match checkImage s.checkCtx b with
  | .accepted h recs t => if h.kind == 0 then .accepted h recs t else .refused 0x0C 0
  | v => v
def State.flashBad (s : State) (copy : Nat) : Verdict → State
  | .refused reason _ => s.ev 0x0309 0x5100 (copy * 2 ^ 24 + reason)
  | .accepted .. => s
/-- The copy taken: the higher sequence, the lower copy at a tie. -/
def flashTake : Verdict → Verdict → Nat
  | .accepted h _ _, .accepted g _ _ => if h.imageSeq < g.imageSeq then 2 else 1
  | .accepted .., .refused .. => 1
  | .refused .., .accepted .. => 2
  | .refused .., .refused .. => 3
/-- FLASH_IMAGE_SELECT: the two copies as the flash holds them. -/
def State.flashSelect (s : State) (a b : Bytes) : State :=
  let va := s.flashCheck a
  let vb := s.flashCheck b
  let n := flashTake va vb
  let s := (({ s with boot := { s.boot with flashImage := n } }).flashBad 0 va).flashBad 1 vb
  match (if n == 1 then some (va, a) else if n == 2 then some (vb, b) else none) with
  | some (.accepted h recs t, x) => s.imageAccept h recs t x
  | _ => s
def execFlashImageSelect (a b : Bytes) (s : State) : Host.Outcome State Fault Refusal :=
  .next (if s.boot.trained && s.boot.flashImage == 0 && s.boot.stage == 3 then s.flashSelect a b else s)

/-! ### Key slots and the floor (R79, R97, R98) -/

def State.keyRefuse (s : State) (op slot : Nat) : State := s.ev 0x030B 0x5100 (op * 256 + slot)
/-- KEY_PROGRAM: the key that KEY_DATA holds goes into an empty slot. -/
def State.keyProgram (s : State) (slot : Nat) : State :=
  if !s.devMaint || s.img.slotProgrammed.getD slot true then s.keyRefuse 0 slot
  else
    let key := (List.range 24).flatMap (fun i => leBytes 4 (s.rdn (glb (0x100 + 4 * i))))
    ({ s with img := { s.img with slotProgrammed := s.img.slotProgrammed.set slot true, slotKeys := s.img.slotKeys.set slot key } }).ev
      0x030A 0x5100 slot
def execKeyProgram (slot : Nat) (s : State) : Host.Outcome State Fault Refusal := .next (if slot < 4 then s.keyProgram slot else s)
/-- KEY_REVOKE: one programmed slot that is not revoked has to remain. -/
def State.keyRevoke (s : State) (slot : Nat) : State :=
  let good (k : Nat) : Bool := s.img.slotProgrammed.getD k false && !s.img.slotRevoked.getD k false
  if !s.devMaint || !good slot || !((List.range 4).any (fun k => k != slot && good k)) then s.keyRefuse 1 slot
  else ({ s with img := { s.img with slotRevoked := s.img.slotRevoked.set slot true } }).ev 0x030A 0x5100 (256 + slot)
def execKeyRevoke (slot : Nat) (s : State) : Host.Outcome State Fault Refusal := .next (if slot < 4 then s.keyRevoke slot else s)
/-- FLOOR_LOCK. -/
def execFloorLock (s : State) : Host.Outcome State Fault Refusal := .next { s with img := { s.img with floorLocked := true } }

end Sys2Proof.Machine
end

