-- ==== Sys2Proof/Machine/WeirRegs.lean ====
section
/-! DEFINITION. WeirRegs.lean: the registers whose changes a Weir applies (R56, R60, R391), and the registers of a domain
that have rows of their own (R61, R62, R67, R68, R471). -/

namespace Sys2Proof.Machine

/-- Offsets in a CRS block whose registers a Weir applies: FT_INk_CTRL and FT_INk_DELAY, Lk_CFG, matrices and offsets,
HWA_CFG, CUT_KEY_GAP, HDR metadata, ERk_EMIT_CFG. -/
def crsWeir (o : Nat) : Bool :=
  (decide (0x100 ≤ o) && decide (o < 0x180) && (o % 0x20 == 0 || o % 0x20 == 4)) ||
  (decide (0x400 ≤ o) && decide (o < 0xA00) && o % 4 == 0 && decide (4 ≤ o % 0x80) && decide (o % 0x80 ≤ 0x30)) ||
  o == 0xC00 || o == 0xD00 || (decide (0xE20 ≤ o) && decide (o ≤ 0xE38) && o % 4 == 0) ||
  (decide (0x1000 ≤ o) && decide (o < 0x1C00) && o % 0x40 == 4)

/-- The domain whose Weir applies the register at `a`; none for other registers. -/
def State.weirDomain (s : State) (a : Nat) : Option Nat :=
  if 0x10000 ≤ a && a < 0x50000 then
    let o := a % 0x1000
    let c := (o - 0xC00) / 0x10
    if 0xC00 ≤ o && (o % 16 == 0 || o % 16 == 4) && s.st.protects.has c then some (s.domOf c) else none
  else if 0x110000 ≤ a && a < 0x118000 then
    let d := (a - 0x110000) / 0x1000
    let o := a % 0x1000
    if s.domDefined d && (o == 0 || o == 0x10 || o == 0x14) then some d else none
  else if 0x400000 ≤ a && a < 0x500000 then
    let c := (a - 0x400000) / 0x4000
    if s.st.courses.has c && crsWeir (a % 0x4000) then some (s.domOf c) else none
  else none
/-- The function that a journal names for a register: the protected layer's owner, the course's owner, PF0. -/
def State.regFn (s : State) (a : Nat) : Nat :=
  if 0x10000 ≤ a && a < 0x50000 then (a - 0x10000) / 0x1000
  else if 0x400000 ≤ a && a < 0x500000 then s.st.courseOwner ((a - 0x400000) / 0x4000)
  else 0

/-! ### The mode (R53, R68, R471) -/

/-- STATE of a domain (R471): 0 IDLE, 1 WAIT_LOCK, 2 ALIGNED, 3 UNALIGNED, 4 WAIT_INPUT. -/
def State.domState (s : State) (d : Nat) : Nat :=
  let x := s.dom d
  if !s.domDefined d then 0
  else if x.mode != 1 && x.unaligned then 3
  else if !(s.heldIn d).isEmpty then 1
  else if x.mode == 1 && !(s.runningIn d).isEmpty && (x.stage == .hold || s.waitsInput d) then 4
  else if !(s.runningIn d).isEmpty then 2
  else 0
/-- A mode change takes effect. -/
def State.modeTake (s : State) (d m : Nat) : State :=
  if (s.dom d).mode == m then s
  else (s.updDom d (fun x => { x with mode := m })).ev 0x020A (0x4100 + d) m

/-! ### Registers merged at a Weir -/

/-- One register takes its staged value (R56 step 4). -/
def State.mergeReg (s : State) (d a : Nat) (v : Word) : State :=
  let s := { s with eff := s.eff.set a v }
  if a == weirReg d 0 then s.modeTake d (bits v.toNat 5 4)
  else if a == weirReg d 0x10 then s.updDom d (fun x => { x with phase := v.toNat })
  else if a == weirReg d 0x14 then s.updDom d (fun x => { x with guard := max 4000 v.toNat })
  else
    let c := (a - 0x400000) / 0x4000
    let o := a % 0x4000
    if 0x400000 ≤ a && a < 0x500000 && 0x100 ≤ o && o < 0x180 && o % 0x20 == 0 then
      match s.st.inputs.find (4 * c + (o - 0x100) / 0x20) with
      | some i => if i.source == 1 then s.bindApply i else s
      | none => s
    else s

/-- At T+0: the writes that the Weir of domain `d` will apply. -/
def State.stageRegs (s : State) (d : Nat) : State :=
  let x := s.dom d
  let l := s.regs.filter (fun e => s.weirDomain e.1 == some d && e.1 != weirReg d 0 && e.2.toNat != s.effn e.1)
  let l := match x.modePending with | some m => Tab.set l (weirReg d 0) (BitVec.ofNat 32 (16 * m)) | none => l
  s.setDom d { x with staged := l, modePending := none }
/-- Step 4: they take effect, and an ACTIVE device journals them. -/
def State.mergeRegs (s : State) (d : Nat) : State :=
  let l := (s.dom d).staged
  let s := l.foldl (fun s e => s.mergeReg d e.1 e.2) (s.updDom d (fun x => { x with staged := [] }))
  s.journal d (l.map (fun e => .reg (s.regFn e.1) e.1 e.2))

/-- Every register that the Weir of domain `d` applies, in ascending address (R396). -/
def State.weirAddrs (s : State) (d : Nat) : List Nat :=
  let cs := (s.st.coursesOf d).map (·.course)
  let prot := (s.st.protects.vals.filter (fun p => s.domOf p.course == d)).map (fun p => (p.owner, p.course))
  let crs (c : Nat) : List Nat :=
    ((s.st.inputsOf c).filter (·.source == 1)).flatMap (fun i => [ftIn c i.input 0, ftIn c i.input 4]) ++
    (s.st.layersOf c).flatMap (fun l => (List.range 12).map (fun k => lyrReg c l.layer (4 + 4 * k))) ++
    [crsReg c 0xC00, crsReg c 0xD00] ++ (List.range 7).map (fun k => crsReg c (0xE20 + 4 * k)) ++
    (List.range (s.st.rendsOf c).length).map (fun k => erReg c k 4)
  (prot.mergeSort (fun a b => decide (a.1 < b.1) || (a.1 == b.1 && decide (a.2 ≤ b.2)))).flatMap (fun p =>
    [protReg p.1 p.2 0, protReg p.1 p.2 4]) ++
  [weirReg d 0, weirReg d 0x10, weirReg d 0x14] ++ cs.flatMap crs

/-! ### WEIR_TDn registers -/

/-- PHASE_NS (R67): a value not below the period is ignored. -/
def State.phaseWrite (s : State) (d : Nat) (w : Word) : State :=
  let r := s.st.domains.get d
  if !s.domDefined d then s
  else s.weirWrite 0 (weirReg d 0x10) (fun s =>
    if r.num * 1000000000 ≤ w.toNat * r.den then s.ev 0x020D (0x4100 + d) w.toNat else s.wr (weirReg d 0x10) w)
def execWeirPhaseWrite (d : Nat) (w : Word) (s : State) : Host.Outcome State Fault Refusal := .next (s.phaseWrite d w)

/-- GUARD_NS (R61, R62): a value that would break the condition of R62 is refused. -/
def State.guardWrite (s : State) (d : Nat) (w : Word) : State :=
  let r := s.st.domains.get d
  if !s.domDefined d then s
  else s.weirWrite 0 (weirReg d 0x14) (fun s =>
    if guardFits r.num r.den (max 4000 w.toNat) (s.rdn (cnfReg 0x000)) s.st.pair.enabled then s.wr (weirReg d 0x14) w
    else s.ev 0x020C (0x4100 + d) w.toNat)
def execGuardNsWrite (d : Nat) (w : Word) (s : State) : Host.Outcome State Fault Refusal := .next (s.guardWrite d w)

/-- MODE_REQ (R68). -/
def State.modeWrite (s : State) (d m : Nat) : State :=
  let x := s.dom d
  let n := s.domState d
  if !s.domDefined d then s
  else s.weirWrite 0 (weirReg d 0) (fun s =>
    if x.mode == 1 || (m != 0 && m != 2) then s.ev 0x020E (0x4100 + d) m
    else if n == 0 || n == 1 then
      (let s := (s.setDom d { x with modeReq := m, modePending := none }).modeTake d m
       if x.mode == m then s else s.journal d [.reg 0 (weirReg d 0) (BitVec.ofNat 32 (16 * m))])
    else s.setDom d { x with modeReq := m, modePending := if x.mode == m then none else some m })
def execModeReqWrite (d m : Nat) (s : State) : Host.Outcome State Fault Refusal := .next (s.modeWrite d m)

end Sys2Proof.Machine
end

