-- ==== Sys2Proof/Machine/Snapshot.lean ====
section
/-! DEFINITION. Snapshot.lean: what an ACTIVE device sends at step 7 of a Weir, and what a standby does with it at step 4
(R394 to R397). -/

namespace Sys2Proof.Machine

/-! ### Building a snapshot (R394) -/

/-- Bits of the digest entry of a rendition whose picture was completed in the closing window. -/
def State.digestEntry (s : State) (r : Nat) : Option DigestEntry :=
  let x := s.rend r
  match x.cur, x.digestPic with
  | some p, some n => if p.coded then
      some { rend := r, isLocal := bit x.flags 31, key := bit x.flags 30, picture := n % 2 ^ 32, digest := x.digest } else none
  | _, _ => none
/-- The picture that a rendition will code in the window about to open. -/
def State.nextCoded (s : State) (q : RendRec) : Option Nat :=
  ((s.rend q.rendition).gop.code q.reorder (s.head q.course).count).2.map (·.cap)
/-- Its egress entry: what emission will use for the first entry of that picture. -/
def State.egressEntry (s : State) (q : RendRec) : Option EgressEntry :=
  let x := s.ring q.rendition
  (s.nextCoded q).map (fun n =>
    { rend := q.rendition, rtpSeq := x.rtpSeq, tsRtpSeq := x.tsRtpSeq, ccPat := x.cc.get 0, ccPmt := x.cc.get x.pmtPid
      ccVideo := x.cc.get x.videoPid, seq := x.seq, picture := n % 2 ^ 32, delay := x.delay })

/-- Whole bytes of a level in units of 1/1,500,000 byte. -/
def levelBytes (v : Int) : Int := v / 1500000
def Node.entry (n : Node) (kind num : Nat) (r : Rates) (now : Nat) : NodeEntry :=
  let n := n.gain r now
  { kind, node := num, c := levelBytes n.c, p := levelBytes n.p, tag := n.tag % 2 ^ 48 }
def State.subEntry (s : State) (u : SubRec) : NodeEntry :=
  let x := s.osub u.subscriber
  { x.node.entry 0 u.subscriber u.rates s.now with waitKey := x.waitKey, next := x.next % 2 ^ 32, ipId := x.ipId }
/-- Node entries of a domain's snapshot. -/
def State.nodeEntries (s : State) (d : Nat) : List NodeEntry :=
  let low := s.st.domains.keys.head? == some d
  let subs := s.st.subs.vals.filter (fun u => if u.pass then low else s.domRend u.rendition == d)
  subs.map s.subEntry ++
  (if low then s.st.services.vals.map (fun v => (s.osvc v.service).entry 1 v.service v.rates s.now) ++
    s.outf.ports.map (fun e => { e.2.node.entry 2 e.1 e.2.rates s.now with tag := e.2.node.vtime % 2 ^ 48 }) else [])

/-- The state dump of a domain (R396): one entry for every command-settable and Weir-applied field of its objects. -/
def State.dumpList (s : State) (d : Nat) : List Journal :=
  let cs := s.st.coursesOf d
  let reg (a : Nat) : Journal :=
    .reg 0 a (BitVec.ofNat 32 (if a == weirReg d 0 then 16 * (s.dom d).mode else s.effn a))
  let w (l : List WCmd) : List Journal := l.map (fun c => .weir 0 c)
  let rends := cs.flatMap (fun c => s.st.rendsOf c.course)
  let run := cs.filterMap (fun c => if (s.courses.get c.course).state == .stopped then none else some (WCmd.courseStart c.course))
  let stop := cs.filterMap (fun c => if (s.courses.get c.course).state == .stopped then some (WCmd.courseStop c.course) else none)
  let sets := cs.flatMap (fun c =>
    [.courseSet c.course 1 c.freezeLimit, .courseSet c.course 2 c.keyInterval, .courseSet c.course 3 (bnat c.sceneKey),
     .courseSet c.course 4 c.delayLines])
  let rc := rends.flatMap (fun q =>
    let x := s.rend q.rendition
    let p : RcSet := { cq := x.cq, effort := x.effort, maxRate := x.raiseRate.getD x.rate, bufSize := x.raiseBuf.getD x.buf }
    (List.range 4).map (fun k => WCmd.rcSet q.rendition { p with mask := 2 ^ k }))
  let layers := cs.flatMap (fun c => (s.st.layersOf c.course).map (fun l => (c.course, l.layer)))
  let lset := layers.flatMap (fun l =>
    let y := s.layer l.1 l.2
    let p : LayerSet := { geo := y.geo, enabled := bnat y.enabled, alpha := y.alpha, fallback := y.fallback, fill := y.fill }
    (List.range 4).map (fun k => WCmd.layerSet l.1 l.2 { p with mask := 2 ^ k }))
  let flip := layers.map (fun l => WCmd.layerFlip l.1 l.2 (s.layer l.1 l.2).surface (s.layer l.1 l.2).pitch)
  let low := s.st.domains.keys.head? == some d
  let p (l : List PCmd) : List Journal := l.map (fun c => .packet 0 0 c)
  (s.weirAddrs d).map reg ++ w run ++ w stop ++ w sets ++ w rc ++ w lset ++ w flip ++
  p ((s.st.subs.vals.filter (fun u => if u.pass then low else s.domRend u.rendition == d)).map .subPut) ++
  (if low then p (s.st.services.vals.map .servicePut) ++ p (s.st.inflows.vals.map .inflowPut) else [])

/-- Step 7 of domain `d` on an ACTIVE device whose lanes are up: the snapshot is handed to the link. -/
def State.sendSnapshot (s : State) (d : Nat) : State :=
  if s.pair.role != 3 || !s.paired || !s.guavoUp then s
  else
    let p := s.pair
    let used := if p.sentAt == s.now then p.sentIn else 0
    let own := p.journal.get d
    let left := 640 - used
    let pos := if p.dump.has d then some (p.dump.get d) else if p.peerResync then some 0 else none
    let all := s.dumpList d
    let take := match pos with | some k => (all.drop k).take (left - own.length) | none => []
    let done := match pos with | some k => decide (all.length ≤ k + take.length) | none => false
    let x : Snapshot := {
      tick := (s.dom d).tick % 2 ^ 64, dom := d, alive := (p.snapAlive + 1) % 256, resync := pos.isSome, dumpEnd := done
      truncated := decide (left < own.length), pos := pos.getD 0, time := linear s.time.phc, imageSeq := s.img.runningSeq
      journal := own.take left ++ take
      digests := (s.st.rends.vals.filter (fun q => s.domOf q.course == d)).filterMap (fun q => s.digestEntry q.rendition)
      egress := (s.st.rends.vals.filter (fun q => s.domOf q.course == d && s.running q.course)).filterMap s.egressEntry
      nodes := s.nodeEntries d }
    let dump := match pos with
      | some k => if done then (if p.peerResync then p.dump.set d 0 else p.dump.del d) else p.dump.set d (k + take.length)
      | none => p.dump
    (s.updPair (fun p => { p with
      journal := p.journal.del d, snapAlive := (p.snapAlive + 1) % 256, sentAt := s.now
      sentIn := used + x.journal.length, dump := dump })).emit (.guavo (.snapshot x))

/-! ### Discarding (R395) -/

/-- JOURNAL_GAP at a tick. -/
def State.setGap (s : State) (d tick lost : Nat) : State :=
  s.updPair (fun p => { p with
    gap := true, gapTick := tick % 2 ^ 64, gapLost := (if p.gap then p.gapLost else 0) + lost
    resync := p.resync.del d, resynced := p.resynced.filter (· != d) })
/-- A snapshot for domain `d` is discarded: 1 incomplete, 2 CRC, 3 ALIVE, 4 tick. -/
def State.discardSnapshot (s : State) (d reason tick : Nat) : State :=
  ((s.setGap d tick 1).inc (guavoReg 0x1C) 1).ev 0x0C0A (0x4100 + d) (reason * 2 ^ 24 + tick % 2 ^ 24)

/-! ### Committing (R396) -/

/-- Does a command leave every field as it stands? -/
def State.wSame (s : State) : WCmd → Bool
  | .rcSet r p =>
    let x := s.rend r
    (!bit p.mask 0 || x.cq == p.cq) && (!bit p.mask 1 || x.raiseRate.getD x.rate == p.maxRate) &&
      (!bit p.mask 2 || x.raiseBuf.getD x.buf == p.bufSize) && (!bit p.mask 3 || x.effort == p.effort)
  | _ => false
/-- Does an object already stand as a record says? -/
def State.pSame (s : State) : PCmd → Bool
  | .subPut r => s.st.subs.find r.subscriber == some r
  | .servicePut r => s.st.services.find r.service == some r
  | .inflowPut r => s.st.inflows.find r.inflow == some r
  | _ => false

/-- One journal entry. P entries wait for the first packet boundary; an image waits for step 5. -/
def State.applyJournal (s : State) (d : Nat) : Journal → State
  | .weir _ c => if s.wSame c then s else s.applyW c
  | .packet f _ c => if s.pSame c then s else s.await { fn := f } c
  | .reg _ a v =>
    if a == rasReg 0x00C then { s.wr a v with ras := { s.ras with journalled := v.toNat } }
    else if a == weirReg d 0 then
      (s.updDom d (fun x => { x with modeReq := bits v.toNat 5 4 })).mergeReg d a v
    else if s.rd a == v && s.effn a == v.toNat then s else (s.wr a v).mergeReg d a v
  | .image seq _ => s.updPair (fun p => { p with owed := p.owed.set d ((p.owed.get d).filter (· != seq) ++ [seq]) })
/-- The journal, one entry a cycle. -/
def State.applyJournals (s : State) (d : Nat) : List Journal → State
  | [] => s
  | j :: r => ((s.applyJournal d j).cycles 1).applyJournals d r

/-- A digest entry against the standby's own digest of the same picture (R397). -/
def State.compareDigest (s : State) (e : DigestEntry) : State :=
  let x := s.rend e.rend
  if !s.st.rends.has e.rend || x.digestPic.map (· % 2 ^ 32) != some e.picture || x.healing then s
  else if x.digest == e.digest then
    (if x.unsynced then (s.setRend e.rend { x with unsynced := false }).evRd e.rend 0x0C0D e.picture else s)
  else s.unsync e.rend 1 e.picture
/-- An egress entry is adopted. -/
def State.adoptEgress (s : State) (e : EgressEntry) : State :=
  let x := s.ring e.rend
  let y : Ring := { x with
    rtpSeq := e.rtpSeq, tsRtpSeq := e.tsRtpSeq, seq := e.seq, delay := e.delay
    cc := if x.pids == 0 then x.cc.set 0 e.ccPat else ((x.cc.set 0 e.ccPat).set x.pmtPid e.ccPmt).set x.videoPid e.ccVideo }
  let same := x.rtpSeq == e.rtpSeq && x.tsRtpSeq == e.tsRtpSeq && x.seq == e.seq && x.delay == e.delay &&
    (x.pids == 0 || (x.cc.get 0 == e.ccPat && x.cc.get x.pmtPid == e.ccPmt && x.cc.get x.videoPid == e.ccVideo))
  if !s.st.rends.has e.rend || same then s else (s.setRing e.rend y).inc (guavoReg 0x3C) 1
/-- A node takes an entry's values. -/
def State.adoptNode (s : State) (e : NodeEntry) : State :=
  let put (n : Node) : Node := { n with c := e.c * 1500000, p := e.p * 1500000, at_ := s.now, tag := e.tag }
  match e.kind with
  | 0 => if s.outf.subs.has e.node then
      s.setOsub e.node { s.osub e.node with node := put (s.osub e.node).node, next := e.next, waitKey := e.waitKey, ipId := e.ipId }
    else s
  | 1 => if s.outf.svcs.has e.node then s.setOsvc e.node (put (s.osvc e.node)) else s
  | _ => if s.outf.ports.has e.node then
      s.setOport e.node { s.oport e.node with node := { put (s.oport e.node).node with tag := (s.oport e.node).node.tag, vtime := e.tag } }
    else s

/-- Progress of a domain's resynchronisation; once every defined domain is done JOURNAL_GAP clears. -/
def State.resyncStep (s : State) (x : Snapshot) : State :=
  let p := s.pair
  let r := if !x.resync then p.resync else if x.pos == 0 then p.resync.set x.dom 0 else p.resync
  let past := x.resync && x.dumpEnd && r.has x.dom
  let dn := if past then (p.resynced ++ [x.dom]).eraseDups else p.resynced
  let s := s.updPair (fun p => { p with resync := if past then r.del x.dom else r, resynced := dn })
  if p.gap && s.st.domains.keys.all (fun d => dn.contains d) then
    (s.updPair (fun p => { p with gap := false, gapLost := 0, resync := [], resynced := [] })).ev 0x0C0B 0x4200 p.gapLost
  else s

/-- Commitment of a snapshot at step 4. -/
def State.commitSnapshot (s : State) (x : Snapshot) : State :=
  let s := (s.updPair (fun p => { p with committed := x.alive, arrived := p.arrived.del x.dom })).inc (guavoReg 0x18) 1
  let s := s.applyJournals x.dom x.journal
  let s := x.digests.foldl State.compareDigest s
  let s := x.egress.foldl State.adoptEgress s
  let s := x.nodes.foldl State.adoptNode s
  let s := s.resyncStep x
  if x.truncated then s.setGap x.dom x.tick 0 else s

/-- The checks of R395 left for step 4: ALIVE. -/
def State.aliveOk (s : State) (x : Snapshot) : Bool := x.alive == (s.pair.committed + 1) % 256 || x.resync

end Sys2Proof.Machine
end

