-- ==== Sys2Proof/Machine/Weir.lean ====
section
/-! DEFINITION. Weir.lean: windows, their deadlines and the eight steps of a Weir (03_weir, R52 to R74, R107, R395, R428,
R469 to R471). -/

namespace Sys2Proof.Machine

/-! ### Ticks that are due (R52, R65, R66) -/

/-- May a Weir of the domain begin? -/
def State.weirFree (s : State) (d : Nat) : Bool :=
  s.domDefined d && !s.img.stopped.contains d && !s.inWeir d
/-- The cycle of the pending tick (R41, R43); of a DRAIN_PACED domain, that of its first Weir (R428). -/
def State.tickCycle (s : State) (d : Nat) : Nat :=
  let x := s.dom d
  if x.mode == 1 then x.next else s.now + s.cyclesTo x.next
/-- The number of the pending tick (R52, R53, R469). -/
def State.nextTick (s : State) (d : Nat) : Nat :=
  let x := s.dom d
  if x.stage == .settle then x.tick + 1
  else if x.mode == 1 then (if x.stage == .none then 0 else x.tick + 1)
  else x.tickAfter ((phcNs s.time.phc : Int) + signed 64 (x.next + 2 ^ 64 - linear s.time.phc)).toNat - 1

/-! ### The deadline (R61, R64) -/

/-- A Fount stream's picture freezes, and is reported. -/
def State.freezeFount (s : State) (i : InputRec) : State :=
  let p := s.fountFreeze i
  if p.1.isEmpty then p.2 else p.2.evC 0x0203 (0x1200 + i.sourceIndex) i.course (p.1.headD 0 * 2 ^ 16 + p.1.length)
/-- The fixed-rate stages of a course stop; their unfinished bands are FROZEN (R18, R190, R212, R231). -/
def State.freezeStages (s : State) (c : Nat) : State :=
  let s := (s.protDeadline c).freezeMere c
  let s := (s.st.cascadesOf c).foldl (fun s k => s.freezeCascade c k) s
  let s := (s.st.hwsOf c).foldl (fun s h => s.freezeHeadwater c h.unit) s
  ((s.st.inputsOf c).filter (·.source == 1)).foldl State.freezeFount s
/-- The deadline of a window. -/
def State.deadline (s : State) (d : Nat) : State :=
  let s := s.updDom d (fun x => { x with deadlinePassed := true })
  ((s.runningIn d).foldl State.freezeStages s).tarnDeadline d
/-- A deadline that falls before cycle `c` is met. -/
def State.deadlineBefore (s : State) (d c : Nat) : State :=
  let x := s.dom d
  if x.stage == .window && !x.deadlinePassed && decide (s.deadlineAt d < c) then (s.runTo (s.deadlineAt d)).deadline d else s
/-- WINDOW_DEADLINE. -/
def execWindowDeadline (d : Nat) (s : State) : Host.Outcome State Fault Refusal :=
  .next (if s.weirFree d && (s.dom d).stage == .window && !(s.dom d).deadlinePassed then ((s.runTo (s.deadlineAt d)).deadline d).pace else s)

/-! ### Step 1: the kill (R56, R58) -/

/-- An operation still running: its unit, course and rendition, the bands it has left and those of its picture. -/
structure Killed where
  src : Nat := 0
  course : Nat := 0
  rend : Nat := 0xFFFF
  left : Nat := 0
  total : Nat := 0
deriving DecidableEq, Repr, Inhabited

/-- The fixed-rate operations of a course. -/
def State.courseOps (s : State) (c : Nat) : List Killed :=
  let x := s.st.courses.get c
  let n := bandsOf x.height x.bandHeight
  let cas (k : Nat) : List (List Nat) := (s.st.cascadeRungs c k).map (fun g => (s.buf (rungBuf c g.rung)).curSlot.unfinished)
  let all (k : Nat) : Nat := sum ((s.st.cascadeRungs c k).map (fun g => bandsOf g.height x.bandHeight))
  (if (s.stage (.mere c)).active then
    [{ src := 0x1300 + x.mere, course := c, left := (s.buf (progBuf c)).curSlot.unfinished.length, total := n }] else []) ++
  ((s.st.cascadesOf c).filter (fun k => (s.stage (.cascade c k)).active)).map (fun k =>
    { src := 0x1400 + k, course := c, left := sum ((cas k).map List.length), total := all k }) ++
  ((s.st.hwsOf c).filter (fun h => (s.stage (.headwater c h.unit)).active)).map (fun h =>
    { src := 0x1100 + h.unit, course := c, left := ((s.buf (mapBuf c)).curSlot.unfinished.filter (fun b => h.bands.contains b)).length, total := n }) ++
  ((s.st.inputsOf c).filter (fun i => i.source == 1 && (s.stream i).au.isSome)).map (fun i =>
    let l := ((s.buf (inputBuf c i.input)).slotOf (s.stream i).cur.pic).getD {}
    { src := 0x1200 + i.sourceIndex, course := c, left := l.unfinished.length, total := l.marks.length })
/-- The segments that a domain's Tarns have not coded. -/
def State.tarnOps (s : State) (d : Nat) : List Killed :=
  (s.codingSegs d).map (fun a =>
    let x := (s.coding a.1).seg a.2
    { src := 0x1000 + x.seg.tarn, course := s.st.courseOfRend a.1, rend := a.1, left := x.bands - x.ctus / max 1 x.cols, total := x.bands })
/-- Every compute-plane operation of a domain still running, Spillway units and emission left out. -/
def State.runningOps (s : State) (d : Nat) : List Killed :=
  ((s.runningIn d).flatMap s.courseOps ++ s.tarnOps d).filter (fun k => k.left != 0)
/-- They are killed: each is reported and counted, their pictures end as at a deadline, and their transactions are finished
by Confluence (R350). -/
def State.kill (s : State) (d : Nat) : State :=
  let l := if (s.dom d).deadlinePassed then [] else s.runningOps d
  let s := (s.inc (weirReg d 0x028) l.length)
  let s := l.foldl (fun s k => s.raiseTo [] 0x0201 k.src k.course k.rend (k.left * 2 ^ 16 + k.total)) s
  let s := if (s.dom d).deadlinePassed then s else s.deadline d
  ((List.range 15).foldl (fun s m => s.masterReset m (fun t => t.dom == some d)) s).sluiceKill d

/-- An unpaired device opens its gate at the earliest first Weir of its structure (R387). -/
def State.firstOpens (s : State) : State := if s.pair.role == 0 && !s.pair.fatal && !s.pair.actOut then (s.setActOut true).gateOpen else s
/-- Tick numbers passed over (R65, R469). -/
def State.skipped (s : State) (d n : Nat) : State :=
  if n == 0 then s else (s.inc (weirReg d 0x02C) n).ev 0x0204 (0x4100 + d) (sat 32 n)

/-- T+0 of a Weir: tick `new`, which lies at `ns`. -/
def State.weirBegin (s : State) (d new ns : Nat) (forced byPeriod : Bool) : State :=
  let x := s.dom d
  let first := x.stage == .none
  let src := 0x4100 + d
  let past := if first || forced || x.mode == 1 then 0 else new - 1 - max x.tick x.seen
  let s := s.setDom d { x with
    tick := new, stage := .drain, t0 := s.now, t0Ns := ns, postBy := s.now, closing := x.latched, latched := [], readyAt := none
    unaligned := forced, forced := (if forced then x.forced + 1 else 0), byPeriod, x := 0, e := 0, spillBy := [] }
  let s := if x.mode != 1 && (s.time.cmps.get d).armed && (s.time.cmps.get d).due (linear s.time.phc) then s.fireCmp d else s
  let s := if x.mode == 1 then s else s.loadTick d (max (x.tickAfter (phcNs s.time.phc)) (new + 1))
  let s := s.skipped d past
  let s := if forced then (s.inc (weirReg d 0x030) 1).ev 0x0205 src (x.forced + 1)
    else if x.unaligned then s.ev 0x0206 src (new % 2 ^ 32) else s
  let s := if first then (s.ev 0x0209 src (new % 2 ^ 32)).firstOpens else s
  let s := s.stageRegs d
  let s := ((s.st.coursesOf d).map (·.course)).foldl (fun s c => s.lutsMap c Lut.mark) s
  s.kill d

/-- WEIR_START: the pending tick comes due, or the first Weir of a DRAIN_PACED domain. -/
def execWeirStart (d : Nat) (s : State) : Host.Outcome State Fault Refusal :=
  let x := s.dom d
  let c := s.tickCycle d
  let first := x.stage == .none
  .next (if !s.weirFree d || (x.mode == 1 && !first) || (!first && decide (s.forcedDue d < c)) then s
    else
      let s := (s.deadlineBefore d c).runTo c
      let t := phcNs s.time.phc
      let n := x.tickAfter t - 1
      let new := if x.mode == 1 then 0 else if first then n else max n (x.tick + 1)
      s.weirBegin d new (if x.mode != 1 && new == n then x.tickNs n else t) false false)
/-- FORCED_WEIR: no tick has come within 2 W of the opening, or W of the last forced Weir. -/
def execForcedWeir (d : Nat) (s : State) : Host.Outcome State Fault Refusal :=
  let x := s.dom d
  let c := s.forcedDue d
  .next (if !s.weirFree d || x.mode == 1 || x.stage == .none || decide (s.tickCycle d ≤ c) then s
    else
      let s := (s.deadlineBefore d c).runTo c
      s.weirBegin d (x.tick + 1) (phcNs s.time.phc) true false)
/-- DRAIN_PERIOD_EXPIRED: a DRAIN_PACED window has not drained within the period (R55). -/
def execDrainPeriodExpired (d : Nat) (s : State) : Host.Outcome State Fault Refusal :=
  let x := s.dom d
  let c := x.openAt + s.winOf d
  .next (if !s.weirFree d || x.mode != 1 || x.stage == .none || (s.runningIn d).isEmpty || s.drained d then s
    else
      let s := (s.deadlineBefore d c).runTo c
      s.weirBegin d (x.tick + 1) (phcNs s.time.phc) false true)
/-- DRAIN_PACED_WEIR_DUE: 512 cycles after both events of R55. -/
def execDrainPacedWeirDue (d : Nat) (s : State) : Host.Outcome State Fault Refusal :=
  let x := s.dom d
  .next (match x.readyAt with
    | some t =>
      if !s.weirFree d || x.mode != 1 || x.stage == .none then s
      else
        let s := (s.deadlineBefore d (t + 512)).runTo (t + 512)
        s.weirBegin d (x.tick + 1) (phcNs s.time.phc) false false
    | none => s)

/-! ### Step 4: commands, registers, held starts (R54, R86, R107, R406) -/

/-- Courses with AUTOSTART start at the first Weir of their domain. -/
def State.autoStart (s : State) (d : Nat) : State :=
  if !(s.dom d).auto then s
  else ((s.st.coursesOf d).map (·.course)).foldl State.courseAuto (s.updDom d (fun x => { x with auto := false }))
def State.weirCommands (s : State) (d : Nat) : State :=
  let s := s.mergeRegs d
  let s := ((s.st.coursesOf d).map (·.course)).foldl (fun s c => s.lutsMap c Lut.apply) s
  let s := s.autoStart d
  let l := (s.dom d).closing
  (((s.updDom d (fun x => { x with closing := [] })).applyLatched d (s.dom d).tick l)).heldStart d

/-! ### Step 5: images and placement (R108, R392, R408 to R410) -/

/-- Images that the peer journalled for this domain, those that came late first. -/
def State.owedHere (s : State) (d : Nat) : List Nat := (s.pair.late.get d ++ s.pair.owed.get d).eraseDups
/-- A staged partial image waits as an accepted one does. -/
def State.unstage (s : State) (x : StagedImage) : State :=
  let s := s.updPair (fun p => { p with staged := p.staged.filter (fun y => y.seq != x.seq) })
  let p : Partial := { seq := x.seq, recs := x.recs, domains := x.domains }
  x.p.foldl (fun s c => s.await { fn := 64, q := x.seq } c) { s with img := { s.img with partials := s.img.partials ++ [p] } }
/-- The renditions of the courses that one domain's records name are UNSYNCED (R392). -/
def State.unsyncImage (s : State) (recs : List Rec) : State :=
  let cs := recs.filterMap (fun r => match r with | .course 2 _ => none | .course _ x => some x.course | _ => none)
  (cs.flatMap (fun c => s.st.rendsOf c)).foldl (fun s q => s.unsync q.rendition 2 0) s
/-- One image owed to domain `d`: a partial one applies, a full one stops the domain; one that has not arrived stays owed. -/
def State.applyOwed (s : State) (d seq : Nat) : State :=
  let isLate := (s.pair.late.get d).contains seq
  let x := s.pair.staged.find? (fun y => y.seq == seq)
  let s := match x with
    | some y => if y.part then s.unstage y else s.startReplace seq y.full
    | none => s
  let drop (s : State) : State := s.updPair (fun p => { p with late := p.late.set d ((p.late.get d).filter (· != seq)) })
  match s.img.partials.find? (fun p => p.seq == seq) with
  | some p =>
    let s := (drop s).applyPartial d p
    if isLate then s.unsyncImage (p.recs.get d) else s
  | none =>
    if s.img.replacing.map (·.1) == some seq then (drop s).stopDomain d
    else if isLate then s
    else s.updPair (fun p => { p with late := p.late.upd d (fun l => l ++ [seq]) })
def State.weirOwed (s : State) (d : Nat) : State :=
  let l := s.owedHere d
  l.foldl (fun s q => s.applyOwed d q) (s.updPair (fun p => { p with owed := p.owed.del d }))
/-- Partial images that wait for domain `d` on its own account: accepted before T+0, in order. -/
def State.weirPartials (s : State) (d : Nat) : State :=
  let l := s.img.partials.filter (fun p => p.recs.has d)
  let s := (l.filter (fun p => !p.fresh.contains d)).foldl (fun s p => (s.applyPartial d p).journal d [.image p.seq true]) s
  { s with img := { s.img with partials := s.img.partials.map (fun (p : Partial) => { p with fresh := p.fresh.filter (· != d) }) } }

/-- Steps 5 to 7, and the settle of step 8 begins. -/
def State.weirSwap (s : State) (d : Nat) : State :=
  let some_ := if s.standby then !(s.owedHere d).isEmpty else s.img.partials.any (fun p => p.recs.has d && !p.fresh.contains d)
  let s := if s.standby then s.weirOwed d else s.weirPartials d
  if s.img.stopped.contains d then s
  else
    let a := s.imageSettle.swapUnits d some_
    let s := (s.runningIn d).foldl State.captionRead (a.1.cycles a.2)
    let b := s.powerWeir d
    let s := (((b.1.cycles b.2).thermApply d).sendSnapshot d).cycles 2
    s.updDom d (fun x => { x with stage := .settle, openAt := s.now + 1024 })

/-- Step 4 once nothing is waited for. In fatal state, and where a full image waits, the domain stops here. -/
def State.weirApply (s : State) (d : Nat) : State :=
  let s := s.weirCommands d
  match s.img.replacing with
  | some (seq, _) =>
    if s.isFatal then s.stopDomain d
    else if s.standby then s.weirSwap d
    else ((s.journal d [.image seq false]).sendSnapshot d).stopDomain d
  | none => if s.isFatal then s.stopDomain d else s.weirSwap d

/-! ### Step 4 on a standby: the snapshot (R395, R396) -/

/-- A snapshot is discarded for the Weir in progress; the wait goes on. -/
def State.snapDrop (s : State) (d reason : Nat) : State :=
  (s.discardSnapshot d reason (s.dom d).tick).updPair (fun p => { p with arrived := p.arrived.set d none })
/-- A snapshot is at hand for the Weir in progress. -/
def State.snapTake (s : State) (d : Nat) (x : Snapshot) : State :=
  if x.tick != (s.dom d).tick % 2 ^ 64 then
    (s.discardSnapshot d 4 (s.dom d).tick).updPair (fun p => { p with arrived := p.arrived.del d })
  else if !s.aliveOk x then s.snapDrop d 3
  else (s.commitSnapshot x).weirApply d
/-- Step 4 begins. -/
def State.weirSnap (s : State) (d : Nat) : State :=
  if !s.standby then s.weirApply d
  else
    let s := s.updDom d (fun x => { x with stage := .snap })
    match s.pair.arrived.find d with
    | some (some x) => s.snapTake d x
    | _ => s

/-! ### Steps 2 and 3 -/

/-- Step 3, and the hold of a DRAIN_PACED Weir that its period began (R55). -/
def State.weirMiddle (s : State) (d : Nat) : State :=
  let s := (s.sluiceCut d).cycles 4
  if (s.dom d).byPeriod && !(s.runningIn d).isEmpty && !s.leadReady d then s.updDom d (fun x => { x with stage := .hold })
  else s.weirSnap d

/-- Renditions of a domain whose picture is not yet coded and emitted. -/
def State.busyRends (s : State) (d : Nat) : List Nat :=
  (s.runningIn d).flatMap (fun c => ((s.st.rendsOf c).map (·.rendition)).filter s.codingBusy)
/-- Spillway units that still work for a domain. -/
def State.busySpills (s : State) (d : Nat) : List Nat :=
  (s.spills.filter (fun e => e.2.queue.any (fun j => s.domRend (j.seg / 16) == d))).map (·.1)
/-- DRAIN_MAX. -/
def State.drainMax (s : State) (d n : Nat) : State := s.wrn (weirReg d 0x034) (max (s.rdn (weirReg d 0x034)) n)

/-- WEIR_DRAINED: no tagged transaction is left (R352). With Spillway units and emission done, the Weir goes on. -/
def State.weirDrained (s : State) (d : Nat) : State :=
  let x := s.dom d
  if !(s.domDefined d && x.stage == .drain && s.tagged d == 0) then s
  else
    let s := s.runTo (x.t0 + 32)
    let w := s.now - (x.t0 + 32)
    let s := (s.updDom d (fun x => { x with x := w })).drainMax d w
    let s := if w == 0 then s else s.ev 0x0202 (0x4100 + d) w
    let ks := s.busySpills d
    let rs := s.busyRends d
    if ks.isEmpty && rs.isEmpty then s.weirMiddle d
    else s.updDom d (fun x => { x with stage := .spill
                                       spillBy := (if ks.isEmpty then (rs.flatMap (fun r => (s.segsOf r).map (·.tarn / 4))).eraseDups else ks) })
def execWeirDrained (d : Nat) (s : State) : Host.Outcome State Fault Refusal := .next (s.weirDrained d).pace

/-- SPILL_DRAIN_DONE: the wait E ends (R58). -/
def State.spillDrained (s : State) (d : Nat) : State :=
  let x := s.dom d
  if !(s.domDefined d && x.stage == .spill && (s.busySpills d).isEmpty && (s.busyRends d).isEmpty) then s
  else
    let e := s.now - (x.t0 + 32 + x.x)
    let s := (s.updDom d (fun x => { x with e })).drainMax d (x.x + e)
    let s := if e == 0 then s else x.spillBy.foldl (fun s k => (s.inc (spwReg k 0x010) 1).ev 0x020B (0x1500 + k) e) s
    s.weirMiddle d
def execSpillDrainDone (d : Nat) (s : State) : Host.Outcome State Fault Refusal := .next (s.spillDrained d).pace

/-- INPUT_HOLD_RELEASE: step 4 begins 512 cycles after the last lead band is WRITTEN (R55). -/
def State.holdRelease (s : State) (d : Nat) : State :=
  let x := s.dom d
  match x.readyAt with
  | some t =>
    if !(s.domDefined d && x.stage == .hold) then s
    else
      let s := s.runTo (t + 512)
      (s.updDom d (fun y => { y with readyAt := none, postBy := s.now })).weirSnap d
  | none => s
def execInputHoldRelease (d : Nat) (s : State) : Host.Outcome State Fault Refusal := .next (s.holdRelease d).pace

/-! ### The window opens (R56, R469) -/

/-- The first tick after the opening is loaded; numbers passed over are counted. -/
def State.openTick (s : State) (d : Nat) : State :=
  let x := s.dom d
  if x.mode == 1 then s
  else
    let m := max (x.tickAfter (phcNs s.time.phc)) (x.tick + 1)
    ((s.updDom d (fun y => { y with seen := m - 1 })).loadTick d m).skipped d (m - x.tick - 1)
/-- Founts: the streams of a course choose their access units; `aus` are those complete, by stream. -/
def State.fountsOpen (s : State) (d : Nat) (aus : Tab (List AccessUnit)) (c : Nat) : State :=
  ((s.st.inputsOf c).filter (·.source == 1)).foldl (fun s i => s.fountOpen i (s.dom d) (aus.get (inKey i))) s
/-- Cycle counts of the Founts that serve a domain roll over. -/
def State.fountsRoll (s : State) (d : Nat) : State :=
  { s with founts := s.founts.mapv (fun f u => if (s.st.fountInputs f).any (fun i => s.domOf i.course == d) then u.open else u) }
/-- WINDOW_OPEN: the settle ends. A device in fatal state opens no window (R406). -/
def State.windowOpen (s : State) (d : Nat) (aus : Tab (List AccessUnit)) : State :=
  let x := s.dom d
  if !(s.domDefined d && x.stage == .settle) then s
  else if s.isFatal then (s.runTo x.openAt).stopDomain d
  else
    let s := s.runTo x.openAt
    let s := s.setDom d { x with stage := .window, openCycles := s.now - x.t0, openAt := s.now, deadlinePassed := false, byPeriod := false }
    let s := s.openTick d
    let cs := s.runningIn d
    let s := cs.foldl State.protOpen s
    let s := cs.foldl (fun s c => s.fountsOpen d aus c) (s.fountsRoll d)
    let s := cs.foldl (fun s c => s.latchLayers c x.postBy) s
    let s := cs.foldl (fun s c => ((s.openPictures c).hwOpen c).hinRefresh c) s
    let s := s.tarnsOpen d
    let s := cs.foldl (fun s c => (s.st.rendsOf c).foldl State.healResume s) s
    cs.foldl State.keysOpen s
def execWindowOpen (d : Nat) (aus : Tab (List AccessUnit)) (s : State) : Host.Outcome State Fault Refusal := .next (s.windowOpen d aus).pace

end Sys2Proof.Machine
end

