-- ==== Sys2Proof/Machine/Interlock.lean ====
section
/-! DEFINITION. Interlock.lean: the interlock lines, claims and withdrawals, the watchdog and PAIR_CTL (17_guavo, R380 to
R387, R399, R400). -/

namespace Sys2Proof.Machine

/-! ### Becoming ACTIVE (R383, R395, R399) -/

/-- A Weir that waits for a snapshot: the one under way is incomplete. -/
def State.snapCut (s : State) (d : Nat) : State :=
  let tick := (s.dom d).tick
  let s := if s.pair.arrived.find d == some none then s else s.discardSnapshot d 1 tick
  s.updPair (fun p => { p with arrived := p.arrived.del d, gap := true, gapTick := tick % 2 ^ 64 })
/-- A rendition not SYNCED codes its own key picture (R282, R399). -/
def State.takeRend (s : State) (r : Nat) : State :=
  let x := s.rend r
  if x.unsynced || x.healing then s.setRend r { x with healing := false, unsynced := true, ownKey := true } else s
/-- Images staged and not yet applied wait as accepted ones do. -/
def State.takeStaged (s : State) (x : StagedImage) : State := if x.part then s.unstage x else s.startReplace x.seq x.full

/-- A CLAIMING device's gate opens. -/
def State.takeover (s : State) : State :=
  let ds := s.st.domains.keys.filter (fun d => (s.dom d).stage == .snap)
  let s := ds.foldl State.snapCut s
  let n := s.now - s.pair.lowSince
  let s := (((s.setRole 3).gateOpen).inc (guavoReg 0x40) 1).wrn (guavoReg 0x44) n
  let s := s.ev 0x0C01 0x4200 (bnat s.pair.gap * 2 ^ 31 + sat 16 n)
  let s := if s.pair.gap then s.ev 0x0C12 0x4200 (s.pair.gapTick % 2 ^ 32) else s
  let s := s.st.rends.keys.foldl State.takeRend s
  let l := s.pair.staged
  let s := s.updPair (fun p => { p with
    count := none, journal := [], dump := [], arrived := [], staged := [], owed := [], late := [], healRx := [] })
  let s := l.foldl State.takeStaged s
  ds.foldl State.weirApply s

/-! ### The lines -/

/-- ACT_IN_CHANGE: the logic takes a new level of ACT_IN (R381, R383, R384). -/
def State.actInChange (s : State) (level : Bool) : State :=
  if s.pair.actIn == level then s
  else
    let s := s.updPair (fun p => { p with actIn := level, lowSince := if level then p.lowSince else s.now })
    if !s.paired then s
    else match s.pair.role, level with
      | 3, true =>
        let s := s.ev 0x0C07 0x4200 s.boot.seat
        if s.boot.seat == 1 then s.withdraw else s.gateClose false
      | 3, false => s.gateOpen
      | 2, true =>
        if s.boot.seat == 1 && decide (s.now ≤ s.pair.claimAt + 64) then
          (s.withdraw).ev 0x0C06 0x4200 (s.now - s.pair.claimAt)
        else s
      | 2, false => if decide (s.pair.claimAt + 304 ≤ s.now) then s.takeover else s
      | _, _ => s.pairSettle
def execActInChange (level : Bool) (s : State) : Host.Outcome State Fault Refusal := .next (s.actInChange level).pace

/-- CLAIM_HOLDOFF_EXPIRED. -/
def execClaimHoldoffExpired (s : State) : Host.Outcome State Fault Refusal :=
  .next (match s.pair.count with
    | some t =>
      let s := s.runTo (t + (if s.boot.seat == 1 then 1024 else 256))
      ((s.updPair (fun p => { p with claimAt := s.now, count := none })).setActOut true).setRole 2
    | none => s)
/-- CLAIM_CONFIRM_END: 64 cycles after its own assertion seat B has seen no other claim; where ACT_IN stands asserted it
withdraws. -/
def execClaimConfirmEnd (s : State) : Host.Outcome State Fault Refusal :=
  .next (if s.pair.role != 2 then s
    else
      let s := s.runTo (s.pair.claimAt + 64)
      if s.boot.seat == 1 && s.pair.actIn && s.now == s.pair.claimAt + 64 then (s.withdraw).ev 0x0C06 0x4200 64 else s)
/-- TAKEOVER_GATE_OPEN. -/
def execTakeoverGateOpen (s : State) : Host.Outcome State Fault Refusal :=
  .next (if s.pair.role == 2 && !s.pair.actIn then ((s.runTo (s.pair.claimAt + 304)).takeover).pace else s)
/-- NO_ACTIVE_TIMEOUT (R384), once in a stretch. -/
def execNoActiveTimeout (s : State) : Host.Outcome State Fault Refusal :=
  .next (match s.pair.noneFrom with
    | some t =>
      let told := (s.limits.get (0xC08 * 2 ^ 16)).last.any (fun l => decide (t ≤ l))
      if told then s
      else
        let s := s.runTo (t + 1024)
        ({ s with limits := s.limits.set (0xC08 * 2 ^ 16) { last := some s.now } }).ev 0x0C08 0x4200 (bnat s.pair.hold + 2 * bnat s.pair.peerHold)
    | none => s)

/-! ### The watchdog (R85, R385, R386) -/

/-- WATCHDOG_EXPIRY: the gate closes in this cycle; the device is ineligible until device reset. -/
def State.watchdog (s : State) : State :=
  let s := match s.injected 0x4200 [9] with | some (_, s) => s | none => s
  let s := s.ev 0x0C09 0x4200 s.st.pair.watchdogUs
  (s.updPair (fun p => { p with fatal := true })).withdraw
def execWatchdogExpiry (s : State) : Host.Outcome State Fault Refusal := .next s.watchdog

/-! ### The drain of a withdrawal (R320, R385) -/

/-- EGRESS_DRAIN_DONE: the last frame has left; ACT_OUT falls, and a WITHDRAWING device becomes STANDBY. -/
def State.drainDone (s : State) : State :=
  if !s.outf.draining then s
  else
    let s := s.drainEnd.setActOut false
    let s := match s.pair.yieldBy with
      | some (o, t) => (s.updPair (fun p => { p with yieldBy := none })).complete o .ok 0 (s.now - t)
      | none => s
    if s.pair.role == 4 then (s.setRole 1).pairSettle else s
def execEgressDrainDone (s : State) : Host.Outcome State Fault Refusal := .next s.drainDone

/-! ### PAIR_CTL (R126, R400) -/

/-- Renditions not SYNCED. -/
def State.unsyncedCount (s : State) : Nat :=
  (s.st.rends.keys.filter (fun r => (s.rend r).unsynced || (s.rend r).healing)).length
/-- GUAVO.STATUS. -/
def State.guavoStatus (s : State) : Nat :=
  let p := s.pair
  p.role * 2 ^ 29 + s.boot.seat % 2 * 2 ^ 28 + bnat p.peerAlive * 2 ^ 27 + bnat s.guavoUp * 2 ^ 26 + bnat s.canClaim * 2 ^ 25 +
    bnat p.hold * 2 ^ 24 + bnat p.fatal * 2 ^ 23 + bnat p.gap * 2 ^ 22 + bnat p.diverged * 2 ^ 21 + s.unsyncedCount % 1024
def State.pairChecks (s : State) (o : Origin) (ok : Bool) : List (Bool × Status) := [(ok && !s.early, .badParam), (o.fn == 0, .notOwner)]

def execPairCtlStatus (o : Origin) (arg : Nat) (s : State) : Host.Outcome State Fault Refusal :=
  .next (s.checked o (s.pairChecks o (arg == 0)) (fun s => s.complete o .ok 0 s.guavoStatus))
def execPairCtlHold (o : Origin) (arg : Nat) (s : State) : Host.Outcome State Fault Refusal :=
  .next (s.checked o (s.pairChecks o (decide (arg < 2) && s.paired)) (fun s =>
    let s := (s.updPair (fun p => { p with hold := arg == 1 })).pairSettle
    s.complete o .ok 0 s.guavoStatus))
/-- YIELD: the completion waits for ACT_OUT to fall. -/
def execPairCtlYield (o : Origin) (arg : Nat) (s : State) : Host.Outcome State Fault Refusal :=
  .next (s.checked o (s.pairChecks o (arg == 0 && s.paired && s.pair.role == 3 && s.pair.peerAlive && !s.pair.peerHold)) (fun s =>
    (s.updPair (fun p => { p with hold := true, yieldBy := some (o, s.now) })).withdraw))
def execPairCtlHeal (o : Origin) (arg : Nat) (s : State) : Host.Outcome State Fault Refusal :=
  .next (s.checked o (s.pairChecks o (s.st.rends.has arg && s.standby)) (fun s =>
    (s.unsync arg 4 (((s.rend arg).digestPic).getD 0)).complete o .ok 0 0))

end Sys2Proof.Machine
end

