-- ==== Sys2Proof/Machine/Link.lean ====
section
/-! DEFINITION. Link.lean: heartbeats, snapshots and images on the pairing link (17_guavo, R388 to R396). -/

namespace Sys2Proof.Machine

/-! ### Heartbeats (R389, R390) -/

/-- The heartbeat of the present cycle. -/
def State.heartbeat (s : State) : Bytes :=
  let p := s.pair
  let b := leBytes 8 s.st.pair.pairId ++ leBytes 1 p.hbAlive ++ leBytes 1 p.role ++
    leBytes 1 (bnat p.hold + 2 * bnat s.canClaim + 4 * bnat p.gap) ++ leBytes 1 0 ++ leBytes 4 s.unsyncedCount ++
    leBytes 8 s.img.runningSeq ++ leBytes 8 s.img.accSeq ++ leBytes 8 (linear s.time.phc) ++ leBytes 4 0
  b ++ leBytes 4 (crc32.of b)
/-- HEARTBEAT_SEND, every 8,192 cycles while the lanes are up. A standby's list of UNSYNCED renditions follows it (R398). -/
def State.heartbeatSend (s : State) : State :=
  if !(s.paired && s.guavoUp) then s
  else
    let s := s.runTo (s.pair.hbAt + 8192)
    let s := s.updPair (fun p => { p with hbAt := s.now, hbAlive := (p.hbAlive + 1) % 256 })
    let s := s.emit (.guavo (.heartbeat s.heartbeat))
    if s.standby && s.st.pair.healBudget != 0 && !s.healList.isEmpty then s.emit (.guavo (.status s.healList)) else s
def execHeartbeatSend (s : State) : Host.Outcome State Fault Refusal := .next s.heartbeatSend

/-- An accepted heartbeat. -/
def State.heartbeatTake (s : State) (b : Bytes) : State :=
  let p := s.pair
  let flags := u8 b 10
  let s := s.updPair (fun p => { p with
    lastAlive := some (u8 b 8), missed := 0, intervalAt := s.now, peerAlive := true, peerHold := bit flags 0, peerImage := u64 b 16
    peerResync := p.role == 3 && bit flags 2 })
  let s := if p.peerAlive then s else s.ev 0x0C04 0x4200 (sat 32 p.missed)
  if s.pair.role == 3 && (u64 b 16 != s.img.runningSeq || u64 b 24 != s.img.accSeq) then
    s.emits (s.img.kept.map (fun k => .guavo (.image k.bytes)))
  else s
/-- HEARTBEAT_RECEIVED: a message's bytes; `fcs` is false where a frame of it had a bad FCS (R388). -/
def State.heartbeatReceived (s : State) (b : Bytes) (fcs : Bool) : State :=
  if !fcs then s.inc (guavoReg 0x38) 1
  else if !s.paired || b.length != 48 || crc32.of (b.take 44) != u32 b 44 then s
  else if u64 b 0 != s.st.pair.pairId then s.limited (0xC10 * 2 ^ 16) msCycles (fun _ s => s.ev 0x0C10 0x4200 (u64 b 0 % 2 ^ 32))
  else if s.pair.lastAlive == some (u8 b 8) then s
  else s.heartbeatTake b
def execHeartbeatReceived (b : Bytes) (fcs : Bool) (s : State) : Host.Outcome State Fault Refusal := .next (s.heartbeatReceived b fcs)

/-- HEARTBEAT_INTERVAL_MISSED: at the fourth in a row the peer is silent. -/
def State.heartbeatMissed (s : State) : State :=
  if !s.paired then s
  else
    let s := (s.runTo (s.pair.intervalAt + 8192)).inc (guavoReg 0x14) 1
    let s := s.updPair (fun p => { p with missed := p.missed + 1, intervalAt := s.now })
    if s.pair.missed != 4 then s
    else
      let s := (s.updPair (fun p => { p with peerAlive := false })).ev 0x0C03 0x4200 (s.pair.lastAlive.getD 0)
      s.ev 0x0C05 0x4200 (bnat s.pair.actIn)
def execHeartbeatIntervalMissed (s : State) : Host.Outcome State Fault Refusal := .next s.heartbeatMissed

/-! ### Snapshots (R395) -/

/-- SNAPSHOT_RECEIVED: a complete message, its trailer CRC good or bad. -/
def State.snapReceived (s : State) (x : Snapshot) (crcOk : Bool) : State :=
  let d := x.dom
  let y := s.dom d
  let inStep := y.stage == .drain || y.stage == .spill || y.stage == .hold || y.stage == .snap
  let want := if inStep then y.tick else s.nextTick d
  if !s.standby || !s.domDefined d then s
  else if !crcOk then (s.discardSnapshot d 2 want).updPair (fun p => { p with arrived := p.arrived.set d none })
  else if x.tick != want % 2 ^ 64 then
    (if !inStep && y.stage != .none && x.tick == y.tick % 2 ^ 64 then s else s.discardSnapshot d 4 want)
  else if y.stage == .snap then s.snapTake d x
  else s.updPair (fun p => { p with arrived := p.arrived.set d (some x) })
def execSnapshotReceived (x : Snapshot) (crcOk : Bool) (s : State) : Host.Outcome State Fault Refusal := .next (s.snapReceived x crcOk).pace

/-- SNAPSHOT_WAIT_TIMEOUT: T+16,384. What has not been discarded yet is incomplete. -/
def State.snapTimeout (s : State) (d : Nat) : State :=
  let y := s.dom d
  if !(s.domDefined d && y.stage == .snap) then s
  else
    let s := s.runTo (y.t0 + 16384)
    let s := if s.pair.arrived.find d == some none then s else s.discardSnapshot d 1 y.tick
    (s.updPair (fun p => { p with arrived := p.arrived.del d })).weirApply d
def execSnapshotWaitTimeout (d : Nat) (s : State) : Host.Outcome State Fault Refusal := .next (s.snapTimeout d).pace

/-! ### Images (R392) -/

/-- The structure that the next image from the peer follows. -/
def State.stagedSt (s : State) : Structure :=
  s.pair.staged.foldl (fun t x => if x.part then x.p.foldl Structure.applyP (t.addRecs x.recs.vals.flatten) else x.full) s.chainSt
def State.peerCtx (s : State) : CheckCtx :=
  { s.checkCtx with
    chain := s.stagedSt, fromPeer := true, peer := some (if s.pair.imageSeq == 0 then s.img.accSeq else s.pair.imageSeq)
    pendingRecs := s.pendingRecs ++ s.pair.staged.flatMap (fun x => x.recs.vals.flatten) }
/-- An image that passes is staged, unless it is already there or running. -/
def State.stage_ (s : State) (h : HeaderRec) (recs : List Rec) (t : Structure) (b : Bytes) : State :=
  let seq := h.imageSeq
  let part := h.kind == 1
  let have_ := decide (seq ≤ s.img.runningSeq) || s.pair.staged.any (fun x => x.seq == seq) || s.img.partials.any (fun p => p.seq == seq) ||
    s.img.replacing.map (·.1) == some seq
  let l := if part then byDomain s.stagedSt t recs else ([], [])
  let x : StagedImage := {
    seq, part, full := if part then {} else t, domains := l.1.keys, recs := l.1, p := l.2.filterMap Rec.asP }
  if have_ then s
  else
    let s := { s with img := { s.img with accSeq := seq, kept := s.img.kept ++ [KeptImage.mk seq part b] } }
    s.updPair (fun p => { p with staged := p.staged ++ [x] })
/-- PAIR_IMAGE_RECEIVED. -/
def State.pairImage (s : State) (b : Bytes) : State :=
  if !(s.paired && s.standby) then s
  else
    let seq := (readHeader b).imageSeq
    let r := checkImage s.peerCtx b
    let s := s.updPair (fun p => { p with imageSeq := seq })
    match r with
    | .accepted h recs t => s.stage_ h recs t b
    | .refused reason record =>
      (s.updPair (fun p => { p with diverged := true })).ev 0x0C0F 0x4200 (reason * 2 ^ 24 + record % 2 ^ 24)
def execPairImageReceived (b : Bytes) (s : State) : Host.Outcome State Fault Refusal := .next (s.pairImage b)

end Sys2Proof.Machine
end

