-- ==== Sys2Proof/Machine/Startup.lean ====
section
/-! DEFINITION. Startup.lean: resets, firmware selection, training, the start-up bounds and the flash (19_startup, R419
to R426, R435). -/

namespace Sys2Proof.Machine

def State.updBoot (s : State) (f : Boot → Boot) : State := { s with boot := f s.boot }
/-- Whole milliseconds since SYS_RESET_N deasserted. -/
def State.bootMs (s : State) : Nat := sat 16 ((s.now - s.boot.at_) / msCycles)

/-! ### Device reset (R419 to R422, R435) -/

/-- The balls as the device enters reset. -/
def State.resetPins (s : State) : List Output :=
  s.inl.up.map (fun p => Output.pin (.led p) true s.now) ++
  (if s.replaceLow then [Output.pin .replaceN true s.now] else []) ++ (if s.alertLow then [Output.pin .alertN true s.now] else []) ++
  (s.time.pins.filter (fun e => e.2.level)).map (fun e => Output.pin (.timeOut e.1) false s.now)
/-- Everything takes its reset value. Fuses, straps and the thermal comparator stand (assumption log entry 4). -/
def State.toReset (s : State) (inReset powered : Bool) (cause : Nat) : State :=
  { pending := s.pending, now := s.now, free := s.free, out := s.out ++ s.resetPins, regs := [(glb 0x28, BitVec.ofNat 32 cause)]
    img := { slotProgrammed := s.img.slotProgrammed, slotRevoked := s.img.slotRevoked, slotKeys := s.img.slotKeys }
    ras := { trip := s.ras.trip }
    boot := { inReset, powered, perst := s.boot.perst, seat := s.boot.seat, tapReset := s.boot.tapReset, at_ := s.now } }
/-- Before reset the gate closes, frames in transmission leave, and ACT_OUT falls (R421). -/
def State.resetDrain (s : State) : State :=
  let s := if s.outf.gate then s.gateClose true else s
  (if s.outf.draining then s.drainEnd else s).setActOut false

/-- SYS_RESET_ASSERT. -/
def execSysResetAssert (s : State) : Host.Outcome State Fault Refusal :=
  .next (if s.boot.inReset then s else s.resetDrain.toReset true s.boot.powered 0)
/-- SYS_RESET_DEASSERT: the straps are sampled; `seat` is PAIR_SEAT. -/
def execSysResetDeassert (seat : Bool) (s : State) : Host.Outcome State Fault Refusal :=
  .next (if !s.boot.inReset then s
    else (s.toReset false true (if s.boot.powered then 2 else 1)).updBoot (fun b => { b with seat := bnat seat }))
/-- DEVICE_RESET: a write of GLB.CTRL by PF0; the device leaves reset at once. -/
def State.glbCtrl (s : State) (w : Word) : State :=
  if bits w.toNat 31 16 == 0x9600 && bit w.toNat 0 then s.resetDrain.toReset false true 4 else s
def execDeviceReset (w : Word) (s : State) : Host.Outcome State Fault Refusal := .next (s.glbCtrl w)
/-- SUPPLY_LOSS: no drain; ACT_OUT reads as deasserted. -/
def execSupplyLoss (s : State) : Host.Outcome State Fault Refusal :=
  .next (if !s.boot.powered then s
    else
      let s := s.setActOut false
      let s := if s.ras.trip then ({ s with ras := { s.ras with trip := false } }).emit (.pin .thermTripN true s.now) else s
      s.toReset true false 0)

/-! ### PERST_N and TRST_N (R419, R424) -/

/-- PERST_ASSERT: the PCIe controller, link and configuration spaces, and every function (R139, R140). -/
def State.perstAssert (s : State) : State :=
  if s.boot.perst || s.boot.inReset then s.updBoot (fun b => { b with perst := true })
  else
    let s := { s with boot := { s.boot with perst := true }, pcie := { s.pcie with up := false, lost := true } }
    let n := s.fld (glb 0x28) 31 16
    let s := s.setFld (glb 0x28) 31 16 (sat 16 (n + 1))
    (s.ev 0x0F07 0x5000 (s.courses.vals.filter (fun x => x.state == .running)).length).flr 0
def execPerstAssert (s : State) : Host.Outcome State Fault Refusal := .next s.perstAssert
/-- PERST_DEASSERT: the link trains from here on; LINK_UP reports it. -/
def execPerstDeassert (s : State) : Host.Outcome State Fault Refusal := .next (s.updBoot (fun b => { b with perst := false }))
/-- TRST_ASSERT. -/
def execTrstAssert (s : State) : Host.Outcome State Fault Refusal := .next (s.updBoot (fun b => { b with tapReset := true }))

/-! ### Firmware (R423, R455) -/

def State.fwCopyBad (s : State) (copy : Nat) (x : FwCopy) : State :=
  if x.bad == 0 then s else s.ev 0x0F02 0x5100 (copy * 2 ^ 24 + x.bad % 256)
/-- A set point is sent over AVSBus; none acknowledged leaves the last one (R455). -/
def State.avsSend (s : State) (mv : Nat) (ack : Bool) : State :=
  let s := (s.updBoot (fun b => { b with avsAt := some s.now })).emit (.avs mv)
  if ack then (s.setFld (glb 0xB0) 26 16 mv).setFld (glb 0xB0) 31 31 0
  else (s.setFld (glb 0xB0) 31 31 1).ev 0x0F08 0x5100 (s.fld (glb 0xB0) 26 16)
/-- FIRMWARE_VERIFY: what the ROM finds of the two copies, and whether the regulator acknowledges the fused set point. -/
def State.firmwareVerify (s : State) (a b : FwCopy) (ack : Bool) : State :=
  if s.boot.inReset || s.boot.stage != 0 then s
  else
    let s := (s.fwCopyBad 0 a).fwCopyBad 1 b
    if a.bad != 0 && b.bad != 0 then s.updBoot (fun x => { x with stage := 15 })
    else
      let n := bnat (a.bad != 0 || (b.bad == 0 && decide (a.version < b.version)))
      let s := s.updBoot (fun x => { x with stage := 2, fwCopy := n })
      ((s.wrn (glb 0x30) (if n == 0 then a.version else b.version)).setFld (glb 0x2C) 15 0 s.bootMs).avsSend Config.fusedMv ack
def execFirmwareVerify (a b : FwCopy) (ack : Bool) (s : State) : Host.Outcome State Fault Refusal := .next (s.firmwareVerify a b ack)

/-! ### Training and its bounds (R337, R425) -/

/-- Once every channel is live or excluded the device waits for an image. -/
def State.trainingEnds (s : State) : State :=
  if s.boot.stage == 2 && (List.range 32).all (fun n => (s.chan n).live || s.excluded.contains n) then
    (s.updBoot (fun b => { b with trained := true, stage := 3 })).setFld (glb 0x2C) 31 16 s.bootMs
  else s
/-- HBM_TRAINING: what training leaves of the channels named. -/
def execHbmTraining (l : List ChanTraining) (s : State) : Host.Outcome State Fault Refusal :=
  .next (if s.boot.stage != 2 then s
    else ((l.filter (fun t => decide (t.chan < 32) && !(s.chan t.chan).live && !s.excluded.contains t.chan)).foldl State.trainChan s).trainingEnds)

/-- STARTUP_TIMEOUT: of HBM training, or of lane bring-up. -/
def State.startupTimeout (s : State) (lanes : Bool) : State :=
  if s.boot.inReset || s.boot.stage == 15 || s.boot.stage == 0 then s
  else if lanes then
    let late := (List.range 52).filter (fun n => !(s.lane n).calibrated || (!isGv n && ((s.lane n).state == 1 || (s.lane n).state == 2)))
    if late.isEmpty then s
    else
      let s := s.runTo (s.boot.at_ + 475 * msCycles)
      (late.foldl (fun (s : State) n => s.laneFail n (if (s.lane n).calibrated then 2 else 1)) s).ev 0x0F03 0x5100 2
  else if s.boot.stage != 2 then s
  else
    let s := s.runTo (s.boot.at_ + 575 * msCycles)
    let late := (List.range 32).filter (fun n => !(s.chan n).live && !s.excluded.contains n)
    ((late.foldl (fun (s : State) n => s.excludeChan n 0 3) s).ev 0x0F03 0x5100 1).trainingEnds
def execStartupTimeout (lanes : Bool) (s : State) : Host.Outcome State Fault Refusal := .next (s.startupTimeout lanes)

/-! ### The flash (R423) -/

/-- A write of FLASH_CTRL.OP; one while an operation runs has no effect. -/
def State.flashStart (s : State) (op : Nat) : State :=
  if s.boot.flashOp.isSome then s
  else if !s.devMaint then s.updBoot (fun b => { b with flashErr := true })
  else
    let a := s.rdn (glb 0x204)
    let a := if op == 1 then a / 65536 * 65536 else a / 256 * 256
    let d := if op == 2 then (List.range 64).flatMap (fun i => leBytes 4 (s.rdn (glb (0x300 + 4 * i)))) else []
    (s.updBoot (fun b => { b with flashOp := some (op, a) })).emit (.flashOp op a d)
def execFlashErase (s : State) : Host.Outcome State Fault Refusal := .next (s.flashStart 1)
def execFlashProgram (s : State) : Host.Outcome State Fault Refusal := .next (s.flashStart 2)
def execFlashRead (s : State) : Host.Outcome State Fault Refusal := .next (s.flashStart 3)
/-- FLASH_OP_DONE: what the flash answers; a read's 256 bytes go into FLASH_DATA. -/
def execFlashOpDone (ok : Bool) (data : Bytes) (s : State) : Host.Outcome State Fault Refusal :=
  .next (match s.boot.flashOp with
    | none => s
    | some (op, _) =>
      let s := s.updBoot (fun b => { b with flashOp := none, flashErr := b.flashErr || !ok })
      if ok && op == 3 then (List.range 64).foldl (fun (s : State) i => s.wrn (glb (0x300 + 4 * i)) (u32 data (4 * i))) s else s)

end Sys2Proof.Machine
end

