-- ==== Sys2Proof/Machine/Package.lean ====
section
/-! DEFINITION. Package.lean: the VDD_CORE set point and the supply monitor (21_package, R455, R456). -/

namespace Sys2Proof.Machine

/-- AVS_ADJUST: at most once a second, by at most 10 mV; a fused set point that was not acknowledged is tried again.
`ack` is the regulator's answer. -/
def State.avsAdjust (s : State) (mv : Nat) (ack : Bool) : State :=
  let held := s.fld (glb 0xB0) 26 16
  let near := decide (mv ≤ held + 10) && decide (held ≤ mv + 10) && decide (650 ≤ mv) && decide (mv ≤ 850) && mv % 5 == 0
  let retry := s.fld (glb 0xB0) 31 31 == 1 && mv == Config.fusedMv
  match s.boot.avsAt with
  | some t => if near || retry then (s.runTo (t + 1500000000)).avsSend mv ack else s
  | none => s
def execAvsAdjust (mv : Nat) (ack : Bool) (s : State) : Host.Outcome State Fault Refusal := .next (s.avsAdjust mv ack)

/-- Is `mv` beyond `pct` percent of `nom`? -/
def beyond (nom mv pct : Nat) : Bool := decide (nom * pct < 100 * (max nom mv - min nom mv))
/-- SUPPLY_EXCURSION: rail 0 is VDD_CORE, 1 VDD_SRAM; `long` where a departure beyond 8% has lasted more than 64 cycles. -/
def State.supplyExcursion (s : State) (rail mv : Nat) (long : Bool) : State :=
  if 2 ≤ rail then s
  else
    let nom := if rail == 0 then s.fld (glb 0xB0) 26 16 else 800
    let s := if rail == 0 then s.setFld (glb 0xB4) 31 16 mv else s.setFld (glb 0xB4) 15 0 mv
    if !beyond nom mv 5 then s
    else
      let last := if rail == 0 then s.boot.warnCore else s.boot.warnSram
      let due := match last with | some t => decide (t + 1500000000 ≤ s.now) | none => true
      let s := if due then (s.updBoot (fun b => if rail == 0 then { b with warnCore := some s.now } else { b with warnSram := some s.now })).ev
          0x0F09 0x5100 (rail * 65536 + mv % 65536)
        else s
      if long && beyond nom mv 8 then s.fatal 4 false else s
def execSupplyExcursion (rail mv : Nat) (long : Bool) (s : State) : Host.Outcome State Fault Refusal :=
  .next (s.supplyExcursion rail mv long)

end Sys2Proof.Machine
end

