-- ==== Sys2Proof/Machine/RegMap.lean ====
section
/-! DEFINITION. RegMap.lean: which PF0 BAR0 offsets are mapped (R115, R116), which bits of each register a plain write
changes (RW, RWL), which bits a read clears (RC), and which reads latch another register. -/

namespace Sys2Proof.Machine

/-- What a read has to do with latches: nothing; it latches the next word (a LO half); it returns the latched word. -/
inductive Latching where
  | none | lo | hi
deriving DecidableEq, Repr, Inhabited

/-- `n` registers from offset `off` of a block: bits that a plain write changes, bits that a read clears. -/
structure RegRow where
  off : Nat
  n : Nat := 1
  rw : Nat := 0
  rc : Nat := 0
  lat : Latching := .none
deriving Repr, Inhabited

/-- A block of registers: `count` instances `size` apart from `base`. -/
structure RegBlock where
  base : Nat
  size : Nat
  count : Nat
  rows : List RegRow
deriving Repr, Inhabited

def allBits : Nat := 0xFFFFFFFF
/-- Registers without a bit that a plain write changes. -/
def roRow (off n : Nat) : RegRow := { off, n }
def rwRow (off n : Nat) : RegRow := { off, n, rw := allBits }
def rcRow (off n : Nat) : RegRow := { off, n, rc := allBits }
/-- A LO half that latches its HI. -/
def pairRow (off : Nat) : List RegRow := [{ off, lat := .lo }, { off := off + 4, lat := .hi }]

def glbRows : List RegRow :=
  [roRow 0x00 4, roRow 0x20 5, roRow 0x40 5, rwRow 0x54 2, roRow 0x5C 2, { off := 0x64, rw := 0x300 }, roRow 0x80 2] ++ pairRow 0x90 ++
  [roRow 0xA0 3, roRow 0xB0 2, rwRow 0x100 24, roRow 0x200 1, rwRow 0x204 1, rwRow 0x300 64]
def funcRows : List RegRow :=
  [roRow 0x000 1] ++ (List.range 8).flatMap (fun q => [rwRow (0x100 + 0x40 * q) 4, roRow (0x110 + 0x40 * q) 2]) ++
  [rwRow 0x400 2, roRow 0x408 2, rwRow 0x410 2, roRow 0x418 2, rcRow 0x420 1, roRow 0x500 16, roRow 0x580 16, roRow 0x600 128,
   rwRow 0x800 2, roRow 0x808 3, rcRow 0x814 1, roRow 0xC00 256]
def timeRows : List RegRow :=
  [roRow 0x000 2, roRow 0x010 4, roRow 0x020 1, rwRow 0x024 5, roRow 0x038 1, roRow 0x040 4, { off := 0x050, n := 4, rw := 0xFFFFFF },
   rwRow 0x060 3, { off := 0x070, rw := 0xFFFFFF }]
def crsRows : List RegRow :=
  [roRow 0x000 1] ++
  (List.range 4).flatMap (fun k => [roRow (0x100 + 0x20 * k) 1, rwRow (0x104 + 0x20 * k) 1,
    { off := 0x108 + 0x20 * k, rw := 0x1FFFFFFF }, roRow (0x10C + 0x20 * k) 2]) ++
  (List.range 12).flatMap (fun k => [roRow (0x400 + 0x80 * k) 1, { off := 0x404 + 0x80 * k, rw := 3 }, rwRow (0x408 + 0x80 * k) 4,
    { off := 0x418 + 0x80 * k, rw := 0xFFFF0000 }, { off := 0x41C + 0x80 * k, n := 6, rw := 0x3FFFF }, rwRow (0x434 + 0x80 * k) 2,
    roRow (0x43C + 0x80 * k) 1, rcRow (0x440 + 0x80 * k) 2]) ++
  [rwRow 0xA00 2, roRow 0xA08 1, roRow 0xA40 8, rwRow 0xC00 1, roRow 0xC04 1, rcRow 0xC08 3, { off := 0xD00, rw := 0xFFFF0000 },
   roRow 0xD04 2, rwRow 0xE00 2, roRow 0xE08 1, rwRow 0xE0C 1, roRow 0xE10 1, rwRow 0xE20 7, rwRow 0xE40 1] ++
  (List.range 48).flatMap (fun k => [roRow (0x1000 + 0x40 * k) 1, { off := 0x1004 + 0x40 * k, rw := 0xFFFC7F07 },
    rwRow (0x1008 + 0x40 * k) 6, roRow (0x1020 + 0x40 * k) 3, rcRow (0x102C + 0x40 * k) 1, roRow (0x1030 + 0x40 * k) 2])
def rndRows : List RegRow :=
  pairRow 0x100 ++ [roRow 0x108 3, rcRow 0x114 5, roRow 0x200 1] ++ pairRow 0x204 ++ [roRow 0x20C 7, rcRow 0x228 6, roRow 0x240 2] ++
  pairRow 0xF00 ++ [roRow 0xF08 1, { off := 0xF0C, lat := .hi }, roRow 0xF10 1]

/-- Every block of R116, as its chapter lays it out. -/
def regBlocks : List RegBlock := [
  ⟨glb 0, 0x10000, 1, glbRows⟩,
  ⟨funcReg 0 0, 0x1000, 64, funcRows⟩,
  ⟨timeReg 0, 0x100, 1, timeRows⟩,
  ⟨timePort 0 0, 0x20, 16, [rwRow 0x00 2, roRow 0x08 5, rcRow 0x1C 1]⟩,
  ⟨timeReg 0x400, 0x10, 16, [roRow 0x0 4]⟩,
  ⟨weirReg 0 0, 0x1000, 8, [roRow 0x000 10, rcRow 0x028 5]⟩,
  ⟨guavoReg 0, 0x1000, 1, [roRow 0x000 5, rcRow 0x014 3, roRow 0x020 4] ++ pairRow 0x030 ++ [rcRow 0x038 3, roRow 0x044 1]⟩,
  ⟨chkReg 0 0, 0x100, 16, [roRow 0x00 2, rwRow 0x08 6, roRow 0x20 2] ++ pairRow 0x28 ++ pairRow 0x30 ++
    [roRow 0x38 1, { off := 0x3C, rc := 0xFFFF0000 }, roRow 0x40 1]⟩,
  ⟨bceReg 0 0, 0x1000, 2, [roRow 0x00 16]⟩,
  ⟨sluiceReg 0 0, 0x1000, 64, [rwRow 0x00 5, roRow 0x14 1, rwRow 0x18 1, roRow 0x40 6, rcRow 0x58 1, roRow 0x5C 1]⟩,
  ⟨cnfReg 0, 0x1000, 1, [roRow 0x000 1, roRow 0x010 3, rcRow 0x01C 1, roRow 0x020 3, rcRow 0x02C 1, roRow 0x040 8]⟩,
  ⟨cnfReg 0x1000, 0x40, 22, [roRow 0x00 3] ++ pairRow 0x0C ++ [rcRow 0x14 4]⟩,
  ⟨resReg 0 0, 0x8000, 32, [roRow 0x000 2, rcRow 0x008 2, roRow 0x010 2, rwRow 0x018 1, roRow 0x01C 1, rcRow 0x020 4, roRow 0x030 1] ++
    pairRow 0x034 ++ pairRow 0x03C ++ [roRow 0x100 8]⟩,
  ⟨crsReg 0 0, 0x4000, 64, crsRows⟩,
  ⟨rndReg 0 0, 0x1000, 512, rndRows⟩,
  ⟨inlReg 0, 0x1000, 1, [{ off := 0, rw := 3 }, rwRow 4 1]⟩,
  ⟨inlReg 0x1000, 0x100, 16, [roRow 0x00 1, rwRow 0x04 1, { off := 0x08, rw := 0xFFFF }, rwRow 0x0C 1] ++ pairRow 0x10 ++ [rcRow 0x18 7]⟩,
  ⟨inlReg 0x40000, 0x40, 1024, [roRow 0x00 1] ++ pairRow 0x04 ++ pairRow 0x0C ++ [rcRow 0x14 8, roRow 0x34 1]⟩,
  ⟨outReg 0, 0x1000, 1, [roRow 0x000 2, rcRow 0x008 1]⟩,
  ⟨outReg 0x1000, 0x100, 16, [roRow 0x00 1, rwRow 0x04 4, roRow 0x14 2] ++ pairRow 0x1C ++ [roRow 0x24 4, rcRow 0x34 3]⟩,
  ⟨outReg 0x10000, 0x40, 512, [roRow 0x00 3] ++ pairRow 0x0C ++ pairRow 0x14 ++ pairRow 0x1C ++ pairRow 0x24⟩,
  ⟨outReg 0x20000, 0x80, 4096, [roRow 0x00 10, rcRow 0x28 4, roRow 0x38 1]⟩,
  ⟨hwReg 0 0, 0x10000, 8, [roRow 0x000 3] ++ (List.range 16).map (fun i => roRow (0x100 + 8 * i) 1)⟩,
  ⟨tarnReg 0 0, 0x10000, 36, [roRow 0x000 3, rcRow 0x00C 2, roRow 0x014 2, roRow 0x100 128]⟩,
  ⟨ftReg 0, 0x10000, 8, [roRow 0x000 3] ++ (List.range 8).flatMap (fun k => [roRow (0x100 + 0x40 * k) 1] ++ pairRow (0x104 + 0x40 * k) ++
    [rcRow (0x10C + 0x40 * k) 1, roRow (0x110 + 0x40 * k) 1, rcRow (0x114 + 0x40 * k) 6])⟩,
  ⟨mereReg 0, 0x10000, 8, [roRow 0x000 3, rcRow 0x00C 1]⟩,
  ⟨casReg 0, 0x10000, 8, [roRow 0x000 3]⟩,
  ⟨spwReg 0 0, 0x1000, 9, [roRow 0x000 1, rcRow 0x004 4]⟩,
  ⟨laneReg 0 0, 0x10000, 52, [roRow 0x000 5] ++ pairRow 0x014 ++ pairRow 0x01C ++ [roRow 0x024 1, rcRow 0x028 2]⟩,
  ⟨rasReg 0, 0x1000, 1, [roRow 0x000 7, rcRow 0x01C 2, rwRow 0x024 2, roRow 0x02C 1, rcRow 0x030 1, roRow 0x040 2]⟩]

def RegRow.has (r : RegRow) (o : Nat) : Bool := decide (r.off ≤ o) && decide (o < r.off + 4 * r.n)
def RegBlock.has (b : RegBlock) (a : Nat) : Bool := decide (b.base ≤ a) && decide (a < b.base + b.size * b.count)
/-- The row of the register at PF0 BAR0 offset `a`; none where it is unmapped or not a word's address. -/
def regRow (a : Nat) : Option RegRow :=
  if a % 4 != 0 then none
  else match regBlocks.find? (fun b => b.has a) with
    | some b => b.rows.find? (fun r => r.has ((a - b.base) % b.size))
    | none => none

end Sys2Proof.Machine
end

