-- ==== Sys2Proof/Machine/RegView.lean ====
section
/-! DEFINITION. RegView.lean: the word that each register shows where it is more than the register itself: the status of
the units and what the structure gives them. Each view follows the register table of its chapter. -/

namespace Sys2Proof.Machine

/-- A word built from fields: value and lowest bit. -/
def fields (l : List (Nat × Nat)) : Nat := sum (l.map (fun e => e.1 * 2 ^ e.2))
/-- The half of a 64-bit value: LO for an offset equal to `lo`, HI for the next word. -/
def half (o lo v : Nat) : Nat := if o == lo then v % 2 ^ 32 else v / 2 ^ 32 % 2 ^ 32
/-- A word without a value of the spec's: an observation of the lines, or a table's cut (assumption log entry 6). -/
def State.freeAt (s : State) (a : Nat) : Nat := (Config.freeWord (s.free + a)).toNat

/-! ### GLB -/

/-- GLB.KEY_STAT. -/
def State.keyStat (s : State) : Nat :=
  sum ((List.range 4).map (fun k => bnat (s.img.slotProgrammed.getD k false) * 4 ^ k + bnat (s.img.slotRevoked.getD k false) * (2 * 4 ^ k)))
def State.bootStatus (s : State) : Nat := fields [(s.boot.flashImage % 256, 24), (s.boot.fwCopy % 2, 16), (s.boot.stage % 16, 0)]
def State.viewGlb (s : State) (o : Nat) : Nat :=
  match o with
  | 0x24 => s.bootStatus
  | 0x40 => s.imgStatus
  | 0x44 | 0x48 => half o 0x44 s.img.runningSeq
  | 0x4C | 0x50 => half o 0x4C s.img.accSeq
  | 0x5C => bnat s.img.floorLocked
  | 0x60 => s.keyStat
  | 0xA8 => Nat.xor (s.rdn (glb 0xA0)) (s.rdn (glb 0xA4)) % 2 ^ 26
  | 0xB0 => fields [(s.fld (glb 0xB0) 31 31, 31), (s.fld (glb 0xB0) 26 16, 16), (Config.fusedMv % 2048, 0)]
  | 0x200 => fields [(bnat s.boot.flashOp.isSome, 31), (bnat s.boot.flashErr, 30)]
  | _ => if 0x100 ≤ o ∧ o < 0x160 then 0 else s.rdn (glb o)

/-! ### FUNC -/

def SqPair.cfgWord (x : SqPair) : Nat := fields [(bnat x.en, 31), (x.vector, 16), (bnat x.irqEn, 8), (x.sizeM1, 0)]
def SqPair.statusWord (x : SqPair) : Nat := fields [(bnat x.error, 31), (x.reason, 28), (x.cqTail, 16), (x.sqHead, 0)]
def ExcRing.cfgWord (x : ExcRing) : Nat := fields [(bnat x.en, 31), (x.vector, 16), (bnat x.irqEn, 8), (x.sizeLog2, 0)]
def Evq.ctrlWord (x : Evq) : Nat := fields [(bnat x.en, 31), (bnat x.overflow, 30), (x.vector, 16), (x.sizeLog2, 0)]
/-- Commands of a function fetched and not completed. -/
def Func.running (y : Func) : Nat := sum (y.sqs.vals.map (·.running))
def State.funcStatus (s : State) (f : Nat) : Nat :=
  fields [(bnat (s.st.funcs.get f).enabled, 31), (bnat (s.fnMaint f), 30), (bnat s.devMaint, 29), (bnat s.standby, 28),
    ((s.func f).running % 2048, 0)]
/-- FUNC_Fn.PROT_Cnn. -/
def State.viewProt (s : State) (f c o : Nat) : Nat :=
  let p := s.prot c
  let own := s.st.protects.has c && (s.st.protects.get c).owner == f
  match o with
  | 8 => if own then fields [(1, 31), (bnat p.verified.isSome, 30), (bnat p.hold, 29), (bnat p.failing, 28), (p.failWindows % 65536, 0)] else 0
  | 12 => if own then p.lastCheck else 0
  | _ => s.rdn (protReg f c o)
def State.viewFunc (s : State) (f o : Nat) : Nat :=
  let y := s.func f
  let rx := s.inl.rx.get f
  let tx := s.inl.tx.get f
  if o == 0x000 then s.funcStatus f
  else if 0x100 ≤ o ∧ o < 0x300 ∧ o % 0x40 == 0x10 then (y.sqs.get ((o - 0x100) / 0x40)).cfgWord
  else if 0x100 ≤ o ∧ o < 0x300 ∧ o % 0x40 == 0x14 then (y.sqs.get ((o - 0x100) / 0x40)).statusWord
  else if o == 0x408 then rx.cfgWord
  else if o == 0x40C then rx.head
  else if o == 0x418 then tx.cfgWord
  else if o == 0x41C then tx.head
  else if o == 0x808 then y.evq.ctrlWord
  else if o == 0x80C then y.evq.head
  else if o == 0x810 then y.evq.tail
  else if o == 0x814 then y.evq.dropped
  else if 0xC00 ≤ o then s.viewProt f ((o - 0xC00) / 16) (o % 16)
  else s.rdn (funcReg f o)

/-! ### TIME and WEIR -/

def State.viewTime (s : State) (o : Nat) : Nat :=
  match o with
  | 0x000 => fields [(s.fld (timeReg 0) 7 5, 5), (bnat (s.time.ops.any (fun x => !x.isLoad)), 1), (bnat (s.time.ops.any TimeOp.isLoad), 0)]
  | 0x004 => fields [(s.time.syncSeen % 65536, 16), (s.utcOffset % 256, 8), (s.time.lock % 4, 0)]
  | _ => s.rdn (timeReg o)
def State.viewTimePort (s : State) (n o : Nat) : Nat :=
  if o == 0x08 then fields [(s.fld (timePort n 0x08) 8 8, 8), ((s.time.txts.get n).length, 0)] else if o == 0x0C then 0 else s.rdn (timePort n o)
/-- Linear time of a domain's pending tick; for a DRAIN_PACED domain that of the cycle its Weir is due. -/
def State.nextTime (s : State) (d : Nat) : Nat :=
  let x := s.dom d
  if !s.domDefined d then 0
  else if x.mode == 1 then linear (phcAdvance s.time.phc s.addend (x.next - s.now)) else x.next % 2 ^ 64
/-- Compare units 0 to 7 are views of the domains (R43). -/
def State.viewCmp (s : State) (m o : Nat) : Nat :=
  let c := s.time.cmps.get m
  let q := s.st.domains.get m
  let target := if m < 8 then s.nextTime m else c.target
  match o with
  | 0 | 4 => half o 0 target
  | 8 => if m < 8 then (if q.den == 0 then 0 else q.num * 1000000000 / q.den % 2 ^ 32) else c.interval
  | _ => fields [(c.missed % 65536, 16), (bnat c.fired, 1), (bnat (if m < 8 then s.domDefined m else c.armed), 0)]
def State.viewWeir (s : State) (d o : Nat) : Nat :=
  let x := s.dom d
  let on := s.domDefined d
  match o with
  | 0x000 => fields [(if on then x.modeReq % 4 else 0, 4), (bnat on, 0)]
  | 0x004 => fields [(sat 16 x.openCycles, 16), (if on then x.mode % 4 else 0, 6), (s.domState d, 0)]
  | 0x008 => if on then x.num % 65536 else 0
  | 0x00C => if on then x.den % 2 ^ 32 else 0
  | 0x018 | 0x01C => half o 0x018 (if on then x.tick else 0)
  | 0x020 | 0x024 => half o 0x020 (s.nextTime d)
  | _ => s.rdn (weirReg d o)

/-! ### Pairing, check units, block copy engines -/

def State.viewGuavo (s : State) (o : Nat) : Nat :=
  match o with
  | 0x000 => s.guavoStatus
  | 0x004 => s.st.pair.watchdogUs
  | 0x008 => s.st.pair.healBudget
  | 0x00C | 0x010 => half o 0x00C s.st.pair.pairId
  | 0x020 | 0x024 => half o 0x020 s.pair.gapTick
  | 0x028 | 0x02C => half o 0x028 s.pair.peerImage
  | _ => s.rdn (guavoReg o)
def State.viewChk (s : State) (u o : Nat) : Nat :=
  let x := s.chk u
  match o with
  | 0x04 | 0x20 | 0x24 => 0
  | 0x28 | 0x2C => half o 0x28 x.run
  | 0x30 | 0x34 => half o 0x30 (if bit (s.rdn (chkReg u 0)) 29 then x.result else (s.crcCfg u).out x.run)
  | 0x3C => fields [(s.fld (chkReg u 0x3C) 31 16, 16), (x.last % 65536, 0)]
  | 0x40 => fields [(bnat (s.fwHeld u), 31), (x.owner % 64, 0)]
  | _ => s.rdn (chkReg u o)
def State.viewBce (s : State) (b o : Nat) : Nat :=
  let x := s.bce b
  match o with
  | 0x00 => fields [(bnat x.holder.isSome, 31), (x.holder.getD 0, 0)]
  | 0x04 => fields [(s.fld (bceReg b 4) 31 1, 1), (bnat x.busy, 0)]
  | 0x34 => fields [(bnat x.busy, 31), (s.fld (bceReg b 0x34) 30 0, 0)]
  | _ => s.rdn (bceReg b o)

/-! ### Sluice, Confluence, Reservoir -/

def State.viewSluice (s : State) (g o : Nat) : Nat :=
  let x := s.slc g
  match o with
  | 0x14 => 0
  | 0x40 => match s.sluiceOwner g with
    | some w => fields [(1, 31), (w.1, 24), (w.2, 18), (if x.state == 2 then x.slot % 32 else 0, 8), (x.state, 0)]
    | none => x.state
  | 0x44 | 0x48 => half o 0x44 x.cur
  | 0x4C => x.hops % 2 ^ 32
  | 0x50 | 0x54 => half o 0x50 x.bytes
  | 0x5C => x.lastStatus % 2 ^ 32
  | _ => s.rdn (sluiceReg g o)
def State.viewCnf (s : State) (o : Nat) : Nat :=
  if 0x040 ≤ o ∧ o < 0x060 then s.tagged ((o - 0x040) / 4) else s.rdn (cnfReg o)
def State.viewMaster (s : State) (m o : Nat) : Nat :=
  let q := s.qosOf m
  match o with
  | 0x00 => fields [(bnat (s.fabric.inReset.has m), 31), (s.outstanding m % 512, 0)]
  | 0x04 => fields [(q.rtCap % 65536, 16), (q.bgRate % 65536, 0)]
  | 0x08 => fields [(q.tbWeight % 256, 16), (q.maxOutstanding % 512, 0)]
  | _ => s.rdn (cnfMaster m o)
def State.viewRes (s : State) (n o : Nat) : Nat :=
  let x := s.chan n
  if o == 0x000 then
    fields [(bnat x.live, 31), (bnat (s.excluded.contains n), 30), (bnat (s.selfRefresh.contains n), 29), (bnat x.entering, 28),
      (bnat x.hot, 27), (bnat (x.lanes.vals.any (fun l => l.state == 2)), 26), (x.repair.2 % 4, 18), (x.repair.1 % 4, 16), (x.reason % 256, 0)]
  else if o == 0x01C then x.scrubPos
  else if o == 0x030 then fields [(x.wq.length % 128, 16), (x.rq.length % 128, 0)]
  else if 0x100 ≤ o then
    let l := x.lanes.get ((o - 0x100) / 4)
    fields [(l.state % 4, 30), (l.vref % 64, 24), (l.wr % 128, 16), (l.rd % 128, 8), (l.eye % 256, 0)]
  else s.rdn (resReg n o)

/-! ### Courses and renditions -/

def State.viewInput (s : State) (c k o : Nat) : Nat :=
  let x := s.streams.get (4 * c + k)
  match o with
  | 0x0C => x.wptr % 2 ^ 32
  | 0x10 => x.rptr % 2 ^ 32
  | _ => s.rdn (ftIn c k o)
def lutWord (u : Lut) : Nat := 2 * bnat (u.fetching.isSome || u.shadow.isSome)
def State.viewLayer (s : State) (c l o : Nat) : Nat :=
  let y := s.layer c l
  match o with
  | 0x00 => fields [(bnat y.enabled, 31), (bnat (y.geo.dstW != 0 && y.geo.dstH != 0), 30), (y.mode % 4, 28), (sat 8 y.run, 8)]
  | 0x3C => lutWord y.lut
  | _ => s.rdn (lyrReg c l o)
def State.viewRendSlot (s : State) (c k o : Nat) : Nat :=
  match (s.st.rendsOf c)[k]? with
  | none => if o == 0x08 || o == 0x10 || o == 0x28 then 0 else s.rdn (erReg c k o)
  | some q =>
    let r := q.rendition
    let x := s.chunk r
    match o with
    | 0x00 => fields [(1, 31), (r % 512, 0)]
    | 0x08 => s.ssrc r
    | 0x10 => s.tsDelay r
    | 0x20 => fields [(bnat x.en, 31), (x.vector, 16), (bnat x.irqEn, 8), (x.sizeLog2, 0)]
    | 0x24 => x.tail
    | 0x28 => x.head
    | 0x30 => if s.donl r then s.st.unitCount q - 1 else 0
    | 0x34 => (s.ring r).seq % 2 ^ 32
    | _ => s.rdn (erReg c k o)
def State.viewKey (s : State) (c o : Nat) : Nat :=
  let k := s.keys.get c
  match o with
  | 0xD00 => s.fld (crsReg c 0xD00) 31 16 * 65536
  | 0xD04 => fields [(bnat (!k.due.isEmpty), 31), (bnat (k.due.contains 2), 30), (bnat (k.due.contains 3), 29), (bnat (k.due.contains 4), 28),
      (match k.last with | some l => sat 16 (s.capNow c - l) | none => 0, 0)]
  | _ => (k.last.getD 0) % 2 ^ 32
def State.viewCrs (s : State) (c o : Nat) : Nat :=
  if o == 0 then (if s.st.courses.has c then fields [(1, 31), (c % 64, 0)] else 0)
  else if 0x100 ≤ o ∧ o < 0x180 then s.viewInput c ((o - 0x100) / 0x20) (o % 0x20)
  else if 0x400 ≤ o ∧ o < 0xA00 then s.viewLayer c ((o - 0x400) / 0x80) (o % 0x80)
  else if o == 0xA08 then lutWord (s.postLut.get c)
  else if 0xA40 ≤ o ∧ o < 0xA60 then
    (if o % 8 == 0 then 0
     else match s.st.inputs.find (4 * c + (o - 0xA40) / 8) with
      | some i => if i.source == 2 then ((s.hostIns.get (4 * c + i.input)).next.map (· % 8)).getD 8 else 8
      | none => 8)
  else if o == 0xC04 then
    let m := (s.head c).cur
    fields [(bnat m.cut, 31), (bnat m.first, 30), (m.distValid % 16, 24), ((s.head c).noise % 65536, 0)]
  else if 0xD00 ≤ o ∧ o < 0xD0C then s.viewKey c o
  else if 0x1000 ≤ o ∧ o < 0x1C00 then s.viewRendSlot c ((o - 0x1000) / 0x40) (o % 0x40)
  else s.rdn (crsReg c o)

/-- RND_r.RC_STATE. -/
def State.rcState (s : State) (r : Nat) : Nat :=
  let x := s.rend r
  let due := x.ownKey || x.gop.keyPending || !(s.keys.get (s.st.courseOfRend r)).due.isEmpty
  fields [(x.baseQp % 256, 24), (x.maxQp % 256, 16), (x.minQp % 256, 8), (bnat due, 7), (bnat (x.raiseRate.isSome || x.raiseBuf.isSome), 6),
    (bnat (!s.keyOk r), 5), (bnat (x.aInter != 0), 4)]
def State.viewRnd (s : State) (r o : Nat) : Nat :=
  let x := s.rend r
  if !s.st.rends.has r then (if o == 0xF10 then 2 ^ 30 else s.rdn (rndReg r o))
  else match o with
    | 0x110 => (s.ring r).wptr % 2 ^ 32
    | 0x200 => s.rcState r
    | 0x204 | 0x208 => half o 0x204 (x.full / s.perDen r)
    | 0x20C | 0x210 => half o 0x20C x.limit
    | 0x214 => x.lastBits
    | 0x218 => s.zKey r
    | 0x21C => s.zInter r
    | 0x220 => x.aKey
    | 0x224 => x.aInter
    | 0x240 => x.rate
    | 0x244 => x.buf
    | 0xF00 | 0xF04 => half o 0xF00 x.digest
    | 0xF08 => x.digestTick
    | 0xF0C => putBits x.flags 3 2 (s.effortOf r)
    | 0xF10 => fields [(if x.healing then 2 else bnat x.unsynced, 30), (sat 8 (s.pair.healRx.get r).run, 0)]
    | _ => s.rdn (rndReg r o)

/-! ### Inlet and Outflow -/

def State.viewInlPort (s : State) (n o : Nat) : Nat :=
  let cfg := s.st.device.portCfg.getD n 0
  match o with
  | 0x00 => fields [(bnat (s.st.portFormed n), 31), (bnat (s.inl.up.contains n), 30), (bits cfg 7 6, 28), (bits cfg 4 0, 0)]
  | 0x04 => s.portMac n % 2 ^ 32
  | 0x08 => s.portMac n / 2 ^ 32
  | _ => s.rdn (inlPort n o)
def State.viewFlow (s : State) (i o : Nat) : Nat :=
  let f := s.st.inflows.get i
  let on := s.st.inflows.has i
  match o with
  | 0x00 => if on then
      fields [(1, 31), (bnat (s.inl.flows.get i).legUp, 30), (f.kind % 8, 24), (f.port % 16, 20), (f.mergePeer % 65536, 0)] else 0
  | 0x34 => if on then s.fill f % 2 ^ 32 else 0
  | _ => s.rdn (inlFlow i o)

/-- Bytes free in the packet buffer (R312, R317). -/
def State.pktFree (s : State) : Nat :=
  2097152 - sum (s.outf.subs.vals.map (fun x => sum (x.queue.map (·.length))))
def State.viewOut (s : State) (o : Nat) : Nat :=
  match o with
  | 0x000 => fields [(bnat s.outf.gate, 31), (bnat s.pair.actOut, 30), (bnat s.pair.actIn, 29), (bnat s.outf.draining, 28), (bnat s.st.pair.enabled, 27)]
  | 0x004 => s.pktFree
  | _ => s.rdn (outReg o)
/-- A level in whole bytes, rounded down, as a signed word. -/
def levelWord (v : Int) : Nat := unsigned 32 (levelBytes v)
def State.viewOutPort (s : State) (n o : Nat) : Nat :=
  let x := s.oport n
  let y := x.node.gain x.rates s.now
  let on := s.st.portFormed n
  match o with
  | 0x00 => fields [(s.fld (outPort n 0) 15 8, 8), (s.fld (outPort n 0) 1 1, 1), (bnat x.apply, 0)]
  | 0x04 | 0x08 | 0x0C | 0x10 => s.stagedRate n o
  | 0x14 => if on then levelWord y.c else 65536
  | 0x18 => if on then levelWord y.p else 65536
  | 0x1C | 0x20 => half o 0x1C y.vtime
  | _ => s.rdn (outPort n o)
def State.viewOutSvc (s : State) (v o : Nat) : Nat :=
  let q := s.st.services.get v
  let t := s.refreshSvc v
  let y := t.osvc v
  if !s.st.services.has v then (if o < 0x1C then 0 else s.rdn (outSvc v o))
  else match o with
    | 0x00 => fields [(1, 31), (bnat (!y.idle), 30), (q.port % 16, 16), ((s.subsOfSvc v).length % 8192, 0)]
    | 0x04 => levelWord y.c
    | 0x08 => levelWord y.p
    | 0x0C | 0x10 => half o 0x0C ((y.tag + 2 ^ 48 - (s.oport q.port).node.vtime) % 2 ^ 48)
    | 0x14 | 0x18 => half o 0x14 y.vtime
    | _ => s.rdn (outSvc v o)
def State.viewOutSub (s : State) (u o : Nat) : Nat :=
  let q := s.st.subs.get u
  let t := s.refreshSub u
  let x := t.osub u
  let y := x.node.gain q.rates s.now
  if !s.st.subs.has u then (if o < 0x18 || o == 0x38 then 0 else s.rdn (outSub u o))
  else match o with
    | 0x00 => fields [(1, 31), (bnat q.enabled, 30), (bnat x.waitKey, 29), (bnat q.dup, 28), (bnat q.pass, 27), (bnat (!x.node.idle), 26),
        (q.payload % 4, 24), (q.service % 512, 12), (q.rendition % 512, 0)]
    | 0x04 => levelWord y.c
    | 0x08 => levelWord y.p
    | 0x0C | 0x10 => half o 0x0C ((y.tag + 2 ^ 48 - (s.osvc q.service).vtime) % 2 ^ 48)
    | 0x14 => x.next % 2 ^ 32
    | 0x38 => x.ipId % 65536
    | _ => s.rdn (outSub u o)

/-! ### Units of the compute plane -/

/-- Cycles that the stages of a unit used in the last window. -/
def State.lastOf (s : State) (l : List Stage) : Nat := sum (l.map (fun x => (s.stage x).last))
def State.busyOf (s : State) (l : List Stage) : Nat := bnat (l.any (fun x => (s.stage x).reading))
def State.retiredBit (s : State) (src : Nat) : Nat := bnat (!s.alive src)
def State.viewHw (s : State) (u o : Nat) : Nat :=
  let shares := s.st.hws.vals.filter (·.unit == u)
  let l := shares.map (fun h => Stage.headwater h.course u)
  if o == 0 then fields [(s.retiredBit (0x1100 + u), 31), (s.busyOf l, 30), (shares.length % 32, 0)]
  else if o == 4 then s.st.hwLoad u
  else if o == 8 then s.lastOf l
  else match shares[(o - 0x100) / 8]? with
    | some h => fields [(1, 31), (bnat (s.st.courses.get h.course).fixed, 30), (h.course % 64, 24), (h.bandCount % 128, 16), (h.firstBand % 128, 0)]
    | none => 0
def State.viewMere (s : State) (u o : Nat) : Nat :=
  let c := s.st.courses.vals.find? (·.mere == u)
  let l := match c with | some c => [Stage.mere c.course] | none => []
  match o with
  | 0 => fields [(s.retiredBit (0x1300 + u), 31), (s.busyOf l, 30), (bnat c.isSome, 29), ((c.map (·.course)).getD 0 % 64, 0)]
  | 4 => (c.map Structure.mereLoad).getD 0
  | 8 => s.lastOf l
  | _ => s.rdn (mereReg (0x10000 * u + o))
def State.viewCas (s : State) (u o : Nat) : Nat :=
  let g := s.st.rungs.vals.find? (fun g => g.rung != 1 && g.cascade == u)
  let c := (g.map (·.course)).getD 0
  let l := if g.isSome then [Stage.cascade c u] else []
  match o with
  | 0 => fields [(s.retiredBit (0x1400 + u), 31), (s.busyOf l, 30), (bnat g.isSome, 29),
      (if g.isSome then (s.st.cascadeRungs c u).length % 8 else 0, 16), ((g.map (·.source)).getD 0 % 64, 8), (c % 64, 0)]
  | 4 => if g.isSome then s.st.casLoad c u else 0
  | _ => s.lastOf l
def State.viewFt (s : State) (n o : Nat) : Nat :=
  let l := s.st.fountInputs n
  let x := s.founts.get n
  let busy := l.find? (fun i => (s.stream i).au.isSome)
  if o == 0 then fields [(s.retiredBit (0x1200 + n), 31), (bnat busy.isSome, 30),
      ((busy.map (fun i => (l.map inKey).idxOf (inKey i))).getD 0 % 8, 24), (l.length % 16, 0)]
  else if o == 4 then s.st.fountLoad n
  else if o == 8 then x.last
  else if o % 0x40 == 0 then
    match l[(o - 0x100) / 0x40]? with
    | some i => fields [(1, 31), (i.course % 64, 24), (i.input % 4, 20), (i.codec % 4, 16), (bnat i.cleanStart, 15), ((s.stream i).state % 8, 0)]
    | none => 0
  else s.rdn (ftReg (0x10000 * n + o))
def State.viewTarn (s : State) (n o : Nat) : Nat :=
  let l := s.carries n
  let t := s.tarn n
  if o == 0 then
    fields [(s.retiredBit (0x1000 + n), 31), (bnat (!t.items.isEmpty), 30), (bnat (s.spares.contains n), 29), (bnat (!l.isEmpty), 28), (n / 4, 20),
      (((l.head?).map (fun g => s.domOf (s.st.courseOfRend g.rendition))).getD 0 % 8, 16), (l.length % 64, 0)]
  else if o == 4 then s.asPlaced.tarnLoad s.liveRes s.effortBase n
  else if o == 8 then t.last
  else if o < 0x100 then s.rdn (tarnReg n o)
  else match l[(o - 0x100) / 0x10]? with
    | none => 0
    | some g =>
      let u := t.segLast.get (segKey g.rendition g.segment)
      match o % 0x10 with
      | 0 => fields [(1, 31), (g.kind % 2, 30), (g.segment % 16, 20), (s.effortOf g.rendition % 4, 16), (g.rendition % 512, 0)]
      | 4 => fields [(g.first % 65536, 16), (g.count % 65536, 0)]
      | 8 => u.1
      | _ => fields [(u.2.1 % 65536, 16), (u.2.2 % 65536, 0)]
def State.viewSpw (s : State) (k o : Nat) : Nat :=
  let d := s.clusterDomain k
  if o == 0 then fields [(bnat (!(s.spw k).queue.isEmpty), 31), (bnat d.isSome, 30), (d.getD 0 % 8, 27), (sat 24 (s.backlog k), 0)]
  else s.rdn (spwReg k o)

/-! ### Lanes and the health monitor -/

def State.viewLane (s : State) (n a o : Nat) : Nat :=
  let x := s.lane n
  let cfg := s.rdn (laneReg n 0)
  let chk := s.fld (laneReg n 0x010) 30 30
  match o with
  | 0x004 => fields [(bnat x.signal, 31), (bnat x.cdr, 30), (bnat x.aligned, 29), (bnat x.inverted, 28), (x.state % 8, 25),
      (if bit cfg 20 then s.freeAt a % 16 else bits cfg 19 16, 20), (x.logical % 16, 8), (x.reason % 8, 0)]
  | 0x010 => s.rdn (laneReg n 0x010) / 2 * 2 + (if chk == 1 then s.freeAt a % 2 else 0)
  | 0x014 | 0x018 | 0x01C | 0x020 => if chk == 1 then s.freeAt a else s.rdn (laneReg n o)
  | 0x024 => s.rdn (laneReg n 0x024) % 2 ^ 31
  | 0x028 => if isEth n && x.aligned then s.freeAt a else 0
  | _ => s.rdn (laneReg n o)
def State.liveMask (s : State) (base n : Nat) : Nat := sum (((List.range n).filter (fun i => s.alive (base + i))).map (fun i => 2 ^ i))
def State.rasStatus (s : State) : Nat :=
  fields [(bnat s.isFatal, 31), (s.ras.fatal % 8, 28), (s.ras.step % 4, 26), (bnat (!s.ras.inj.isEmpty), 25)]
def State.viewRas (s : State) (o : Nat) : Nat :=
  match o with
  | 0x000 => s.rasStatus
  | 0x010 | 0x014 => half o 0x010 (s.liveMask 0x1000 36)
  | 0x018 => fields [(s.liveMask 0x1300 8, 24), (s.liveMask 0x1400 8, 16), (s.liveMask 0x1100 8, 8), (s.liveMask 0x1200 8, 0)]
  | _ => s.rdn (rasReg o)

/-! ### All registers -/

/-- The word a mapped register shows; reading it changes nothing yet. -/
def State.view (s : State) (a : Nat) : Nat :=
  let at_ (base size : Nat) : Nat × Nat := ((a - base) / size, (a - base) % size)
  if a < 0x10000 then s.viewGlb a
  else if a < 0x50000 then (let x := at_ 0x10000 0x1000; s.viewFunc x.1 x.2)
  else if a < 0x100100 then s.viewTime (a - 0x100000)
  else if a < 0x100300 then (let x := at_ 0x100100 0x20; s.viewTimePort x.1 x.2)
  else if a < 0x100500 then (let x := at_ 0x100400 0x10; s.viewCmp x.1 x.2)
  else if a < 0x118000 then (let x := at_ 0x110000 0x1000; s.viewWeir x.1 x.2)
  else if a < 0x130000 then s.viewGuavo (a - 0x120000)
  else if a < 0x131000 then (let x := at_ 0x130000 0x100; s.viewChk x.1 x.2)
  else if a < 0x142000 then (let x := at_ 0x140000 0x1000; s.viewBce x.1 x.2)
  else if a < 0x190000 then (let x := at_ 0x150000 0x1000; s.viewSluice x.1 x.2)
  else if a < 0x201000 then s.viewCnf (a - 0x200000)
  else if a < 0x202000 then (let x := at_ 0x201000 0x40; s.viewMaster x.1 x.2)
  else if a < 0x400000 then (let x := at_ 0x300000 0x8000; s.viewRes x.1 x.2)
  else if a < 0x500000 then (let x := at_ 0x400000 0x4000; s.viewCrs x.1 x.2)
  else if a < 0x700000 then (let x := at_ 0x500000 0x1000; s.viewRnd x.1 x.2)
  else if a < 0x801000 then s.rdn a
  else if a < 0x802000 then (let x := at_ 0x801000 0x100; s.viewInlPort x.1 x.2)
  else if a < 0x900000 then (let x := at_ 0x840000 0x40; s.viewFlow x.1 x.2)
  else if a < 0x901000 then s.viewOut (a - 0x900000)
  else if a < 0x902000 then (let x := at_ 0x901000 0x100; s.viewOutPort x.1 x.2)
  else if a < 0x920000 then (let x := at_ 0x910000 0x40; s.viewOutSvc x.1 x.2)
  else if a < 0x1000000 then (let x := at_ 0x920000 0x80; s.viewOutSub x.1 x.2)
  else if a < 0x1100000 then (let x := at_ 0x1000000 0x10000; s.viewHw x.1 x.2)
  else if a < 0x1400000 then (let x := at_ 0x1100000 0x10000; s.viewTarn x.1 x.2)
  else if a < 0x1500000 then (let x := at_ 0x1400000 0x10000; s.viewFt x.1 x.2)
  else if a < 0x1600000 then (let x := at_ 0x1500000 0x10000; s.viewMere x.1 x.2)
  else if a < 0x1700000 then (let x := at_ 0x1600000 0x10000; s.viewCas x.1 x.2)
  else if a < 0x2000000 then (let x := at_ 0x1700000 0x1000; s.viewSpw x.1 x.2)
  else if a < 0x3000000 then (let x := at_ 0x2000000 0x10000; s.viewLane x.1 a x.2)
  else s.viewRas (a - 0x3000000)

end Sys2Proof.Machine
end

