-- ==== Sys2Proof/Machine/RegAccess.lean ====
section
/-! DEFINITION. RegAccess.lean: reads and writes of registers through BAR0 and BAR2, with the effects that R5 and each
register's own description give them, and the SMBus target (R5, R6, R114 to R118, R120, R355, R465). Accesses to BAR4
are transactions of Confluence (Fabric.lean). -/

namespace Sys2Proof.Machine

/-! ### Where an access goes (R115 to R117) -/

/-- A register by its PF0 BAR0 offset; a view without an object, which reads zero; an unmapped offset. -/
inductive RegAt where
  | reg (a : Nat) | empty | unmapped
deriving DecidableEq, Repr

/-- A PF0 BAR0 offset with the views of a function's queue page resolved (R366, R379). -/
def State.regAt (s : State) (a : Nat) : RegAt :=
  let o := (a - 0x10000) % 0x1000
  if (regRow a).isNone then .unmapped
  else if decide (0x10000 ≤ a) && decide (a < 0x50000) && decide (0x500 ≤ o) && decide (o < 0x800) then
    (if o < 0x600 then .reg (bceReg ((o - 0x500) / 0x80) (o % 0x80))
     else match s.ownedCheck ((a - 0x10000) / 0x1000) ((o - 0x600) / 0x40) with
       | some u => .reg (chkReg u (o % 0x40))
       | none => .empty)
  else .reg a

/-- Courses that a function owns, in ascending number. -/
def State.coursesOfFn (s : State) (f : Nat) : List Nat := (s.st.courses.vals.filter (·.owner == f)).map (·.course)
/-- Offset `o` of BAR0 of function `f`. In RECOVERY only the GLB block answers (R423). -/
def State.bar0At (s : State) (f o : Nat) : RegAt :=
  if s.boot.stage == 15 then (if f == 0 && decide (o < 0x10000) then s.regAt o else .unmapped)
  else if f == 0 then s.regAt o
  else if o < 0x800 then s.regAt (funcReg f o)
  else if 0x1000 ≤ o ∧ o < 0x1800 then s.regAt (funcReg f (o - 0x800))
  else if 0x80000 ≤ o ∧ o < 0x100000 then
    match (s.coursesOfFn f)[(o - 0x80000) / 0x2000]? with
    | some c => s.regAt (crsReg c (o % 0x2000))
    | none => if o % 4 == 0 then .empty else .unmapped
  else .unmapped

/-! ### Reading (R5) -/

/-- A register whose word holds what the lines show at the moment: reading it draws a free value. -/
def readDraws (a : Nat) : Bool :=
  let o := (a - 0x2000000) % 0x10000
  decide (0x2000000 ≤ a) && decide (a < 0x3000000) && [0x004, 0x010, 0x014, 0x018, 0x01C, 0x020, 0x028].contains o
/-- The registers that the read of a LO half latches. -/
def latchedBy (a : Nat) : List Nat :=
  if decide (0x500000 ≤ a) && decide (a < 0x700000) && a % 0x1000 == 0xF00 then [a + 4, a + 12] else [a + 4]
/-- RC fields clear. -/
def State.clearRead (s : State) (a rc : Nat) : State :=
  let s := if Nat.land (s.rdn a) rc == 0 then s else s.wrn a (s.rdn a - Nat.land (s.rdn a) rc)
  if decide (0x10000 ≤ a) && decide (a < 0x50000) && a % 0x1000 == 0x814 then
    s.updFunc ((a - 0x10000) / 0x1000) (fun y => { y with evq := { y.evq with dropped := 0 } })
  else if decide (0x100400 ≤ a) && decide (a < 0x100500) && a % 0x10 == 0xC then
    s.updTime (fun t => { t with cmps := t.cmps.upd ((a - 0x100400) / 0x10) (fun c => { c with missed := 0 }) })
  else s
/-- A read of the mapped register at `a`: its value, and the state after. RAS.ALERT.FATAL is set again before the value is
taken. -/
def State.readReg (s : State) (a : Nat) : Nat × State :=
  let row := (regRow a).getD default
  if a == timeReg 0x010 then s.nowNs
  else if decide (0x100100 ≤ a) && decide (a < 0x100300) && a % 0x20 == 0x0C then s.popTx ((a - 0x100100) / 0x20)
  else
    let s := if a == rasReg 0x004 && s.isFatal then s.alert 3 else s
    match row.lat with
    | .hi => (((s.latch.find a).getD (resetWord a)).toNat, s)
    | .lo => (s.view a % 2 ^ 32, { s with latch := (latchedBy a).foldl (fun l b => l.set b (BitVec.ofNat 32 (s.view b))) s.latch
                                          free := s.free + bnat (readDraws a) })
    | .none => (s.view a % 2 ^ 32, { s.clearRead a row.rc with free := s.free + bnat (readDraws a) })

/-- A read through BAR2: doorbells and the Sluice block read zero; the MSI-X table and the pending bits. -/
def State.bar2Read (s : State) (f o : Nat) : Nat :=
  let y := s.func f
  if 0xC000 ≤ o ∧ o < 0xC200 then
    let k := (o - 0xC000) / 4
    ((y.msix.find k).getD (if k % 4 == 3 then 1 else 0)).toNat
  else if o == 0xD000 then y.pba % 2 ^ 32 else 0
/-- Is a BAR2 offset mapped (R120, R162, R355)? -/
def State.bar2Mapped (s : State) (f o : Nat) : Bool :=
  o % 4 == 0 && ((decide (o < 0x8000) && o % 0x800 == 0) ||
    (decide (0x8000 ≤ o) && decide (o < 0xC000) && decide (o % 0x100 ≤ 0x18) && (s.sluiceOf f ((o - 0x8000) / 0x100)).isSome) ||
    (decide (0xC000 ≤ o) && decide (o < 0xC200)) || o == 0xD000 || o == 0xD004 || o == 0xE000 || o == 0xE800)

/-- The address that a failed access to a BAR logs: that of REG for PF0's BAR0, else the offset (assumption log entry 59). -/
def barAddr (f bar off : Nat) : Nat := if f == 0 && bar == 0 then 0x1000000000 + off else off
/-- An access to nothing: PCIE meets a decode error (R115). -/
def State.barError (s : State) (f bar off : Nat) (write : Bool) : State := s.decodeError 20 (some f) write (barAddr f bar off)
def State.answer (s : State) (v : Nat) : State := s.emit (.read (BitVec.ofNat 32 v))

/-- REGISTER_READ by function `f`: `len` bytes at offset `off` of BAR0 or BAR2. -/
def State.barRead (s : State) (f bar off len : Nat) : State :=
  if bar == 0 then
    match (if len == 4 then s.bar0At f off else .unmapped) with
    | .reg a => (s.readReg a).2.answer (s.readReg a).1
    | .empty => s.answer 0
    | .unmapped => (s.barError f 0 off false).answer 0
  else if len == 4 && s.bar2Mapped f off then s.answer (s.bar2Read f off)
  else (s.barError f 2 off false).answer 0
def execRegisterRead (f bar off len : Nat) (s : State) : Host.Outcome State Fault Refusal := .next (s.barRead f bar off len)

/-! ### Writing (R5, R6) -/

/-- The plain write: the bits of `mask` take the written value. -/
def State.wrMask (s : State) (a mask : Nat) (w : Word) : State :=
  if mask == 0 then s else s.wrn a (s.rdn a - Nat.land (s.rdn a) mask + Nat.land w.toNat mask)
/-- Write 1 to clear the bits of `mask`. -/
def State.wrClear (s : State) (a mask : Nat) (w : Word) : State :=
  s.wrn a (s.rdn a - Nat.land (s.rdn a) (Nat.land w.toNat mask))

def State.writeGlb (s : State) (o mask : Nat) (w : Word) : State :=
  let v := w.toNat
  match o with
  | 0x20 => s.glbCtrl w
  | 0x54 | 0x58 => if s.img.floorLocked then s else s.wrMask (glb o) mask w
  | 0x5C => if bit v 0 then { s with img := { s.img with floorLocked := true } } else s
  | 0x64 =>
    let s := s.wrMask (glb o) mask w
    let s := if bit v 0 then s.keyProgram (bits v 9 8) else s
    if bit v 1 then s.keyRevoke (bits v 9 8) else s
  | 0xA0 => s.pwrReqWrite w
  | 0x200 =>
    let s := if bit v 30 && s.devMaint then s.updBoot (fun b => { b with flashErr := false }) else s
    if v % 4 != 0 then s.flashStart (v % 4) else s
  | _ => if 0x200 ≤ o && !s.devMaint then s else s.wrMask (glb o) mask w
def State.writeFunc (s : State) (f n o mask : Nat) (w : Word) : State :=
  if 0x100 ≤ o ∧ o < 0x300 ∧ o % 0x40 == 0x10 then s.queueCfg n ((o - 0x100) / 0x40) w
  else if o == 0x408 || o == 0x418 then s.excCfgWrite n (o == 0x418) w
  else if o == 0x808 then s.evqCtrl n w
  else if o == 0x80C then s.evqHead n w
  else if 0xC00 ≤ o then s.protWrite f n ((o - 0xC00) / 16) (o % 16) w
  else s.wrMask (funcReg n o) mask w
/-- In FIRMWARE mode SET_* and ADJ are dropped like ADDEND and UTC_CFG (R46). -/
def State.writeTime (s : State) (o mask : Nat) (w : Word) : State :=
  match o with
  | 0x000 => s.timeCtrlWrite w
  | 0x020 => s.addendWrite w
  | 0x038 => s.utcCfgWrite w
  | 0x024 | 0x028 | 0x02C | 0x030 | 0x034 => if s.hostMode then s.wrMask (timeReg o) mask w else s.timeBlocked o
  | _ => s.wrMask (timeReg o) mask w
def State.writeTimePort (s : State) (n o mask : Nat) (w : Word) : State :=
  if o == 0x08 then s.wrClear (timePort n 0x08) 0x100 w else s.wrMask (timePort n o) mask w
def State.writeCmp (s : State) (m o : Nat) (w : Word) : State :=
  match o with
  | 0 => s.cmpTgtLo m w
  | 4 => s.cmpTgtHi m w
  | 8 => if m < 8 then s else s.updTime (fun t => { t with cmps := t.cmps.upd m (fun c => { c with interval := w.toNat }) })
  | _ => s.cmpCtrl m w
def State.writeWeir (s : State) (d o : Nat) (w : Word) : State :=
  match o with
  | 0x000 => s.modeWrite d (bits w.toNat 5 4)
  | 0x010 => s.phaseWrite d w
  | 0x014 => s.guardWrite d w
  | _ => s
/-- OWNER only PF0 writes (R379). -/
def State.writeChk (s : State) (f u o mask : Nat) (w : Word) : State :=
  let v := w.toNat
  match o with
  | 0x00 => s.chkCfg u w
  | 0x04 =>
    let s := if bit v 2 then s.chkMsgEnd u else s
    if bit v 1 then s.chkDoRestart u else s
  | 0x20 => s.chkDataW u w
  | 0x24 => s.chkDataB u w
  | 0x28 => s.chkRun u false w
  | 0x2C => s.chkRun u true w
  | 0x38 => s.chkAliveCfg u w
  | 0x40 => if f == 0 then s.chkOwner u w else s
  | _ => s.chkWrite u (fun s => s.wrMask (chkReg u o) mask w)
def State.writeBce (s : State) (f b o : Nat) (w : Word) : State :=
  if o == 0 then s.bceSem b f w else if o == 4 then s.bceCtrl b f w else s.bceReg_ b f o w
/-- KEY_CTRL holds CUT_KEY_GAP, which a Weir applies, and the command field KEY_NOW (R118). -/
def State.keyCtrl (s : State) (f c mask : Nat) (w : Word) : State :=
  s.weirWrite f (crsReg c 0xD00) (fun s =>
    let s := s.wrMask (crsReg c 0xD00) mask w
    if bit w.toNat 0 then s.keyNowCmd { fn := f } c else s)
/-- MAX_PAYLOAD [31:18] of an EMIT_CFG keeps its value where the written one is outside 256 to 9,000. -/
def emitMask (mask : Nat) (w : Word) : Nat :=
  let p := bits w.toNat 31 18
  if 256 ≤ p ∧ p ≤ 9000 then mask else mask % 2 ^ 18
def State.writeCrs (s : State) (f c o mask : Nat) (w : Word) : State :=
  let a := crsReg c o
  if 0x100 ≤ o ∧ o < 0x180 ∧ o % 0x20 == 0 then s.weirWrite f a (fun s => s.ftBindWrite f c ((o - 0x100) / 0x20) w)
  else if 0x100 ≤ o ∧ o < 0x180 ∧ o % 0x20 == 0x0C then s.ftWptrWrite c ((o - 0x100) / 0x20) w
  else if 0x400 ≤ o ∧ o < 0xA00 ∧ o % 0x80 == 0x3C then s.lutLoad c ((o - 0x400) / 0x80) w
  else if o == 0xA08 then s.lutLoad c 15 w
  else if 0xA40 ≤ o ∧ o < 0xA60 ∧ o % 8 == 0 then (s.hinPost c ((o - 0xA40) / 8) w).pace
  else if o == 0xD00 then s.keyCtrl f c mask w
  else if o == 0xE08 then s.captionCfg c w
  else if 0x1000 ≤ o ∧ o < 0x1C00 ∧ o % 0x40 == 0x04 then s.weirWrite f a (fun s => s.wrMask a (emitMask mask w) w)
  else if 0x1000 ≤ o ∧ o < 0x1C00 ∧ o % 0x40 == 0x20 then s.chunkCfg c ((o - 0x1000) / 0x40) w
  else if 0x1000 ≤ o ∧ o < 0x1C00 ∧ o % 0x40 == 0x28 then s.chunkHead c ((o - 0x1000) / 0x40) w
  else if crsWeir o then s.weirWrite f a (fun s => s.wrMask a mask w)
  else s.wrMask a mask w
def State.writeLane (s : State) (n o : Nat) (w : Word) : State :=
  match o with
  | 0x000 => s.laneCfg n w
  | 0x008 => s.txFfe n false w
  | 0x00C => s.txFfe n true w
  | 0x010 => s.lanePattern n w
  | 0x024 => s.marginWrite n w
  | _ => s

/-! ### Sluice channels (R355, R363) -/

/-- DOORBELL: 1 START, 2 DISABLE, 3 ABORT before the channel has written anything of its descriptor; other values are
dropped. -/
def State.sluiceBell (s : State) (g v : Nat) : State :=
  match v with
  | 1 => s.sluiceStart g
  | 2 => s.sluiceDisable g
  | 3 => (s.descResidue g).2.sluiceAbort g (s.descResidue g).1
  | _ => s
def State.writeSluice (s : State) (g o : Nat) (w : Word) : State :=
  if o == 0x14 then s.sluiceBell g w.toNat else if o ≤ 0x18 then s.sluiceReg_ g o w else s

/-! ### Every register -/

/-- Function `f` writes the mapped register at `a`. -/
def State.writeReg (s : State) (f a : Nat) (w : Word) : State :=
  let m := ((regRow a).getD default).rw
  let q (base size : Nat) : Nat := (a - base) / size
  let o (base size : Nat) : Nat := (a - base) % size
  if a < 0x10000 then s.writeGlb a m w
  else if a < 0x50000 then s.writeFunc f (q 0x10000 0x1000) (o 0x10000 0x1000) m w
  else if a < 0x100100 then s.writeTime (a - 0x100000) m w
  else if a < 0x100300 then s.writeTimePort (q 0x100100 0x20) (o 0x100100 0x20) m w
  else if a < 0x100500 then s.writeCmp (q 0x100400 0x10) (o 0x100400 0x10) w
  else if a < 0x118000 then s.writeWeir (q 0x110000 0x1000) (o 0x110000 0x1000) w
  else if a < 0x130000 then s
  else if a < 0x131000 then s.writeChk f (q 0x130000 0x100) (o 0x130000 0x100) m w
  else if a < 0x142000 then s.writeBce f (q 0x140000 0x1000) (o 0x140000 0x1000) w
  else if a < 0x190000 then s.writeSluice (q 0x150000 0x1000) (o 0x150000 0x1000) w
  else if a < 0x300000 then (if a == cnfReg 0x010 || a == cnfReg 0x020 then s.wrClear a (2 ^ 31) w else s)
  else if a < 0x400000 then (if o 0x300000 0x8000 == 0x004 then s.resCtrl (q 0x300000 0x8000) w else s.wrMask a m w)
  else if a < 0x500000 then s.writeCrs f (q 0x400000 0x4000) (o 0x400000 0x4000) m w
  else if 0x901000 ≤ a ∧ a < 0x902000 ∧ o 0x901000 0x100 == 0 then s.portCfgWrite (q 0x901000 0x100) w
  else if 0x2000000 ≤ a ∧ a < 0x3000000 then s.writeLane (q 0x2000000 0x10000) (o 0x2000000 0x10000) w
  else if a == rasReg 0x004 then s.rasPins (s.wrClear a 0x1F w)
  else s.wrMask a m w

/-- A vector's control word: the message of a pending vector leaves as its mask clears (PCIe's MSI-X rules, R134). -/
def State.msixWrite (s : State) (f k : Nat) (w : Word) : State :=
  let s := s.updFunc f (fun y => { y with msix := y.msix.set k w })
  if k % 4 == 3 && !bit w.toNat 0 && bit (s.func f).pba (k / 4) then
    (s.updFunc f (fun y => { y with pba := y.pba - 2 ^ (k / 4) })).emit (.msix f (k / 4))
  else s

/-- A write of 32 bits through BAR2, or of another size (`whole` false), which no doorbell takes (R120). -/
def State.bar2Write (s : State) (f o : Nat) (whole : Bool) (w : Word) : State :=
  let v := w.toNat
  if o < 0x8000 ∧ o % 0x1000 == 0 then s.sqTail f (o / 0x1000) v whole
  else if o < 0x8000 ∧ o % 0x1000 == 0x800 then s.cqHead f (o / 0x1000) v whole
  else if !whole then (if o == 0xE000 || o == 0xE800 || (s.bar2Mapped f o && decide (o < 0xC000)) then s.doorbellInvalid f o v else s.barError f 2 o true)
  else if !s.bar2Mapped f o then s.barError f 2 o true
  else if o < 0xC000 then
    match s.sluiceOf f ((o - 0x8000) / 0x100) with
    | some g => s.writeSluice g (o % 0x100) w
    | none => s
  else if o < 0xC200 then s.msixWrite f ((o - 0xC000) / 4) w
  else if o == 0xE000 then s.excRxDoorbell f v
  else if o == 0xE800 then s.excTxDoorbell f v
  else s

/-- REGISTER_WRITE by function `f`: `len` bytes at offset `off` of BAR0 or BAR2. -/
def State.barWrite (s : State) (f bar off len : Nat) (w : Word) : State :=
  if bar == 0 then
    match (if len == 4 then s.bar0At f off else .unmapped) with
    | .reg a => s.writeReg f a w
    | .empty => s
    | .unmapped => s.barError f 0 off true
  else s.bar2Write f off (len == 4) w
def execRegisterWrite (f bar off len : Nat) (w : Word) (s : State) : Host.Outcome State Fault Refusal :=
  .next (s.barWrite f bar off len w)

/-! ### The SMBus target (R465) -/

/-- PF0 BAR0 offsets that command 0x01 reads; every other reads zero. -/
def smbusOffsets : List Nat := [glb 0x00, glb 0x24, glb 0x90, glb 0x94, glb 0xB4, rasReg 0x000, rasReg 0x008]
/-- SMBUS_COMMAND: a block write of `off` and the block read that follows; not acknowledged in reset and before FW_LOAD. -/
def execSmbusCommand (off : Nat) (s : State) : Host.Outcome State Fault Refusal :=
  .next (s.emit (.smbus (if s.boot.inReset || s.boot.stage == 0 || s.boot.stage == 15 then none
    else some (BitVec.ofNat 32 (if smbusOffsets.contains off then s.view off else 0)))))

end Sys2Proof.Machine
end

