-- ==== Sys2Proof/Machine/Commands.lean ====
section
/-! DEFINITION. Commands.lean: STATS_READ, and the fetch of a submission entry with the decoding of its 64 bytes (R121 to
R124, R126 to R128, R418, R424). -/

namespace Sys2Proof.Machine

/-! ### STATS_READ (R126, R127) -/

/-- Is the object of a SCOPE and TARGET present, and who may read it? -/
def State.statsThere (s : State) (scope t : Nat) : Bool :=
  match scope with
  | 0 => t == 0xFFFF
  | 1 => s.courseThere t
  | 2 => s.rendThere t
  | 3 => s.st.subs.has t && !s.early
  | 4 => s.st.services.has t && !s.early
  | 5 => s.st.inflows.has t && !s.early
  | 6 => decide (t < 16)
  | 7 => decide (t < 64)
  | _ => false
def State.statsOpen (s : State) (o : Origin) (scope t : Nat) : Bool :=
  match scope with
  | 0 => true
  | 1 => o.owns (s.st.courseOwner t)
  | 2 => o.owns (s.st.courseOwner (s.st.courseOfRend t))
  | 3 => o.owns (s.subOwner t)
  | 4 => o.owns (s.st.services.get t).owner
  | 5 => o.owns (s.st.inflows.get t).owner
  | 6 => o.fn == 0 || s.st.services.vals.any (fun v => v.port == t && v.owner == o.fn)
  | _ => o.owns t
/-- `n` bytes of registers from `a`, as they read; a word without a register is zero. -/
def State.regBlock (s : State) (a n : Nat) : Bytes :=
  (List.range (n / 4)).flatMap (fun i => leBytes 4 (if (regRow (a + 4 * i)).isSome then s.view (a + 4 * i) else 0))
/-- The block of an object: its OUT registers for SCOPE 3, 4 and 6; open bytes elsewhere, where no layout is given. -/
def State.statsBlock (s : State) (scope t : Nat) : Bytes × State :=
  match scope with
  | 3 => (s.regBlock (outSub t 0) 128, s)
  | 4 => (s.regBlock (outSvc t 0) 64, s)
  | 6 => (s.regBlock (outPort t 0) 256, s)
  | _ =>
    let n := Config.statsSize scope
    ((List.range n).map (fun i => Config.freeByte (s.free + i)), { s with free := s.free + n })
/-- STATS_READ: the block, cut at the length, goes to host memory; `wrote` is false where that failed (R123). -/
def execStatsRead (o : Origin) (scope target addr len : Nat) (wrote : Bool) (s : State) : Host.Outcome State Fault Refusal :=
  .next (s.checked o [(s.statsThere scope target, .badParam), (s.statsOpen o scope target, .notOwner)] (fun s =>
    if !wrote then s.bufferLost o
    else
      let b := s.statsBlock scope target
      let data := b.1.take len
      (b.2.hostWr o.fn addr data).complete o .ok 0 data.length))

/-! ### Submission entries (R124, R127) -/

/-- Opcodes that name no object carry TARGET 0xFFFF. -/
def nameless (op : Nat) : Bool := [0x01, 0x02, 0x20, 0x24, 0x40].contains op
/-- Bytes of PARAM that an opcode uses, as (first, number); the others are reserved. -/
def paramBytes (b : Bytes) : List (Nat × Nat) :=
  match u8 b 0 with
  | 0x01 | 0x16 => [(8, 12)]
  | 0x02 | 0x20 | 0x24 => [(8, 8)]
  | 0x12 | 0x40 => [(8, 1), (12, 4)]
  | 0x14 => [(8, 3), (12, 8)]
  | 0x15 => [(8, 1), (12, 15), (28, 4)]
  | 0x22 => [(8, 4), (12, 18)]
  | 0x23 => if u8 b 8 == 2 then [(8, 2)] else [(8, 2), (16, 8)]
  | 0x50 => [(8, 1), (16, 12)]
  | 0x60 => if u8 b 8 == 16 then [(8, 2), (12, 3), (16, 12)] else [(8, 2)]
  | _ => []
/-- Reserved bytes of an entry are zero. -/
def entryClean (b : Bytes) : Bool :=
  u8 b 1 == 0 && (u8 b 0 == 0x15 || u8 b 0 == 0x16 || u16 b 6 == 0) &&
  (List.range 56).all (fun i => u8 b (8 + i) == 0 || (paramBytes b).any (fun e => decide (e.1 ≤ 8 + i) && decide (8 + i < e.1 + e.2)))

def badEntry (o : Origin) (s : State) : Host.Outcome State Fault Refusal := .next (s.complete o .badParam 0 0)

/-- The command that an entry spells arrives at the arbiter. `buf` is what its host buffer gives: the record read, or any
value for a write that succeeds; none where the access fails. -/
def entryRun (b : Bytes) (buf : Option Bytes) (o : Origin) (s : State) : Host.Outcome State Fault Refusal :=
  let t := u16 b 4
  let sub := u16 b 6
  match u8 b 0 with
  | 0x01 => execImageLoad o (u64 b 8) (u32 b 16) s
  | 0x02 => execImageStatus o (u64 b 8) buf.isSome s
  | 0x10 => execCourseStart o t s
  | 0x11 => execCourseStop o t s
  | 0x12 => execCourseSet o t (u8 b 8) (u32 b 12) s
  | 0x13 => execKeyNow o t s
  | 0x14 => execRcSet o t { mask := u8 b 8, cq := u8 b 9, effort := u8 b 10, maxRate := u32 b 12, bufSize := u32 b 16 } s
  | 0x15 =>
    let g : Geometry := { dstX := u16 b 12, dstY := u16 b 14, dstW := u16 b 16, dstH := u16 b 18, srcW := u16 b 20, srcH := u16 b 22 }
    execLayerSet o t sub { mask := u8 b 8, geo := g, enabled := u8 b 24, alpha := u8 b 25, fallback := u8 b 26, fill := u32 b 28 } s
  | 0x16 => execLayerFlip o t sub (u64 b 8) (u32 b 16) s
  | 0x20 => execSubAdd o buf s
  | 0x21 => execSubDel o t s
  | 0x22 =>
    let r : Rates := { cir := u32 b 12, pir := u32 b 16, cbs := u32 b 20, pbs := u32 b 24 }
    execSubSet o t { mask := u8 b 8, resetTo := u8 b 9, enabled := u8 b 10, dscp := u8 b 11, rates := r, weight := u16 b 28 } s
  | 0x23 => match u8 b 8 with
    | 0 => execServiceSetAdd o t (u8 b 9) buf s
    | 1 => execServiceSetReplace o t (u8 b 9) buf s
    | 2 => if u8 b 9 ≤ 1 then execServiceSetRemove o t s else badEntry o s
    | _ => badEntry o s
  | 0x24 => execInflowAdd o buf s
  | 0x25 => execInflowDel o t s
  | 0x30 => execUnitReset o t s
  | 0x31 => execUnitRetire o t s
  | 0x40 => match u8 b 8 with
    | 1 => execPairCtlStatus o (u32 b 12) s
    | 2 => execPairCtlHold o (u32 b 12) s
    | 3 => execPairCtlYield o (u32 b 12) s
    | 4 => execPairCtlHeal o (u32 b 12) s
    | _ => badEntry o s
  | 0x50 => execStatsRead o (u8 b 8) t (u64 b 16) (u32 b 24) buf.isSome s
  | 0x60 => match u8 b 8 with
    | 1 => execTestCtlEnterMaint o t (u8 b 9) s
    | 2 => execTestCtlLeaveMaint o t (u8 b 9) s
    | 16 => execTestCtlInject o (u8 b 9) (u16 b 12) (u8 b 14) (u64 b 16) (u32 b 24) s
    | _ => badEntry o s
  | _ => badEntry o s

/-! ### The fetch (R121 to R123) -/

/-- Commands that a set of functions has fetched and not yet completed. -/
def State.runningOf (s : State) (p : Nat → Bool) : Nat := sum ((s.funcs.filter (fun e => p e.1)).map (·.2.running))
/-- May queue `q` of function `f` fetch? -/
def State.mayFetch (s : State) (f q : Nat) : Bool :=
  let x := s.sqOf f q
  decide (q < 8) && decide (f ≤ s.pcie.numVfs) && s.pcie.up && !(s.func f).d3hot && x.en && !x.error && x.sqHead != x.sqTail &&
  decide (x.running + (x.cqTail + x.sizeM1 + 1 - x.cqHead) % (x.sizeM1 + 1) < x.sizeM1) &&
  decide (s.runningOf (fun _ => true) < 1024) && (f == 0 || decide (s.runningOf (fun n => n != 0) < 960))
/-- A fetched command with tag 0xFFFF: it has an entry, which refuses it (R128). -/
def State.refuseTag (s : State) (o : Origin) : State :=
  let c : Completion := { tag := 0xFFFF, status := .badParam, q := o.q, sqHead := o.sqHead }
  let r := (s.func o.fn).postDone o.fn s.pcie.lost c
  { s with funcs := s.funcs.set o.fn r.1, out := s.out ++ r.2 }
/-- COMMAND_FETCH: `entry` is what host memory answers, none where the read fails. The command arrives at the arbiter in
the same step. -/
def execCommandFetch (f q : Nat) (entry buf : Option Bytes) (s : State) : Host.Outcome State Fault Refusal :=
  let x := s.sqOf f q
  if !s.mayFetch f q then .next s
  else match entry with
    | none => .next ((s.setSq f q { x with error := true, reason := 1 }).ev 0x0B03 (fnSrc f) (q * 2 ^ 24 + 2 ^ 16))
    | some b =>
      let head := (x.sqHead + 1) % (x.sizeM1 + 1)
      let o : Origin := { fn := f, q, tag := u16 b 2, sqHead := head }
      let s := s.setSq f q { x with sqHead := head }
      if o.tag == 0xFFFF then .next (s.refuseTag o)
      else
        let s := s.setSq f q { x with sqHead := head, running := x.running + 1 }
        if entryClean b && (!nameless (u8 b 0) || u16 b 4 == 0xFFFF) then entryRun b buf o s else badEntry o s

end Sys2Proof.Machine
end

