-- ==== Sys2Proof/Machine/Fabric.lean ====
section
/-! DEFINITION. Fabric.lean: transactions of Confluence from issue to answer, and the data that Sluice moves (R115, R342 to
R349, R357 to R363). Masters (R84): 17 SLR, 18 SLW, 20 PCIE. -/

namespace Sys2Proof.Machine

/-! ### What a target does with an access -/

/-- The PF0 BAR0 offset of an address of REG. -/
def regOffset (a : Nat) : Nat := a - 0x1000000000
/-- May a transaction of `f` reach `n` bytes at `a` (R347)? Registers take whole words; a data port takes writes of its
owner and of PF0, and of no function while firmware holds its unit (R379). -/
def State.reach (s : State) (f : Option Nat) (write : Bool) (a n : Nat) : Bool :=
  s.allowed f write a n &&
  match targetOf a with
  | .reg => a % 4 == 0 && n % 4 == 0 && (List.range (n / 4)).all (fun i => s.regAt (regOffset a + 4 * i) != .unmapped)
  | .chk u => (match f with | some f => !s.fwHeld u && (f == 0 || f == (s.chk u).owner) | none => true)
  | _ => true
/-- While the link is down or PERST_N is asserted every access to host memory is answered TARGET at once (19). -/
def State.hostDown (s : State) : Bool := !s.pcie.up || s.pcie.lost

def State.wordRead (s : State) (a : Nat) : Nat × State :=
  match s.regAt a with
  | .reg a => s.readReg a
  | _ => (0, s)
def State.wordsRead (s : State) (a : Nat) : Nat → Bytes × State
  | 0 => ([], s)
  | k + 1 =>
    let x := s.wordRead a
    let y := x.2.wordsRead (a + 4) k
    (leBytes 4 x.1 ++ y.1, y.2)
/-- Read `n` bytes at `a`; `host` is what host memory holds. GVL and BOOT answer what the spec leaves open. -/
def State.targetRead (s : State) (a n : Nat) (host : Bytes) : Bytes × State :=
  match targetOf a with
  | .hostm => ((List.range n).map (fun i => host.getD i 0), s)
  | .reg => s.wordsRead (regOffset a) (n / 4)
  | .gvl | .boot => ((List.range n).map (fun i => Config.freeByte (s.free + i)), { s with free := s.free + n })
  | _ => (Mem.bytes s.mem a n, s)

/-- Runs of enabled bytes, each with its address. -/
def enabledRuns (a : Nat) : List (Option Byte) → List (Nat × Bytes)
  | [] => []
  | none :: r => enabledRuns (a + 1) r
  | some v :: r =>
    match enabledRuns (a + 1) r with
    | (b, bs) :: t => if b == a + 1 then (a, v :: bs) :: t else (a, [v]) :: (b, bs) :: t
    | [] => [(a, [v])]
/-- Registers take a word whose four bytes are enabled. -/
def State.wordsWrite (s : State) (f a : Nat) : List (Option Byte) → State
  | some b0 :: some b1 :: some b2 :: some b3 :: r =>
    let v := u32 [b0, b1, b2, b3] 0
    (match s.regAt a with | .reg a => s.writeReg f a (BitVec.ofNat 32 v) | _ => s).wordsWrite f (a + 4) r
  | _ :: _ :: _ :: _ :: r => s.wordsWrite f (a + 4) r
  | _ => s
/-- Full codewords among the bytes written lose their poison (R329, R334). -/
def State.unpoison (s : State) (a n : Nat) : State :=
  let words := (List.range ((a + n) / 32 - (a + 31) / 32)).map (fun i => (a + 31) / 32 * 32 + 32 * i)
  words.foldl (fun s d => match s.st.chanOf d with
    | some (c, l) => if (s.chan c).poison.contains l then s.updChan c (fun x => x.poisonAt l false) else s
    | none => s) s
/-- Write the enabled bytes at `a` for function `f`. -/
def State.targetWrite (s : State) (f : Option Nat) (a : Nat) (d : List (Option Byte)) : State :=
  match targetOf a with
  | .hostm => (enabledRuns (a - 2 ^ 63) d).foldl (fun s e => s.hostWr (f.getD 0) e.1 e.2) s
  | .reg => s.wordsWrite (f.getD 0) (regOffset a) d
  | .chk u => s.chkBytes u (d.filterMap id)
  | .mem | .pool =>
    let s := { s with mem := Mem.putEnabled s.mem a d }
    if d.all (·.isSome) then s.unpoison a d.length else s
  | _ => s
/-- A poisoned codeword among `n` bytes of MEM at `a`. -/
def State.poisoned (s : State) (a n : Nat) : Bool :=
  targetOf a == .mem && ((List.range ((a + n - 1) / 32 - a / 32 + 1)).map (fun i => (a / 32 + i) * 32)).any (fun d =>
    match s.st.chanOf d with | some (c, l) => (s.chan c).poison.contains l | none => false)

/-! ### A transaction (R343 to R348) -/

def zeros (t : Txn) : Bytes := if t.write then [] else List.replicate t.len 0
/-- A transaction that Confluence carries: at most 4 KiB and inside one 4 KiB page, with a byte enable for each byte it
writes. -/
def Txn.legal (t : Txn) : Bool :=
  decide (t.master < 22) && decide (1 ≤ t.len) && decide (t.addr % 4096 + t.len ≤ 4096) && (!t.write || t.data.length == t.len)
/-- A target outside the Reservoir serves a granted request at once; host memory may answer a read later, or never. -/
def State.serve (s : State) (w : AtArbiter) (cyc : Nat) : State :=
  let t := w.t
  let g := s.targetNo t.addr
  let host := t.data.filterMap id
  match s.injectTimeout w g cyc with
  | some s => s
  | none =>
    if g == 33 && s.hostDown then s.respond t 2 (zeros t)
    else if t.write then (s.targetWrite t.fn t.addr t.data).respond t 0 []
    else if g == 33 && decide (host.length < t.len) then
      s.updFab (fun f => { f with flight := f.flight.set w.id { t, target := g, at_ := cyc } })
    else (s.targetRead t.addr t.len host).2.respond t 0 (s.targetRead t.addr t.len host).1
/-- Grants of a target up to the present cycle. -/
def State.portGrants (s : State) (g : Nat) : State :=
  if g < 32 then s.memGrants g else s.grants (fun _ _ => true) State.serve g ((s.tport g).waiting.length + 2) 0
/-- Grants of every target where a request waits. -/
def State.allGrants (s : State) : State :=
  (s.fabric.ports.filter (fun e => !e.2.waiting.isEmpty)).foldl (fun (s : State) e => s.portGrants e.1) s
/-- A master issues a transaction: it fails its check, or waits at its target's arbiter. A master in reset issues none
(R350). -/
def State.fabricIssue (s : State) (t : Txn) : State :=
  if !t.legal || s.fabric.inReset.has t.master then s
  else if !s.reach t.fn t.write t.addr t.len then (s.decodeError t.master t.fn t.write t.addr).respond t 1 (zeros t)
  else
    let g := s.targetNo t.addr
    let w : AtArbiter := { id := s.fabric.nextId, t, at_ := s.now }
    let s := s.updFab (fun f => { f with nextId := f.nextId + 1 })
    (s.setTport g { s.tport g with waiting := (s.tport g).waiting ++ [w] }).portGrants g
/-- The device address of `len` bytes at offset `o` of BAR4 of function `f`; none outside its window (R114). -/
def State.bar4At (s : State) (f o len : Nat) : Option Nat :=
  let r := s.st.funcs.get f
  if f == 0 then (if o + len ≤ 0xC00000000 then some o else none)
  else if o + len ≤ r.memSize then some (r.memBase + o) else none
/-- FABRIC_REQUEST. With `bar4` it is an access of function `t.fn` to its BAR4 at offset `t.addr`, a write of at most 512
bytes: master PCIE carries it. -/
def execFabricRequest (t : Txn) (bar4 : Bool) (s : State) : Host.Outcome State Fault Refusal :=
  .next (if !bar4 then s.fabricIssue t
    else
      let f := t.fn.getD 0
      let t : Txn := { t with master := 20, fn := some f }
      if !t.legal || (t.write && decide (512 < t.len)) then s
      else match s.bar4At f t.addr t.len with
        | some a => s.fabricIssue { t with addr := a }
        | none => (s.decodeError 20 (some f) t.write t.addr).respond t 1 (zeros t))

/-- A granted transaction passes its bound: TARGET. Whether a write took effect is open (R7). -/
def State.timeoutOf (s : State) (id : Nat) (x : InFlight) : State :=
  let s := s.runTo (x.at_ + s.rdn (cnfReg 0x000))
  let s := s.updFab (fun f => { f with flight := f.flight.del id })
  let a := s.drawFree
  let s := if x.t.write then (if bit a.1.toNat 0 then a.2.targetWrite x.t.fn x.t.addr x.t.data else a.2) else s
  (s.respond x.t 2 (zeros x.t)).targetTimeout x.t.master x.target x.t.fn x.t.write x.t.addr
/-- A request held at a channel in self-refresh passes it (R341). -/
def State.heldTimeout (s : State) (n : Nat) (w : AtArbiter) : State :=
  let s := s.runTo (w.at_ + s.rdn (cnfReg 0x000))
  let s := s.setTport n { s.tport n with waiting := (s.tport n).waiting.filter (fun y => y.id != w.id) }
  (s.respond w.t 2 (zeros w.t)).ev 0x090C (memSrc n) 1
/-- TARGET_TIMEOUT of transaction `id`. -/
def execTargetTimeout (id : Nat) (s : State) : Host.Outcome State Fault Refusal :=
  .next (match s.fabric.flight.find id with
    | some x => if x.cut then s else s.timeoutOf id x
    | none =>
      match s.fabric.ports.find? (fun e => decide (e.1 < 32) && s.selfRefresh.contains e.1 && e.2.waiting.any (fun w => w.id == id)) with
      | some e => (match e.2.waiting.find? (fun w => w.id == id) with | some w => s.heldTimeout e.1 w | none => s)
      | none => s)

/-! ### The data of a descriptor (R357, R358, R362) -/

/-- A piece of a side that one transaction carries: its place in the stream of bytes, its address, its bytes. -/
structure Piece where
  pos : Nat := 0
  addr : Nat := 0
  len : Nat := 0
deriving DecidableEq, Repr, Inhabited

/-- `n` bytes from `a` cut at 4 KiB boundaries. -/
def pageCuts (pos a n : Nat) : List Piece :=
  (List.range ((a + n - 1) / 4096 - a / 4096 + 1)).map (fun k =>
    let lo := max a ((a / 4096 + k) * 4096)
    let hi := min (a + n) ((a / 4096 + k + 1) * 4096)
    { pos := pos + (lo - a), addr := lo, len := hi - lo })
/-- The pieces of a side that hold the first `n` bytes of the stream. -/
def SluiceSide.pieces (x : SluiceSide) (n : Nat) : List Piece :=
  (List.range x.lines).flatMap (fun k =>
    if k * x.bytes < n then pageCuts (k * x.bytes) (x.addr + k * x.stride) (min x.bytes (n - k * x.bytes)) else [])
/-- Does a side hold the byte at an address? -/
def SluiceSide.holds (x : SluiceSide) (a : Nat) : Bool :=
  decide (x.addr ≤ a) &&
  (if x.stride == 0 || decide (x.lines ≤ 1) then decide (a < x.addr + x.bytes)
   else decide ((a - x.addr) / x.stride < x.lines) && decide ((a - x.addr) % x.stride < x.bytes))

/-- The response that ends a piece: 3 ADDRESS_ERROR, 2 TARGET_ERROR. `fail` is a byte of the stream whose transaction the
target answers TARGET. -/
def State.pieceFails (s : State) (f : Nat) (write : Bool) (fail : Option Nat) (p : Piece) : Option Nat :=
  if !s.reach (some f) write p.addr p.len then some 3
  else if (targetOf p.addr == .hostm && s.hostDown) || (!write && s.poisoned p.addr p.len) ||
      fail.any (fun k => decide (p.pos ≤ k) && decide (k < p.pos + p.len)) then some 2
  else none
/-- The first piece of a side that fails. -/
def State.sideFails (s : State) (f : Nat) (write : Bool) (fail : Option Nat) : List Piece → Option (Piece × Nat)
  | [] => none
  | p :: r => match s.pieceFails f write fail p with
    | some c => some (p, c)
    | none => s.sideFails f write fail r

/-- The pieces of the source are read in order. -/
def State.readPieces (s : State) (host : Bytes) : List Piece → Bytes × State
  | [] => ([], s)
  | p :: r =>
    let x := s.targetRead p.addr p.len (host.drop p.pos)
    let y := x.2.readPieces host r
    (x.1 ++ y.1, y.2)
/-- Bytes of the stream go to a piece of the destination; one that the source holds too is open (R7). -/
def State.writePiece (s : State) (f : Nat) (d : SluiceDesc) (b : Bytes) (p : Piece) : State :=
  let v := (List.range p.len).map (fun i => some (if d.src.holds (p.addr + i) then Config.freeByte (s.free + i) else b.getD (p.pos + i) 0))
  { s with free := s.free + p.len }.targetWrite (some f) p.addr v
/-- The first `n` bytes of a descriptor are moved for function `f`. -/
def State.moveBytes (s : State) (f : Nat) (d : SluiceDesc) (host : Bytes) (n : Nat) : State :=
  let x := s.readPieces host (d.src.pieces n)
  (d.dst.pieces n).foldl (fun (s : State) p => s.writePiece f d x.1 p) x.2

/-! ### The end of a descriptor (R357 to R362) -/

/-- The descriptor at CUR_DESC: its bytes, or the response that ended its fetch. -/
def State.fetchDesc (s : State) (f cur : Nat) (fetched : Bool) (host : Bytes) : (Option Bytes × Nat) × State :=
  if !s.reach (some f) false cur 32 then ((none, 3), s.decodeError 17 (some f) false cur)
  else if (targetOf cur == .hostm && (!fetched || s.hostDown)) || s.poisoned cur 32 then ((none, 2), s)
  else
    let x := s.targetRead cur 32 host
    ((some x.1, 0), x.2)
/-- A channel meets an error response: its record is posted once every transaction is answered. -/
def State.sluiceFails (s : State) (g code residue a : Nat) : State :=
  s.setSlc g { s.slc g with error := some { status := code, residue, addr := a, final := true } }
def State.sluiceOwes (s : State) (g : Nat) (r : SluiceRec) : State := s.setSlc g { s.slc g with owed := (s.slc g).owed ++ [r] }

/-- A descriptor is finished: the next one, or the end of the channel. -/
def State.descEnds (s : State) (g : Nat) (d : SluiceDesc) : State :=
  let x := s.slc g
  let next := if d.jump then d.src.addr else x.cur + 32
  let s := s.setSlc g { x with hops := x.hops + 1 }
  if d.last then s.sluiceOwes g { addr := next, final := true }
  else if hopLimit x.cfg ≤ x.hops + 1 then s.sluiceOwes g { status := 1, addr := next, final := true }
  else
    let s := s.setSlc g { s.slc g with cur := next }
    if d.irq then s.sluiceOwes g { addr := next } else s
/-- A legal descriptor moves its bytes, all of them or those before the first response that is not OK; of these `moved`
have been written. -/
def State.descRun (s : State) (g : Nat) (d : SluiceDesc) (data : Bytes) (moved : Nat) (fail : Option (Nat × Bool)) : State :=
  let f := s.sluiceFn g
  let total := d.total
  if d.jump then s.descEnds g d
  else
    let r := s.sideFails f false (fail.bind (fun e => if e.2 then none else some e.1)) (d.src.pieces total)
    let w := s.sideFails f true (fail.bind (fun e => if e.2 then some e.1 else none)) (d.dst.pieces total)
    let put (s : State) (n : Nat) : State :=
      let s := s.moveBytes f d data n
      s.setSlc g { s.slc g with bytes := ((s.slc g).bytes + n) % 2 ^ 64 }
    let bad (e : Piece × Nat) (write : Bool) : State :=
      let n := min moved e.1.pos
      let s := put s n
      let s := if e.2 == 3 then s.decodeError (if write then 18 else 17) (some f) write e.1.addr else s
      s.sluiceFails g e.2 (total - n) e.1.addr
    match r, w with
    | some e, some e' => if e.1.pos ≤ e'.1.pos then bad e false else bad e' true
    | some e, none => bad e false
    | none, some e => bad e true
    | none, none => (put s total).descEnds g d

/-- Does a channel issue: it is ACTIVE, no Weir has stopped it, and nothing ends it yet? -/
def SluiceChan.issues (x : SluiceChan) : Bool := x.state == 2 && !x.killed && x.error.isNone && !x.owed.any (·.final)
/-- SLUICE_DESCRIPTOR_DONE: what host memory answers for the descriptor, `fetched` and `desc`, and for its source, `data`. -/
def execSluiceDescriptorDone (g : Nat) (fetched : Bool) (desc data : Bytes) (moved : Nat) (fail : Option (Nat × Bool)) (s : State) :
    Host.Outcome State Fault Refusal :=
  let x := s.slc g
  .next (if !x.issues then s
    else if x.cur % 32 != 0 || x.stat % 16 != 0 then s.sluiceOwes g { status := 4, addr := x.cur, final := true }
    else
      let y := s.fetchDesc (s.sluiceFn g) x.cur fetched desc
      match y.1.1 with
      | none => y.2.drawFree.2.sluiceFails g y.1.2 y.2.drawFree.1.toNat x.cur
      | some b =>
        let d := sluiceDesc b
        if d.legal then y.2.descRun g d data moved fail
        else y.2.sluiceOwes g { status := 4, residue := d.total, addr := x.cur, final := true })

/-- SLUICE_ABORT: the descriptor in progress has written `moved` bytes as its bursts end. -/
def execSluiceAbort (f i : Nat) (desc data : Bytes) (moved : Nat) (s : State) : Host.Outcome State Fault Refusal :=
  .next (match s.sluiceOf f i with
    | none => s
    | some g =>
      let x := s.slc g
      if !(x.issues && s.abortable g) then s.sluiceAbort g 0
      else
        let y := s.fetchDesc f x.cur true desc
        match y.1.1 with
        | none => y.2.sluiceFails g y.1.2 0 x.cur
        | some b =>
          let d := sluiceDesc b
          let n := if d.legal && !d.jump then min moved d.total else 0
          let bad := (s.sideFails f false none (d.src.pieces n)).isSome || (s.sideFails f true none (d.dst.pieces n)).isSome
          if bad then y.2.descRun g d data moved none
          else
            let s := if n == 0 then y.2 else y.2.moveBytes f d data n
            (s.setSlc g { s.slc g with bytes := ((s.slc g).bytes + n) % 2 ^ 64 }).sluiceAbort g (d.total - n))

end Sys2Proof.Machine
end

