-- ==== Sys2Proof/Machine/Dispatch.lean ====
section
/-! DEFINITION. Dispatch.lean: one arm per command. -/

namespace Sys2Proof.Machine

def exec (i : Instr) (s : State) : Host.Outcome State Fault Refusal :=
  match i with
  | .timeLoad w => Sys2Proof.Machine.execTimeLoad w s
  | .timeStep w => Sys2Proof.Machine.execTimeStep w s
  | .timeOpEffect => Sys2Proof.Machine.execTimeOpEffect s
  | .timeAddendWrite w => Sys2Proof.Machine.execTimeAddendWrite w s
  | .timeServoSelect w => Sys2Proof.Machine.execTimeServoSelect w s
  | .hostLockSet w => Sys2Proof.Machine.execHostLockSet w s
  | .utcCfgWrite w => Sys2Proof.Machine.execUtcCfgWrite w s
  | .nowNsRead => Sys2Proof.Machine.execNowNsRead s
  | .txtsPop port => Sys2Proof.Machine.execTxtsPop port s
  | .compareFire m => Sys2Proof.Machine.execCompareFire m s
  | .cmpTgtLoWrite m w => Sys2Proof.Machine.execCmpTgtLoWrite m w s
  | .cmpTgtHiWrite m w => Sys2Proof.Machine.execCmpTgtHiWrite m w s
  | .cmpArmedWrite m w => Sys2Proof.Machine.execCmpArmedWrite m w s
  | .outputPulseEnd k => Sys2Proof.Machine.execOutputPulseEnd k s
  | .ppsInEdge => Sys2Proof.Machine.execPpsInEdge s
  | .ppsInTimeout => Sys2Proof.Machine.execPpsInTimeout s
  | .freq10mCountDone cycles => Sys2Proof.Machine.execFreq10mCountDone cycles s
  | .ptpSyncReceived offset => Sys2Proof.Machine.execPtpSyncReceived offset s
  | .ptpAnnounceReceived best utcOffset => Sys2Proof.Machine.execPtpAnnounceReceived best utcOffset s
  | .syncTimeout => Sys2Proof.Machine.execSyncTimeout s
  | .weirStart d => Sys2Proof.Machine.execWeirStart d s
  | .weirDrained d => Sys2Proof.Machine.execWeirDrained d s
  | .spillDrainDone d => Sys2Proof.Machine.execSpillDrainDone d s
  | .windowOpen d aus => Sys2Proof.Machine.execWindowOpen d aus s
  | .windowDeadline d => Sys2Proof.Machine.execWindowDeadline d s
  | .forcedWeir d => Sys2Proof.Machine.execForcedWeir d s
  | .drainPeriodExpired d => Sys2Proof.Machine.execDrainPeriodExpired d s
  | .drainPacedWeirDue d => Sys2Proof.Machine.execDrainPacedWeirDue d s
  | .inputHoldRelease d => Sys2Proof.Machine.execInputHoldRelease d s
  | .weirPhaseWrite d w => Sys2Proof.Machine.execWeirPhaseWrite d w s
  | .guardNsWrite d w => Sys2Proof.Machine.execGuardNsWrite d w s
  | .modeReqWrite d m => Sys2Proof.Machine.execModeReqWrite d m s
  | .sliceReleaseTime r => Sys2Proof.Machine.execSliceReleaseTime r s
  | .imageLoad o addr len => Sys2Proof.Machine.execImageLoad o addr len s
  | .imageCheckDone b => Sys2Proof.Machine.execImageCheckDone b s
  | .imageStatus o addr wrote => Sys2Proof.Machine.execImageStatus o addr wrote s
  | .flashImageSelect a b => Sys2Proof.Machine.execFlashImageSelect a b s
  | .imageInstall => Sys2Proof.Machine.execImageInstall s
  | .keyProgram slot => Sys2Proof.Machine.execKeyProgram slot s
  | .keyRevoke slot => Sys2Proof.Machine.execKeyRevoke slot s
  | .floorLock => Sys2Proof.Machine.execFloorLock s
  | .queueEnable f q w => Sys2Proof.Machine.execQueueEnable f q w s
  | .sqTailDoorbell f q v whole => Sys2Proof.Machine.execSqTailDoorbell f q v whole s
  | .cqHeadDoorbell f q v whole => Sys2Proof.Machine.execCqHeadDoorbell f q v whole s
  | .commandFetch f q entry buf => Sys2Proof.Machine.execCommandFetch f q entry buf s
  | .evqEnable f w => Sys2Proof.Machine.execEvqEnable f w s
  | .evqHeadWrite f w => Sys2Proof.Machine.execEvqHeadWrite f w s
  | .courseStart o c => Sys2Proof.Machine.execCourseStart o c s
  | .courseStop o c => Sys2Proof.Machine.execCourseStop o c s
  | .courseSet o c field value => Sys2Proof.Machine.execCourseSet o c field value s
  | .keyNow o c => Sys2Proof.Machine.execKeyNow o c s
  | .rcSet o r p => Sys2Proof.Machine.execRcSet o r p s
  | .layerSet o c l p => Sys2Proof.Machine.execLayerSet o c l p s
  | .layerFlip o c l surface pitch => Sys2Proof.Machine.execLayerFlip o c l surface pitch s
  | .subAdd o b => Sys2Proof.Machine.execSubAdd o b s
  | .subDel o n => Sys2Proof.Machine.execSubDel o n s
  | .subSet o n p => Sys2Proof.Machine.execSubSet o n p s
  | .serviceSetAdd o target resetTo b => Sys2Proof.Machine.execServiceSetAdd o target resetTo b s
  | .serviceSetReplace o target resetTo b => Sys2Proof.Machine.execServiceSetReplace o target resetTo b s
  | .serviceSetRemove o n => Sys2Proof.Machine.execServiceSetRemove o n s
  | .inflowAdd o b => Sys2Proof.Machine.execInflowAdd o b s
  | .inflowDel o n => Sys2Proof.Machine.execInflowDel o n s
  | .pCommandApply k => Sys2Proof.Machine.execPCommandApply k s
  | .unitReset o src => Sys2Proof.Machine.execUnitReset o src s
  | .unitResetDone src cycles => Sys2Proof.Machine.execUnitResetDone src cycles s
  | .unitRetire o src => Sys2Proof.Machine.execUnitRetire o src s
  | .pairCtlStatus o arg => Sys2Proof.Machine.execPairCtlStatus o arg s
  | .pairCtlHold o arg => Sys2Proof.Machine.execPairCtlHold o arg s
  | .pairCtlYield o arg => Sys2Proof.Machine.execPairCtlYield o arg s
  | .pairCtlHeal o arg => Sys2Proof.Machine.execPairCtlHeal o arg s
  | .statsRead o scope target addr len wrote => Sys2Proof.Machine.execStatsRead o scope target addr len wrote s
  | .testCtlEnterMaint o target scope => Sys2Proof.Machine.execTestCtlEnterMaint o target scope s
  | .testCtlLeaveMaint o target scope => Sys2Proof.Machine.execTestCtlLeaveMaint o target scope s
  | .testCtlInject o scope target kind addr arg => Sys2Proof.Machine.execTestCtlInject o scope target kind addr arg s
  | .functionLevelReset f => Sys2Proof.Machine.execFunctionLevelReset f s
  | .vfEnableChanged n => Sys2Proof.Machine.execVfEnableChanged n s
  | .linkUp rate width => Sys2Proof.Machine.execLinkUp rate width s
  | .linkDown ltssm => Sys2Proof.Machine.execLinkDown ltssm s
  | .registerWrite f bar off len w => Sys2Proof.Machine.execRegisterWrite f bar off len w s
  | .frameReceived port x desc => Sys2Proof.Machine.execFrameReceived port x desc s
  | .portUp n => Sys2Proof.Machine.execPortUp n s
  | .portDown n => Sys2Proof.Machine.execPortDown n s
  | .mergeLegTimeout n => Sys2Proof.Machine.execMergeLegTimeout n s
  | .excRingEnable f tx w => Sys2Proof.Machine.execExcRingEnable f tx w s
  | .excRxTailDoorbell f v => Sys2Proof.Machine.execExcRxTailDoorbell f v s
  | .excTxTailDoorbell f v => Sys2Proof.Machine.execExcTxTailDoorbell f v s
  | .excTxSend f desc frame => Sys2Proof.Machine.execExcTxSend f desc frame s
  | .membershipReportTimer n => Sys2Proof.Machine.execMembershipReportTimer n s
  | .ftBindWrite f c k w => Sys2Proof.Machine.execFtBindWrite f c k w s
  | .ftWptrWrite c k w => Sys2Proof.Machine.execFtWptrWrite c k w s
  | .fountBandDone c k r => Sys2Proof.Machine.execFountBandDone c k r s
  | .ftStreamLossTimeout c k => Sys2Proof.Machine.execFtStreamLossTimeout c k s
  | .bandReadStart x => Sys2Proof.Machine.execBandReadStart x s
  | .mereBandDone c bad => Sys2Proof.Machine.execMereBandDone c bad s
  | .cascadeBandDone c g => Sys2Proof.Machine.execCascadeBandDone c g s
  | .hwBandDone c u => Sys2Proof.Machine.execHwBandDone c u s
  | .lutLoad c l w => Sys2Proof.Machine.execLutLoad c l w s
  | .lutFetchDone c l => Sys2Proof.Machine.execLutFetchDone c l s
  | .hinPost c k w => Sys2Proof.Machine.execHinPost c k w s
  | .protCheckDone c => Sys2Proof.Machine.execProtCheckDone c s
  | .protRegWrite f n c o w => Sys2Proof.Machine.execProtRegWrite f n c o w s
  | .ctuCommit r g bits blocks => Sys2Proof.Machine.execCtuCommit r g bits blocks s
  | .residueMismatch n stage k => Sys2Proof.Machine.execResidueMismatch n stage k s
  | .tarnWatchdog n => Sys2Proof.Machine.execTarnWatchdog n s
  | .fetchFault r g ctu kind => Sys2Proof.Machine.execFetchFault r g ctu kind s
  | .spillCtuDone k bits blocks => Sys2Proof.Machine.execSpillCtuDone k bits blocks s
  | .emitUnit r g row nals items => Sys2Proof.Machine.execEmitUnit r g row nals items s
  | .chunkRecordWrite r => Sys2Proof.Machine.execChunkRecordWrite r s
  | .chunkHeadWrite c k w => Sys2Proof.Machine.execChunkHeadWrite c k w s
  | .chunkRingEnable c k w => Sys2Proof.Machine.execChunkRingEnable c k w s
  | .captionRingEnable c w => Sys2Proof.Machine.execCaptionRingEnable c w s
  | .tsPcrKeepalive r => Sys2Proof.Machine.execTsPcrKeepalive r s
  | .tsTableRepeat r => Sys2Proof.Machine.execTsTableRepeat r s
  | .outflowSelect n => Sys2Proof.Machine.execOutflowSelect n s
  | .portBucketApply n w => Sys2Proof.Machine.execPortBucketApply n w s
  | .egressDrainDone => Sys2Proof.Machine.execEgressDrainDone s
  | .memRequest n pc a b => Sys2Proof.Machine.execMemRequest n pc a b s
  | .refreshDue n b => Sys2Proof.Machine.execRefreshDue n b s
  | .scrubRead n a b => Sys2Proof.Machine.execScrubRead n a b s
  | .laneRetrain n found => Sys2Proof.Machine.execLaneRetrain n found s
  | .memTempChange stack hot => Sys2Proof.Machine.execMemTempChange stack hot s
  | .hbmTraining l => Sys2Proof.Machine.execHbmTraining l s
  | .srReqSet n => Sys2Proof.Machine.execSrReqSet n s
  | .srEntryDone n => Sys2Proof.Machine.execSrEntryDone n s
  | .srReqClear n => Sys2Proof.Machine.execSrReqClear n s
  | .fabricRequest t bar4 => Sys2Proof.Machine.execFabricRequest t bar4 s
  | .targetTimeout id => Sys2Proof.Machine.execTargetTimeout id s
  | .burstFinishDone m => Sys2Proof.Machine.execBurstFinishDone m s
  | .sluiceStart f n => Sys2Proof.Machine.execSluiceStart f n s
  | .sluiceDisable f n => Sys2Proof.Machine.execSluiceDisable f n s
  | .sluiceAbort f n desc data moved => Sys2Proof.Machine.execSluiceAbort f n desc data moved s
  | .sluiceTimerTrigger g => Sys2Proof.Machine.execSluiceTimerTrigger g s
  | .sluiceSlotGrant slot => Sys2Proof.Machine.execSluiceSlotGrant slot s
  | .sluiceDescriptorDone g fetched desc data moved fail => Sys2Proof.Machine.execSluiceDescriptorDone g fetched desc data moved fail s
  | .sluiceStatusPost g => Sys2Proof.Machine.execSluiceStatusPost g s
  | .sluiceErrorEnd g => Sys2Proof.Machine.execSluiceErrorEnd g s
  | .bceAcquire b f => Sys2Proof.Machine.execBceAcquire b f s
  | .bceRelease b f => Sys2Proof.Machine.execBceRelease b f s
  | .bceForceRelease b f => Sys2Proof.Machine.execBceForceRelease b f s
  | .bceGo b f w => Sys2Proof.Machine.execBceGo b f w s
  | .bceComplete b target => Sys2Proof.Machine.execBceComplete b target s
  | .chkDataW u w => Sys2Proof.Machine.execChkDataW u w s
  | .chkDataB u w => Sys2Proof.Machine.execChkDataB u w s
  | .chkPortWrite u f b => Sys2Proof.Machine.execChkPortWrite u f b s
  | .chkMsgEnd u => Sys2Proof.Machine.execChkMsgEnd u s
  | .chkRestart u => Sys2Proof.Machine.execChkRestart u s
  | .chkRunWrite u hi w => Sys2Proof.Machine.execChkRunWrite u hi w s
  | .chkAliveCfgWrite u w => Sys2Proof.Machine.execChkAliveCfgWrite u w s
  | .chkOwnerWrite u w => Sys2Proof.Machine.execChkOwnerWrite u w s
  | .actInChange level => Sys2Proof.Machine.execActInChange level s
  | .claimHoldoffExpired => Sys2Proof.Machine.execClaimHoldoffExpired s
  | .claimConfirmEnd => Sys2Proof.Machine.execClaimConfirmEnd s
  | .takeoverGateOpen => Sys2Proof.Machine.execTakeoverGateOpen s
  | .noActiveTimeout => Sys2Proof.Machine.execNoActiveTimeout s
  | .watchdogExpiry => Sys2Proof.Machine.execWatchdogExpiry s
  | .heartbeatSend => Sys2Proof.Machine.execHeartbeatSend s
  | .heartbeatReceived b fcs => Sys2Proof.Machine.execHeartbeatReceived b fcs s
  | .heartbeatIntervalMissed => Sys2Proof.Machine.execHeartbeatIntervalMissed s
  | .snapshotReceived x crcOk => Sys2Proof.Machine.execSnapshotReceived x crcOk s
  | .snapshotWaitTimeout d => Sys2Proof.Machine.execSnapshotWaitTimeout d s
  | .pairImageReceived b => Sys2Proof.Machine.execPairImageReceived b s
  | .healListReceived rends => Sys2Proof.Machine.execHealListReceived rends s
  | .healReceived m => Sys2Proof.Machine.execHealReceived m s
  | .sramError src index kind a => Sys2Proof.Machine.execSramError src index kind a s
  | .unitResidueMismatch src k => Sys2Proof.Machine.execUnitResidueMismatch src k s
  | .spillwayCompareMismatch k => Sys2Proof.Machine.execSpillwayCompareMismatch k s
  | .fatalCondition cause => Sys2Proof.Machine.execFatalCondition cause s
  | .thermalSample die hbm => Sys2Proof.Machine.execThermalSample die hbm s
  | .thermStepReleaseTimer k => Sys2Proof.Machine.execThermStepReleaseTimer k s
  | .sysResetAssert => Sys2Proof.Machine.execSysResetAssert s
  | .sysResetDeassert seat => Sys2Proof.Machine.execSysResetDeassert seat s
  | .deviceReset w => Sys2Proof.Machine.execDeviceReset w s
  | .perstAssert => Sys2Proof.Machine.execPerstAssert s
  | .perstDeassert => Sys2Proof.Machine.execPerstDeassert s
  | .trstAssert => Sys2Proof.Machine.execTrstAssert s
  | .supplyLoss => Sys2Proof.Machine.execSupplyLoss s
  | .firmwareVerify a b ack => Sys2Proof.Machine.execFirmwareVerify a b ack s
  | .startupTimeout lanes => Sys2Proof.Machine.execStartupTimeout lanes s
  | .pwrReqWrite w => Sys2Proof.Machine.execPwrReqWrite w s
  | .flashErase => Sys2Proof.Machine.execFlashErase s
  | .flashProgram => Sys2Proof.Machine.execFlashProgram s
  | .flashRead => Sys2Proof.Machine.execFlashRead s
  | .flashOpDone ok data => Sys2Proof.Machine.execFlashOpDone ok data s
  | .laneCalibrationDone n ok => Sys2Proof.Machine.execLaneCalibrationDone n ok s
  | .laneSignalDetect n => Sys2Proof.Machine.execLaneSignalDetect n s
  | .lanePolaritySwitch n => Sys2Proof.Machine.execLanePolaritySwitch n s
  | .laneAlignmentLock n logical own => Sys2Proof.Machine.execLaneAlignmentLock n logical own s
  | .laneAcquireTimeout n => Sys2Proof.Machine.execLaneAcquireTimeout n s
  | .guavoLaneTimeout n => Sys2Proof.Machine.execGuavoLaneTimeout n s
  | .laneRetryTimer n => Sys2Proof.Machine.execLaneRetryTimer n s
  | .laneLossOfLock n => Sys2Proof.Machine.execLaneLossOfLock n s
  | .laneIdleExit n => Sys2Proof.Machine.execLaneIdleExit n s
  | .laneIdleRelockTimeout n => Sys2Proof.Machine.execLaneIdleRelockTimeout n s
  | .ltUpdate n a b => Sys2Proof.Machine.execLtUpdate n a b s
  | .ltTimeout n => Sys2Proof.Machine.execLtTimeout n s
  | .txFfeWrite n second w => Sys2Proof.Machine.execTxFfeWrite n second w s
  | .laneCfgWrite n w => Sys2Proof.Machine.execLaneCfgWrite n w s
  | .patternWrite n w => Sys2Proof.Machine.execPatternWrite n w s
  | .marginStart n => Sys2Proof.Machine.execMarginStart n s
  | .marginComplete n left right vert => Sys2Proof.Machine.execMarginComplete n left right vert s
  | .avsAdjust mv ack => Sys2Proof.Machine.execAvsAdjust mv ack s
  | .supplyExcursion rail mv long => Sys2Proof.Machine.execSupplyExcursion rail mv long s
  | .smbusCommand off => Sys2Proof.Machine.execSmbusCommand off s
  | .registerRead f bar off len => Sys2Proof.Machine.execRegisterRead f bar off len s
  | .functionPowerState f d3 => Sys2Proof.Machine.execFunctionPowerState f d3 s

end Sys2Proof.Machine
end

