-- ==== Sys2Proof/Safety.lean ====
section
/-! DEFINITION. Safety.lean: what every state of a run has, what each command may touch, and what a step leaves in order. -/

namespace Sys2Proof.Machine

/-! ### What every state of a run has -/

/-- Some key slot is programmed and not revoked (R98): an image can still be signed for the device. -/
def ImageUnit.keyUsable (x : ImageUnit) : Prop := ∃ k, x.slotProgrammed.getD k false = true ∧ x.slotRevoked.getD k false =
    false

/-- A time lies in its range (R28): NANOSECONDS below one second, 48 bits of SECONDS. -/
def timeInRange (sec ns : Nat) : Prop := ns < 1000000000 ∧ sec < 2 ^ 48
/-- What an operation on the PHC would load lies in range (R31). -/
def TimeOp.inRange : TimeOp → Prop
  | .load _ sec ns => timeInRange sec ns
  | .step .. => True
/-- The PHC and the loads that wait lie in range. -/
def TimeUnit.inRange (x : TimeUnit) : Prop := timeInRange x.phc.sec x.phc.ns ∧ ∀ o ∈ x.ops, o.inRange

/-- The invariant: memory is in canonical form, a key slot is usable, the time unit is in range. -/
def State.Inv (s : State) : Prop := Mem.wf s.mem = true ∧ s.img.keyUsable ∧ s.time.inRange

/-! ### What a command may touch -/

/-- The parts of the state that a command may touch. Of the time unit, `clk` is the clock and the PHC, `time` the rest; of
    the
image unit, `slots` is the key slots; without `reset` a retired unit and an excluded channel stay so. -/
structure Scope where
  clk : Bool := false
  time : Bool := false
  img : Bool := false
  slots : Bool := false
  units : Bool := false
  reset : Bool := false
  mem : Bool := false
  regs : Bool := false
  out : Bool := false
  weir : Bool := false
  host : Bool := false
  st : Bool := false
  courses : Bool := false
  coders : Bool := false
  emit : Bool := false
  memsys : Bool := false
  dma : Bool := false
  pair : Bool := false
  lanes : Bool := false
  boot : Bool := false
  ras : Bool := false
deriving DecidableEq, Repr

/-- The key slots: programmed, revoked, and their keys (R98). -/
def ImageUnit.slots (x : ImageUnit) : List Bool × List Bool × Tab Bytes := (x.slotProgrammed, x.slotRevoked, x.slotKeys)

/-- A part that is not free is as it was. -/
def Held {α : Type} (free : Bool) (x y : α) : Prop := free = false → y = x

/-- From `s` to `t` nothing outside the scope has changed. -/
structure Frame (sc : Scope) (s t : State) : Prop where
  clk : Held sc.clk (s.now, s.time.phc) (t.now, t.time.phc)
  /-- the time unit but for the PHC -/
  time : Held sc.time s.time { t.time with phc := s.time.phc }
  img : Held sc.img s.img t.img
  slots : Held sc.slots s.img.slots t.img.slots
  units : Held sc.units (s.retired, s.excluded) (t.retired, t.excluded)
  /-- a retired unit and an excluded channel stay so until the device is reset -/
  reset : sc.reset = false → (∀ u ∈ s.retired, u ∈ t.retired) ∧ (∀ u ∈ s.excluded, u ∈ t.excluded)
  mem : Held sc.mem s.mem t.mem
  /-- registers, the values in effect and the latches -/
  regs : Held sc.regs (s.regs, s.eff, s.latch) (t.regs, t.eff, t.latch)
  /-- free values drawn, outputs, limited events, and the functions' queues and vectors -/
  out : Held sc.out (s.free, s.out, s.limits, s.funcs) (t.free, t.out, t.limits, t.funcs)
  /-- the tick domains -/
  weir : Held sc.weir s.doms t.doms
  /-- commands that wait, resets that run, the PCIe link and maintenance -/
  host : Held sc.host (s.waiting, s.resets, s.pcie, s.devMaint, s.devMaintCmd) (t.waiting, t.resets, t.pcie, t.devMaint,
      t.devMaintCmd)
  /-- the structure in effect -/
  st : Held sc.st s.st t.st
  /-- the courses' input side: courses, stages, buffers, ports, inputs, layers, heads -/
  courses : Held sc.courses (s.courses, s.stages, s.bufs, s.inl, s.streams, s.founts, s.layers, s.postLut, s.prots,
      s.hostIns, s.heads) (t.courses, t.stages, t.bufs, t.inl, t.streams, t.founts, t.layers, t.postLut, t.prots,
      t.hostIns, t.heads)
  /-- segments, Tarns, Spillway units, renditions and keys -/
  coders : Held sc.coders (s.placed, s.degraded, s.tarns, s.spills, s.rends, s.keys) (t.placed, t.degraded, t.tarns,
      t.spills, t.rends, t.keys)
  /-- emission rings, chunk rings and Outflow -/
  emit : Held sc.emit (s.rings, s.chunks, s.outf) (t.rings, t.chunks, t.outf)
  /-- memory channels and Confluence -/
  memsys : Held sc.memsys (s.chans, s.fabric, s.selfRefresh) (t.chans, t.fabric, t.selfRefresh)
  /-- Sluice channels, BCEs and check units -/
  dma : Held sc.dma (s.sluice, s.sluiceOrder, s.bces, s.checks) (t.sluice, t.sluiceOrder, t.bces, t.checks)
  /-- pairing -/
  pair : Held sc.pair s.pair t.pair
  /-- lanes -/
  lanes : Held sc.lanes s.lanes t.lanes
  /-- start-up -/
  boot : Held sc.boot s.boot t.boot
  /-- reliability records -/
  ras : Held sc.ras s.ras t.ras

/-! ### Stops -/

/-- A step that stops: none of this block's does. -/
def Stops : Host.Outcome State Fault Refusal → Prop
  | .next _ => False
  | _ => True

end Sys2Proof.Machine

namespace Sys2Proof
open Sys2Proof.Machine

/-- Everything. -/
def Machine.Scope.all : Scope :=
  { clk := true, time := true, img := true, slots := true, units := true, reset := true, mem := true, regs := true, out := true, weir := true, host := true, st := true, courses := true, coders := true, emit := true, memsys := true, dma := true, pair := true, lanes := true, boot := true, ras := true }

/-- The scope of each command. -/
def Instr.scope : Instr → Scope
  | .perstDeassert .. | .trstAssert .. =>
    { boot := true }
  | .sliceReleaseTime .. =>
    { clk := true }
  | .excRingEnable .. | .ftWptrWrite .. =>
    { courses := true }
  | .sluiceSlotGrant .. | .bceAcquire .. | .bceRelease .. | .chkRestart .. | .chkRunWrite .. | .chkOwnerWrite .. =>
    { dma := true }
  | .chunkHeadWrite .. | .chunkRingEnable .. =>
    { emit := true }
  | .floorLock .. =>
    { img := true }
  | .laneSignalDetect .. | .laneIdleExit .. | .marginStart .. =>
    { lanes := true }
  | .imageStatus .. | .sqTailDoorbell .. | .cqHeadDoorbell .. | .evqEnable .. | .evqHeadWrite .. | .pairCtlStatus ..
  | .functionPowerState .. =>
    { out := true }
  | .healListReceived .. =>
    { pair := true }
  | .captionRingEnable .. | .ltUpdate .. =>
    { regs := true }
  | .cmpTgtLoWrite .. | .cmpTgtHiWrite .. | .cmpArmedWrite .. =>
    { time := true }
  | .lanePolaritySwitch .. | .laneRetryTimer .. | .laneIdleRelockTimeout .. | .ltTimeout .. =>
    { clk := true, lanes := true }
  | .noActiveTimeout .. =>
    { clk := true, out := true }
  | .thermStepReleaseTimer .. =>
    { clk := true, ras := true }
  | .imageLoad .. =>
    { img := true, out := true }
  | .flashErase .. | .flashProgram .. | .flashRead .. =>
    { out := true, boot := true }
  | .pairCtlHeal .. =>
    { out := true, coders := true }
  | .portUp .. | .portDown .. | .excRxTailDoorbell .. | .excTxTailDoorbell .. | .lutLoad .. =>
    { out := true, courses := true }
  | .subAdd .. | .subDel .. | .subSet .. | .serviceSetAdd .. | .serviceSetReplace .. | .serviceSetRemove ..
  | .inflowAdd .. | .inflowDel .. | .testCtlEnterMaint .. | .testCtlLeaveMaint .. | .linkUp .. | .linkDown .. =>
    { out := true, host := true }
  | .memTempChange .. =>
    { out := true, memsys := true }
  | .pairCtlHold .. =>
    { out := true, pair := true }
  | .flashOpDone .. =>
    { regs := true, boot := true }
  | .chkAliveCfgWrite .. =>
    { regs := true, dma := true }
  | .timeAddendWrite .. | .utcCfgWrite .. | .nowNsRead .. | .freq10mCountDone .. | .weirPhaseWrite ..
  | .guardNsWrite .. | .ftBindWrite .. | .protRegWrite .. | .txFfeWrite .. =>
    { regs := true, out := true }
  | .ptpAnnounceReceived .. =>
    { time := true, out := true }
  | .ppsInEdge .. =>
    { time := true, regs := true }
  | .mergeLegTimeout .. | .membershipReportTimer .. | .ftStreamLossTimeout .. =>
    { clk := true, out := true, courses := true }
  | .unitResetDone .. =>
    { clk := true, out := true, host := true }
  | .laneRetrain .. =>
    { clk := true, out := true, memsys := true }
  | .claimHoldoffExpired .. | .heartbeatSend .. =>
    { clk := true, out := true, pair := true }
  | .timeOpEffect .. | .outputPulseEnd .. | .ppsInTimeout .. =>
    { clk := true, time := true, out := true }
  | .pairImageReceived .. =>
    { img := true, out := true, pair := true }
  | .keyProgram .. | .keyRevoke .. =>
    { img := true, slots := true, out := true }
  | .protCheckDone .. =>
    { out := true, courses := true, dma := true }
  | .sluiceDisable .. =>
    { out := true, memsys := true, dma := true }
  | .modeReqWrite .. =>
    { out := true, weir := true, pair := true }
  | .firmwareVerify .. =>
    { regs := true, out := true, boot := true }
  | .fetchFault .. =>
    { regs := true, out := true, coders := true }
  | .lutFetchDone .. =>
    { regs := true, out := true, courses := true }
  | .bceGo .. | .chkDataW .. | .chkDataB .. | .chkPortWrite .. | .chkMsgEnd .. =>
    { regs := true, out := true, dma := true }
  | .statsRead .. | .portBucketApply .. | .smbusCommand .. =>
    { regs := true, out := true, emit := true }
  | .laneCalibrationDone .. | .laneAlignmentLock .. | .marginComplete .. =>
    { regs := true, out := true, lanes := true }
  | .srReqClear .. | .burstFinishDone .. =>
    { regs := true, out := true, memsys := true }
  | .heartbeatReceived .. =>
    { regs := true, out := true, pair := true }
  | .hinPost .. =>
    { regs := true, weir := true, courses := true }
  | .txtsPop .. =>
    { time := true, regs := true, out := true }
  | .tsPcrKeepalive .. | .tsTableRepeat .. =>
    { clk := true, mem := true, regs := true, emit := true }
  | .egressDrainDone .. =>
    { clk := true, out := true, emit := true, pair := true }
  | .avsAdjust .. =>
    { clk := true, regs := true, out := true, boot := true }
  | .chunkRecordWrite .. | .outflowSelect .. =>
    { clk := true, regs := true, out := true, emit := true }
  | .laneAcquireTimeout .. | .guavoLaneTimeout .. =>
    { clk := true, regs := true, out := true, lanes := true }
  | .refreshDue .. =>
    { clk := true, regs := true, out := true, memsys := true }
  | .heartbeatIntervalMissed .. =>
    { clk := true, regs := true, out := true, pair := true }
  | .sluiceStart .. | .sluiceStatusPost .. | .sluiceErrorEnd .. =>
    { mem := true, regs := true, out := true, dma := true }
  | .laneLossOfLock .. | .laneCfgWrite .. | .patternWrite .. =>
    { regs := true, out := true, courses := true, lanes := true }
  | .pairCtlYield .. =>
    { regs := true, out := true, emit := true, pair := true }
  | .healReceived .. =>
    { regs := true, weir := true, coders := true, pair := true }
  | .timeLoad .. | .timeStep .. | .timeServoSelect .. | .hostLockSet .. | .ptpSyncReceived .. | .syncTimeout .. =>
    { time := true, regs := true, out := true, courses := true }
  | .registerRead .. =>
    { time := true, regs := true, out := true, emit := true }
  | .sluiceTimerTrigger .. | .bceComplete .. =>
    { clk := true, mem := true, regs := true, out := true, dma := true }
  | .bandReadStart .. =>
    { clk := true, regs := true, out := true, courses := true, coders := true }
  | .claimConfirmEnd .. =>
    { clk := true, regs := true, out := true, emit := true, pair := true }
  | .srEntryDone .. =>
    { clk := true, regs := true, out := true, memsys := true, boot := true }
  | .scrubRead .. =>
    { clk := true, regs := true, out := true, memsys := true, ras := true }
  | .queueEnable .. =>
    { img := true, out := true, weir := true, host := true, pair := true }
  | .bceForceRelease .. =>
    { mem := true, regs := true, out := true, memsys := true, dma := true }
  | .srReqSet .. =>
    { mem := true, regs := true, out := true, memsys := true, ras := true }
  | .watchdogExpiry .. =>
    { regs := true, out := true, emit := true, pair := true, ras := true }
  | .frameReceived .. =>
    { regs := true, out := true, weir := true, courses := true, emit := true }
  | .residueMismatch .. | .tarnWatchdog .. =>
    { units := true, regs := true, out := true, coders := true, memsys := true }
  | .hbmTraining .. =>
    { units := true, regs := true, out := true, memsys := true, boot := true }
  | .windowDeadline .. =>
    { clk := true, regs := true, out := true, weir := true, courses := true, coders := true }
  | .compareFire .. =>
    { clk := true, time := true, mem := true, regs := true, out := true, dma := true }
  | .excTxSend .. =>
    { clk := true, time := true, regs := true, out := true, courses := true, emit := true }
  | .memRequest .. =>
    { clk := true, mem := true, regs := true, out := true, weir := true, memsys := true, ras := true }
  | .startupTimeout .. =>
    { clk := true, units := true, regs := true, out := true, memsys := true, lanes := true, boot := true }
  | .pwrReqWrite .. =>
    { mem := true, regs := true, out := true, memsys := true, lanes := true, boot := true, ras := true }
  | .emitUnit .. =>
    { mem := true, regs := true, out := true, weir := true, coders := true, emit := true, pair := true }
  | .unitResidueMismatch .. =>
    { units := true, regs := true, out := true, courses := true, coders := true, memsys := true, ras := true }
  | .ctuCommit .. =>
    { units := true, regs := true, out := true, weir := true, coders := true, memsys := true, ras := true }
  | .testCtlInject .. | .fatalCondition .. | .thermalSample .. =>
    { mem := true, regs := true, out := true, emit := true, memsys := true, dma := true, pair := true, ras := true }
  | .unitReset .. =>
    { mem := true, regs := true, out := true, host := true, courses := true, coders := true, memsys := true, dma :=
      true }
  | .windowOpen .. =>
    { clk := true, time := true, img := true, regs := true, out := true, weir := true, courses := true, coders :=
      true, pair := true }
  | .fountBandDone .. | .mereBandDone .. | .cascadeBandDone .. =>
    { clk := true, units := true, regs := true, out := true, weir := true, courses := true, coders := true, memsys :=
      true, ras := true }
  | .supplyExcursion .. =>
    { mem := true, regs := true, out := true, emit := true, memsys := true, dma := true, pair := true, boot := true,
      ras := true }
  | .spillwayCompareMismatch .. =>
    { clk := true, mem := true, regs := true, out := true, coders := true, emit := true, memsys := true, dma := true,
      pair := true, ras := true }
  | .hwBandDone .. =>
    { clk := true, units := true, regs := true, out := true, weir := true, courses := true, coders := true, memsys :=
      true, pair := true, ras := true }
  | .functionLevelReset .. | .vfEnableChanged .. =>
    { img := true, mem := true, regs := true, out := true, weir := true, host := true, courses := true, memsys :=
      true, dma := true, pair := true }
  | .courseStart .. | .courseStop .. | .courseSet .. | .keyNow .. | .rcSet .. | .layerSet .. | .layerFlip ..
  | .unitRetire .. =>
    { units := true, regs := true, out := true, weir := true, st := true, courses := true, coders := true, memsys :=
      true, dma := true, pair := true }
  | .spillCtuDone .. =>
    { clk := true, mem := true, regs := true, out := true, weir := true, coders := true, emit := true, memsys :=
      true, dma := true, pair := true, ras := true }
  | .weirStart .. | .forcedWeir .. | .drainPeriodExpired .. | .drainPacedWeirDue .. =>
    { clk := true, time := true, regs := true, out := true, weir := true, courses := true, coders := true, emit :=
      true, memsys := true, dma := true, pair := true }
  | .perstAssert .. =>
    { img := true, mem := true, regs := true, out := true, weir := true, host := true, courses := true, memsys :=
      true, dma := true, pair := true, boot := true }
  | .sramError .. =>
    { units := true, mem := true, regs := true, out := true, courses := true, coders := true, emit := true, memsys :=
      true, dma := true, pair := true, ras := true }
  | .pCommandApply .. =>
    { clk := true, img := true, units := true, regs := true, out := true, weir := true, host := true, st := true,
      courses := true, coders := true, emit := true, memsys := true, dma := true, pair := true }
  | .commandFetch .. =>
    { img := true, units := true, mem := true, regs := true, out := true, weir := true, host := true, st := true,
      courses := true, coders := true, emit := true, memsys := true, dma := true, pair := true, ras := true }
  | .imageInstall .. =>
    { time := true, img := true, units := true, regs := true, out := true, weir := true, host := true, st := true,
      courses := true, coders := true, emit := true, memsys := true, dma := true, pair := true, lanes := true, boot
      := true }
  | .imageCheckDone .. | .flashImageSelect .. =>
    { clk := true, time := true, img := true, units := true, regs := true, out := true, weir := true, host := true,
      st := true, courses := true, coders := true, emit := true, memsys := true, dma := true, pair := true, lanes :=
      true, boot := true }
  | .weirDrained .. | .spillDrainDone .. | .inputHoldRelease .. | .actInChange .. | .takeoverGateOpen ..
  | .snapshotReceived .. | .snapshotWaitTimeout .. =>
    { clk := true, img := true, units := true, mem := true, regs := true, out := true, weir := true, host := true, st
      := true, courses := true, coders := true, emit := true, memsys := true, dma := true, pair := true, lanes :=
      true, boot := true, ras := true }
  | .sysResetAssert .. | .sysResetDeassert .. | .deviceReset .. | .supplyLoss .. =>
    { clk := true, time := true, img := true, units := true, reset := true, mem := true, regs := true, out := true,
      weir := true, host := true, st := true, courses := true, coders := true, emit := true, memsys := true, dma :=
      true, pair := true, lanes := true, boot := true, ras := true }
  | .registerWrite .. | .fabricRequest .. | .targetTimeout .. | .sluiceAbort .. | .sluiceDescriptorDone .. =>
    .all

end Sys2Proof
end

