-- ==== Sys2Proof/Certificates/Slice0/Obligations.lean ====
section
/-! DEFINITION. Obligations.lean: the statements for the provers. -/

open Sys2Proof Sys2Proof.Machine

/-- The front command of the queue is taken and has its effect on the rest of the machine; with no command waiting and no request
at a target, a step is one cycle (the model's choice, assumption log entry 1). -/
def Obligations.StepRunsTheFrontCommand : Prop :=
  (∀ (c : Instr) (rest : List Instr) (s : State), step { s with pending := c :: rest } = exec c { s with pending := rest }) ∧
  (∀ s : State, s.pending = [] → (∀ g, (s.tport g).waiting = []) → step s = .next (s.cycles 1))

/-- No command stops the block: to every command, in every state, with any operands, the spec gives an effect. No command touches
the queue, and the clock never runs back. -/
def Obligations.NoCommandStops : Prop :=
  ∀ (i : Instr) (s : State), ∃ t, exec i s = .next t ∧ t.pending = s.pending ∧ s.now ≤ t.now

/-- Reset leaves the invariant: memory in canonical form (no byte listed), a usable key slot, the PHC in its range. -/
def Obligations.ResetHasTheInvariant : Prop := State.reset.Inv

/-- R28, R98: every step keeps the invariant: memory stays in its canonical form, a key slot that is programmed and not revoked
remains, NANOSECONDS stay below one second and SECONDS within 48 bits, in the PHC and in every load that waits. -/
def Obligations.StepKeepsTheInvariant : Prop :=
  ∀ s t : State, s.Inv → step s = .next t → t.Inv

/-- The frame of every command: from any state it changes nothing outside its scope (Instr.scope); outside a reset no retired unit
and no excluded channel comes back. -/
def Obligations.EveryCommandStaysInItsScope : Prop :=
  ∀ (i : Instr) (s t : State), exec i s = .next t → Frame i.scope s t

/-- R28: on every cycle the time unit adds TIME.ADDEND to FRACTION, a carry out of FRACTION increments NANOSECONDS, NANOSECONDS
that reach 1,000,000,000 become 0 as SECONDS increments, and SECONDS wraps from 2^48 - 1 to 0; any number of cycles is that many
single cycles, of which each counts once on the clock. -/
def Obligations.EachCycleAddsTheIncrementToThePhc : Prop :=
  ∀ (s : State) (p : PhcTime), p = s.time.phc →
    (p.frac < 2 ^ 32 → p.ns < 1000000000 → p.sec < 2 ^ 48 → ∀ q, q = (s.cycles 1).time.phc →
      q.frac = (p.frac + s.addend) % 2 ^ 32 ∧
      (p.frac + s.addend < 2 ^ 32 → q.ns = p.ns ∧ q.sec = p.sec) ∧
      (2 ^ 32 ≤ p.frac + s.addend → p.ns + 1 < 1000000000 → q.ns = p.ns + 1 ∧ q.sec = p.sec) ∧
      (2 ^ 32 ≤ p.frac + s.addend → p.ns + 1 = 1000000000 → q.ns = 0 ∧ (p.sec + 1 < 2 ^ 48 → q.sec = p.sec + 1) ∧
        (p.sec + 1 = 2 ^ 48 → q.sec = 0))) ∧
    (∀ k, (s.cycles (k + 1)).time.phc = ((s.cycles k).cycles 1).time.phc ∧ (s.cycles k).now = s.now + k)

/-- R30, and parts of R29, R46 and R47: in HOST mode a write of TIME.ADDEND takes the nominal value ±0.1% at most, and the PHC advances by it from
the next cycle; in FIRMWARE mode it is dropped. SERVO and HOST_LOCK take the written value; UTC_OFFSET follows the mode and neither
of its two values is lost; UTC_CFG takes the written byte in HOST mode. -/
def Obligations.ServoModeDecidesWhoSteersTheClock : Prop :=
  ∀ (s : State) (w : Word),
    (s.hostMode = true → ∃ t, exec (.timeAddendWrite w) s = .next t ∧
      t.addend = max 2860448219 (min 2866174843 w.toNat) ∧
      (t.cycles 1).time.phc = phcAdvance s.time.phc (max 2860448219 (min 2866174843 w.toNat)) 1 ∧
      t.time = s.time ∧ t.mem = s.mem ∧ ∀ a, a ≠ timeReg 0x020 → t.rd a = s.rd a) ∧
    (s.hostMode = false → exec (.timeAddendWrite w) s = .next (s.ev 0x0107 0x4000 0x020)) ∧
    (∃ t, exec (.timeServoSelect w) s = .next t ∧ t.hostMode = bit w.toNat 5 ∧
      t.utcOffset = (if bit w.toNat 5 then s.fld (timeReg 0x038) 7 0 else s.time.servoUtc) ∧
      t.fld (timeReg 0x038) 7 0 = s.fld (timeReg 0x038) 7 0 ∧ t.time.servoUtc = s.time.servoUtc) ∧
    (bit w.toNat 5 = true → ∃ t, exec (.hostLockSet w) s = .next t ∧ t.time.lock = bits w.toNat 7 6 ∧ t.time.phc = s.time.phc) ∧
    (s.hostMode = true → ∃ t, exec (.utcCfgWrite w) s = .next t ∧ t.utcOffset = w.toNat % 256 ∧ t.time = s.time ∧
      ∀ a, a ≠ timeReg 0x038 → t.rd a = s.rd a)

/-- R31, R46: in HOST mode TIME.CTRL.LOAD and STEP schedule their operation two cycles on, with the operands captured in the cycle
of the write; the PHC itself does not change yet. Two cycles after its write a lone LOAD sets SECONDS and NANOSECONDS and clears
FRACTION; a lone STEP adds its signed value over the full SECONDS and leaves FRACTION; a LOAD and a STEP that wait together leave
the LOAD alone. That an event runs the clock to its due cycle first is the model's choice (assumption log entry 3). -/
def Obligations.LoadAndStepActTwoCyclesOn : Prop :=
  ∀ (s : State) (w : Word) (d sec ns : Nat) (adj : Int),
    (s.hostMode = true → bit w.toNat 0 = true → bit w.toNat 1 = false → ∃ t, exec (.timeLoad w) s = .next t ∧
      t.time.ops = s.time.ops ++ [.load (s.now + 2) (s.rdn (timeReg 0x028) + 2 ^ 32 * (s.rdn (timeReg 0x02C) % 2 ^ 16))
        (min (s.rdn (timeReg 0x024)) 999999999)] ∧
      t.time.phc = s.time.phc ∧ t.now = s.now ∧ ∀ a, a ≠ timeReg 0 → t.rd a = s.rd a) ∧
    (s.hostMode = true → bit w.toNat 0 = false → bit w.toNat 1 = true → ∃ t, exec (.timeStep w) s = .next t ∧
      t.time.ops = s.time.ops ++ [.step (s.now + 2) (signed 64 (s.rd64 (timeReg 0x030)))] ∧
      t.time.phc = s.time.phc ∧ t.now = s.now ∧ ∀ a, a ≠ timeReg 0 → t.rd a = s.rd a) ∧
    (s.time.ops = [.load d sec ns] → ∃ t, exec .timeOpEffect s = .next t ∧
      t.time.phc = { sec, ns, frac := 0 } ∧ t.time.ops = [] ∧ t.now = max s.now d) ∧
    (s.time.ops = [.step d adj] → ∃ t, exec .timeOpEffect s = .next t ∧
      (phcNs t.time.phc : Int) = ((phcNs (s.runTo d).time.phc : Int) + adj) % ((2 ^ 48 : Nat) * 1000000000) ∧
      t.time.phc.frac = (s.runTo d).time.phc.frac ∧ t.time.ops = [] ∧ t.now = max s.now d) ∧
    (∀ e, s.time.ops = [.load d sec ns, .step e adj] ∨ s.time.ops = [.step e adj, .load d sec ns] →
      ∃ t, exec .timeOpEffect s = .next t ∧ t.time.phc = { sec, ns, frac := 0 } ∧ t.time.ops = [])

/-- R33, R39: a read of TIME.NOW_NS returns NANOSECONDS and latches the rest of the same instant; the clock and the PHC stand. A read
of TXTS_POP takes the oldest entry, answers VALID and its identifier and latches its time; on an empty queue it answers VALID 0 and
changes nothing. -/
def Obligations.TimeReadsDescribeOneInstant : Prop :=
  ∀ (s : State) (port : Nat),
    (∃ t, exec .nowNsRead s = .next t ∧ t.out = s.out ++ [.read (BitVec.ofNat 32 s.time.phc.ns)] ∧
      t.rd (timeReg 0x014) = BitVec.ofNat 32 s.time.phc.sec ∧ t.rd (timeReg 0x018) = BitVec.ofNat 32 (s.time.phc.sec / 2 ^ 32) ∧
      t.rd (timeReg 0x01C) = BitVec.ofNat 32 (s.time.phc.frac / 2 ^ 16) ∧ t.time = s.time ∧ t.now = s.now ∧ t.mem = s.mem ∧
      ∀ a, a ≠ timeReg 0x014 → a ≠ timeReg 0x018 → a ≠ timeReg 0x01C → t.rd a = s.rd a) ∧
    (∀ e r, s.time.txts.get port = e :: r → ∃ t, exec (.txtsPop port) s = .next t ∧
      t.time.txts.get port = r ∧ t.out = s.out ++ [.read (BitVec.ofNat 32 (2 ^ 31 + e.id % 2 ^ 16))] ∧
      t.rd (timePort port 0x10) = BitVec.ofNat 32 e.t.ns ∧ t.rd (timePort port 0x14) = BitVec.ofNat 32 e.t.sec ∧
      t.rd (timePort port 0x18) = BitVec.ofNat 32 (e.t.sec / 2 ^ 32 % 2 ^ 16 + e.t.frac * 2 ^ 16)) ∧
    (s.time.txts.get port = [] → exec (.txtsPop port) s = .next (s.emit (.read 0)))

/-- R42, R43: TGT_LO is staged; TGT_HI loads the target from both halves and arms; ARMED is set or cleared by its bit and FIRED
cleared by a one; CMP0 to CMP7 ignore all three. -/
def Obligations.CompareRegistersLoadAndArm : Prop :=
  ∀ (s : State) (m : Nat) (w : Word),
    (8 ≤ m → m < 16 →
      (∃ t, exec (.cmpTgtLoWrite m w) s = .next t ∧ t.time.cmps.get m = { s.time.cmps.get m with staged := w.toNat } ∧
        (∀ k, k ≠ m → t.time.cmps.get k = s.time.cmps.get k) ∧ t.time.phc = s.time.phc ∧ t.regs = s.regs ∧ t.mem = s.mem) ∧
      (∃ t, exec (.cmpTgtHiWrite m w) s = .next t ∧
        t.time.cmps.get m = { s.time.cmps.get m with target := (s.time.cmps.get m).staged + 2 ^ 32 * w.toNat, armed := true } ∧
        (∀ k, k ≠ m → t.time.cmps.get k = s.time.cmps.get k) ∧ t.time.phc = s.time.phc ∧ t.regs = s.regs ∧ t.mem = s.mem) ∧
      (∃ t, exec (.cmpArmedWrite m w) s = .next t ∧
        t.time.cmps.get m = { s.time.cmps.get m with
          armed := bit w.toNat 0, fired := (s.time.cmps.get m).fired && !bit w.toNat 1 } ∧
        (∀ k, k ≠ m → t.time.cmps.get k = s.time.cmps.get k) ∧ t.time.phc = s.time.phc ∧ t.regs = s.regs ∧ t.mem = s.mem)) ∧
    (m < 8 → exec (.cmpTgtLoWrite m w) s = .next s ∧ exec (.cmpTgtHiWrite m w) s = .next s ∧ exec (.cmpArmedWrite m w) s = .next s)

/-- R41, R44: an armed unit fires once its target is reached: FIRED is set, a unit with an interval stays armed with its target
moved by whole intervals past the present time, one without is disarmed; then the Sluice channels it triggers follow. A pulse ends
at its recorded cycle, and no other pin moves. That an event runs the clock to its due cycle first is the model's choice
(assumption log entry 3). -/
def Obligations.CompareUnitsFireAndPulsesEnd : Prop :=
  ∀ (s : State) (m k : Nat),
    ((s.time.cmps.get m).armed = true → ∃ u : State, exec (.compareFire m) s = .next (u.sluiceCompare m) ∧
      u.time.cmps.get m = (s.time.cmps.get m).fire (linear u.time.phc) ∧
      (u.time.cmps.get m).fired = true ∧ (u.time.cmps.get m).armed = ((s.time.cmps.get m).interval != 0) ∧
      (∀ j, j ≠ m → u.time.cmps.get j = s.time.cmps.get j) ∧
      u.time.phc = (s.cycles (s.cyclesTo (s.time.cmps.get m).target)).time.phc ∧
      u.now = s.now + s.cyclesTo (s.time.cmps.get m).target ∧ u.mem = s.mem ∧ u.regs = s.regs) ∧
    ((s.time.pins.get k).level = true → ∃ t, exec (.outputPulseEnd k) s = .next t ∧
      (t.time.pins.get k).level = false ∧ (∀ j, j ≠ k → t.time.pins.get j = s.time.pins.get j) ∧
      t.now = max s.now (s.time.pins.get k).fall ∧ t.out = s.out ++ [.pin (.timeOut k) false t.now] ∧
      t.mem = s.mem ∧ t.regs = s.regs)

/-- R45, R46, R48: an edge of PPS_IN captures the PHC; 2 s without one after one was seen is told once; FREQ_10M takes the count.
In FIRMWARE mode an offset above UNLOCK_NS while LOCKED, or three announce intervals without Sync, leads to HOLDOVER, an offset
above STEP_NS steps the PHC, and the first master leads to ACQUIRING. That an event runs the clock to its due cycle first is the
model's choice (assumption log entry 3). -/
def Obligations.ReferencesAreCapturedAndTheServoFollows : Prop :=
  ∀ (s : State) (cycles : Nat) (offset : Int) (best : Nat),
    (∃ t, exec .ppsInEdge s = .next t ∧ t.rd (timeReg 0x040) = BitVec.ofNat 32 s.time.phc.ns ∧
      t.rd (timeReg 0x044) = BitVec.ofNat 32 s.time.phc.sec ∧ t.rd (timeReg 0x048) = BitVec.ofNat 32 (s.time.phc.sec / 2 ^ 32) ∧
      t.time.ppsSeen = true ∧ t.time.phc = s.time.phc) ∧
    (s.time.ppsSeen = true → s.time.ppsReported = false → ∃ t u : State, exec .ppsInTimeout s = .next t ∧
      t = u.ev 0x0108 0x4000 ((t.now - s.time.ppsAt) / 1500000000) ∧ t.now = max s.now (s.time.ppsAt + 3000000000) ∧
      t.time.ppsReported = true) ∧
    (∃ t, exec (.freq10mCountDone cycles) s = .next t ∧ t.rd (timeReg 0x04C) = BitVec.ofNat 32 cycles ∧
      (1500150000 < cycles ∨ cycles < 1499850000 → t = (s.wrn (timeReg 0x04C) cycles).ev 0x0109 0x4000 cycles) ∧
      (1499850000 ≤ cycles → cycles ≤ 1500150000 → t = s.wrn (timeReg 0x04C) cycles)) ∧
    (s.hostMode = false →
    (s.time.master.isSome = true → s.time.lock = 2 → s.rdn (timeReg 0x064) < offset.natAbs →
      ∃ t, exec (.ptpSyncReceived offset) s = .next t ∧ t.time.lock = 3 ∧ t.time.lastOffset = offset ∧
        t.time.syncSeen = (s.time.syncSeen + 1) % 2 ^ 16 ∧ t.time.phc = s.time.phc) ∧
    (s.time.master.isSome = true → s.time.lock < 2 → 1000000 < offset.natAbs → s.rdn (timeReg 0x060) < offset.natAbs →
      0 < s.rdn (timeReg 0x068) →
      ∃ t, exec (.ptpSyncReceived offset) s = .next t ∧ t.time.ops = s.time.ops ++ [.step (s.now + 2) (-offset)] ∧
        t.addend = s.addend ∧ t.time.lock = s.time.lock) ∧
    (s.time.lock = 0 → some best ≠ s.time.master → ∃ t, exec (.ptpAnnounceReceived (some best) none) s = .next t ∧
      t.time.lock = 1 ∧ t.time.master = some best ∧ t.time.servoUtc = s.time.servoUtc) ∧
    (s.time.lock = 2 → ∃ t, exec .syncTimeout s = .next t ∧ t.time.lock = 3 ∧ t.time.phc = s.time.phc))
/-- R41, R55, R65, R66: a Weir begins. At a pending tick that does not come after the forced Weir's cycle the domain's tick
becomes that of the PHC, and always grows; a forced Weir, the period of a DRAIN_PACED domain and its 512 cycles after the last
event each begin the next tick. In each case the stage is the drain, measured from the cycle it began. That an event runs the
clock to its due cycle first is the model's choice (assumption log entry 3). -/
def Obligations.WeirBeginsAtItsCycle : Prop :=
  ∀ (s : State) (d : Nat), s.weirFree d = true →
    ((s.dom d).mode ≠ 1 → (s.dom d).stage ≠ .none → s.tickCycle d ≤ s.forcedDue d → ∃ t, exec (.weirStart d) s = .next t ∧
      (t.dom d).stage = .drain ∧ (t.dom d).t0 = t.now ∧ t.now = max s.now (s.tickCycle d) ∧
      (t.dom d).tick = max ((s.dom d).tickAfter (phcNs t.time.phc) - 1) ((s.dom d).tick + 1) ∧ (t.dom d).unaligned = false) ∧
    ((s.dom d).mode ≠ 1 → (s.dom d).stage ≠ .none → s.forcedDue d < s.tickCycle d → ∃ t, exec (.forcedWeir d) s = .next t ∧
      (t.dom d).stage = .drain ∧ (t.dom d).t0 = t.now ∧ t.now = max s.now (s.forcedDue d) ∧
      (t.dom d).tick = (s.dom d).tick + 1 ∧ (t.dom d).unaligned = true ∧ (t.dom d).forced = (s.dom d).forced + 1) ∧
    ((s.dom d).mode = 1 → (s.dom d).stage ≠ .none → s.runningIn d ≠ [] → s.drained d = false →
      ∃ t, exec (.drainPeriodExpired d) s = .next t ∧ (t.dom d).stage = .drain ∧ (t.dom d).t0 = t.now ∧
      t.now = max s.now ((s.dom d).openAt + s.winOf d) ∧ (t.dom d).tick = (s.dom d).tick + 1 ∧ (t.dom d).byPeriod = true) ∧
    (∀ r, (s.dom d).mode = 1 → (s.dom d).stage ≠ .none → (s.dom d).readyAt = some r →
      ∃ t, exec (.drainPacedWeirDue d) s = .next t ∧ (t.dom d).stage = .drain ∧ (t.dom d).t0 = t.now ∧
      t.now = max s.now (r + 512) ∧ (t.dom d).tick = (s.dom d).tick + 1 ∧ (t.dom d).readyAt = none)

/-- R55, R56, R58, R61: the Weir goes on. The drain ends with its wait X measured from T+32; with Spillway units or emission at
work the Weir waits for them, else step 3 follows; the wait E ends likewise; the settle ends in an open window; a window's
deadline passes at its cycle; a held DRAIN_PACED Weir goes on 512 cycles after its last lead band. That an event runs the clock to
its due cycle first is the model's choice (assumption log entry 3). -/
def Obligations.WeirStagesFollowInOrder : Prop :=
  ∀ (s : State) (d : Nat), s.domDefined d = true →
    ((s.dom d).stage = .drain → s.tagged d = 0 → s.busySpills d ≠ [] → ∃ t, exec (.weirDrained d) s = .next t ∧
      (t.dom d).stage = .spill ∧ (t.dom d).x = max s.now ((s.dom d).t0 + 32) - ((s.dom d).t0 + 32) ∧
      t.now = max s.now ((s.dom d).t0 + 32) ∧ t.mem = s.mem) ∧
    ((s.dom d).stage = .drain → s.tagged d = 0 → s.busySpills d = [] → s.busyRends d = [] →
      ∃ u : State, exec (.weirDrained d) s = .next (u.weirMiddle d).pace ∧
      (u.dom d).x = max s.now ((s.dom d).t0 + 32) - ((s.dom d).t0 + 32) ∧ (u.dom d).tick = (s.dom d).tick ∧ u.mem = s.mem) ∧
    ((s.dom d).stage = .spill → s.busySpills d = [] → s.busyRends d = [] →
      ∃ u : State, exec (.spillDrainDone d) s = .next (u.weirMiddle d).pace ∧
      (u.dom d).e = s.now - ((s.dom d).t0 + 32 + (s.dom d).x) ∧ (u.dom d).tick = (s.dom d).tick ∧ u.mem = s.mem ∧ u.now = s.now) ∧
    ((s.dom d).stage = .settle → s.isFatal = false → ∀ aus, ∃ t, exec (.windowOpen d aus) s = .next t ∧
      (t.dom d).stage = .window ∧ (t.dom d).openAt = max s.now (s.dom d).openAt ∧ (t.dom d).deadlinePassed = false) ∧
    ((s.dom d).stage = .window → s.img.stopped.contains d = false → (s.dom d).deadlinePassed = false →
      ∃ t, exec (.windowDeadline d) s = .next t ∧ (t.dom d).deadlinePassed = true ∧ (t.dom d).stage = .window ∧
      t.now = max s.now (s.deadlineAt d) ∧ t.mem = s.mem) ∧
    (∀ r, (s.dom d).stage = .hold → (s.dom d).readyAt = some r →
      ∃ u : State, exec (.inputHoldRelease d) s = .next (u.weirSnap d).pace ∧ u.now = max s.now (r + 512) ∧
      (u.dom d).readyAt = none ∧ (u.dom d).tick = (s.dom d).tick ∧ u.mem = s.mem)

/-- R62, R67, R68: on an active device PHASE_NS takes a value below the period and refuses another; GUARD_NS takes a value that
keeps the condition of R62; MODE_REQ of a domain in IDLE or WAIT_LOCK takes effect at once, and else waits for the next Weir.
SLICE_RELEASE_TIME runs the clock to the earliest release to come and changes nothing else. That an event runs the clock to its
due cycle first is the model's choice (assumption log entry 3). -/
def Obligations.WeirRegistersAreChecked : Prop :=
  ∀ (s : State) (d : Nat) (w : Word), s.domDefined d = true → s.standby = false →
    exec (.weirPhaseWrite d w) s = .next (
      if w.toNat * (s.st.domains.get d).den < (s.st.domains.get d).num * 1000000000 then s.wr (weirReg d 0x10) w
      else s.ev 0x020D (0x4100 + d) w.toNat) ∧
    exec (.guardNsWrite d w) s = .next (
      if guardFits (s.st.domains.get d).num (s.st.domains.get d).den (max 4000 w.toNat) (s.rdn (cnfReg 0x000)) s.st.pair.enabled
      then s.wr (weirReg d 0x14) w else s.ev 0x020C (0x4100 + d) w.toNat) ∧
    (∀ m, (s.dom d).mode ≠ 1 → m = 0 ∨ m = 2 →
      (s.domState d ≤ 1 → ∃ t, exec (.modeReqWrite d m) s = .next t ∧ (t.dom d).mode = m ∧ (t.dom d).modeReq = m ∧
        (t.dom d).modePending = none ∧ t.now = s.now ∧ t.mem = s.mem) ∧
      (1 < s.domState d → exec (.modeReqWrite d m) s = .next (s.setDom d { s.dom d with
        modeReq := m, modePending := if (s.dom d).mode = m then none else some m }))) ∧
    (∀ m, (s.dom d).mode = 1 ∨ (m ≠ 0 ∧ m ≠ 2) → exec (.modeReqWrite d m) s = .next (s.ev 0x020E (0x4100 + d) m)) ∧
    (∀ r e rest, (s.ring r).entries.filter (fun e => decide (0 < signed 64 (e.release + 2 ^ 64 - linear s.time.phc))) = e :: rest →
      exec (.sliceReleaseTime r) s = .next (s.cycles (s.cyclesTo e.release)))
/-- R90, R92, R94, R123: IMAGE_LOAD is checked in order and, with every check passed, begins a read; the check ends the command:
an accepted image answers OK with its sequence, a refused one BAD_PARAM or REFUSED_ADMISSION with the reason and the record,
and a host read that failed BAD_PARAM with INFO 0xFFFF. IMAGE_STATUS writes its 32 bytes and answers OK. -/
def Obligations.ImageCommandsAreCheckedAndAnswered : Prop :=
  ∀ (s : State) (o : Origin) (addr len : Nat),
    (addr < 2 ^ 64 → len < 2 ^ 32 →
      (o.fn ≠ 0 → exec (.imageLoad o addr len) s = .next (s.complete o .notOwner 0 0)) ∧
      (o.fn = 0 → s.standby = true → exec (.imageLoad o addr len) s = .next (s.complete o .standby 0 0)) ∧
      (o.fn = 0 → s.standby = false → (s.img.loading.isSome || s.isFatal) = true →
        exec (.imageLoad o addr len) s = .next (s.complete o .noResource 0 0)) ∧
      (o.fn = 0 → s.standby = false → s.img.loading = none → s.isFatal = false →
        exec (.imageLoad o addr len) s = .next { s with img := { s.img with loading := some (.command o) } })) ∧
    (∀ u : State, s.img.loading = some (.command o) → s.boot.trained = true → s.boot.flashImage ≠ 0 →
      u = { s with img := { s.img with loading := none } } →
      exec (.imageCheckDone none) s = .next (u.complete o .badParam 0xFFFF 0) ∧
      (∀ b h recs t, checkImage s.checkCtx b = .accepted h recs t →
        exec (.imageCheckDone (some b)) s = .next ((u.imageAccept h recs t b).complete o .ok 0 h.imageSeq)) ∧
      (∀ b reason record, checkImage s.checkCtx b = .refused reason record →
        ∃ t, exec (.imageCheckDone (some b)) s = .next t ∧ t.img = { u.img with reason, failRecord := record } ∧ t.st = s.st ∧
          t.mem = s.mem ∧ t = (u.imageRefuse reason record).complete o (if 0x20 ≤ reason then .refusedAdmission else .badParam)
            (if 0x20 ≤ reason then reason else 0) (reason * 2 ^ 24 + record % 2 ^ 24))) ∧
    exec (.imageStatus o addr true) s = .next ((s.hostWr o.fn addr (leBytes 8 s.imgStatus ++ leBytes 8 s.img.runningSeq ++
      leBytes 8 s.img.accSeq ++ leBytes 8 0)).complete o .ok 0 s.imgStatus) ∧
    exec (.imageStatus o addr false) s = .next (s.complete o .badParam 0xFFFF 0)

/-- R94, R96, R98, R100, R424: of two accepted flash copies the one of the higher sequence is taken, the lower copy at a tie; an
accepted copy is preferred to a refused one; and with none accepted the device has no image. The installation makes the accepted
structure the running one; a key goes into an empty slot or out of a programmed one in maintenance only, and never out of the last
usable one; FLOOR_LOCK locks the floor. -/
def Obligations.ImagesAreChosenInstalledAndKeysChange : Prop :=
  (∀ (s : State) (a b : Bytes), s.boot.trained = true → s.boot.flashImage = 0 → s.boot.stage = 3 →
     (∀ h recs t h' recs' t', s.flashCheck a = .accepted h recs t → s.flashCheck b = .accepted h' recs' t' →
       ∃ u : State, u = { s with boot := { s.boot with flashImage := if h.imageSeq < h'.imageSeq then 2 else 1 } } ∧
         exec (.flashImageSelect a b) s = .next (if h.imageSeq < h'.imageSeq then u.imageAccept h' recs' t' b else u.imageAccept h recs t a)) ∧
     (∀ h recs t r i, s.flashCheck a = .accepted h recs t → s.flashCheck b = .refused r i →
       exec (.flashImageSelect a b) s = .next (({ s with boot := { s.boot with flashImage := 1 } }.ev 0x0309 0x5100
         (2 ^ 24 + r)).imageAccept h recs t a)) ∧
     (∀ r i r' i', s.flashCheck a = .refused r i → s.flashCheck b = .refused r' i' →
       ∃ t, exec (.flashImageSelect a b) s = .next t ∧ t.boot.flashImage = 3 ∧ t.img = s.img ∧ t.st = s.st)) ∧
  (∀ (s : State) (slot : Nat), s.img.slotProgrammed.length = 4 → s.img.slotRevoked.length = 4 → slot < 4 →
     (∀ seq x, s.img.replacing = some (seq, x) → s.allStopped = true → ∃ t, exec .imageInstall s = .next t ∧
       t.img.runningSeq = seq ∧ t.img.present = true ∧ t.img.replacing = none ∧ t.img.stopped = [] ∧ t.img.slots = s.img.slots) ∧
     (s.devMaint = true → s.img.slotProgrammed.getD slot true = false → ∃ t, exec (.keyProgram slot) s = .next t ∧
       t.img.slotProgrammed.getD slot false = true ∧ t.img.slotRevoked = s.img.slotRevoked ∧
       (∀ k, k ≠ slot → t.img.slotProgrammed.getD k false = s.img.slotProgrammed.getD k false ∧
         t.img.slotKeys.get k = s.img.slotKeys.get k) ∧ t.regs = s.regs ∧ t.mem = s.mem) ∧
     (s.devMaint = true → s.img.slotProgrammed.getD slot false = true → s.img.slotRevoked.getD slot false = false →
       (∃ k < 4, k ≠ slot ∧ s.img.slotProgrammed.getD k false = true ∧ s.img.slotRevoked.getD k false = false) →
       ∃ t, exec (.keyRevoke slot) s = .next t ∧ t.img.slotRevoked.getD slot false = true ∧
         (∀ k, k ≠ slot → t.img.slotRevoked.getD k false = s.img.slotRevoked.getD k false) ∧
         t.img.slotProgrammed = s.img.slotProgrammed ∧ t.img.slotKeys = s.img.slotKeys ∧ t.mem = s.mem) ∧
     (s.devMaint = false → exec (.keyProgram slot) s = .next (s.ev 0x030B 0x5100 slot) ∧
       exec (.keyRevoke slot) s = .next (s.ev 0x030B 0x5100 (256 + slot))) ∧
     exec .floorLock s = .next { s with img := { s.img with floorLocked := true } })
/-- R119, R120, R134: an enable that obeys R119 empties and enables the queue, one that does not sets the reason; a clear of EN
disables it; a doorbell moves its pointer only where its value stands, and is reported else; the event queue likewise. -/
def Obligations.QueuesAndDoorbellsObeyTheirRules : Prop :=
  ∀ (s : State) (f q v : Nat) (w : Word), f < 64 → q < 8 →
    ((s.sqOf f q).en = false → bit w.toNat 31 = true →
      (q < s.maxSqOf f ∧ s.rdn (sqReg f q 0x00) % 4096 = 0 ∧ s.rdn (sqReg f q 0x08) % 4096 = 0 ∧ bits w.toNat 20 16 < s.msixOf f ∧
        bits w.toNat 7 0 ≠ 0 → ∃ t, exec (.queueEnable f q w) s = .next t ∧ t.sqOf f q =
          { en := true, armed := true, vector := bits w.toNat 20 16, irqEn := bit w.toNat 8, sizeM1 := bits w.toNat 7 0 } ∧ (t.func f).fresh = false ∧
          (∀ k, k ≠ q → t.sqOf f k = s.sqOf f k) ∧ t.mem = s.mem ∧ t.regs = s.regs) ∧
      (s.maxSqOf f ≤ q ∨ s.rdn (sqReg f q 0x00) % 4096 ≠ 0 → ∃ t, exec (.queueEnable f q w) s = .next t ∧
          (t.sqOf f q).en = false ∧ (t.sqOf f q).reason = 3 ∧ t.out = s.out)) ∧
    ((s.sqOf f q).en = true → bit w.toNat 31 = false → ∃ t, exec (.queueEnable f q w) s = .next t ∧
      (t.sqOf f q).en = false ∧ (t.sqOf f q).running = 0 ∧ t.out = s.out ∧ t.mem = s.mem) ∧
    exec (.sqTailDoorbell f q v true) s = .next (
      if (s.sqOf f q).en && tailOk ((s.sqOf f q).sizeM1 + 1) (s.sqOf f q).sqHead (s.sqOf f q).sqTail v then
        s.setSq f q { s.sqOf f q with sqTail := v } else s.doorbellInvalid f (0x1000 * q) v) ∧
    exec (.cqHeadDoorbell f q v true) s = .next (
      if (s.sqOf f q).en && headOk ((s.sqOf f q).sizeM1 + 1) (s.sqOf f q).cqHead (s.sqOf f q).cqTail v then
        s.setSq f q { s.sqOf f q with cqHead := v, armed := true } else s.doorbellInvalid f (0x1000 * q + 0x800) v) ∧
    exec (.sqTailDoorbell f q v false) s = .next (s.doorbellInvalid f (0x1000 * q) v) ∧
    ((s.func f).evq.en = false → bit w.toNat 31 = true → 6 ≤ bits w.toNat 4 0 → bits w.toNat 4 0 ≤ 16 →
      s.rdn (funcReg f 0x800) % 4096 = 0 → ∃ t, exec (.evqEnable f w) s = .next t ∧ (t.func f).evq.en = true ∧
        (t.func f).evq.head = 0 ∧ (t.func f).evq.tail = 0 ∧ (t.func f).evq.sizeLog2 = bits w.toNat 4 0 ∧
        (t.func f).sqs = (s.func f).sqs ∧ t.out = s.out) ∧
    ((s.func f).evq.en = true → headOk (s.func f).evq.size (s.func f).evq.head (s.func f).evq.tail w.toNat = true →
      (s.func f).evq.unsaid = 0 → ∃ t, exec (.evqHeadWrite f w) s = .next t ∧
        (t.func f).evq = { (s.func f).evq with head := w.toNat, armed := true } ∧ (t.func f).sqs = (s.func f).sqs ∧ t.out = s.out)

/-- R121, R122, R123, R128: a fetch moves the head by one entry, modulo the size; a failed read sets the queue's error and moves
nothing; an entry whose opcode is in no row answers BAD_PARAM; and a KEY_NOW entry runs as KEY_NOW with the entry's tag. -/
def Obligations.CommandFetchTakesTheHeadEntry : Prop :=
  ∀ (s : State) (f q : Nat) (b : Bytes) (buf : Option Bytes), s.mayFetch f q = true →
    (∃ t, exec (.commandFetch f q none buf) s = .next t ∧ (t.sqOf f q).error = true ∧ (t.sqOf f q).reason = 1 ∧
      (t.sqOf f q).sqHead = (s.sqOf f q).sqHead ∧ t.mem = s.mem) ∧
    (∀ (o : Origin) (x : SqPair) (u : State), u16 b 2 ≠ 0xFFFF → x = { s.sqOf f q with sqHead := o.sqHead } →
      o = { fn := f, q, tag := u16 b 2, sqHead := ((s.sqOf f q).sqHead + 1) % ((s.sqOf f q).sizeM1 + 1) } →
      u = (s.setSq f q x).setSq f q { x with running := x.running + 1 } →
      (u8 b 0 = 0x03 → exec (.commandFetch f q (some b) buf) s = .next (u.complete o .badParam 0 0)) ∧
      (u8 b 0 = 0x13 → entryClean b = true →
        exec (.commandFetch f q (some b) buf) s = exec (.keyNow o (u16 b 4)) u ∧ ∃ t, exec (.keyNow o (u16 b 4)) u = .next t) ∧
      (u8 b 0 = 0x13 → entryClean b = false → exec (.commandFetch f q (some b) buf) s = .next (u.complete o .badParam 0 0)))
/-- R126 to R130: a W command on a present course that passes its checks waits, with its origin and the cycle of its arrival,
for the next Weir of the course's domain, and changes nothing else now. -/
def Obligations.CourseCommandsWaitForTheWeir : Prop :=
  ∀ (s : State) (o : Origin) (c : Nat) (waits : Instr → WCmd → Prop),
    s.courseThere c = true → o.owns (s.st.courseOwner c) = true → s.standby = false → s.isFatal = false →
    s.idle (s.domOf c) = false →
    (waits = fun i x => exec i s = .next (s.updDom (s.domOf c) (fun y => { y with
      latched := latchInto { o, at_ := s.now, cmd := x } y.latched }))) →
    waits (.courseStart o c) (.courseStart c) ∧ waits (.courseStop o c) (.courseStop c) ∧ waits (.keyNow o c) (.keyNow c) ∧
    (∀ v, 1 ≤ v → v ≤ 255 → waits (.courseSet o c 1 v) (.courseSet c 1 v)) ∧
    (∀ v, v ≤ 65535 → waits (.courseSet o c 2 v) (.courseSet c 2 v)) ∧
    (∀ v, v ≤ 1 → waits (.courseSet o c 3 v) (.courseSet c 3 v)) ∧
    (∀ r p, s.st.courseOfRend r = c → s.rendThere r = true → s.rcSetOk r p = true → bit p.mask 3 = false →
      waits (.rcSet o r p) (.rcSet r p)) ∧
    (∀ l p, s.layerSetOk c l p = true → s.layerFits c l p = true → waits (.layerSet o c l p) (.layerSet c l p)) ∧
    (∀ l a p, s.flipOk c l a p = true → waits (.layerFlip o c l a p) (.layerFlip c l a p))

/-- R128, R133: the status is that of the first check that fails, and a refused command changes nothing but its completion. -/
def Obligations.FirstFailedCheckGivesTheStatus : Prop :=
  ∀ (s : State) (o : Origin) (c : Nat) (i : Instr), (i = .courseStart o c ∨ i = .courseStop o c ∨ i = .keyNow o c) →
    (s.courseThere c = false → exec i s = .next (s.complete o .badParam 0 0)) ∧
    (s.courseThere c = true → o.owns (s.st.courseOwner c) = false → exec i s = .next (s.complete o .notOwner 0 0)) ∧
    (s.courseThere c = true → o.owns (s.st.courseOwner c) = true → s.standby = true →
      exec i s = .next (s.complete o .standby 0 0)) ∧
    (s.courseThere c = true → o.owns (s.st.courseOwner c) = true → s.standby = false → s.isFatal = true →
      exec i s = .next (s.complete o .noResource 0 0))

/-- R126, R127, R130, R279: in a domain whose compute plane is idle the same commands have their effect at arrival: the course
starts or stops, its field, its layer or its rendition takes the value, a key cause is gathered. -/
def Obligations.CourseCommandsInAnIdleDomainApplyAtOnce : Prop :=
  ∀ (s : State) (o : Origin) (c : Nat), s.courseThere c = true → o.owns (s.st.courseOwner c) = true → s.standby = false →
    s.isFatal = false → s.idle (s.domOf c) = true →
    (s.img.stopped.contains (s.domOf c) = false → (s.courses.get c).state = .stopped →
      ∃ t, exec (.courseStart o c) s = .next t ∧ (t.courses.get c).state = .running ∧ t.mem = s.mem ∧ t.now = s.now) ∧
    (∃ t, exec (.courseStop o c) s = .next t ∧ (t.courses.get c).state = .stopped ∧ t.mem = s.mem ∧ t.now = s.now ∧ t.st = s.st) ∧
    (∀ v, 1 ≤ v → v ≤ 255 → ∃ t, exec (.courseSet o c 1 v) s = .next t ∧
      t.st = { s.st with courses := s.st.courses.set c { s.st.courses.get c with freezeLimit := v } } ∧ t.mem = s.mem) ∧
    (∀ v, v ≤ 65535 → ∃ t, exec (.courseSet o c 2 v) s = .next t ∧
      t.st = { s.st with courses := s.st.courses.set c { s.st.courses.get c with keyInterval := v } } ∧ t.mem = s.mem) ∧
    (∃ t, exec (.keyNow o c) s = .next t ∧ t.keys.get c = (s.keys.get c).add 2 ∧ t.mem = s.mem ∧ t.st = s.st) ∧
    (∀ r p, s.st.courseOfRend r = c → s.rendThere r = true → s.rcSetOk r p = true → p.mask = 1 →
      ∃ t, exec (.rcSet o r p) s = .next t ∧ (t.rends.get r).cq = p.cq ∧ (t.rends.get r).effort = (s.rends.get r).effort ∧
      (t.rends.get r).rate = (s.rends.get r).rate ∧ t.mem = s.mem ∧ t.st = s.st) ∧
    (∀ l p, s.layerSetOk c l p = true → s.layerFits c l p = true → p.mask = 4 → ∃ t, exec (.layerSet o c l p) s = .next t ∧
      t.layer c l = { s.layer c l with alpha := p.alpha } ∧ t.mem = s.mem ∧ t.st = s.st) ∧
    (∀ l a p, s.flipOk c l a p = true → ∃ t, exec (.layerFlip o c l a p) s = .next t ∧
      t.layer c l = { s.layer c l with surface := a, pitch := p } ∧ t.mem = s.mem ∧ t.st = s.st)

/-- R126, R127, R314, R315, R150: a P command that passes its checks waits for its packet boundary, and changes nothing else now;
a record that cannot be read from host memory answers BAD_PARAM with INFO 0xFFFF. At its boundary a P command whose object is there
changes the structure as it says and completes; one whose object is gone answers BAD_PARAM. In both cases it waits no longer. -/
def Obligations.PacketCommandsWaitAndActAtTheirBoundary : Prop :=
  (∀ (s : State) (o : Origin) (n k : Nat) (b : Bytes) (waits : Instr → PCmd → Prop),
     o.fn = 0 → s.standby = false → s.isFatal = false → s.early = false → s.waiting = [] →
     (waits = fun i x => exec i s = .next { s with waiting := [{ o, cmd := x }] }) →
     (s.st.subs.has n = true → waits (.subDel o n) (.subDel n) ∧ (∀ p : SubSet, p.ok = true → waits (.subSet o n p) (.subSet n p))) ∧
     (s.st.services.has n = true → s.st.subs.vals.any (fun u => u.service == n) = false →
       waits (.serviceSetRemove o n) (.serviceRemove n)) ∧
     (s.st.inflows.has n = true → s.st.inputs.vals.any (fun i => i.source == 0 && i.sourceIndex == n) = false →
       waits (.inflowDel o n) (.inflowDel n)) ∧
     (∀ r a, hostRecord 0x0210 b = some (.service a r) → r.service = n → k ≤ 1 → s.recOk (.service 0 r) = true →
       s.st.services.has n = false → s.st.below r.owner (s.st.services.vals.filter (fun v => v.owner == r.owner)).length (·.maxServices)
         = true → waits (.serviceSetAdd o n k (some b)) (.serviceAdd r k)) ∧
     (∀ r a, hostRecord 0x0210 b = some (.service a r) → r.service = n → k ≤ 1 → s.st.services.has n = true →
       r.owner = (s.st.services.get n).owner → r.port = (s.st.services.get n).port →
       waits (.serviceSetReplace o n k (some b)) (.serviceReplace r k)) ∧
     (∀ r a, hostRecord 0x0200 b = some (.inflow a r) → s.recOk (.inflow 0 r) = true → s.st.inflows.has r.inflow = false →
       s.st.inflows.vals.any (fun f => f.inflow != r.inflow && f.key == r.key) = false →
       s.st.below r.owner (s.st.inflows.vals.filter (fun f => f.owner == r.owner)).length (·.maxInflows) = true →
       waits (.inflowAdd o (some b)) (.inflowAdd r)) ∧
     (∀ r a, hostRecord 0x0220 b = some (.sub a r) → s.recOk (.sub 0 r) = true → s.st.subs.has r.subscriber = false →
       s.st.below (s.st.services.get r.service).owner (s.st.subs.vals.filter (fun u => (s.st.services.get u.service).owner ==
         (s.st.services.get r.service).owner)).length (·.maxSubscribers) = true →
       (s.st.applyP (.subAdd r)).cirFits s.outf.ports r = true → waits (.subAdd o (some b)) (.subAdd r)) ∧
     (∀ i : Instr, (i = .subAdd o none ∨ i = .serviceSetAdd o n k none ∨ i = .serviceSetReplace o n k none ∨ i = .inflowAdd o none) →
       exec i s = .next (s.complete o .badParam 0xFFFF 0))) ∧
  (∀ (s : State) (x : Waiting) (rest : List Waiting), s.waiting = x :: rest → x.o.fn < 64 →
     (s.pThere x.cmd = true →
       (∃ t, exec (.pCommandApply 0) s = .next t ∧ t.waiting = rest ∧ t.mem = s.mem) ∧
       ((∀ r, x.cmd ≠ .subAdd r) → (∀ r, x.cmd ≠ .subPut r) → (∀ n p, x.cmd ≠ .subSet n p) →
         ∃ t, exec (.pCommandApply 0) s = .next t ∧ t.waiting = rest ∧ t.st = s.st.applyP x.cmd ∧ t.mem = s.mem)) ∧
     (∀ n p, s.pThere x.cmd = false → x.cmd = .subDel n ∨ x.cmd = .subSet n p → s.img.partials = [] →
       ∃ t, exec (.pCommandApply 0) s = .next t ∧ t.waiting = rest ∧ t.st = s.st ∧ t.mem = s.mem))

/-- R140, R142, R347, R405: UNIT_RESET of a unit that takes it stops the unit at once and records the reset; it completes OK with
the cycles it took; UNIT_RETIRE retires a unit that serves no domain on arrival, for good. Both are PF0's alone. That an event
runs the clock to its due cycle first is the model's choice (assumption log entry 3). -/
def Obligations.UnitsResetAndRetire : Prop :=
  ∀ (s : State) (o : Origin) (src cycles : Nat), s.early = false →
    (o.fn = 0 → s.resettable src = true → ∃ t, exec (.unitReset o src) s = .next t ∧
      t.resets = s.resets ++ [{ o, src, at_ := s.now }] ∧ t.now = s.now ∧ t.retired = s.retired ∧ t.st = s.st) ∧
    (o.fn ≠ 0 → (s.resettable src = true → exec (.unitReset o src) s = .next (s.complete o .notOwner 0 0)) ∧
      (retirable src = true → exec (.unitRetire o src) s = .next (s.complete o .notOwner 0 0))) ∧
    (∀ x, s.resets.find? (fun x => x.src == src) = some x → cycles ≤ 4096 + s.rdn (cnfReg 0x000) →
      ∃ u : State, u = { s.runTo (x.at_ + cycles) with resets := s.resets.erase x } ∧
        exec (.unitResetDone src cycles) s = .next ((u.complete x.o .ok 0 cycles).ev 0x0B07 src cycles)) ∧
    (o.fn = 0 → retirable src = true → s.alive src = true → s.unitDomain src = none → ∃ t, exec (.unitRetire o src) s = .next t ∧
      src ∈ t.retired ∧ (∀ k ∈ s.retired, k ∈ t.retired) ∧ t.now = s.now ∧ t.mem = s.mem ∧ t.st = s.st)
/-- R127, R141, R384, R386, R398, R418: the commands that are carried out at once answer OK. PAIR_CTL answers GUAVO.STATUS, holds
or releases, yields, or marks a rendition unsynced; TEST_CTL enters and leaves maintenance and arms an injection in it; STATS_READ
writes the block of an object that exists, cut at the length asked for. -/
def Obligations.ImmediateCommandsAnswerAtOnce : Prop :=
  ∀ (s : State) (o : Origin) (n : Nat), o.fn = 0 → s.early = false →
    exec (.pairCtlStatus o 0) s = .next (s.complete o .ok 0 s.guavoStatus) ∧
    (n < 2 → s.paired = true → ∃ u : State, exec (.pairCtlHold o n) s = .next (u.complete o .ok 0 u.guavoStatus) ∧
      u.pair.hold = decide (n = 1) ∧ u.pair.role = s.pair.role ∧ u.now = s.now ∧ u.mem = s.mem ∧ u.regs = s.regs) ∧
    (s.paired = true → s.pair.role = 3 → s.pair.peerAlive = true → s.pair.peerHold = false → ∃ t,
      exec (.pairCtlYield o 0) s = .next t ∧ t.pair.hold = true ∧ t.pair.role = 4 ∧ t.outf.gate = false ∧
      t.pair.yieldBy = some (o, s.now) ∧ t.mem = s.mem) ∧
    (s.st.rends.has n = true → s.standby = true → ∃ u : State, exec (.pairCtlHeal o n) s = .next (u.complete o .ok 0 0) ∧
      (u.rends.get n).unsynced = true ∧ (∀ r, r ≠ n → u.rends.get r = s.rends.get r) ∧ u.mem = s.mem) ∧
    (n < 64 ∨ n = 0xFFFF → ∃ u : State, exec (.testCtlEnterMaint o n 1) s = .next (u.complete o .ok 0 0) ∧
      u.devMaint = true ∧ u.devMaintCmd = true ∧ u.mem = s.mem) ∧
    (n < 64 → ∃ u : State, exec (.testCtlLeaveMaint o n 1) s = .next (u.complete o .ok 0 0) ∧
      u.devMaint = !s.img.everAccepted ∧ u.devMaintCmd = false ∧ u.mem = s.mem) ∧
    (∀ src addr arg, s.devMaint = true → isUnit src = true → exec (.testCtlInject o 1 src 1 addr arg) s =
      .next ({ s with ras := { s.ras with inj := s.ras.inj ++ [Injection.mk src 1 addr arg] } }.complete o .ok 0 0)) ∧
    (∀ src addr arg, s.devMaint = false → isUnit src = true → exec (.testCtlInject o 1 src 1 addr arg) s =
      .next (s.complete o .notMaintenance 0 0)) ∧
    (∀ scope addr len, s.statsThere scope n = true → s.statsOpen o scope n = true →
      (∃ u : State, exec (.statsRead o scope n addr len true) s = .next ((u.hostWr o.fn addr ((s.statsBlock scope n).1.take len)).complete o
        .ok 0 ((s.statsBlock scope n).1.take len).length) ∧ u = { s with free := u.free } ∧ s.free ≤ u.free) ∧
      (scope = 3 → (s.statsBlock scope n).1 = s.regBlock (outSub n 0) 128) ∧
      (scope = 4 → (s.statsBlock scope n).1 = s.regBlock (outSvc n 0) 64) ∧
      (scope = 6 → (s.statsBlock scope n).1 = s.regBlock (outPort n 0) 256) ∧
      exec (.statsRead o scope n addr len false) s = .next (s.complete o .badParam 0xFFFF 0))

/-- R113, R140: a function-level reset disables the function's queues and event queue and keeps the structure and the clock; a
change of VF Enable takes the number, at most 63; the link comes up and goes down; D3hot holds and D0 releases a function. -/
def Obligations.FunctionsResetAndTheLinkMoves : Prop :=
  ∀ (s : State) (f n rate width : Nat),
    (f < 64 → ∃ t, exec (.functionLevelReset f) s = .next t ∧ (∀ q < 8, (t.sqOf f q).en = false) ∧ (t.func f).evq.en = false ∧
      t.st = s.st ∧ t.now = s.now ∧ t.retired = s.retired) ∧
    (∃ t, exec (.vfEnableChanged n) s = .next t ∧ t.pcie = { s.pcie with numVfs := min n 63 } ∧ t.st = s.st ∧ t.now = s.now) ∧
    (s.pcie.up = false → s.boot.perst = false → exec (.linkUp rate width) s = .next ({ s with
      pcie := { s.pcie with up := true, lost := false, rate, width } }.ev 0x0B08 0x5000 (rate % 256 * 256 + width % 256))) ∧
    (s.pcie.up = true → exec (.linkDown n) s = .next ({ s with pcie := { s.pcie with up := false, lost := true } }.ev 0x0B09 0x5000 n)) ∧
    (f < 64 → (∃ t, exec (.functionPowerState f true) s = .next t ∧ t.func f = { s.func f with d3hot := true } ∧
        (∀ g, g ≠ f → t.func g = s.func g) ∧ t.out = s.out) ∧
      ((s.func f).d3hot = true → (s.func f).heldEvents = [] → (s.func f).heldDone = [] → ∃ t, exec (.functionPowerState f false) s = .next t ∧
        t.func f = { s.func f with d3hot := false } ∧ t.out = s.out))

/-- R115, R117, R145: a register access of 32 bits acts on the register that the map gives, and an access to nothing is a decode
error of the PCIe port, whose read answers zero; SMBus reads the few registers that it may, once the firmware runs. -/
def Obligations.RegisterAccessesReachTheirRegister : Prop :=
  ∀ (s : State) (f off len a : Nat) (w : Word),
    (s.bar0At f off = .reg a → exec (.registerWrite f 0 off 4 w) s = .next (s.writeReg f a w) ∧
      exec (.registerRead f 0 off 4) s = .next ((s.readReg a).2.answer (s.readReg a).1)) ∧
    ((len = 4 → s.bar0At f off = .unmapped) →
      exec (.registerWrite f 0 off len w) s = .next (s.decodeError 20 (some f) true (barAddr f 0 off)) ∧
      exec (.registerRead f 0 off len) s = .next ((s.decodeError 20 (some f) false (barAddr f 0 off)).answer 0)) ∧
    (s.boot.inReset = false → s.boot.stage ≠ 0 → s.boot.stage ≠ 15 → smbusOffsets.contains off = true →
      exec (.smbusCommand off) s = .next (s.emit (.smbus (some (BitVec.ofNat 32 (s.view off)))))) ∧
    (s.boot.inReset = true → exec (.smbusCommand off) s = .next (s.emit (.smbus none))) ∧
    (∀ q < 8, f < 64 → exec (.registerWrite f 2 (0x1000 * q) 4 w) s = exec (.sqTailDoorbell f q w.toNat true) s ∧
      exec (.registerWrite f 2 (0x1000 * q + 0x800) 4 w) s = exec (.cqHeadDoorbell f q w.toNat true) s ∧
      ∃ t, exec (.registerWrite f 2 (0x1000 * q) 4 w) s = .next t)
/-- R144 to R146: a port that is down takes no frame; the filters drop a frame in their order and count it; a port comes up when
all of its lanes are UP and goes down; the second loss of a leg's frames is told once. That an event runs the clock to its due
cycle first is the model's choice (assumption log entry 3). -/
def Obligations.PortsFilterFramesAndMove : Prop :=
  ∀ (s : State) (n i : Nat) (x : RxFrame) (desc : Bytes),
    (s.portLive n = false → exec (.frameReceived n x desc) s = .next s) ∧
    (s.portLive n = true → ∀ u : State, u = (s.inc (inlPort n 0x2C) x.fecCorr).inc (inlPort n 0x30) x.fecUncorr →
      (x.bytes.length < 60 ∨ 9212 < x.bytes.length → exec (.frameReceived n x desc) s = .next (u.inc (inlPort n 0x1C) 1)) ∧
      (60 ≤ x.bytes.length → x.bytes.length ≤ 9212 →
        (x.fcsOk = false → exec (.frameReceived n x desc) s = .next (u.inc (inlPort n 0x18) 1)) ∧
        (x.fcsOk = true → (readFrame x.bytes).pause = true → exec (.frameReceived n x desc) s = .next (u.inc (inlPort n 0x20) 1)) ∧
        (x.fcsOk = true → (readFrame x.bytes).pause = false → (readFrame x.bytes).tags < 2 →
          bit (readFrame x.bytes).dstMac 40 = true → (readFrame x.bytes).badSum = true →
          exec (.frameReceived n x desc) s = .next (u.inc64 (inlPort n 0x10) 1).pace))) ∧
    (s.st.portFormed n = true → s.inl.up.contains n = false → (s.st.portLanes n).all (fun l => (s.lanes.get l).state == 3) = true →
      ∃ t, exec (.portUp n) s = .next t ∧ t.inl.up = n :: s.inl.up ∧ t.mem = s.mem ∧ t.st = s.st) ∧
    (s.inl.up.contains n = true → ∃ t, exec (.portDown n) s = .next t ∧ t.inl.up = s.inl.up.filter (· != n) ∧ t.mem = s.mem) ∧
    (s.st.inflows.has i = true → (s.st.inflows.get i).mergePeer ≠ 65535 → (s.inl.flows.get i).wasDown = false →
      ∃ t, exec (.mergeLegTimeout i) s = .next t ∧ (t.inl.flows.get i).legUp = false ∧ (t.inl.flows.get i).wasDown = true ∧
      t.now = max s.now ((s.inl.flows.get i).lastFrame + 150000000) ∧ t.mem = s.mem)

/-- R119, R120, R151, R163: the exception rings take their configuration and their doorbells; a descriptor that breaks the rules
of R163 is completed and reported, one that obeys them is sent no earlier than its port allows and completed; and the second
membership report leaves the port of its flow. That an event runs the clock to its due cycle first is the model's choice
(assumption log entry 3). -/
def Obligations.ExceptionRingsSendAndReceive : Prop :=
  ∀ (s : State) (f v i : Nat) (w : Word) (desc frame : Bytes),
    exec (.excRingEnable f true w) s = .next (s.updInl (fun n => { n with
      tx := n.tx.upd f (fun r => r.config (s.rd64 (funcReg f 0x410)) w.toNat) })) ∧
    exec (.excRingEnable f false w) s = .next (s.updInl (fun n => { n with
      rx := n.rx.upd f (fun r => r.config (s.rd64 (funcReg f 0x400)) w.toNat) })) ∧
    ((s.inl.rx.get f).en = true → tailOk (s.inl.rx.get f).size (s.inl.rx.get f).head (s.inl.rx.get f).tail v = true →
      exec (.excRxTailDoorbell f v) s = .next (s.updInl (fun n => { n with rx := n.rx.set f ((s.inl.rx.get f).post v) }))) ∧
    ((s.inl.tx.get f).en = true → tailOk (s.inl.tx.get f).size (s.inl.tx.get f).head (s.inl.tx.get f).tail v = true →
      exec (.excTxTailDoorbell f v) s = .next (s.updInl (fun n => { n with tx := n.tx.set f ((s.inl.tx.get f).post v) }))) ∧
    ((s.inl.tx.get f).en = false ∧ (s.inl.rx.get f).en = false →
      exec (.excTxTailDoorbell f v) s = .next (s.doorbellInvalid f 0xE800 v) ∧
      exec (.excRxTailDoorbell f v) s = .next (s.doorbellInvalid f 0xE000 v)) ∧
    ((s.inl.tx.get f).en = true → (s.inl.tx.get f).head ≠ (s.inl.tx.get f).tail →
      (s.excTxOk f desc = false → ∃ t, exec (.excTxSend f desc frame) s = .next t ∧ t.now = s.now ∧ t.mem = s.mem ∧
        (t.inl.tx.get f).head = ((s.inl.tx.get f).head + 1) % (s.inl.tx.get f).size) ∧
      (s.excTxOk f desc = true → ∃ t, exec (.excTxSend f desc frame) s = .next t ∧ t.mem = s.mem ∧ t.st = s.st ∧
        t.now = max s.now (max (s.inl.txFree.get (u8 desc 10)) (s.outf.ports.get (u8 desc 10)).free) ∧
        (t.inl.tx.get f).head = ((s.inl.tx.get f).head + 1) % (s.inl.tx.get f).size)) ∧
    (∀ due, s.inl.reports.find i = some due → s.fwMembership = true → ∃ t, exec (.membershipReportTimer i) s = .next t ∧
      t.inl.reports = s.inl.reports.del i ∧ t.now = max s.now due ∧ t.mem = s.mem ∧
      t.out = s.out ++ [.frame (s.st.inflows.get i).port (.membership false (s.st.inflows.get i).vlan (s.st.inflows.get i).dstIp
        (s.st.inflows.get i).srcIp)])
/-- R17, R243: a consumer stage starts its next band once the bands it needs are marked: the Mere at 4 pixels a cycle, a Cascade
likewise after its present band, a Headwater unit for the share whose turn it is, a Tarn for its next segment. That an event runs
the clock to its due cycle first is the model's choice (assumption log entry 3). -/
def Obligations.BandReadsStartWhenTheirBandsAreMarked : Prop :=
  ∀ (s : State) (c k : Nat) (x : CourseRec), x = s.st.courses.get c →
    (∀ r, r = s.stage (.mere c) → r.active = true → r.reading = false → r.next < bandsOf x.height x.bandHeight →
      (s.mereNeeds c r.next).all (fun n => (s.buf (inputBuf c n.1)).ready n.2.1 n.2.2) = true → ¬ 0x1300 + x.mere ∈ s.retired →
      exec (.bandReadStart (.mere c)) s = .next (s.setStage (.mere c) 
        { r with reading := true, free := s.now + bandCycles4 x.width x.height x.bandHeight r.next, used := r.used +
          bandCycles4 x.width x.height x.bandHeight r.next })) ∧
    (∀ r g rest src, r = s.stage (.cascade c k) → s.st.cascadeRungs c k = g :: rest → src = s.st.rungs.get (64 * c + g.source) →
      r.active = true → r.next < bandsOf src.height x.bandHeight →
      (s.buf (rungBuf c g.source)).ready (s.buf (rungBuf c g.source)).curSlot.pic [r.next] = true → ¬ 0x1400 + k ∈ s.retired →
      exec (.bandReadStart (.cascade c k)) s = .next ((s.runTo r.free).setStage (.cascade c k) 
        { r with next := r.next + 1, free := max s.now r.free + bandCycles4 src.width src.height x.bandHeight r.next, used := r.used +
          bandCycles4 src.width src.height x.bandHeight r.next })) ∧
    (∀ h rest, (s.st.hws.vals.filter (fun y => y.unit == k)).filter (fun y => s.hwReady y.course k) = h :: rest → h.course = c →
      h.firstBand = (s.st.hws.get (8 * c + k)).firstBand →
      (s.st.hws.vals.filter (fun y => y.unit == k)).any (fun y => (s.stage (.headwater y.course k)).reading) = false →
      ¬ 0x1100 + k ∈ s.retired → ∃ t, exec (.bandReadStart (.headwater c k)) s = .next t ∧
        (t.stage (.headwater c k)).reading = true ∧ (t.stage (.headwater c k)).next = (s.stage (.headwater c k)).next ∧
        t.now = s.now ∧ t.mem = s.mem) ∧
    (∀ r g n, n = ((s.coding r).seg g).seg.tarn → (s.tarn n).held = false → ¬ 0x1000 + n ∈ s.retired →
      (s.tarn n).items.isEmpty = true → s.nextItem n = some (r, g) →
      s.timeFails r ((s.coding r).seg g) (s.bandCycles r (s.coding r) ((s.coding r).seg g) ((s.coding r).seg g).begun) = false →
      ∃ t, exec (.bandReadStart (.tarn r g)) s = .next t ∧ (t.tarn n).since = s.now ∧
        (t.tarn n).items = [{ seg := segKey r g, left := ((s.coding r).seg g).cols }] ∧ t.now = s.now ∧ t.mem = s.mem)

/-- R15, R16, R17, R178, R181, R184, R192, R209, R220, R221, R226: with no injection armed, a band in progress ends no earlier than
its cycles allow; its samples, as the stage computes them from what it reads, or its records stand in the slot, its mark is WRITTEN,
and the stage goes on to the next band. That an event runs the clock to its due cycle first is the model's choice (assumption log
entry 3); the samples that a Fount decodes are an operand (entry 10). -/
def Obligations.BandsEndAndAreMarkedWritten : Prop :=
  ∀ (s : State) (c k : Nat), s.ras.inj = [] →
    (∀ r bad, r = s.stage (.mere c) → r.active = true → r.reading = true → ∃ t, exec (.mereBandDone c bad) s = .next t ∧
      (t.stage (.mere c)).next = r.next + 1 ∧ (t.stage (.mere c)).reading = false ∧ t.now = max s.now r.free ∧
      t.buf (progBuf c) = ((s.buf (progBuf c)).setPix r.next (s.composeBand c r.next bad)).setMark r.next .written
        (s.mereLocal c r.next) ∧ t.mem = s.mem) ∧
    (∀ q r band rest, q = s.st.rungs.get (64 * c + k) → r = s.stage (.cascade c q.cascade) → r.active = true → k ≠ 1 →
      (s.buf (rungBuf c k)).curSlot.unfinished = band :: rest → maxOf (s.casNeeds c q band) < r.next →
      ∃ t l, exec (.cascadeBandDone c k) s = .next t ∧
        t.buf (rungBuf c k) = ((s.buf (rungBuf c k)).setPix band (s.scaleBand c q band)).setMark band .written l ∧
        t.stages = s.stages ∧ t.mem = s.mem) ∧
    (∀ r band, r = s.stage (.headwater c k) → band = (s.st.hws.get (8 * c + k)).firstBand + r.next → r.active = true →
      r.reading = true → ∃ t l, exec (.hwBandDone c k) s = .next t ∧
      (t.stage (.headwater c k)).next = r.next + 1 ∧ (t.stage (.headwater c k)).reading = false ∧ t.now = max s.now r.free ∧
      t.buf (mapBuf c) = (s.buf (mapBuf c)).setMark band .written l ∧
      (t.head c).cur.bands.get band = bandOf ((s.hwBlocks c band).1.map (fun m =>
        m.record ((s.head c).cur.dist.map (fun _ => true)) (s.effFld (hwaReg c 0) 15 0))) ∧ t.mem = s.mem) ∧
    (∀ i x a d b, i = s.st.inputs.get (4 * c + k) → x = s.streams.get (4 * c + k) → i.course = c → i.input = k → x.au = some a →
      b = ((s.buf (inputBuf c k)).slotOf x.cur.pic).getD {} → x.band + 1 < b.marks.length → b.mark x.band = .empty →
      ∃ t, exec (.fountBandDone c k d) s = .next t ∧
        (((t.buf (inputBuf c k)).slotOf x.cur.pic).getD {}).pix.get x.band = s.fountPix i a x.band d ∧ (t.streams.get (4 * c + k)).band = x.band + 1 ∧
        (t.streams.get (4 * c + k)).blocks = x.blocks + d.blocks ∧ t.now = max s.now (max (s.founts.get i.sourceIndex).busy
          (s.dom (s.domOf c)).openAt + bandCycles i x.band d.bits) ∧ t.mem = s.mem)

/-- R208: the coefficients of every phase span 8 × ceil(r) taps and sum to 1,024, so that a flat component scales to the same flat
value, at every ratio and on every line (how the taps are rounded before their sum is made up is assumption log entry 103). -/
def Obligations.ScalersKeepFlatFields : Prop :=
  (∀ src dst ph : Nat, (taps src dst ph).length = 8 * max 1 (ceilDiv src dst) ∧ (taps src dst ph).sum = 1024) ∧
  (∀ (sw sh dw dh y v : Nat) (line : Nat → List Nat), 0 < sw → 0 < sh → v ≤ 65535 →
    (∀ n < sh, line n = List.replicate sw v) → scaledLine sw sh dw dh y line = List.replicate dw v)

/-- R191, R196, R213: where the verified store that is shown is opaque, no sample of the protected area, luma or chroma, depends on
any layer, table, surface or other part of the machine: two machines that agree on the course, the PROTECT record and the
protected layer compose the same samples there. -/
def Obligations.TheProtectedAreaTakesNothingFromOutside : Prop :=
  ∀ (s t : State) (c : Nat) (bad bad' : List Nat) (r : ProtectRec) (x : CourseRec) (v : Bytes) (k i j : Nat),
    s.st.protects.has c = true → t.st.protects.has c = true → r = s.st.protects.get c → r = t.st.protects.get c →
    x = s.st.courses.get c → x = t.st.courses.get c → s.prot c = t.prot c → (s.prot c).verified = some v → (s.prot c).shown = true →
    (∀ n < r.w * r.h, bits (u32 v (4 * n)) 31 30 = 3) →
    r.x % 2 = 0 → r.y % 2 = 0 → r.w % 2 = 0 → r.h % 2 = 0 → r.x + r.w ≤ x.width → r.y + r.h ≤ x.height →
    x.width % 2 = 0 → x.height % 2 = 0 → x.bandHeight = 64 ∨ x.bandHeight = 128 → k < 3 →
    compW x.sampling r.x k ≤ i → i < compW x.sampling (r.x + r.w) k → compH x.sampling r.y k ≤ j → j < compH x.sampling (r.y + r.h) k →
    ((s.composeBand c (j / compH x.sampling x.bandHeight k) bad).comp k).at i (j % compH x.sampling x.bandHeight k) =
      ((t.composeBand c (j / compH x.sampling x.bandHeight k) bad').comp k).at i (j % compH x.sampling x.bandHeight k)

/-- R168, R171, R188: on an active device FT_INk_CTRL is staged or refused; a host stream's write pointer moves only where it is
bound to the host; 500 ms without a record lose the stream. That an event runs the clock to its due cycle first is the model's
choice (assumption log entry 3). -/
def Obligations.FountStreamsAreBoundFedAndLost : Prop :=
  ∀ (s : State) (f c k : Nat) (w : Word), s.standby = false →
    (s.bindRefused f c k (bits w.toNat 31 30) (bits w.toNat 9 0) = false →
      exec (.ftBindWrite f c k w) s = .next (s.wrn (ftIn c k 0) (bits w.toNat 31 30 * 2 ^ 30 + bits w.toNat 9 0))) ∧
    (s.bindRefused f c k (bits w.toNat 31 30) (bits w.toNat 9 0) = true → ∃ t, exec (.ftBindWrite f c k w) s = .next t ∧
      t.regs = s.regs ∧ t.streams = s.streams ∧ t.mem = s.mem) ∧
    ((s.streams.get (4 * c + k)).bindKind = 2 → exec (.ftWptrWrite c k w) s = .next { s with
      streams := s.streams.set (4 * c + k) { s.streams.get (4 * c + k) with wptr := w.toNat, lastRec := s.now } }) ∧
    ((s.streams.get (4 * c + k)).bindKind ≠ 2 → exec (.ftWptrWrite c k w) s = .next s) ∧
    (∀ i x, i = s.st.inputs.get (4 * c + k) → x = s.streams.get (4 * c + k) → i.course = c → i.input = k → x.bindKind ≠ 0 →
      x.state ≠ 0 → x.state ≠ 5 → ∃ t, exec (.ftStreamLossTimeout c k) s = .next t ∧ (t.streams.get (4 * c + k)).state = 5 ∧
      (t.streams.get (4 * c + k)).au = none ∧ t.now = max s.now (x.lastRec + 750000000) ∧ t.mem = s.mem)

/-- R200, R201, R212, R215: LOAD starts the fetch of a table at an aligned address, and the fetch leaves the 24,576 bytes in the
shadow table; a host input takes the slot posted to it; a protected area is checked against its expected value; only the owning
function writes its protection registers. -/
def Obligations.TablesHostInputsAndProtectedAreas : Prop :=
  ∀ (s : State) (c l k : Nat) (w : Word),
    (bit w.toNat 0 = true → s.lutAddr c l % 64 = 0 → exec (.lutLoad c l w) s = .next (s.setLut c l 
      { s.lut c l with fetching := some (s.lutAddr c l), shadow := none, ready := false })) ∧
    (∀ a, (s.lut c l).fetching = some a → s.allowed none false a 24576 = true → exec (.lutFetchDone c l) s = .next (s.setLut c l
      { s.lut c l with fetching := none, shadow := some (Mem.bytes s.mem a 24576) })) ∧
    (bit w.toNat 31 = true → s.st.inputs.has (4 * c + k) = true → (s.st.inputs.get (4 * c + k)).source = 2 →
      (s.hostIns.get (4 * c + k)).next = some (w.toNat % 8) → ∃ t, exec (.hinPost c k w) s = .next t ∧
      (t.buf (inputBuf c k)).cur = w.toNat % 8 ∧ (t.buf (inputBuf c k)).pics = (s.buf (inputBuf c k)).pics + 1 ∧
      (∀ n, w.toNat % 8 < (s.buf (inputBuf c k)).slots.length → n < bandsOf (s.st.inputs.get (4 * c + k)).height 64 →
        (t.buf (inputBuf c k)).curSlot.mark n = .written ∧
        (t.buf (inputBuf c k)).curSlot.pix.find n = some (s.hostBand (s.st.inputs.get (4 * c + k)) (w.toNat % 8) n)) ∧
      t.mem = s.mem ∧ t.now = s.now) ∧
    (s.st.protects.has c = true → (s.stage (.mere c)).active = true → (s.prot c).hold = false → (s.prot c).outcome = none →
      ∃ t v, exec (.protCheckDone c) s = .next t ∧ v = crc32.of (s.protSurface (s.st.protects.get c)) ∧
      (t.prot c).lastCheck = v ∧ (t.prot c).outcome = some (v == (s.prot c).expect) ∧ t.mem = s.mem ∧ t.now = s.now) ∧
    (∀ f n, s.standby = false → s.st.protects.has c = true → (s.st.protects.get c).owner = n →
      (f = n → exec (.protRegWrite f n c 0 w) s = .next (s.wr (protReg n c 0) w) ∧
        exec (.protRegWrite f n c 4 w) s = .next (s.wrn (protReg n c 4) (w.toNat % 4))) ∧
      (f ≠ n → ∃ t, exec (.protRegWrite f n c 0 w) s = .next t ∧ t.regs = s.regs ∧ t.prots = s.prots ∧ t.mem = s.mem))
/-- R249, R257, R258, R408: with no injection armed, a CTU leaves the front item of its Tarn, or the segment's rows are spilled
and its items taken away; the first residue mismatch of a CTU runs it again, the second and the watchdog retire the Tarn. -/
def Obligations.TarnsCodeRetryAndRetire : Prop :=
  ∀ (s : State) (n : Nat), s.ras.inj = [] → ¬ 0x1000 + n ∈ s.retired →
    (∀ r g bits blocks i l, n = ((s.coding r).seg g).seg.tarn → (s.tarn n).items = i :: l → i.seg = segKey r g →
      ∃ t, exec (.ctuCommit r g bits blocks) s = .next t ∧ t.now = s.now ∧ t.mem = s.mem ∧ (t.tarn n).since = s.now ∧
        ((t.tarn n).items = (if i.left ≤ 1 then l else { i with left := i.left - 1 } :: l) ∨
          (t.tarn n).items = l.filter (fun j => j.seg != segKey r g))) ∧
    (∀ stage k key ctu, s.inFlight n k = some (key, ctu) → (s.tarn n).again ≠ some (key, ctu) →
      ∃ t, exec (.residueMismatch n stage k) s = .next t ∧ (t.tarn n).again = some (key, ctu) ∧
        (t.tarn n).items = (s.tarn n).items ∧ t.retired = s.retired ∧ t.now = s.now ∧ t.mem = s.mem) ∧
    (∀ stage k key ctu, s.inFlight n k = some (key, ctu) → (s.tarn n).again = some (key, ctu) →
      ∃ t, exec (.residueMismatch n stage k) s = .next t ∧ 0x1000 + n ∈ t.retired ∧ (t.tarn n).items = [] ∧ t.mem = s.mem) ∧
    ((s.tarn n).items ≠ [] → ∃ t, exec (.tarnWatchdog n) s = .next t ∧ 0x1000 + n ∈ t.retired ∧ (t.tarn n).items = [] ∧
      (t.tarn n).retiredAt = some s.now ∧ t.now = s.now ∧ t.mem = s.mem)

/-- R252: a fetch fault is counted, marks its picture LOCAL and is told once in a picture; a reference or map fault spills
nothing. A Spillway unit takes its cycles for a CTU and goes on to the next. That an event runs the clock to its due cycle first
is the model's choice (assumption log entry 3). -/
def Obligations.FetchFaultsAndSpillwayUnits : Prop :=
  ∀ (s : State) (r g k : Nat), s.ras.inj = [] →
    (∀ p ctu kind, (s.rend r).cur = some p → p.segs.has g = true → kind ≠ 0 → ∃ t, exec (.fetchFault r g ctu kind) s = .next t ∧
      (t.rend r).cur = some { p with isLocal := true, faultTold := true } ∧ t.tarns = s.tarns ∧ t.spills = s.spills ∧
      t.now = s.now ∧ t.mem = s.mem) ∧
    (∀ p ctu, (s.rend r).cur = some p → p.segs.has g = true → ∃ t, exec (.fetchFault r g ctu 0) s = .next t ∧
      (t.coding r).isLocal = true ∧ t.now = s.now ∧ t.mem = s.mem ∧ t.st = s.st) ∧
    (∀ j rest bits blocks, (s.spw k).queue = j :: rest → ∃ t, exec (.spillCtuDone k bits blocks) s = .next t ∧
      t.now = max s.now (max (s.spw k).free j.at_ + j.cycles) ∧ (t.spw k).free = t.now ∧
      (t.spw k).queue = (if j.left ≤ 1 then rest else { j with left := j.left - 1 } :: rest) ∧ t.tarns = s.tarns ∧ t.mem = s.mem)

/-- R282, R284, R285: the next unit row in decoding order is written and leaves the order; a frame coded before is shown; a
transport stream that has been silent carries a PCR alone, and repeats its tables. Each is released no earlier than due. That an
event runs the clock to its due cycle first is the model's choice (assumption log entry 3). -/
def Obligations.UnitsAreEmittedAndStreamsKeptAlive : Prop :=
  ∀ (s : State) (r : Nat),
    (∀ g row u nals items, g ≠ 16 → (s.rend r).cur.isSome = true → (s.coding r).units.find (64 * g + row) = some u →
      (s.coding r).order.head? = some (64 * g + row) → (s.coding r).rtpLeft.contains (64 * g + row) = false →
      ∃ t, exec (.emitUnit r g row nals items) s = .next t ∧ (t.coding r).order = (s.coding r).order.drop 1 ∧
        (t.coding r).tsOpen = true ∧ t.now = s.now ∧ t.st = s.st) ∧
    (∀ row nals items h rest, (s.rend r).cur.isSome = true → (s.coding r).shows = h :: rest → (s.coding r).finished = true →
      ∃ t, exec (.emitUnit r 16 row nals items) s = .next t ∧ (t.coding r).shows = rest ∧ (t.rend r).tuOpen = false ∧
        t.now = s.now ∧ t.st = s.st) ∧
    (∀ at_, s.tsLive r = true → (s.ring r).lastTs = some at_ → ∃ t, exec (.tsPcrKeepalive r) s = .next t ∧
      t.now = s.now + s.cyclesTo ((at_ + 20000000) % 2 ^ 64) ∧ (t.ring r).lastTs = some (linear t.time.phc) ∧
      (t.ring r).lastTables = (s.ring r).lastTables ∧ t.st = s.st) ∧
    (∀ at_, s.tsLive r = true → (s.ring r).lastTables = some at_ → ∃ t, exec (.tsTableRepeat r) s = .next t ∧
      t.now = s.now + s.cyclesTo ((at_ + 100000000) % 2 ^ 64) ∧ (t.ring r).lastTs = some (linear t.time.phc) ∧
      (t.ring r).lastTables = some (linear t.time.phc) ∧ t.st = s.st)

/-- R134, R280, R298, R391: a host-chunk entry not yet told is told at its release, by a record where the ring has space; the head
releases records; a chunk ring and a caption ring are enabled under their conditions. That an event runs the clock to its due
cycle first is the model's choice (assumption log entry 3). -/
def Obligations.ChunkAndCaptionRings : Prop :=
  ∀ (s : State) (c k r : Nat) (w : Word),
    (∀ e, (s.chunk r).en = true → (s.ring r).entries.find? (fun e => e.format == 3 && !e.told) = some e → s.standby = false →
      ((s.chunk r).tail + 1) % 2 ^ (s.chunk r).sizeLog2 ≠ (s.chunk r).head → ∃ t, exec (.chunkRecordWrite r) s = .next t ∧
      (t.chunk r).tail = ((s.chunk r).tail + 1) % 2 ^ (s.chunk r).sizeLog2 ∧ (t.chunk r).head = (s.chunk r).head ∧
      t.now = s.now + s.cyclesTo e.release ∧ t.mem = s.mem ∧ ∀ y ∈ (t.ring r).entries, y.seq = e.seq → y.told = true) ∧
    (∀ q, (s.st.rendsOf c)[k]? = some q →
      exec (.chunkHeadWrite c k w) s = .next (s.setChunk q.rendition { s.chunk q.rendition with
        head := w.toNat % 2 ^ max 1 (s.chunk q.rendition).sizeLog2, armed := true }) ∧
      ((s.chunk q.rendition).en = false → bit w.toNat 31 = true → s.rd64 (erReg c k 0x18) % 4096 = 0 → 4 ≤ bits w.toNat 4 0 →
        bits w.toNat 4 0 ≤ 12 → bit q.payload 3 = true → exec (.chunkRingEnable c k w) s = .next (s.setChunk q.rendition
          { s.chunk q.rendition with en := true, vector := bits w.toNat 20 16, irqEn := bit w.toNat 8, sizeLog2 := bits w.toNat 4 0,
                                     head := 0, tail := 0, phase := true, armed := true })) ∧
      (bit w.toNat 31 = false → ∃ t, exec (.chunkRingEnable c k w) s = .next t ∧ (t.chunk q.rendition).en = false ∧ t.rings = s.rings)) ∧
    (∀ g, bit (s.rdn (capReg c 0x08)) 31 = false → bit w.toNat 31 = true → s.rd64 (capReg c 0x00) % 16 = 0 → 12 ≤ bits w.toNat 4 0 →
      bits w.toNat 4 0 ≤ 20 → s.st.regionAt (s.rd64 (capReg c 0x00)) = some g → bit g.writers (s.st.courseOwner c) = true →
      s.rd64 (capReg c 0x00) + 2 ^ bits w.toNat 4 0 ≤ g.base + g.size → ∃ t, exec (.captionRingEnable c w) s = .next t ∧
      t.rdn (capReg c 0x08) = 2 ^ 31 + bits w.toNat 4 0 ∧ t.rdn (capReg c 0x10) = 0 ∧ t.mem = s.mem ∧
      ∀ a, a ≠ capReg c 0x08 → a ≠ capReg c 0x10 → t.rd a = s.rd a)

/-- R305, R307, R320: a formed port sends no frame before its MAC is free, a waiting duplicate first; a write of its CFG applies
the bucket at once where no frame is being sent, else at the boundary; and the drain of a withdrawal ends with ACT_OUT low. That
an event runs the clock to its due cycle first is the model's choice (assumption log entry 3). -/
def Obligations.OutflowSelectsAppliesAndDrains : Prop :=
  ∀ (s : State) (n : Nat) (w : Word), s.st.portFormed n = true →
    (∃ t, exec (.outflowSelect n) s = .next t ∧ t.now = max s.now (s.oport n).free ∧ t.st = s.st ∧
      ∀ u b rest, (s.oport n).dups = (u, b) :: rest → (t.oport n).dups = rest ∧ t.now ≤ (t.oport n).free) ∧
    ((s.oport n).apply = false → bit w.toNat 0 = true → s.now < (s.oport n).free → ∃ t, exec (.portBucketApply n w) s = .next t ∧
      (t.oport n).apply = true ∧ (t.oport n).free = (s.oport n).free ∧ (t.oport n).rates = (s.oport n).rates ∧ t.mem = s.mem) ∧
    ((s.oport n).apply = false → bit w.toNat 0 = true → (s.oport n).free ≤ s.now → exec (.portBucketApply n w) s = .next
      ((s.wrn (outPort n 0) (bits w.toNat 15 8 * 256 + bits w.toNat 1 1 * 2)).portApply n s.now)) ∧
    (s.outf.draining = true → ∃ t, exec .egressDrainDone s = .next t ∧ t.pair.actOut = false ∧ t.pair.yieldBy = none ∧
      t.pair.role = (if s.pair.role = 4 then 1 else s.pair.role) ∧ t.mem = s.mem) ∧
    (s.outf.draining = false → exec .egressDrainDone s = .next s)
/-- R329 to R332: a due refresh of a bank with requests queued is postponed up to 8 times, and else issued, which holds the bank
for 240 cycles and closes its row; a stack that crosses 85 °C tells its channels. That an event runs the clock to its due cycle
first is the model's choice (assumption log entry 3). -/
def Obligations.RefreshesAreIssuedOrPostponed : Prop :=
  ∀ (s : State) (n b d : Nat) (x : Chan), ((s.chan n).banks.get b).due = some d → s.selfRefresh.contains n = false →
    x = (s.chan n).payBank b (max s.now d) →
    (x.rtQueued b = true → (x.banks.get b).owed < 8 → ∃ t, exec (.refreshDue n b) s = .next t ∧
      ((t.chan n).banks.get b).owed = (x.banks.get b).owed + 1 ∧ ((t.chan n).banks.get b).row = (x.banks.get b).row ∧
      ((t.chan n).banks.get b).due = some (t.now + x.refi) ∧ t.now = max s.now d ∧ t.mem = s.mem) ∧
    (x.rtQueued b = false → ∃ t, exec (.refreshDue n b) s = .next t ∧ ((t.chan n).banks.get b).row = none ∧
      ((t.chan n).banks.get b).held = max (x.banks.get b).held t.now + 240 ∧ ((t.chan n).banks.get b).owed = (x.banks.get b).owed ∧
      ((t.chan n).banks.get b).due = some (t.now + x.refi) ∧ t.now = max s.now d ∧ t.mem = s.mem) ∧
    (∀ stack hot, ∃ t, exec (.memTempChange stack hot) s = .next t ∧ (∀ k < 16, (t.chan (16 * stack + k)).hot = hot) ∧
      (∀ k, k < 16 * stack ∨ 16 * stack + 16 ≤ k → t.chan k = s.chan k) ∧ t.now = s.now ∧ t.mem = s.mem)

/-- R334, R338, R340: with scrubbing on, a live channel's patrol read moves its position by one line and wraps at the end of the
channel; a lane is swept no sooner than 100 ms after its last visit, and the next lane follows; a channel issues what it picks.
That an event runs the clock to its due cycle first is the model's choice (assumption log entry 3). -/
def Obligations.ChannelsScrubRetrainAndServe : Prop :=
  ∀ (s : State) (n : Nat) (a b : CodeRead),
    (s.fld (resReg n 0x004) 1 1 ≠ 0 → s.selfRefresh.contains n = false → s.excluded.contains n = false → (s.chan n).live = true →
      ∃ t, exec (.scrubRead n a b) s = .next t ∧ t.st = s.st ∧ (t.chan n).scrubAt = some t.now ∧
        (t.chan n).scrubPos = (if (s.chan n).scrubPos + 64 = 0x60000000 then 0 else (s.chan n).scrubPos + 64) ∧
        (∀ at_, (s.chan n).scrubAt = some at_ → t.now = max s.now (at_ + s.scrubPace))) ∧
    (∀ found at_, (s.chan n).live = true → s.selfRefresh.contains n = false → (s.chan n).visited.find (s.chan n).visit = some at_ →
      ∃ t, exec (.laneRetrain n found) s = .next t ∧ (t.chan n).visit = ((s.chan n).visit + 1) % 8 ∧
        (t.chan n).visited.find (s.chan n).visit = some t.now ∧ t.now = max s.now (at_ + 150000000) ∧ t.mem = s.mem ∧
        (found = none → ((t.chan n).lanes.get (s.chan n).visit).state = 2) ∧ (t.chan n).banks = (s.chan n).banks) ∧
    (∀ pc, ∃ t, exec (.memRequest n pc a b) s = .next t ∧ max s.now (s.chan n).ready ≤ t.now ∧ t.st = s.st)

/-- R330, R337, R339, R341: training leaves each named channel live or excluded; self-refresh is refused for a channel with
real-time regions or an excluded one, else entry begins, ends once the queues are empty, and is left 600 cycles later. -/
def Obligations.ChannelsTrainAndSelfRefresh : Prop :=
  ∀ (s : State) (n : Nat),
    (∀ x : ChanTraining, s.boot.stage = 2 → x.chan < 32 → (s.chan x.chan).live = false → s.excluded.contains x.chan = false →
      (x.excluded = none → ∃ t, exec (.hbmTraining [x]) s = .next t ∧ (t.chan x.chan).live = true ∧ t.excluded = s.excluded ∧
        t.mem = s.mem ∧ t.now = s.now) ∧
      (∀ l r, x.excluded = some (l, r) → ∃ t, exec (.hbmTraining [x]) s = .next t ∧ (t.chan x.chan).live = false ∧
        t.excluded = s.excluded ++ [x.chan] ∧ (t.chan x.chan).reason = r ∧ t.mem = s.mem)) ∧
    ((s.st.regions.vals.any (fun r => r.cls == 0 && bit r.chMask n) || s.excluded.contains n) = true →
      ∃ t, exec (.srReqSet n) s = .next t ∧ t.fld (resReg n 0x004) 0 0 = 0 ∧ t.selfRefresh = s.selfRefresh ∧ t.now = s.now) ∧
    ((s.st.regions.vals.any (fun r => r.cls == 0 && bit r.chMask n) || s.excluded.contains n) = false → (s.chan n).entering = false →
      s.selfRefresh.contains n = false → (s.tport n).waiting = [] → ∃ t, exec (.srReqSet n) s = .next t ∧
      t.fld (resReg n 0x004) 0 0 = 1 ∧ (t.chan n).entering = true ∧ (t.chan n).abandoned = false ∧ (t.chan n).srAt = s.now ∧
      t.mem = s.mem) ∧
    ((s.chan n).entering = true → (s.chan n).abandoned = false → (s.chan n).rq = [] → (s.chan n).wq = [] →
      ∃ t, exec (.srEntryDone n) s = .next t ∧ t.selfRefresh = s.selfRefresh ++ [n] ∧ (t.chan n).entering = false ∧
      (∀ k b, (t.chan n).banks.find k = some b → b.owed = 0 ∧ b.row = none) ∧ t.mem = s.mem ∧
      t.now = s.now + 240 * maxOf ((s.chan n).banks.vals.map (·.owed))) ∧
    (s.selfRefresh.contains n = true → ∃ t, exec (.srReqClear n) s = .next t ∧ ¬ n ∈ t.selfRefresh ∧ (t.chan n).ready = s.now + 600 ∧
      t.fld (resReg n 0x004) 0 0 = 0 ∧ t.now = s.now ∧ t.mem = s.mem)
/-- R342, R347, R348, R350, R351, R114: a legal transaction that may not reach its bytes is a decode error; one that may waits at
its target and is granted there; a granted one that passes its bound is answered TARGET; a master's reset ends with its bursts.
That an event runs the clock to its due cycle first is the model's choice (assumption log entry 3). -/
def Obligations.ConfluenceCarriesChecksAndBoundsTransactions : Prop :=
  ∀ (s : State) (x : Txn) (n : Nat),
    (x.legal = true → s.fabric.inReset.has x.master = false →
      (s.reach x.fn x.write x.addr x.len = false → exec (.fabricRequest x false) s =
        .next ((s.decodeError x.master x.fn x.write x.addr).respond x 1 (zeros x))) ∧
      (s.reach x.fn x.write x.addr x.len = true → ∃ u : State, exec (.fabricRequest x false) s = .next (u.portGrants (s.targetNo x.addr)) ∧
        (u.tport (s.targetNo x.addr)).waiting = (s.tport (s.targetNo x.addr)).waiting ++ [{ id := s.fabric.nextId, t := x, at_ := s.now }] ∧
        (∀ k, k ≠ s.targetNo x.addr → u.tport k = s.tport k) ∧ u.mem = s.mem ∧ u.regs = s.regs ∧ u.now = s.now)) ∧
    (x.legal = false ∨ s.fabric.inReset.has x.master = true → exec (.fabricRequest x false) s = .next s) ∧
    (∀ f y, y = { x with master := 20, fn := some f } → x.fn = some f → y.legal = true → y.write = false →
      s.bar4At f x.addr x.len = none →
      exec (.fabricRequest x true) s = .next ((s.decodeError 20 (some f) false x.addr).respond y 1 (zeros y))) ∧
    (∀ y, s.fabric.flight.find n = some y → y.cut = false → y.t.write = false → ∃ t, exec (.targetTimeout n) s = .next t ∧
      t.fabric.flight = s.fabric.flight.del n ∧ t.now = max s.now (y.at_ + s.rdn (cnfReg 0x000)) ∧ t.mem = s.mem ∧ t.st = s.st) ∧
    (s.fabric.inReset.has n = true → ∃ t, exec (.burstFinishDone n) s = .next t ∧ t.fabric.inReset = s.fabric.inReset.del n ∧
      t.fabric.flight = s.fabric.flight.keep (fun _ y => !(y.t.master == n && y.cut)) ∧ t.now = s.now ∧ t.mem = s.mem)

/-- R356, R357, R361, R364: a trigger of an idle channel starts it at its descriptor; of a waiting or active one it is missed; a
disabled channel forgets what it owed; the timer triggers once a window; the first in trigger order takes a slot; an abort in
maintenance ends a waiting channel. That an event runs the clock to its due cycle first is the model's choice (assumption log
entry 3). -/
def Obligations.SluiceChannelsStartWaitAndEnd : Prop :=
  ∀ (s : State) (f i g : Nat), s.sluiceOf f i = some g →
    ((s.slc g).state = 0 → slcTrigger (s.slcCfg g) = 0 → slcTick (s.slcCfg g) = false → ∃ t, exec (.sluiceStart f i) s = .next t ∧
      (t.slc g).state = 1 ∧ (t.slc g).cur = s.rd64 (sluiceReg g 0x00) ∧ (t.slc g).stat = s.rd64 (sluiceReg g 0x08) ∧
      (t.slc g).hops = 0 ∧ (t.slc g).bytes = 0 ∧ (t.slc g).order = s.sluiceOrder ∧ t.sluiceOrder = s.sluiceOrder + 1 ∧
      (∀ k, k ≠ g → t.slc k = s.slc k) ∧ t.mem = s.mem ∧ t.regs = s.regs) ∧
    ((s.slc g).state ≠ 0 → (s.slc g).state ≠ 3 → slcTrigger (s.slcCfg g) = 0 → exec (.sluiceStart f i) s = .next (s.sluiceMissed g)) ∧
    (∃ t, exec (.sluiceDisable f i) s = .next t ∧ (t.slc g).state = 3 ∧ (t.slc g).owed = [] ∧ (t.slc g).error = none ∧
      t.mem = s.mem ∧ t.regs = s.regs ∧ t.now = s.now) ∧
    ((s.slc g).state = 1 → s.abortable g = true → (s.slc g).error = none → (s.slc g).owed = [] → ∀ desc data n,
      exec (.sluiceAbort f i desc data n) s = .next (s.setSlc g { s.slc g with
        state := 4, slot := 32, owed := [{ status := 5, addr := (s.slc g).cur, final := true }] })) ∧
    (s.sluiceOwner g ≠ none → slcTrigger (s.slcCfg g) = 1 → bit (s.slcTimer g) 28 = false → (s.slc g).state = 0 →
      (s.dom (bits (s.slcTimer g) 31 29)).stage = .window → (s.slc g).fired ≠ some (s.dom (bits (s.slcTimer g) 31 29)).tick →
      ∃ t, exec (.sluiceTimerTrigger g) s = .next t ∧ (t.slc g).state = 1 ∧ (t.slc g).fired = some
        (s.dom (bits (s.slcTimer g) 31 29)).tick ∧ t.now = max s.now ((s.dom (bits (s.slcTimer g) 31 29)).openAt +
        16 * bits (s.slcTimer g) 23 0) ∧ t.mem = s.mem) ∧
    (∀ slot, slot < 32 → (∀ k x, (k, x) ∈ s.sluice → ¬ ((x.state = 2 ∨ x.state = 4) ∧ x.slot = slot)) →
      (∃ k x, (k, x) ∈ s.sluice ∧ x.state = 1 ∧ x.killed = false) → ∃ k x, (k, x) ∈ s.sluice ∧ x.state = 1 ∧ x.killed = false ∧
      (∀ k' x', (k', x') ∈ s.sluice → x'.state = 1 → x'.killed = false → x.order ≤ x'.order) ∧
      exec (.sluiceSlotGrant slot) s = .next (s.setSlc k { x with state := 2, slot }))

/-- R358, R359, R362, R363: an active channel posts BAD_DESCRIPTOR for a misaligned or illegal descriptor, records the error of one
it cannot reach, follows a legal jump, and moves the bytes of another descriptor; owed records are posted in order, and the last
one, or an error once everything is answered, ends the channel. -/
def Obligations.SluiceDescriptorsRunAndRecordsArePosted : Prop :=
  ∀ (s : State) (g : Nat) (fetched : Bool) (desc data : Bytes) (moved : Nat), (s.slc g).issues = true →
    ((s.slc g).cur % 32 ≠ 0 → exec (.sluiceDescriptorDone g fetched desc data moved none) s = .next (s.setSlc g { s.slc g with
      owed := (s.slc g).owed ++ [{ status := 4, addr := (s.slc g).cur, final := true }] })) ∧
    ((s.slc g).cur % 32 = 0 → (s.slc g).stat % 16 = 0 →
      (s.reach (some (s.sluiceFn g)) false (s.slc g).cur 32 = false → ∃ t r, exec (.sluiceDescriptorDone g fetched desc data moved none) s
        = .next t ∧ (t.slc g).error = some r ∧ r.status = 3 ∧ r.addr = (s.slc g).cur ∧ r.final = true ∧ t.mem = s.mem) ∧
      (∀ u b d, s.fetchDesc (s.sluiceFn g) (s.slc g).cur fetched desc = ((some b, 0), u) → d = sluiceDesc b →
        (d.legal = false → ∃ t, exec (.sluiceDescriptorDone g fetched desc data moved none) s = .next t ∧ (t.slc g).owed =
          (s.slc g).owed ++ [{ status := 4, residue := d.total, addr := (s.slc g).cur, final := true }] ∧ t.mem = s.mem) ∧
        (d.legal = true → d.jump = true → d.last = false → d.irq = false → (s.slc g).hops + 1 < hopLimit (s.slc g).cfg →
          ∃ t, exec (.sluiceDescriptorDone g fetched desc data moved none) s = .next t ∧ (t.slc g).cur = d.src.addr ∧
          (t.slc g).hops = (s.slc g).hops + 1 ∧ (t.slc g).owed = (s.slc g).owed ∧ t.mem = s.mem) ∧
        (d.legal = true → d.jump = false → u.sideFails (u.sluiceFn g) false none (d.src.pieces d.total) = none →
          u.sideFails (u.sluiceFn g) true none (d.dst.pieces d.total) = none → ∃ v : State, v = u.moveBytes (u.sluiceFn g) d data d.total ∧
          exec (.sluiceDescriptorDone g fetched desc data moved none) s = .next ((v.setSlc g { v.slc g with
            bytes := ((v.slc g).bytes + d.total) % 2 ^ 64 }).descEnds g d)))) ∧
    (∀ k r rest, (s.slc k).owed = r :: rest → r.status ≠ 0 → ∃ t, exec (.sluiceStatusPost k) s = .next t ∧
      (t.slc k).owed = (if r.final then [] else rest) ∧ (t.slc k).state = (if r.final then 0 else (s.slc k).state) ∧
      (t.slc k).lastStatus = r.status * 2 ^ 24 + (s.slc k).seq % 65536) ∧
    (∀ k r, (s.slc k).error = some r → ∃ t, exec (.sluiceErrorEnd k) s = .next t ∧ (t.slc k).state = 0 ∧ (t.slc k).error = none ∧
      (t.slc k).owed = [] ∧ (t.slc k).lastStatus = r.status * 2 ^ 24 + (s.slc k).seq % 65536)

/-- R366, R367, R370: the semaphore of a free BCE goes to who acquires it and back; PF0 alone may force it away; a GO whose
operation is legal, aligned and without a refused overlap starts it; a write by another function changes no register. -/
def Obligations.BlockCopyEnginesAreHeldAndStarted : Prop :=
  ∀ (s : State) (b f : Nat) (w : Word),
    ((s.bce b).holder = none → exec (.bceAcquire b f) s = .next (s.setBce b { s.bce b with holder := some f })) ∧
    (∀ k, (s.bce b).holder = some k → exec (.bceAcquire b f) s = .next s) ∧
    ((s.bce b).holder = some f → (s.bce b).busy = false → exec (.bceRelease b f) s =
      .next (s.setBce b { s.bce b with holder := none, release := false })) ∧
    ((s.bce b).holder = some f → (s.bce b).busy = true → exec (.bceRelease b f) s = .next (s.setBce b { s.bce b with release := true })) ∧
    ((s.bce b).busy = false → exec (.bceForceRelease b 0) s = .next (s.setBce b { s.bce b with
      holder := none, release := false, busy := false })) ∧
    ((s.bce b).busy = true → ∃ t, exec (.bceForceRelease b 0) s = .next t ∧ (t.bce b).holder = none ∧ (t.bce b).busy = false ∧
      t.now = s.now ∧ t.st = s.st) ∧
    (f ≠ 0 → exec (.bceForceRelease b f) s = .next s) ∧
    ((s.bce b).holder = some f → (s.bce b).busy = false → bit w.toNat 0 = true → ∀ u : State,
      u = s.wrn (bceReg b 0x04) (bits w.toNat 31 10 * 2 ^ 10) → (u.bceOp b).legal = true → bit (u.rdn (bceReg b 0x04)) 10 = false →
      (u.bceOp b).aligned (u.bceOp b).dst (u.bceOp b).dp = true → (u.bceOp b).aligned (u.bceOp b).src (u.bceOp b).sp = true →
      (u.bceOp b).overlaps = false → exec (.bceGo b f w) s = .next (u.setBce b { s.bce b with busy := true, at_ := s.now })) ∧
    ((s.bce b).holder ≠ some f → ∃ t, exec (.bceGo b f w) s = .next t ∧ t.regs = s.regs ∧ t.bces = s.bces ∧ t.mem = s.mem)

/-- R369, R371, R373: an operation all of whose lines its holder may reach ends after its cycles: every line of the destination
holds what the operation makes of memory as it was before, every other byte is as it was, and the engine is free. That an event
runs the clock to its due cycle first is the model's choice (assumption log entry 3). -/
def Obligations.BlockCopyWritesItsLinesAndNothingElse : Prop :=
  ∀ (s : State) (b : Nat) (o : BceOp), o = s.bceOp b → (s.bce b).busy = true → (∀ y < o.h, s.bceFault (s.bce b).holder o y = none) →
    o.bytes ≤ o.dp → ∃ t, exec (.bceComplete b none) s = .next t ∧ (t.bce b).busy = false ∧
      (t.bce b).holder = (if (s.bce b).release then none else (s.bce b).holder) ∧
      (∀ a, (∀ y < o.h, a < o.dst + y * o.dp ∨ o.dst + y * o.dp + o.bytes ≤ a) → Mem.byte t.mem a = Mem.byte s.mem a) ∧
      (∀ y < o.h, ∀ i < o.bytes, Mem.byte t.mem (o.dst + y * o.dp + i) = (o.line s.mem y).getD i 0) ∧
      t.now = max s.now ((s.bce b).at_ + o.h * o.bytes / 4096 * (64 + s.fld (bceReg b 0x30) 15 0) + ceilDiv (o.h * o.bytes % 4096) 64) ∧
      t.st = s.st
/-- R374 to R379: unless firmware holds the unit, a write feeds its bytes, little end first, into the running value; DATA_B feeds one;
the data port takes the owner's and PF0's bytes and is a decode error for another; a message ends; RESTART, RUN, ALIVE_CFG and OWNER
act on the unit alone. While firmware holds it, register writes are ignored. -/
def Obligations.CheckUnitsFeedEndAndRestart : Prop :=
  ∀ (s : State) (u f : Nat) (w : Word) (b : Bytes) (hi : Bool),
    (s.fwHeld u = false →
      exec (.chkDataW u w) s = .next (s.chkBytes u (leBytes 4 w.toNat)) ∧
      (s.fld (chkReg u 0) 22 7 = 0 → (s.chk u).restart = false → ∃ t, exec (.chkDataB u w) s = .next t ∧
        (t.chk u).run = (s.crcCfg u).feed (s.chk u).run (w.toNat % 256) ∧ (t.chk u).fed = (s.chk u).fed + 1 ∧
        (∀ k, k ≠ u → t.chk k = s.chk k) ∧ t.regs = s.regs ∧ t.mem = s.mem) ∧
      (f = 0 ∨ f = (s.chk u).owner → exec (.chkPortWrite u f b) s = .next (s.chkBytes u b)) ∧
      (f ≠ 0 → f ≠ (s.chk u).owner → exec (.chkPortWrite u f b) s = .next (s.decodeError 20 (some f) true (0x1020000000 + 0x1000 * u))) ∧
      (∃ t, exec (.chkMsgEnd u) s = .next t ∧ (t.chk u).fed = 0 ∧ (t.chk u).counter = [] ∧ (t.chk u).run = (s.chk u).run ∧
        (t.chk u).restart = decide (s.fld (chkReg u 0) 29 29 = 1) ∧
        (s.fld (chkReg u 0) 29 29 = 1 → (t.chk u).result = (s.crcCfg u).out (s.chk u).run) ∧ t.mem = s.mem ∧ t.now = s.now) ∧
      exec (.chkRestart u) s = .next (s.setChk u { s.chk u with run := s.chkInit u, restart := false }) ∧
      (∃ t, exec (.chkRunWrite u hi w) s = .next t ∧ (t.chk u).restart = false ∧ (t.chk u).fed = (s.chk u).fed ∧
        (t.chk u).run = (if hi then (s.chk u).run % 2 ^ 32 + w.toNat * 2 ^ 32 else (s.chk u).run / 2 ^ 32 * 2 ^ 32 + w.toNat) %
          2 ^ (s.crcCfg u).width ∧ t.regs = s.regs ∧ t.mem = s.mem) ∧
      (∃ t, exec (.chkAliveCfgWrite u w) s = .next t ∧ (t.chk u).base = none ∧ (t.chk u).run = (s.chk u).run ∧ t.mem = s.mem ∧
        ∀ a, a ≠ chkReg u 0x38 → t.rd a = s.rd a) ∧
      (∃ t, exec (.chkOwnerWrite u w) s = .next t ∧ (t.chk u).owner = w.toNat % 64 ∧ (t.chk u).run = s.chkInit u ∧
        (w.toNat % 64 = (s.chk u).owner → (t.chk u).base = (s.chk u).base) ∧
        (w.toNat % 64 ≠ (s.chk u).owner → (t.chk u).base = none) ∧ t.regs = s.regs ∧ t.mem = s.mem)) ∧
    (s.fwHeld u = true → ∀ i : Instr, (i = .chkDataW u w ∨ i = .chkDataB u w ∨ i = .chkMsgEnd u ∨ i = .chkRestart u ∨
      i = .chkRunWrite u hi w ∨ i = .chkAliveCfgWrite u w ∨ i = .chkOwnerWrite u w) → exec i s = .next s)
/-- R381, R383 to R386: a STANDBY claims after its hold-off; seat B yields a claim that meets another within 64 cycles; a claim
that stands opens the gate at 304 cycles and makes the device ACTIVE; an ACTIVE device that meets a claim closes its gate, and
seat B withdraws; the watchdog closes it in the same cycle for good. That an event runs the clock to its due cycle first is the
model's choice (assumption log entry 3). -/
def Obligations.InterlockClaimsTakesOverAndWithdraws : Prop :=
  ∀ (s : State) (n : Nat),
    (s.pair.count = some n → ∃ t, exec .claimHoldoffExpired s = .next t ∧ t.pair.role = 2 ∧ t.pair.actOut = true ∧
      t.pair.count = none ∧ t.pair.claimAt = t.now ∧ t.now = max s.now (n + (if s.boot.seat = 1 then 1024 else 256)) ∧ t.mem = s.mem) ∧
    (s.pair.role = 2 → s.boot.seat = 1 → s.pair.actIn = true → s.now ≤ s.pair.claimAt + 64 → ∃ t, exec .claimConfirmEnd s = .next t ∧
      t.pair.role = 1 ∧ t.pair.actOut = false ∧ t.now = s.pair.claimAt + 64) ∧
    (s.pair.role = 2 → s.pair.actIn = false → exec .claimConfirmEnd s = .next (s.runTo (s.pair.claimAt + 64))) ∧
    (s.pair.role = 2 → s.pair.actIn = false → (∀ d ∈ s.st.domains.keys, (s.dom d).stage ≠ .snap) → s.pair.staged = [] →
      ∃ t, exec .takeoverGateOpen s = .next t ∧ t.pair.role = 3 ∧ t.outf.gate = true ∧ t.pair.journal = [] ∧
      t.now = max s.now (s.pair.claimAt + 304) ∧ t.mem = s.mem ∧ t.st = s.st) ∧
    (s.paired = true → s.pair.role = 3 → s.pair.actIn = false → ∃ t, exec (.actInChange true) s = .next t ∧ t.pair.actIn = true ∧
      t.outf.gate = false ∧ t.pair.role = (if s.boot.seat = 1 then 4 else 3) ∧ t.mem = s.mem ∧ t.now = s.now) ∧
    (s.paired = true → s.pair.role = 3 → s.pair.actIn = true → ∃ t, exec (.actInChange false) s = .next t ∧ t.pair.actIn = false ∧
      t.outf.gate = true ∧ t.pair.lowSince = s.now ∧ t.pair.role = 3 ∧ t.mem = s.mem) ∧
    (s.paired = true → s.pair.role = 1 → s.pair.actIn = false → ∃ t, exec (.actInChange true) s = .next t ∧ t.pair.actIn = true ∧
      t.pair.count = none ∧ t.pair.noneFrom = none ∧ t.pair.role = 1 ∧ t.mem = s.mem) ∧
    (s.pair.noneFrom = some n → (s.limits.get (0xC08 * 2 ^ 16)).last = none → ∃ t, exec .noActiveTimeout s = .next t ∧
      t.now = max s.now (n + 1024) ∧ (t.limits.get (0xC08 * 2 ^ 16)).last = some t.now ∧ t.pair = s.pair ∧ t.mem = s.mem) ∧
    (s.pair.role = 3 → ∃ t, exec .watchdogExpiry s = .next t ∧ t.pair.fatal = true ∧ t.pair.role = 4 ∧ t.outf.gate = false ∧
      t.now = s.now ∧ t.mem = s.mem)

/-- R388, R389: heartbeats leave 8,192 cycles apart while the link is up; one with a bad FCS is counted only, a good one of the
peer marks it alive; the fourth missed interval in a row marks it silent, and an earlier one does not. That an event runs the
clock to its due cycle first is the model's choice (assumption log entry 3). -/
def Obligations.HeartbeatsTellThePeersState : Prop :=
  ∀ (s : State) (b : Bytes), s.paired = true →
    (s.guavoUp = true → ∃ t, exec .heartbeatSend s = .next t ∧ t.now = max s.now (s.pair.hbAt + 8192) ∧ t.pair.hbAt = t.now ∧
      t.pair.hbAlive = (s.pair.hbAlive + 1) % 256 ∧ t.pair.role = s.pair.role ∧ t.mem = s.mem ∧ t.regs = s.regs) ∧
    exec (.heartbeatReceived b false) s = .next (s.inc (guavoReg 0x38) 1) ∧
    (b.length = 48 → crc32.of (b.take 44) = u32 b 44 → u64 b 0 = s.st.pair.pairId → s.pair.lastAlive ≠ some (u8 b 8) →
      ∃ t, exec (.heartbeatReceived b true) s = .next t ∧ t.pair.peerAlive = true ∧ t.pair.missed = 0 ∧
      t.pair.lastAlive = some (u8 b 8) ∧ t.pair.peerHold = bit (u8 b 10) 0 ∧ t.pair.peerImage = u64 b 16 ∧ t.regs = s.regs ∧
      t.now = s.now ∧ t.mem = s.mem) ∧
    (b.length ≠ 48 → exec (.heartbeatReceived b true) s = .next s) ∧
    (∃ t, exec .heartbeatIntervalMissed s = .next t ∧ t.now = max s.now (s.pair.intervalAt + 8192) ∧ t.pair.intervalAt = t.now ∧
      t.pair.missed = s.pair.missed + 1 ∧ t.pair.peerAlive = (if s.pair.missed = 3 then false else s.pair.peerAlive) ∧
      t.pair.role = s.pair.role ∧ t.mem = s.mem)

/-- R392, R394 to R398: a standby keeps a snapshot of the tick it waits for, or takes it in a Weir that waits; after T+16,384 the
Weir goes on without; an image from the peer is checked and staged, or marks the pair diverged; an ACTIVE device begins to heal
what its budget covers; a standby takes heal messages of what is UNSYNCED. That an event runs the clock to its due cycle first is
the model's choice (assumption log entry 3). -/
def Obligations.StandbyTakesSnapshotsImagesAndHealing : Prop :=
  ∀ (s : State) (d r : Nat) (x : Snapshot) (m : HealMsg) (b : Bytes),
    (s.standby = true → s.domDefined d = true → x.dom = d →
      ((s.dom d).stage = .window → x.tick = s.nextTick d % 2 ^ 64 → ∃ t, exec (.snapshotReceived x true) s = .next t ∧
        t.pair.arrived.find d = some (some x) ∧ t.now = s.now ∧ t.mem = s.mem ∧ t.st = s.st) ∧
      ((s.dom d).stage = .snap → x.tick = (s.dom d).tick % 2 ^ 64 → exec (.snapshotReceived x true) s = .next (s.snapTake d x).pace) ∧
      (∃ t, exec (.snapshotReceived x false) s = .next t ∧ t.pair.arrived.find d = some none ∧ t.now = s.now ∧ t.mem = s.mem)) ∧
    (s.domDefined d = true → (s.dom d).stage = .snap → ∃ u : State, exec (.snapshotWaitTimeout d) s = .next (u.weirApply d).pace ∧
      u.now = max s.now ((s.dom d).t0 + 16384) ∧ u.pair.arrived.find d = none ∧ u.mem = s.mem) ∧
    (s.paired = true → s.standby = true → ∀ u : State, u = s.updPair (fun p => { p with imageSeq := (readHeader b).imageSeq }) →
      (∀ h recs y, checkImage s.peerCtx b = .accepted h recs y → exec (.pairImageReceived b) s = .next (u.stage_ h recs y b)) ∧
      (∀ reason record, checkImage s.peerCtx b = .refused reason record → ∃ t, exec (.pairImageReceived b) s = .next t ∧
        t.pair.diverged = true ∧ t.pair.staged = s.pair.staged ∧ t.img = s.img ∧ t.st = s.st ∧ t.mem = s.mem)) ∧
    (s.pair.role = 3 → s.guavoUp = true → s.st.pair.healBudget ≠ 0 → s.st.rends.has r = true → s.pair.healTx.has r = false →
      s.healReserved (s.domRend r) + s.healPicture r ≤ s.st.pair.healBudget → exec (.healListReceived [r]) s = .next { s with
        pair := { s.pair with healTx := s.pair.healTx.set r { reserved := s.healPicture r } } }) ∧
    (s.standby = true → m.rend = r → s.st.rends.has r = true → (s.rend r).unsynced = true → ∃ t, exec (.healReceived m) s = .next t ∧
      (t.rend r).healing = true ∧ t.pair.healRx.get r = (s.pair.healRx.get r).take m ∧ t.now = s.now ∧ t.mem = s.mem)
/-- R404, R405, R407, R410, R412: with no injection armed, an error in an array is logged and, where it cannot be corrected, its
owner takes it; a first mismatch in a block is computed again, a second one in the same block retires the unit; a Spillway unit's
second mismatch in a CTU is fatal with cause 2. That an event runs the clock to its due cycle first is the model's choice
(assumption log entry 3). -/
def Obligations.ErrorsAreCorrectedRepeatedOrEscalated : Prop :=
  ∀ (s : State) (src n k : Nat) (a : ArrayOwner), s.ras.inj = [] →
    (∀ u : State, u = s.wrn (rasReg 0x02C) (src % 2 ^ 16 * 2 ^ 16 + n % 2 ^ 16) →
      exec (.sramError src n 0 a) s = .next (u.sramCorrected src n false) ∧
      exec (.sramError src n 1 a) s = .next (((u.inc (rasReg 0x020) 1).ev 0x0D02 src (n % 2 ^ 16 * 2 ^ 16)).arrayFault src a false) ∧
      exec (.sramError src n 2 a) s = .next (((u.inc (rasReg 0x020) 1).ev 0x0D02 src (n % 2 ^ 16 * 2 ^ 16 + 1)).arrayFault src a false)) ∧
    (retirable src = true → src / 256 ≠ 0x10 → s.alive src = true →
      (s.ras.again.find src ≠ some k → ∃ t, exec (.unitResidueMismatch src k) s = .next t ∧ t.ras.again.find src = some k ∧
        t.retired = s.retired ∧ t.now = s.now ∧ t.mem = s.mem) ∧
      (s.ras.again.find src = some k → ∃ t, exec (.unitResidueMismatch src k) s = .next t ∧ src ∈ t.retired ∧ t.now = s.now ∧
        t.mem = s.mem)) ∧
    (∀ j rest, (s.spw k).queue = j :: rest →
      (s.ras.again.find (0x1500 + k) ≠ some (s.spillCtuId k) → ∃ t, exec (.spillwayCompareMismatch k) s = .next t ∧
        t.ras.again.find (0x1500 + k) = some (s.spillCtuId k) ∧ (t.spw k).queue = j :: rest ∧ t.ras.fatal = s.ras.fatal ∧
        t.now = max s.now (max (s.spw k).free j.at_ + j.cycles) ∧ t.mem = s.mem) ∧
      (s.ras.again.find (0x1500 + k) = some (s.spillCtuId k) → s.ras.fatal = 0 → ∃ t, exec (.spillwayCompareMismatch k) s = .next t ∧
        t.ras.fatal = 2 ∧ t.pair.fatal = true))

/-- R405, R406, R414, R416: the first fatal cause is latched, makes the device ineligible, closes the gate of an unpaired or
ACTIVE device and disables every Sluice channel; a later one changes nothing. A junction below 125 °C that asks for a thermal step
gets it, and a step is left after a second below it. That an event runs the clock to its due cycle first is the model's choice
(assumption log entry 3). -/
def Obligations.FatalStateAndThermalStepsAreLatched : Prop :=
  ∀ (s : State) (cause k n : Nat) (die hbm : Int),
    (s.ras.fatal = 0 → 1 ≤ cause → cause ≤ 6 → ∃ t, exec (.fatalCondition cause) s = .next t ∧ t.ras.fatal = cause ∧
      t.pair.fatal = true ∧ t.isFatal = true ∧ (s.pair.role = 0 ∨ s.pair.role = 3 → t.outf.gate = false) ∧
      (∀ g < 64, (t.slc g).state = 3) ∧ (∀ b < 2, (t.bce b).busy = false) ∧ t.now = s.now ∧ t.st = s.st) ∧
    (s.ras.fatal ≠ 0 → exec (.fatalCondition cause) s = .next s) ∧
    (s.ras.offset = 0 → die < 2000 → ∃ t, exec (.thermalSample die hbm) s = .next t ∧ t.ras.fatal = s.ras.fatal ∧
      t.ras.wanted = max s.ras.wanted (if 1840 ≤ die then 2 else if 1760 ≤ die then 1 else 0) ∧
      t.rdn (rasReg 0x008) = unsigned 16 die * 2 ^ 16 + unsigned 16 hbm ∧ t.now = s.now ∧ t.mem = s.mem) ∧
    (s.ras.fatal = 0 → s.ras.offset = 0 → 2000 ≤ die → ∃ t, exec (.thermalSample die hbm) s = .next t ∧ t.ras.fatal = 5 ∧
      t.ras.trip = true ∧ t.pair.fatal = true) ∧
    (s.ras.below.find k = some n → s.ras.wanted = k → ∃ t, exec (.thermStepReleaseTimer k) s = .next t ∧ t.ras.wanted = k - 1 ∧
      t.now = max s.now (n + 1500000000) ∧ t.regs = s.regs ∧ t.out = s.out ∧ t.mem = s.mem)

/-- R422, R423, R425, R427: a reset clears memory, the structure and every register but GLB.RESET_CAUSE and the fuses; SYS_RESET_N
deasserted samples the seat; a write of GLB.CTRL with its key resets the device, and another does not; PERST resets the PCIe side
alone; TRST and PERST deasserted change nothing else. -/
def Obligations.ResetsLeaveTheFusesAndNothingElse : Prop :=
  ∀ (s : State) (clean : State → Nat → Prop),
    (clean = fun t cause => t.mem = [] ∧ t.st = {} ∧ t.regs = [(glb 0x28, BitVec.ofNat 32 cause)] ∧ t.img.slots = s.img.slots ∧
      t.pending = s.pending ∧ t.retired = [] ∧ t.excluded = [] ∧ t.doms = [] ∧ t.ras.fatal = 0 ∧ t.pair.role = 0) →
    (s.boot.inReset = false → ∃ t, exec .sysResetAssert s = .next t ∧ clean t 0 ∧ t.boot.inReset = true) ∧
    (s.boot.inReset = true → ∀ seat, ∃ t, exec (.sysResetDeassert seat) s = .next t ∧ clean t (if s.boot.powered then 2 else 1) ∧
      t.boot.inReset = false ∧ t.boot.powered = true ∧ t.boot.seat = bnat seat ∧ t.now = s.now) ∧
    (∀ w : Word, bits w.toNat 31 16 = 0x9600 → bit w.toNat 0 = true → ∃ t, exec (.deviceReset w) s = .next t ∧ clean t 4 ∧
      t.boot.inReset = false ∧ t.boot.seat = s.boot.seat) ∧
    (∀ w : Word, bits w.toNat 31 16 ≠ 0x9600 ∨ bit w.toNat 0 = false → exec (.deviceReset w) s = .next s) ∧
    (s.boot.powered = true → ∃ t, exec .supplyLoss s = .next t ∧ clean t 0 ∧ t.boot.powered = false ∧ t.boot.inReset = true ∧
      t.ras.trip = false ∧ t.now = s.now) ∧
    (s.boot.perst = false → s.boot.inReset = false → ∃ t, exec .perstAssert s = .next t ∧ t.boot.perst = true ∧ t.pcie.up = false ∧
      t.pcie.numVfs = 0 ∧ (t.func 0).evq.en = false ∧ t.st = s.st ∧ t.now = s.now) ∧
    exec .perstDeassert s = .next { s with boot := { s.boot with perst := false } } ∧
    exec .trstAssert s = .next { s with boot := { s.boot with tapReset := true } }

/-- R423, R424, R428: a verified copy of the firmware starts the device, the higher version and the lower copy at a tie; with none
it is in RECOVERY; HBM training that does not end by 575 ms excludes the channels that are late. In maintenance a flash operation
starts at its aligned address, and what a read answers goes into FLASH_DATA. That an event runs the clock to its due cycle first
is the model's choice (assumption log entry 3). -/
def Obligations.StartUpTakesACopyAndFlashOperationsRun : Prop :=
  ∀ (s : State) (a b : FwCopy) (ack ok : Bool) (data : Bytes), 
    (s.boot.inReset = false → s.boot.stage = 0 →
      (a.bad ≠ 0 → b.bad ≠ 0 → ∃ t, exec (.firmwareVerify a b ack) s = .next t ∧ t.boot.stage = 15 ∧ t.st = s.st ∧ t.now = s.now) ∧
      (a.bad = 0 → b.bad = 0 → ∃ t, exec (.firmwareVerify a b ack) s = .next t ∧ t.boot.stage = 2 ∧
        t.boot.fwCopy = (if a.version < b.version then 1 else 0) ∧
        t.rd (glb 0x30) = BitVec.ofNat 32 (max a.version b.version) ∧ t.mem = s.mem) ∧
      (a.bad ≠ 0 → b.bad = 0 → ∃ t, exec (.firmwareVerify a b ack) s = .next t ∧ t.boot.stage = 2 ∧ t.boot.fwCopy = 1) ∧
      (a.bad = 0 → b.bad ≠ 0 → ∃ t, exec (.firmwareVerify a b ack) s = .next t ∧ t.boot.stage = 2 ∧ t.boot.fwCopy = 0)) ∧
    (s.boot.inReset = false → s.boot.stage = 2 → ∃ t, exec (.startupTimeout false) s = .next t ∧ t.boot.stage = 3 ∧
      t.boot.trained = true ∧ t.now = max s.now (s.boot.at_ + 575 * msCycles) ∧ t.mem = s.mem ∧
      ∀ n < 32, (s.chan n).live = false → n ∈ t.excluded) ∧
    (s.boot.flashOp = none → s.devMaint = true →
      (∃ t, exec .flashErase s = .next t ∧ t.boot.flashOp = some (1, s.rdn (glb 0x204) / 65536 * 65536) ∧ t.regs = s.regs ∧ t.mem = s.mem) ∧
      (∃ t, exec .flashProgram s = .next t ∧ t.boot.flashOp = some (2, s.rdn (glb 0x204) / 256 * 256) ∧ t.regs = s.regs ∧ t.mem = s.mem) ∧
      (∃ t, exec .flashRead s = .next t ∧ t.boot.flashOp = some (3, s.rdn (glb 0x204) / 256 * 256) ∧ t.regs = s.regs ∧ t.mem = s.mem)) ∧
    (s.boot.flashOp = none → s.devMaint = false → ∀ i : Instr, (i = .flashErase ∨ i = .flashProgram ∨ i = .flashRead) →
      exec i s = .next { s with boot := { s.boot with flashErr := true } }) ∧
    (∀ op at_, s.boot.flashOp = some (op, at_) → ∃ t, exec (.flashOpDone ok data) s = .next t ∧ t.boot.flashOp = none ∧
      t.boot.flashErr = (s.boot.flashErr || !ok) ∧ t.mem = s.mem ∧ (ok = false ∨ op ≠ 3 → t.regs = s.regs) ∧
      (ok = true → op = 3 → ∀ i < 64, t.rd (glb (0x300 + 4 * i)) = BitVec.ofNat 32 (u32 data (4 * i))))
/-- R440 to R443: a calibrated lane of this chapter acquires, or idles; a signal is recorded; the other polarity is tried after 1
ms; a lock at a free position of its own port makes the lane UP; one that does not lock in time fails, is reported, and is tried
again after 10 s; an UP lane that loses lock acquires again. That an event runs the clock to its due cycle first is the model's
choice (assumption log entry 3). -/
def Obligations.LanesComeUpFailAndRetry : Prop :=
  ∀ (s : State) (n l : Nat) (x : Lane), x = s.lane n →
    (x.calibrated = false → ownLane n = true → s.laneIdle n = false → exec (.laneCalibrationDone n true) s =
      .next (s.setLane n { x with calibrated := true, told := false, reason := 0 }.acquire)) ∧
    (x.calibrated = false → ∃ t, exec (.laneCalibrationDone n false) s = .next t ∧ (t.lane n).state = 4 ∧ (t.lane n).reason = 1 ∧
      (t.lane n).failedAt = s.now ∧ t.mem = s.mem) ∧
    (x.state = 2 → ownLane n = true → ∃ t, exec (.laneSignalDetect n) s = .next t ∧ (t.lane n).signal = true ∧ (t.lane n).cdr = true ∧
      (t.lane n).cdrAt = s.now ∧ (t.lane n).state = 2 ∧ t.regs = s.regs ∧ t.out = s.out) ∧
    (x.state = 2 → x.cdr = true → x.burst = none → s.fld (laneReg n 0) 29 28 = 0 → ∃ t, exec (.lanePolaritySwitch n) s = .next t ∧
      (t.lane n).trying = !x.trying ∧ t.now = max s.now (x.triedAt + 1500000) ∧ (t.lane n).triedAt = t.now ∧ t.out = s.out) ∧
    (x.state = 2 → ownLane n = true → x.cdr = true → l < (match s.portOfLane n with | some p => (s.st.portLanes p).length | none => 4) →
      s.positionTaken n l = false → ∃ t, exec (.laneAlignmentLock n l true) s = .next t ∧ (t.lane n).state = 3 ∧
      (t.lane n).logical = l ∧ (t.lane n).aligned = true ∧ (t.lane n).upAt = s.now ∧ (t.lane n).saved = true ∧ t.mem = s.mem) ∧
    (x.state = 2 → ownLane n = true → x.cdr = true → ∃ t, exec (.laneAlignmentLock n l false) s = .next t ∧ (t.lane n).state = 4 ∧
      (t.lane n).reason = 3) ∧
    (x.state = 2 → x.cdr = true → x.burst = none → ∃ t, exec (.laneAcquireTimeout n) s = .next t ∧ (t.lane n).state = 4 ∧
      (t.lane n).reason = 2 ∧ t.now = max s.now (x.cdrAt + 150000000) ∧ (t.lane n).failedAt = t.now) ∧
    (x.state = 4 → x.calibrated = true → exec (.laneRetryTimer n) s = .next ((s.runTo (x.failedAt + 15000000000)).setLane n x.acquire)) ∧
    (x.state = 4 → x.calibrated = false → ∃ t, exec (.laneRetryTimer n) s = .next t ∧ (t.lane n).state = 1) ∧
    (x.state = 3 → ∃ t, exec (.laneLossOfLock n) s = .next t ∧ t.lane n = x.acquire ∧
      t.rd (laneReg n 0x02C) = (s.inc (laneReg n 0x02C) 1).rd (laneReg n 0x02C) ∧ t.mem = s.mem ∧ t.now = s.now)

/-- R438, R439, R443 to R445: a Guavo lane that lags another by 300 ms fails; an idle lane whose idle ends bursts, acquires or
calibrates; a burst without a lock in 1 ms leads to full acquisition; the link partner and a register write set the taps within
their limits, and a write outside them changes no register; a training that never comes ends. That an event runs the clock to its
due cycle first is the model's choice (assumption log entry 3). -/
def Obligations.LanesIdleTrainAndTakeTaps : Prop :=
  ∀ (s : State) (n m : Nat) (x : Lane) (a b : Word), x = s.lane n →
    (32 ≤ n → n < 36 → 32 ≤ m → m < 36 → m ≠ n → (s.lane m).state = 3 → (∀ k, 32 ≤ k → k < 36 → k ≠ n → k ≠ m → (s.lane k).state ≠ 3) →
      x.state ≠ 3 → x.state ≠ 4 → ∃ t, exec (.guavoLaneTimeout n) s = .next t ∧ (t.lane n).state = 4 ∧ (t.lane n).reason = 4 ∧
      t.now = max s.now ((s.lane m).upAt + 450000000)) ∧
    (x.state = 0 → ownLane n = true → s.laneIdle n = false → exec (.laneIdleExit n) s = .next (s.setLane n (
      if x.calibrated then (if x.saved then { x with state := 2, burst := some (s.now + if n < 32 then 116 else 110) } else x.acquire)
      else { x with state := 1 }))) ∧
    (∀ e, x.state = 2 → x.burst = some e → exec (.laneIdleRelockTimeout n) s = .next ((s.runTo (e + 1500000)).setLane n
      { x.acquire with saved := false })) ∧
    (n < 32 → s.fld (laneReg n 0) 31 31 = 1 → x.trained = false → x.state = 2 →
      (tapsOk a.toNat (b.toNat % 256) = true → exec (.ltUpdate n a b) s = .next ((s.wr (laneReg n 0x008) a).wrn (laneReg n 0x00C)
        (b.toNat % 256))) ∧
      (tapsOk a.toNat (b.toNat % 256) = false → exec (.ltUpdate n a b) s = .next s) ∧
      (x.signal = true → ∃ t, exec (.ltTimeout n) s = .next t ∧ (t.lane n).trained = true ∧ t.now = max s.now (x.signalAt + 750000000) ∧
        (t.lane n).state = 2 ∧ t.regs = s.regs)) ∧
    (ownLane n = true →
      (tapsOk a.toNat (s.rdn (laneReg n 0x00C)) = true → ∃ t, exec (.txFfeWrite n false a) s = .next t ∧ t.rd (laneReg n 0x008) = a ∧
        (∀ k, k ≠ laneReg n 0x008 → t.rd k = s.rd k) ∧ t.lanes = s.lanes ∧ t.out = s.out) ∧
      (tapsOk a.toNat (s.rdn (laneReg n 0x00C)) = false → ∃ t, exec (.txFfeWrite n false a) s = .next t ∧ t.regs = s.regs ∧
        t.lanes = s.lanes ∧ t.mem = s.mem))

/-- R437, R446 to R448: outside test mode a loopback or a pattern is refused and changes no register; LANE_CFG and PATTERN take their
fields else; a margin measurement runs in any state but FAILED and answers its three margins. -/
def Obligations.LanesLoopPatternAndMeasureMargins : Prop :=
  ∀ (s : State) (n left right vert : Nat) (w : Word), ownLane n = true →
    (loopOf w.toNat = 0 → bit w.toNat 27 = false → ∃ t, exec (.laneCfgWrite n w) s = .next t ∧ t.rdn (laneReg n 0) =
      bits w.toNat 31 27 * 2 ^ 27 + bits w.toNat 20 16 * 2 ^ 16 + w.toNat % 16 ∧ (∀ k, k ≠ laneReg n 0 → t.rd k = s.rd k) ∧
      (∀ k, k ≠ n → t.lane k = s.lane k) ∧ t.mem = s.mem) ∧
    (loopOf w.toNat ≠ 0 → loopOf w.toNat ≠ loopOf (s.rdn (laneReg n 0)) → s.laneTest n = false →
      exec (.laneCfgWrite n w) s = .next (s.ev 0x0E05 (laneSrc n) (w.toNat % 16))) ∧
    (bits w.toNat 27 24 < 7 → bits w.toNat 19 16 < 7 →
      (bits w.toNat 31 30 ≠ 0 → s.laneTest n = false → exec (.patternWrite n w) s =
        .next (s.ev 0x0E05 (laneSrc n) (bits w.toNat 31 31 * 16 + bits w.toNat 30 30 * 32))) ∧
      (bit w.toNat 30 = false → bits w.toNat 31 30 = 0 ∨ s.laneTest n = true → ∃ t, exec (.patternWrite n w) s = .next t ∧
        t.rdn (laneReg n 0x010) = bits w.toNat 31 30 * 2 ^ 30 + bits w.toNat 27 24 * 2 ^ 24 + bits w.toNat 19 16 * 2 ^ 16 ∧
        (∀ k, k ≠ laneReg n 0x010 → t.rd k = s.rd k) ∧ t.mem = s.mem)) ∧
    (7 ≤ bits w.toNat 27 24 → exec (.patternWrite n w) s = .next s) ∧
    ((s.lane n).state ≠ 4 → (s.lane n).measuring = false → exec (.marginStart n) s =
      .next (s.setLane n { s.lane n with measuring := true })) ∧
    ((s.lane n).measuring = true → ∃ t, exec (.marginComplete n left right vert) s = .next t ∧ (t.lane n).measuring = false ∧
      t.rdn (laneReg n 0x024) = 2 ^ 30 + left % 256 * 65536 + right % 256 * 256 + vert % 256 ∧
      (∀ k, k ≠ laneReg n 0x024 → t.rd k = s.rd k) ∧ t.mem = s.mem)

/-- R430, R431, R455, R456: a domain that carries work refuses to go down; a set point follows the last one by at most 10 mV and a
second later, and stands where the regulator acknowledges it; a rail beyond 5% is told, and one beyond 8% for more than 64 cycles
is fatal with cause 4. That an event runs the clock to its due cycle first is the model's choice (assumption log entry 3). -/
def Obligations.PowerRequestsAndSupplyExcursions : Prop :=
  ∀ (s : State) (w : Word) (mv n : Nat),
    (s.rdn (glb 0xA0) = 0 → w.toNat = 2 ^ 24 → s.st.domains ≠ [] → ∃ t, exec (.pwrReqWrite w) s = .next t ∧ t.rdn (glb 0xA0) = 0 ∧
      (∀ k, k ≠ glb 0xA0 → t.rd k = s.rd k) ∧ t.mem = s.mem) ∧
    (s.rdn (glb 0xA0) = 0 → (∀ b < 26, bit w.toNat b = true → s.powerWork b = none) → s.st.domains ≠ [] →
      exec (.pwrReqWrite w) s = .next (s.wrn (glb 0xA0) (w.toNat % 2 ^ 26))) ∧
    (s.boot.avsAt = some n → mv % 5 = 0 → 650 ≤ mv → mv ≤ 850 → mv ≤ s.fld (glb 0xB0) 26 16 + 10 → s.fld (glb 0xB0) 26 16 ≤ mv + 10 →
      (∃ t, exec (.avsAdjust mv true) s = .next t ∧ t.fld (glb 0xB0) 26 16 = mv ∧ t.fld (glb 0xB0) 31 31 = 0 ∧
        t.now = max s.now (n + 1500000000) ∧ t.boot.avsAt = some t.now ∧ t.mem = s.mem) ∧
      (∃ t, exec (.avsAdjust mv false) s = .next t ∧ t.fld (glb 0xB0) 26 16 = s.fld (glb 0xB0) 26 16 ∧ t.fld (glb 0xB0) 31 31 = 1 ∧
        t.now = max s.now (n + 1500000000) ∧ t.mem = s.mem)) ∧
    (beyond (s.fld (glb 0xB0) 26 16) mv 5 = false → ∀ long, exec (.supplyExcursion 0 mv long) s = .next (s.setFld (glb 0xB4) 31 16 mv)) ∧
    (beyond (s.fld (glb 0xB0) 26 16) mv 5 = true → s.boot.warnCore = none → ∃ t, exec (.supplyExcursion 0 mv false) s = .next t ∧
      t.boot.warnCore = some s.now ∧ t.ras.fatal = s.ras.fatal ∧ t.now = s.now ∧ t.mem = s.mem) ∧
    (beyond 800 mv 5 = true → beyond 800 mv 8 = true → s.ras.fatal = 0 → ∃ t, exec (.supplyExcursion 1 mv true) s = .next t ∧
      t.ras.fatal = 4 ∧ t.pair.fatal = true)
end

