-- ==== Sys2Proof/Laws/Tab.lean ====
section
/-! SUPPORT. Tab.lean: reading a table after a change, and the rising order of its keys. -/

namespace Sys2Proof.Machine

variable {α : Type}

@[simp] theorem Tab.find_nil (k : Nat) : Tab.find ([] : Tab α) k = none := rfl

theorem Tab.find_set_same (t : Tab α) (k : Nat) (v : α) : Tab.find (Tab.set t k v) k = some v := by
  induction t with
  | nil => simp [Tab.set, Tab.find]
  | cons e r ih =>
    obtain ⟨j, w⟩ := e
    simp only [Tab.set]
    split
    · simp [Tab.find]
    · split
      · simp [Tab.find]
      · rename_i h _
        simp [Tab.find, h, ih]

theorem Tab.find_set_other (t : Tab α) {k j : Nat} (v : α) (h : j ≠ k) : Tab.find (Tab.set t k v) j = Tab.find t j := by
  induction t with
  | nil => simp [Tab.set, Tab.find, h]
  | cons e r ih =>
    obtain ⟨i, w⟩ := e
    simp only [Tab.set]
    split
    · rename_i hk
      subst hk
      simp [Tab.find, h]
    · split
      · simp [Tab.find, h]
      · simp [Tab.find, ih]

theorem Tab.get_set_same [Inhabited α] (t : Tab α) (k : Nat) (v : α) : Tab.get (Tab.set t k v) k = v := by
  simp [Tab.get, Tab.find_set_same]

theorem Tab.get_set_other [Inhabited α] (t : Tab α) {k j : Nat} (v : α) (h : j ≠ k) : Tab.get (Tab.set t k v) j = Tab.get t j := by
  simp [Tab.get, Tab.find_set_other t v h]

theorem Tab.get_upd_same [Inhabited α] (t : Tab α) (k : Nat) (f : α → α) : Tab.get (Tab.upd t k f) k = f (Tab.get t k) := by
  simp [Tab.upd, Tab.get_set_same]

theorem Tab.get_upd_other [Inhabited α] (t : Tab α) {k j : Nat} (f : α → α) (h : j ≠ k) : Tab.get (Tab.upd t k f) j = Tab.get t j := by
  simp [Tab.upd, Tab.get_set_other t _ h]

theorem Tab.find_del_other (t : Tab α) {k j : Nat} (h : j ≠ k) : Tab.find (Tab.del t k) j = Tab.find t j := by
  induction t with
  | nil => rfl
  | cons e r ih =>
    obtain ⟨i, w⟩ := e
    by_cases hi : i = k
    · subst hi
      have : Tab.del ((i, w) :: r) i = Tab.del r i := by simp [Tab.del]
      rw [this, ih]
      simp [Tab.find, h]
    · have : Tab.del ((i, w) :: r) k = (i, w) :: Tab.del r k := by simp [Tab.del, hi]
      rw [this]
      simp [Tab.find, ih]

theorem Tab.find_del_same (t : Tab α) (k : Nat) : Tab.find (Tab.del t k) k = none := by
  induction t with
  | nil => rfl
  | cons e r ih =>
    obtain ⟨i, w⟩ := e
    by_cases hi : i = k
    · subst hi
      have : Tab.del ((i, w) :: r) i = Tab.del r i := by simp [Tab.del]
      rw [this, ih]
    · have : Tab.del ((i, w) :: r) k = (i, w) :: Tab.del r k := by simp [Tab.del, hi]
      rw [this]
      simp [Tab.find, ih, Ne.symm hi]

/-! ### Order of keys -/

/-- The same order, as a statement about pairs of entries. -/
theorem Tab.sorted_iff (t : Tab α) : Tab.sorted t = true ↔ t.Pairwise (fun a b => a.1 < b.1) := by
  induction t with
  | nil => simp [Tab.sorted]
  | cons a r ih =>
    cases r with
    | nil => simp [Tab.sorted]
    | cons b r' =>
      simp only [Tab.sorted, Bool.and_eq_true, decide_eq_true_eq, ih, List.pairwise_cons]
      constructor
      · rintro ⟨hab, hb, hr⟩
        refine ⟨?_, hb, hr⟩
        intro x hx
        rcases List.mem_cons.1 hx with rfl | hx
        · exact hab
        · exact Nat.lt_trans hab (hb x hx)
      · rintro ⟨ha, hb, hr⟩
        exact ⟨ha b (by simp), hb, hr⟩

theorem Tab.sorted_filter (t : Tab α) (p : Nat × α → Bool) (h : Tab.sorted t = true) : Tab.sorted (t.filter p) = true := by
  rw [Tab.sorted_iff] at *
  exact List.Pairwise.filter p h

theorem Tab.sorted_del (t : Tab α) (k : Nat) (h : Tab.sorted t = true) : Tab.sorted (Tab.del t k) = true := Tab.sorted_filter t _ h

theorem Tab.mem_set (t : Tab α) (k : Nat) (v : α) (e : Nat × α) (h : e ∈ Tab.set t k v) : e = (k, v) ∨ e ∈ t := by
  induction t with
  | nil => simpa [Tab.set] using h
  | cons a r ih =>
    obtain ⟨i, w⟩ := a
    simp only [Tab.set] at h
    split at h
    · rcases List.mem_cons.1 h with h | h
      · exact Or.inl h
      · exact Or.inr (List.mem_cons_of_mem _ h)
    · split at h
      · rcases List.mem_cons.1 h with h | h
        · exact Or.inl h
        · exact Or.inr h
      · rcases List.mem_cons.1 h with h | h
        · exact Or.inr (by simp [h])
        · exact (ih h).imp id (List.mem_cons_of_mem _)

theorem Tab.sorted_set (t : Tab α) (k : Nat) (v : α) (h : Tab.sorted t = true) : Tab.sorted (Tab.set t k v) = true := by
  rw [Tab.sorted_iff] at *
  induction t with
  | nil => simp [Tab.set]
  | cons a r ih =>
    obtain ⟨i, w⟩ := a
    rw [List.pairwise_cons] at h
    simp only [Tab.set]
    split
    · rename_i hk
      subst hk
      exact List.pairwise_cons.2 ⟨h.1, h.2⟩
    · split
      · rename_i hlt
        refine List.pairwise_cons.2 ⟨?_, List.pairwise_cons.2 h⟩
        intro x hx
        rcases List.mem_cons.1 hx with rfl | hx
        · exact hlt
        · exact Nat.lt_trans hlt (h.1 x hx)
      · rename_i hne hnlt
        refine List.pairwise_cons.2 ⟨?_, ih h.2⟩
        intro x hx
        rcases Tab.mem_set r k v x hx with rfl | hx
        · simp only
          omega
        · exact h.1 x hx

end Sys2Proof.Machine
end

