-- ==== Sys2Proof/Laws/Memory.lean ====
section
/-! SUPPORT. Memory.lean: reading device memory after a write, and the canonical form, which every operation on memory
keeps. -/

namespace Sys2Proof.Machine

theorem Mem.byte_put_same (m : Mem) (a : Nat) (v : Byte) : Mem.byte (Mem.put m a v) a = v := by
  unfold Mem.put
  split
  · rename_i h
    simp [Mem.byte, Tab.find_del_same, h]
  · simp [Mem.byte, Tab.find_set_same]

theorem Mem.byte_put_other (m : Mem) {a b : Nat} (v : Byte) (h : b ≠ a) : Mem.byte (Mem.put m a v) b = Mem.byte m b := by
  unfold Mem.put
  split
  · simp [Mem.byte, Tab.find_del_other m h]
  · simp [Mem.byte, Tab.find_set_other m v h]

/-- A write of a byte string changes no byte outside it. -/
theorem Mem.byte_puts_outside (b : Bytes) : ∀ (m : Mem) (a i : Nat), i < a ∨ a + b.length ≤ i → Mem.byte (Mem.puts m a b) i = Mem.byte m i := by
  induction b with
  | nil => intro m a i _; rfl
  | cons v r ih =>
    intro m a i h
    simp only [List.length_cons] at h
    rw [Mem.puts, ih _ _ _ (by omega), Mem.byte_put_other _ _ (by omega)]

/-- A written byte reads back. -/
theorem Mem.byte_puts_inside (b : Bytes) : ∀ (m : Mem) (a i : Nat) (h : i < b.length), Mem.byte (Mem.puts m a b) (a + i) = b[i] := by
  induction b with
  | nil => intro m a i h; simp at h
  | cons v r ih =>
    intro m a i h
    rw [Mem.puts]
    cases i with
    | zero => simp [Mem.byte_puts_outside r _ _ _ (Or.inl (Nat.lt_succ_self a)), Mem.byte_put_same]
    | succ j =>
      have : a + (j + 1) = a + 1 + j := by omega
      rw [this, ih _ _ j (by simpa using h)]
      simp

/-- Only enabled bytes of a write change memory. -/
theorem Mem.byte_putEnabled_outside (d : List (Option Byte)) : ∀ (m : Mem) (a i : Nat), i < a ∨ a + d.length ≤ i →
    Mem.byte (Mem.putEnabled m a d) i = Mem.byte m i := by
  induction d with
  | nil => intro m a i _; rfl
  | cons v r ih =>
    intro m a i h
    simp only [List.length_cons] at h
    cases v with
    | none => rw [Mem.putEnabled, ih _ _ _ (by omega)]
    | some v => rw [Mem.putEnabled, ih _ _ _ (by omega), Mem.byte_put_other _ _ (by omega)]

/-! ### The canonical form -/

theorem Mem.wf_iff (m : Mem) : Mem.wf m = true ↔ Tab.sorted m = true ∧ ∀ e ∈ m, e.2 ≠ emptyByte := by
  simp [Mem.wf, List.all_eq_true]

theorem Mem.wf_nil : Mem.wf [] = true := rfl

theorem Mem.wf_put (m : Mem) (a : Nat) (v : Byte) (h : Mem.wf m = true) : Mem.wf (Mem.put m a v) = true := by
  rw [Mem.wf_iff] at *
  unfold Mem.put
  split
  · exact ⟨Tab.sorted_del m a h.1, fun e he => h.2 e (List.mem_filter.1 he).1⟩
  · rename_i hv
    refine ⟨Tab.sorted_set m a v h.1, fun e he => ?_⟩
    rcases Tab.mem_set m a v e he with rfl | he
    · exact hv
    · exact h.2 e he

theorem Mem.wf_puts (b : Bytes) : ∀ (m : Mem) (a : Nat), Mem.wf m = true → Mem.wf (Mem.puts m a b) = true := by
  induction b with
  | nil => intro m a h; exact h
  | cons v r ih => intro m a h; exact ih _ _ (Mem.wf_put m a v h)

theorem Mem.wf_putEnabled (d : List (Option Byte)) : ∀ (m : Mem) (a : Nat), Mem.wf m = true → Mem.wf (Mem.putEnabled m a d) = true := by
  induction d with
  | nil => intro m a h; exact h
  | cons v r ih =>
    intro m a h
    cases v with
    | none => exact ih _ _ h
    | some v => exact ih _ _ (Mem.wf_put m a v h)

end Sys2Proof.Machine
end

