-- ==== Sys2Proof/Laws/Ops.lean ====
section
/-! SUPPORT. Ops.lean: what the shared operations do: reading a register after a write, the clock, events, completions and
checks. -/

namespace Sys2Proof.Machine

/-! ### Registers -/

@[simp] theorem State.rd_wr_same (s : State) (a : Nat) (v : Word) : (s.wr a v).rd a = v := by
  simp [State.rd, State.wr, Tab.find_set_same]

theorem State.rd_wr_other (s : State) {a b : Nat} (v : Word) (h : b ≠ a) : (s.wr a v).rd b = s.rd b := by
  simp [State.rd, State.wr, Tab.find_set_other s.regs v h]

theorem State.rdn_wrn_same (s : State) (a v : Nat) : (s.wrn a v).rdn a = v % 2 ^ 32 := by
  simp [State.rdn, State.wrn]

theorem State.rdn_wrn_other (s : State) {a b : Nat} (v : Nat) (h : b ≠ a) : (s.wrn a v).rdn b = s.rdn b := by
  simp [State.rdn, State.wrn, State.rd_wr_other s _ h]

theorem State.rdn_inc_same (s : State) (a n : Nat) : (s.inc a n).rdn a = (s.rdn a + n) % 2 ^ 32 := by
  simp [State.inc, State.rdn_wrn_same]

theorem State.rdn_inc_other (s : State) {a b : Nat} (n : Nat) (h : b ≠ a) : (s.inc a n).rdn b = s.rdn b := by
  simp [State.inc, State.rdn_wrn_other s _ h]

/-- A register reads as the table of registers says, whatever else changes. -/
theorem State.rd_congr {s t : State} (h : t.regs = s.regs) (a : Nat) : t.rd a = s.rd a := by simp [State.rd, h]
theorem State.rdn_congr {s t : State} (h : t.regs = s.regs) (a : Nat) : t.rdn a = s.rdn a := by simp [State.rdn, State.rd, h]

/-! ### The clock -/

theorem State.runTo_now (s : State) (c : Nat) : (s.runTo c).now = max s.now c := by
  simp only [State.runTo, State.cycles]
  omega

theorem State.runTo_past (s : State) {c : Nat} (h : c ≤ s.now) : (s.runTo c).now = s.now := by
  rw [State.runTo_now]
  omega

theorem phcOf_ns (n f : Nat) : (phcOf n f).ns < 1000000000 := by
  simp only [phcOf]
  omega

theorem phcOf_sec (n f : Nat) : (phcOf n f).sec < 2 ^ 48 := by
  simp only [phcOf]
  omega

/-- The PHC's nanoseconds stay below one second however far the clock runs. -/
theorem State.cycles_ns (s : State) (k : Nat) : (s.cycles k).time.phc.ns < 1000000000 := phcOf_ns _ _
theorem State.cycles_sec (s : State) (k : Nat) : (s.cycles k).time.phc.sec < 2 ^ 48 := phcOf_sec _ _

/-- Time passing changes no register. -/
theorem State.cycles_rd (s : State) (k a : Nat) : (s.cycles k).rd a = s.rd a := by
  unfold State.rd
  rw [show (s.cycles k).regs = s.regs from rfl]
theorem State.cycles_addend (s : State) (k : Nat) : (s.cycles k).addend = s.addend := by
  unfold State.addend State.rdn
  rw [State.cycles_rd]
theorem State.cycles_phc (s : State) (k : Nat) : (s.cycles k).time.phc = phcAdvance s.time.phc s.addend k := by
  unfold State.cycles
  rfl

/-! ### Events, completions and checks: only queues and outputs change -/

theorem State.limitedBy_cases (s : State) (key period k : Nat) (raise : Nat → State → State) :
    (∃ n l, s.limitedBy key period k raise = raise n { s with limits := l }) ∨
    (∃ l, s.limitedBy key period k raise = { s with limits := l }) := by
  simp only [State.limitedBy]
  split
  · exact Or.inl ⟨_, _, rfl⟩
  · split
    · exact Or.inl ⟨_, _, rfl⟩
    · exact Or.inr ⟨_, rfl⟩

theorem State.irq_cases (s : State) (f v : Nat) (on : Bool) :
    s.irq f v on = s ∨ ∃ l o, s.irq f v on = { s with funcs := l, out := o } := by
  unfold State.irq
  simp only
  split
  · exact Or.inr ⟨_, _, rfl⟩
  · exact Or.inl rfl

theorem State.hostWr_cases (s : State) (f a : Nat) (b : Bytes) : s.hostWr f a b = s ∨ s.hostWr f a b = s.emit (.hostWrite f a b) := by
  unfold State.hostWr
  split
  · exact Or.inl rfl
  · exact Or.inr rfl

/-- A completion changes queues and outputs only. -/
theorem State.complete_cases (s : State) (o : Origin) (st : Status) (i d : Nat) :
    ∃ l u, s.complete o st i d = { s with funcs := l, out := u } := by
  unfold State.complete
  simp only
  split
  · exact ⟨_, _, rfl⟩
  · exact ⟨_, _, rfl⟩

/-- A checked command completes with the status of its first check that fails, or goes on. -/
theorem State.checked_cases (s : State) (o : Origin) (l : List (Bool × Status)) (k : State → State) :
    (∃ st, firstFail l = some st ∧ s.checked o l k = s.complete o st 0 0) ∨ (firstFail l = none ∧ s.checked o l k = k s) := by
  unfold State.checked
  cases h : firstFail l with
  | some st => exact Or.inl ⟨st, rfl, rfl⟩
  | none => exact Or.inr ⟨rfl, rfl⟩

/-- On a standby a Weir-applied register keeps its word. -/
theorem State.weirWrite_standby (s : State) (f a : Nat) (k : State → State) (h : s.standby = true) :
    s.weirWrite f a k = s.standbyWrite f a := by
  simp [State.weirWrite, h]

theorem State.weirWrite_active (s : State) (f a : Nat) (k : State → State) (h : s.standby = false) : s.weirWrite f a k = k s := by
  simp [State.weirWrite, h]

end Sys2Proof.Machine
end

