-- ==== Sys2Proof/Laws/Keeps.lean ====
section
/-! SUPPORT. Keeps.lean: the relation that holds between a state and what any operation makes of it: nothing outside the
operation's scope changes (Frame), memory stays canonical, a usable key slot remains, the PHC stays in range, the queue is
untouched and the clock does not run back. The files Keeps01.lean and on say it once of every operation, so that no proof
about a step unfolds one. -/

namespace Sys2Proof.Machine

structure Keeps (sc : Scope) (s t : State) : Prop where
  frame : Frame sc s t
  wf : Mem.wf s.mem = true → Mem.wf t.mem = true
  key : s.img.keyUsable → t.img.keyUsable
  range : s.time.inRange → t.time.inRange
  pending : t.pending = s.pending
  now : s.now ≤ t.now

variable {sc : Scope}

theorem Held.refl {α : Type} {b : Bool} (x : α) : Held b x x := fun _ => rfl
theorem Held.write {α : Type} {b : Bool} {x y : α} (h : b = true) : Held b x y := fun e => by rw [h] at e; cases e
theorem Held.trans {α : Type} {b : Bool} {x y z : α} (h : Held b x y) (k : Held b y z) : Held b x z := fun e => (k e).trans
    (h e)

/-- The time unit from one state to the next. -/
structure TimeStep (sc : Scope) (a b : TimeUnit) : Prop where
  range : a.inRange → b.inRange
  clk : Held sc.clk a.phc b.phc
  rest : Held sc.time a { b with phc := a.phc }
structure ImgStep (sc : Scope) (a b : ImageUnit) : Prop where
  usable : a.keyUsable → b.keyUsable
  img : Held sc.img a b
  slots : Held sc.slots a.slots b.slots
structure UnitStep (sc : Scope) (a b c d : List Nat) : Prop where
  units : Held sc.units (a, c) (b, d)
  stays : sc.reset = false → (∀ u ∈ a, u ∈ b) ∧ (∀ u ∈ c, u ∈ d)
structure MemStep (sc : Scope) (a b : Mem) : Prop where
  wf : Mem.wf a = true → Mem.wf b = true
  mem : Held sc.mem a b

theorem MemStep.refl (a : Mem) : MemStep sc a a := ⟨id, Held.refl _⟩
theorem MemStep.write {a b : Mem} (hmem : sc.mem = true) (h : Mem.wf a = true → Mem.wf b = true) : MemStep sc a b :=
  ⟨h, Held.write hmem⟩
theorem UnitStep.refl (a b : List Nat) : UnitStep sc a a b b := ⟨Held.refl _, fun _ => ⟨fun _ m => m, fun _ m => m⟩⟩
theorem UnitStep.write {a b c d : List Nat} (hunits : sc.units = true) (hreset : sc.reset = true) : UnitStep sc a b c d :=
  ⟨Held.write hunits, fun e => by rw [hreset] at e; cases e⟩
theorem UnitStep.grow {a b c d : List Nat} (hunits : sc.units = true) (h : ∀ u ∈ a, u ∈ b) (k : ∀ u ∈ c, u ∈ d) : UnitStep
    sc a b c d :=
  ⟨Held.write hunits, fun _ => ⟨h, k⟩⟩
theorem ImgStep.refl (a : ImageUnit) : ImgStep sc a a := ⟨id, Held.refl _, Held.refl _⟩
theorem ImageUnit.keyUsable_of {x y : ImageUnit} (h : y.slots = x.slots) (k : x.keyUsable) : y.keyUsable := by
  unfold ImageUnit.slots at h
  injection h with hp h
  injection h with hr _
  unfold ImageUnit.keyUsable at *
  rw [hp, hr]
  exact k
theorem ImgStep.of_slots {x y : ImageUnit} (himg : sc.img = true) (h : y.slots = x.slots) : ImgStep sc x y :=
  ⟨ImageUnit.keyUsable_of h, Held.write himg, fun _ => h⟩
theorem TimeUnit.inRange_of {x y : TimeUnit} (hp : y.phc = x.phc) (ho : y.ops = x.ops) (h : x.inRange) : y.inRange := by
  unfold TimeUnit.inRange at *
  rw [hp, ho]
  exact h
theorem TimeStep.refl (a : TimeUnit) : TimeStep sc a a := ⟨id, Held.refl _, fun _ => rfl⟩
/-- A step of the time unit that leaves the PHC and the operations that wait. -/
theorem TimeStep.of {x y : TimeUnit} (htime : sc.time = true) (hp : y.phc = x.phc) (ho : y.ops = x.ops) : TimeStep sc x y :=
  ⟨TimeUnit.inRange_of hp ho, fun _ => hp, Held.write htime⟩
/-- A step of the time unit that leaves the PHC. -/
theorem TimeStep.of_ops {x y : TimeUnit} (htime : sc.time = true) (hp : y.phc = x.phc) (h : x.inRange → y.inRange) :
    TimeStep sc x y := ⟨h, fun _ => hp, Held.write htime⟩

theorem Keeps.refl (s : State) : Keeps sc s s := by
  refine ⟨⟨Held.refl _, fun _ => rfl, Held.refl _, Held.refl _, Held.refl _, fun _ => ⟨fun _ m => m, fun _ m => m⟩,
      Held.refl _, Held.refl _, Held.refl _, Held.refl _, Held.refl _, Held.refl _, Held.refl _, Held.refl _, Held.refl _,
      Held.refl _, Held.refl _, Held.refl _, Held.refl _, Held.refl _, Held.refl _⟩,
    id, id, id, rfl, Nat.le_refl _⟩

theorem TimeStep.rest_trans {a b c : TimeUnit} (h : Held sc.time a { b with phc := a.phc })
    (k : Held sc.time b { c with phc := b.phc }) : Held sc.time a { c with phc := a.phc } := by
  intro e
  have h' := h e
  have k' := k e
  rw [← h', ← k']

theorem Keeps.trans {a b c : State} (h : Keeps sc a b) (k : Keeps sc b c) : Keeps sc a c := by
  have f := h.frame
  have g := k.frame
  exact ⟨⟨f.clk.trans g.clk, TimeStep.rest_trans f.time g.time, f.img.trans g.img, f.slots.trans g.slots, f.units.trans
      g.units,
    fun e => ⟨fun u m => (g.reset e).1 u ((f.reset e).1 u m), fun u m => (g.reset e).2 u ((f.reset e).2 u m)⟩, f.mem.trans
        g.mem,
    f.regs.trans g.regs, f.out.trans g.out, f.weir.trans g.weir, f.host.trans g.host, f.st.trans g.st, f.courses.trans
        g.courses, f.coders.trans g.coders, f.emit.trans g.emit, f.memsys.trans g.memsys, f.dma.trans g.dma, f.pair.trans
        g.pair, f.lanes.trans g.lanes, f.boot.trans g.boot, f.ras.trans g.ras⟩,
    k.wf ∘ h.wf, k.key ∘ h.key, k.range ∘ h.range, k.pending.trans h.pending, Nat.le_trans h.now k.now⟩

/-- The same of an outcome's next state. -/
def KeepsO (sc : Scope) (s : State) : Host.Outcome State Fault Refusal → Prop
  | .next t => Keeps sc s t
  | _ => True
theorem keepsO_next {s0 t : State} (h : Keeps sc s0 t) : KeepsO sc s0 (.next t) := h

/-- A record update: what it does to each part is to be shown. -/
theorem keeps_upd {s0 s : State} {free_ : Nat} {out_ : List Output} {limits_ : Tab Limit} {regs_ : Tab Word} {eff_ : Tab
    Word} {latch_ : Tab Word} {time_ : TimeUnit} {doms_ : Tab Domain} {img_ : ImageUnit} {st_ : Structure} {funcs_ : Tab
    Func} {waiting_ : List Waiting} {resets_ : List ResetRun} {pcie_ : Pcie} {devMaint_ : Bool} {devMaintCmd_ : Bool}
    {retired_ : List Nat} {excluded_ : List Nat} {courses_ : Tab CourseRun} {stages_ : Tab StageRun} {bufs_ : Tab Buffer}
    {inl_ : Inlet} {streams_ : Tab FountStream} {founts_ : Tab FountUnit} {layers_ : Tab Layer} {postLut_ : Tab Lut}
    {prots_ : Tab Prot} {hostIns_ : Tab HostIn} {heads_ : Tab CourseHw} {mem_ : List Host.Cell} {bces_ : Tab Bce} {checks_
    : Tab CheckUnit} {placed_ : Tab SegRec} {degraded_ : Tab Degraded} {tarns_ : Tab Tarn} {spills_ : Tab SpillUnit}
    {rends_ : Tab Rend} {keys_ : Tab CourseKey} {ras_ : Ras} {selfRefresh_ : List Nat} {chans_ : Tab Chan} {fabric_ :
    Fabric} {sluice_ : Tab SluiceChan} {sluiceOrder_ : Nat} {lanes_ : Tab Lane} {boot_ : Boot} {rings_ : Tab Ring} {chunks_
    : Tab HostRing} {outf_ : Outflow} {pair_ : Pair} (h : Keeps sc s0 s) (ht : TimeStep sc s.time time_) (hi : ImgStep sc
    s.img img_)
    (hu : UnitStep sc s.retired retired_ s.excluded excluded_) (hm : MemStep sc s.mem mem_) (hregs : Held sc.regs (s.regs,
        s.eff, s.latch) (regs_, eff_, latch_)) (hout : Held sc.out (s.free, s.out, s.limits, s.funcs) (free_, out_,
        limits_, funcs_)) (hweir : Held sc.weir s.doms doms_) (hhost : Held sc.host (s.waiting, s.resets, s.pcie,
        s.devMaint, s.devMaintCmd) (waiting_, resets_, pcie_, devMaint_, devMaintCmd_)) (hst : Held sc.st s.st st_)
        (hcourses : Held sc.courses (s.courses, s.stages, s.bufs, s.inl, s.streams, s.founts, s.layers, s.postLut, s.prots,
        s.hostIns, s.heads) (courses_, stages_, bufs_, inl_, streams_, founts_, layers_, postLut_, prots_, hostIns_,
        heads_)) (hcoders : Held sc.coders (s.placed, s.degraded, s.tarns, s.spills, s.rends, s.keys) (placed_, degraded_,
        tarns_, spills_, rends_, keys_)) (hemit : Held sc.emit (s.rings, s.chunks, s.outf) (rings_, chunks_, outf_))
        (hmemsys : Held sc.memsys (s.chans, s.fabric, s.selfRefresh) (chans_, fabric_, selfRefresh_)) (hdma : Held sc.dma
        (s.sluice, s.sluiceOrder, s.bces, s.checks) (sluice_, sluiceOrder_, bces_, checks_)) (hpair : Held sc.pair s.pair
        pair_) (hlanes : Held sc.lanes s.lanes lanes_) (hboot : Held sc.boot s.boot boot_) (hras : Held sc.ras s.ras ras_) :
    Keeps sc s0 (State.mk s.pending s.now free_ out_ limits_ regs_ eff_ latch_ time_ doms_ img_ st_ funcs_ waiting_ resets_
        pcie_ devMaint_ devMaintCmd_ retired_ excluded_ courses_ stages_ bufs_ inl_ streams_ founts_ layers_ postLut_
        prots_ hostIns_ heads_ mem_ bces_ checks_ placed_ degraded_ tarns_ spills_ rends_ keys_ ras_ selfRefresh_ chans_
        fabric_ sluice_ sluiceOrder_ lanes_ boot_ rings_ chunks_ outf_ pair_) :=
  h.trans ⟨⟨fun e => by rw [← ht.clk e], ht.rest, hi.img, hi.slots, hu.units, hu.stays, hm.mem, hregs, hout, hweir, hhost,
      hst, hcourses, hcoders, hemit, hmemsys, hdma, hpair, hlanes, hboot, hras⟩,
    hm.wf, hi.usable, ht.range, rfl, Nat.le_refl _⟩

/-! ### Updates of one part -/

theorem keeps_put_regs {s0 s : State} {regs_ : Tab Word} {eff_ : Tab Word} {latch_ : Tab Word} (hw : sc.regs = true) (h :
    Keeps sc s0 s) : Keeps sc s0 (State.mk s.pending s.now s.free s.out s.limits regs_ eff_ latch_ s.time s.doms s.img s.st
    s.funcs s.waiting s.resets s.pcie s.devMaint s.devMaintCmd s.retired s.excluded s.courses s.stages s.bufs s.inl
    s.streams s.founts s.layers s.postLut s.prots s.hostIns s.heads s.mem s.bces s.checks s.placed s.degraded s.tarns
    s.spills s.rends s.keys s.ras s.selfRefresh s.chans s.fabric s.sluice s.sluiceOrder s.lanes s.boot s.rings s.chunks
    s.outf s.pair) :=
  keeps_upd h (TimeStep.refl _) (ImgStep.refl _) (UnitStep.refl _ _) (MemStep.refl _) (Held.write hw) (Held.refl _)
      (Held.refl _) (Held.refl _) (Held.refl _) (Held.refl _) (Held.refl _) (Held.refl _) (Held.refl _) (Held.refl _)
      (Held.refl _) (Held.refl _) (Held.refl _) (Held.refl _)
theorem keeps_put_out {s0 s : State} {free_ : Nat} {out_ : List Output} {limits_ : Tab Limit} {funcs_ : Tab Func} (hw :
    sc.out = true) (h : Keeps sc s0 s) : Keeps sc s0 (State.mk s.pending s.now free_ out_ limits_ s.regs s.eff s.latch
    s.time s.doms s.img s.st funcs_ s.waiting s.resets s.pcie s.devMaint s.devMaintCmd s.retired s.excluded s.courses
    s.stages s.bufs s.inl s.streams s.founts s.layers s.postLut s.prots s.hostIns s.heads s.mem s.bces s.checks s.placed
    s.degraded s.tarns s.spills s.rends s.keys s.ras s.selfRefresh s.chans s.fabric s.sluice s.sluiceOrder s.lanes s.boot
    s.rings s.chunks s.outf s.pair) :=
  keeps_upd h (TimeStep.refl _) (ImgStep.refl _) (UnitStep.refl _ _) (MemStep.refl _) (Held.refl _) (Held.write hw)
      (Held.refl _) (Held.refl _) (Held.refl _) (Held.refl _) (Held.refl _) (Held.refl _) (Held.refl _) (Held.refl _)
      (Held.refl _) (Held.refl _) (Held.refl _) (Held.refl _)
theorem keeps_put_weir {s0 s : State} {doms_ : Tab Domain} (hw : sc.weir = true) (h : Keeps sc s0 s) : Keeps sc s0
    (State.mk s.pending s.now s.free s.out s.limits s.regs s.eff s.latch s.time doms_ s.img s.st s.funcs s.waiting s.resets
    s.pcie s.devMaint s.devMaintCmd s.retired s.excluded s.courses s.stages s.bufs s.inl s.streams s.founts s.layers
    s.postLut s.prots s.hostIns s.heads s.mem s.bces s.checks s.placed s.degraded s.tarns s.spills s.rends s.keys s.ras
    s.selfRefresh s.chans s.fabric s.sluice s.sluiceOrder s.lanes s.boot s.rings s.chunks s.outf s.pair) :=
  keeps_upd h (TimeStep.refl _) (ImgStep.refl _) (UnitStep.refl _ _) (MemStep.refl _) (Held.refl _) (Held.refl _)
      (Held.write hw) (Held.refl _) (Held.refl _) (Held.refl _) (Held.refl _) (Held.refl _) (Held.refl _) (Held.refl _)
      (Held.refl _) (Held.refl _) (Held.refl _) (Held.refl _)
theorem keeps_put_host {s0 s : State} {waiting_ : List Waiting} {resets_ : List ResetRun} {pcie_ : Pcie} {devMaint_ : Bool}
    {devMaintCmd_ : Bool} (hw : sc.host = true) (h : Keeps sc s0 s) : Keeps sc s0 (State.mk s.pending s.now s.free s.out
    s.limits s.regs s.eff s.latch s.time s.doms s.img s.st s.funcs waiting_ resets_ pcie_ devMaint_ devMaintCmd_ s.retired
    s.excluded s.courses s.stages s.bufs s.inl s.streams s.founts s.layers s.postLut s.prots s.hostIns s.heads s.mem s.bces
    s.checks s.placed s.degraded s.tarns s.spills s.rends s.keys s.ras s.selfRefresh s.chans s.fabric s.sluice
    s.sluiceOrder s.lanes s.boot s.rings s.chunks s.outf s.pair) :=
  keeps_upd h (TimeStep.refl _) (ImgStep.refl _) (UnitStep.refl _ _) (MemStep.refl _) (Held.refl _) (Held.refl _)
      (Held.refl _) (Held.write hw) (Held.refl _) (Held.refl _) (Held.refl _) (Held.refl _) (Held.refl _) (Held.refl _)
      (Held.refl _) (Held.refl _) (Held.refl _) (Held.refl _)
theorem keeps_put_st {s0 s : State} {st_ : Structure} (hw : sc.st = true) (h : Keeps sc s0 s) : Keeps sc s0 (State.mk
    s.pending s.now s.free s.out s.limits s.regs s.eff s.latch s.time s.doms s.img st_ s.funcs s.waiting s.resets s.pcie
    s.devMaint s.devMaintCmd s.retired s.excluded s.courses s.stages s.bufs s.inl s.streams s.founts s.layers s.postLut
    s.prots s.hostIns s.heads s.mem s.bces s.checks s.placed s.degraded s.tarns s.spills s.rends s.keys s.ras s.selfRefresh
    s.chans s.fabric s.sluice s.sluiceOrder s.lanes s.boot s.rings s.chunks s.outf s.pair) :=
  keeps_upd h (TimeStep.refl _) (ImgStep.refl _) (UnitStep.refl _ _) (MemStep.refl _) (Held.refl _) (Held.refl _)
      (Held.refl _) (Held.refl _) (Held.write hw) (Held.refl _) (Held.refl _) (Held.refl _) (Held.refl _) (Held.refl _)
      (Held.refl _) (Held.refl _) (Held.refl _) (Held.refl _)
theorem keeps_put_courses {s0 s : State} {courses_ : Tab CourseRun} {stages_ : Tab StageRun} {bufs_ : Tab Buffer} {inl_ :
    Inlet} {streams_ : Tab FountStream} {founts_ : Tab FountUnit} {layers_ : Tab Layer} {postLut_ : Tab Lut} {prots_ : Tab
    Prot} {hostIns_ : Tab HostIn} {heads_ : Tab CourseHw} (hw : sc.courses = true) (h : Keeps sc s0 s) : Keeps sc s0
    (State.mk s.pending s.now s.free s.out s.limits s.regs s.eff s.latch s.time s.doms s.img s.st s.funcs s.waiting
    s.resets s.pcie s.devMaint s.devMaintCmd s.retired s.excluded courses_ stages_ bufs_ inl_ streams_ founts_ layers_
    postLut_ prots_ hostIns_ heads_ s.mem s.bces s.checks s.placed s.degraded s.tarns s.spills s.rends s.keys s.ras
    s.selfRefresh s.chans s.fabric s.sluice s.sluiceOrder s.lanes s.boot s.rings s.chunks s.outf s.pair) :=
  keeps_upd h (TimeStep.refl _) (ImgStep.refl _) (UnitStep.refl _ _) (MemStep.refl _) (Held.refl _) (Held.refl _)
      (Held.refl _) (Held.refl _) (Held.refl _) (Held.write hw) (Held.refl _) (Held.refl _) (Held.refl _) (Held.refl _)
      (Held.refl _) (Held.refl _) (Held.refl _) (Held.refl _)
theorem keeps_put_coders {s0 s : State} {placed_ : Tab SegRec} {degraded_ : Tab Degraded} {tarns_ : Tab Tarn} {spills_ :
    Tab SpillUnit} {rends_ : Tab Rend} {keys_ : Tab CourseKey} (hw : sc.coders = true) (h : Keeps sc s0 s) : Keeps sc s0
    (State.mk s.pending s.now s.free s.out s.limits s.regs s.eff s.latch s.time s.doms s.img s.st s.funcs s.waiting
    s.resets s.pcie s.devMaint s.devMaintCmd s.retired s.excluded s.courses s.stages s.bufs s.inl s.streams s.founts
    s.layers s.postLut s.prots s.hostIns s.heads s.mem s.bces s.checks placed_ degraded_ tarns_ spills_ rends_ keys_ s.ras
    s.selfRefresh s.chans s.fabric s.sluice s.sluiceOrder s.lanes s.boot s.rings s.chunks s.outf s.pair) :=
  keeps_upd h (TimeStep.refl _) (ImgStep.refl _) (UnitStep.refl _ _) (MemStep.refl _) (Held.refl _) (Held.refl _)
      (Held.refl _) (Held.refl _) (Held.refl _) (Held.refl _) (Held.write hw) (Held.refl _) (Held.refl _) (Held.refl _)
      (Held.refl _) (Held.refl _) (Held.refl _) (Held.refl _)
theorem keeps_put_emit {s0 s : State} {rings_ : Tab Ring} {chunks_ : Tab HostRing} {outf_ : Outflow} (hw : sc.emit = true)
    (h : Keeps sc s0 s) : Keeps sc s0 (State.mk s.pending s.now s.free s.out s.limits s.regs s.eff s.latch s.time s.doms
    s.img s.st s.funcs s.waiting s.resets s.pcie s.devMaint s.devMaintCmd s.retired s.excluded s.courses s.stages s.bufs
    s.inl s.streams s.founts s.layers s.postLut s.prots s.hostIns s.heads s.mem s.bces s.checks s.placed s.degraded s.tarns
    s.spills s.rends s.keys s.ras s.selfRefresh s.chans s.fabric s.sluice s.sluiceOrder s.lanes s.boot rings_ chunks_ outf_
    s.pair) :=
  keeps_upd h (TimeStep.refl _) (ImgStep.refl _) (UnitStep.refl _ _) (MemStep.refl _) (Held.refl _) (Held.refl _)
      (Held.refl _) (Held.refl _) (Held.refl _) (Held.refl _) (Held.refl _) (Held.write hw) (Held.refl _) (Held.refl _)
      (Held.refl _) (Held.refl _) (Held.refl _) (Held.refl _)
theorem keeps_put_memsys {s0 s : State} {selfRefresh_ : List Nat} {chans_ : Tab Chan} {fabric_ : Fabric} (hw : sc.memsys =
    true) (h : Keeps sc s0 s) : Keeps sc s0 (State.mk s.pending s.now s.free s.out s.limits s.regs s.eff s.latch s.time
    s.doms s.img s.st s.funcs s.waiting s.resets s.pcie s.devMaint s.devMaintCmd s.retired s.excluded s.courses s.stages
    s.bufs s.inl s.streams s.founts s.layers s.postLut s.prots s.hostIns s.heads s.mem s.bces s.checks s.placed s.degraded
    s.tarns s.spills s.rends s.keys s.ras selfRefresh_ chans_ fabric_ s.sluice s.sluiceOrder s.lanes s.boot s.rings
    s.chunks s.outf s.pair) :=
  keeps_upd h (TimeStep.refl _) (ImgStep.refl _) (UnitStep.refl _ _) (MemStep.refl _) (Held.refl _) (Held.refl _)
      (Held.refl _) (Held.refl _) (Held.refl _) (Held.refl _) (Held.refl _) (Held.refl _) (Held.write hw) (Held.refl _)
      (Held.refl _) (Held.refl _) (Held.refl _) (Held.refl _)
theorem keeps_put_dma {s0 s : State} {bces_ : Tab Bce} {checks_ : Tab CheckUnit} {sluice_ : Tab SluiceChan} {sluiceOrder_ :
    Nat} (hw : sc.dma = true) (h : Keeps sc s0 s) : Keeps sc s0 (State.mk s.pending s.now s.free s.out s.limits s.regs
    s.eff s.latch s.time s.doms s.img s.st s.funcs s.waiting s.resets s.pcie s.devMaint s.devMaintCmd s.retired s.excluded
    s.courses s.stages s.bufs s.inl s.streams s.founts s.layers s.postLut s.prots s.hostIns s.heads s.mem bces_ checks_
    s.placed s.degraded s.tarns s.spills s.rends s.keys s.ras s.selfRefresh s.chans s.fabric sluice_ sluiceOrder_ s.lanes
    s.boot s.rings s.chunks s.outf s.pair) :=
  keeps_upd h (TimeStep.refl _) (ImgStep.refl _) (UnitStep.refl _ _) (MemStep.refl _) (Held.refl _) (Held.refl _)
      (Held.refl _) (Held.refl _) (Held.refl _) (Held.refl _) (Held.refl _) (Held.refl _) (Held.refl _) (Held.write hw)
      (Held.refl _) (Held.refl _) (Held.refl _) (Held.refl _)
theorem keeps_put_pair {s0 s : State} {pair_ : Pair} (hw : sc.pair = true) (h : Keeps sc s0 s) : Keeps sc s0 (State.mk
    s.pending s.now s.free s.out s.limits s.regs s.eff s.latch s.time s.doms s.img s.st s.funcs s.waiting s.resets s.pcie
    s.devMaint s.devMaintCmd s.retired s.excluded s.courses s.stages s.bufs s.inl s.streams s.founts s.layers s.postLut
    s.prots s.hostIns s.heads s.mem s.bces s.checks s.placed s.degraded s.tarns s.spills s.rends s.keys s.ras s.selfRefresh
    s.chans s.fabric s.sluice s.sluiceOrder s.lanes s.boot s.rings s.chunks s.outf pair_) :=
  keeps_upd h (TimeStep.refl _) (ImgStep.refl _) (UnitStep.refl _ _) (MemStep.refl _) (Held.refl _) (Held.refl _)
      (Held.refl _) (Held.refl _) (Held.refl _) (Held.refl _) (Held.refl _) (Held.refl _) (Held.refl _) (Held.refl _)
      (Held.write hw) (Held.refl _) (Held.refl _) (Held.refl _)
theorem keeps_put_lanes {s0 s : State} {lanes_ : Tab Lane} (hw : sc.lanes = true) (h : Keeps sc s0 s) : Keeps sc s0
    (State.mk s.pending s.now s.free s.out s.limits s.regs s.eff s.latch s.time s.doms s.img s.st s.funcs s.waiting
    s.resets s.pcie s.devMaint s.devMaintCmd s.retired s.excluded s.courses s.stages s.bufs s.inl s.streams s.founts
    s.layers s.postLut s.prots s.hostIns s.heads s.mem s.bces s.checks s.placed s.degraded s.tarns s.spills s.rends s.keys
    s.ras s.selfRefresh s.chans s.fabric s.sluice s.sluiceOrder lanes_ s.boot s.rings s.chunks s.outf s.pair) :=
  keeps_upd h (TimeStep.refl _) (ImgStep.refl _) (UnitStep.refl _ _) (MemStep.refl _) (Held.refl _) (Held.refl _)
      (Held.refl _) (Held.refl _) (Held.refl _) (Held.refl _) (Held.refl _) (Held.refl _) (Held.refl _) (Held.refl _)
      (Held.refl _) (Held.write hw) (Held.refl _) (Held.refl _)
theorem keeps_put_boot {s0 s : State} {boot_ : Boot} (hw : sc.boot = true) (h : Keeps sc s0 s) : Keeps sc s0 (State.mk
    s.pending s.now s.free s.out s.limits s.regs s.eff s.latch s.time s.doms s.img s.st s.funcs s.waiting s.resets s.pcie
    s.devMaint s.devMaintCmd s.retired s.excluded s.courses s.stages s.bufs s.inl s.streams s.founts s.layers s.postLut
    s.prots s.hostIns s.heads s.mem s.bces s.checks s.placed s.degraded s.tarns s.spills s.rends s.keys s.ras s.selfRefresh
    s.chans s.fabric s.sluice s.sluiceOrder s.lanes boot_ s.rings s.chunks s.outf s.pair) :=
  keeps_upd h (TimeStep.refl _) (ImgStep.refl _) (UnitStep.refl _ _) (MemStep.refl _) (Held.refl _) (Held.refl _)
      (Held.refl _) (Held.refl _) (Held.refl _) (Held.refl _) (Held.refl _) (Held.refl _) (Held.refl _) (Held.refl _)
      (Held.refl _) (Held.refl _) (Held.write hw) (Held.refl _)
theorem keeps_put_ras {s0 s : State} {ras_ : Ras} (hw : sc.ras = true) (h : Keeps sc s0 s) : Keeps sc s0 (State.mk
    s.pending s.now s.free s.out s.limits s.regs s.eff s.latch s.time s.doms s.img s.st s.funcs s.waiting s.resets s.pcie
    s.devMaint s.devMaintCmd s.retired s.excluded s.courses s.stages s.bufs s.inl s.streams s.founts s.layers s.postLut
    s.prots s.hostIns s.heads s.mem s.bces s.checks s.placed s.degraded s.tarns s.spills s.rends s.keys ras_ s.selfRefresh
    s.chans s.fabric s.sluice s.sluiceOrder s.lanes s.boot s.rings s.chunks s.outf s.pair) :=
  keeps_upd h (TimeStep.refl _) (ImgStep.refl _) (UnitStep.refl _ _) (MemStep.refl _) (Held.refl _) (Held.refl _)
      (Held.refl _) (Held.refl _) (Held.refl _) (Held.refl _) (Held.refl _) (Held.refl _) (Held.refl _) (Held.refl _)
      (Held.refl _) (Held.refl _) (Held.refl _) (Held.write hw)
theorem keeps_put_time {s0 s : State} {time_ : TimeUnit} (ht : TimeStep sc s.time time_) (h : Keeps sc s0 s) : Keeps sc s0
    (State.mk s.pending s.now s.free s.out s.limits s.regs s.eff s.latch time_ s.doms s.img s.st s.funcs s.waiting s.resets
    s.pcie s.devMaint s.devMaintCmd s.retired s.excluded s.courses s.stages s.bufs s.inl s.streams s.founts s.layers
    s.postLut s.prots s.hostIns s.heads s.mem s.bces s.checks s.placed s.degraded s.tarns s.spills s.rends s.keys s.ras
    s.selfRefresh s.chans s.fabric s.sluice s.sluiceOrder s.lanes s.boot s.rings s.chunks s.outf s.pair) :=
  keeps_upd h ht (ImgStep.refl _) (UnitStep.refl _ _) (MemStep.refl _) (Held.refl _) (Held.refl _) (Held.refl _) (Held.refl
      _) (Held.refl _) (Held.refl _) (Held.refl _) (Held.refl _) (Held.refl _) (Held.refl _) (Held.refl _) (Held.refl _)
      (Held.refl _) (Held.refl _)
theorem keeps_put_img {s0 s : State} {img_ : ImageUnit} (hw : sc.img = true) (hs : img_.slots = s.img.slots) (h : Keeps sc
    s0 s) : Keeps sc s0 (State.mk s.pending s.now s.free s.out s.limits s.regs s.eff s.latch s.time s.doms img_ s.st
    s.funcs s.waiting s.resets s.pcie s.devMaint s.devMaintCmd s.retired s.excluded s.courses s.stages s.bufs s.inl
    s.streams s.founts s.layers s.postLut s.prots s.hostIns s.heads s.mem s.bces s.checks s.placed s.degraded s.tarns
    s.spills s.rends s.keys s.ras s.selfRefresh s.chans s.fabric s.sluice s.sluiceOrder s.lanes s.boot s.rings s.chunks
    s.outf s.pair) :=
  keeps_upd h (TimeStep.refl _) (ImgStep.of_slots hw hs) (UnitStep.refl _ _) (MemStep.refl _) (Held.refl _) (Held.refl _)
      (Held.refl _) (Held.refl _) (Held.refl _) (Held.refl _) (Held.refl _) (Held.refl _) (Held.refl _) (Held.refl _)
      (Held.refl _) (Held.refl _) (Held.refl _) (Held.refl _)

/-! ### Choices and folds -/

theorem keeps_ite {s0 a b : State} {c : Prop} [Decidable c] (ha : Keeps sc s0 a) (hb : Keeps sc s0 b) :
    Keeps sc s0 (if c then a else b) := by
  split
  · exact ha
  · exact hb

theorem keeps_foldl {α : Type} {s0 s : State} {f : State → α → State} {l : List α} (h : Keeps sc s0 s)
    (hf : ∀ s a, Keeps sc s0 s → Keeps sc s0 (f s a)) : Keeps sc s0 (l.foldl f s) := by
  induction l generalizing s with
  | nil => exact h
  | cons a r ih => exact ih (hf s a h)

/-! ### The clock -/

theorem phcOf_inRange (n f : Nat) : timeInRange (phcOf n f).sec (phcOf n f).ns := ⟨phcOf_ns n f, phcOf_sec n f⟩
theorem phcAdvance_inRange (p : PhcTime) (a k : Nat) : timeInRange (phcAdvance p a k).sec (phcAdvance p a k).ns :=
  phcOf_inRange _ _
theorem TimeUnit.inRange_phc {x : TimeUnit} {p : PhcTime} (hp : timeInRange p.sec p.ns) (h : x.inRange) :
    TimeUnit.inRange { x with phc := p } := ⟨hp, h.2⟩

/-- The PHC is set, with the clock or without it. -/
theorem keeps_phc {s0 s : State} {n : Nat} {p : PhcTime} (hclk : sc.clk = true) (hn : s.now ≤ n)
    (hp : s0.time.inRange → timeInRange p.sec p.ns) (h : Keeps sc s0 s) :
    Keeps sc s0 { s with now := n, time := { s.time with phc := p } } := by
  have f := h.frame
  exact ⟨⟨Held.write hclk, TimeStep.rest_trans f.time (fun _ => rfl), f.img, f.slots, f.units, f.reset, f.mem, f.regs,
      f.out, f.weir, f.host, f.st, f.courses, f.coders, f.emit, f.memsys, f.dma, f.pair, f.lanes, f.boot, f.ras⟩,
    h.wf, h.key, fun t => TimeUnit.inRange_phc (hp t) (h.range t), h.pending, Nat.le_trans h.now hn⟩

end Sys2Proof.Machine
end

