-- ==== Sys2Proof/Laws/State.lean ====
section
/-! SUPPORT. State.lean: what each update of the state leaves as it was, field by field. -/

namespace Sys2Proof.Machine

variable (s : State)

/-! ### wr -/
@[simp] theorem State.wr_pending (a : Nat) (v : Word) : (s.wr a v).pending = s.pending := rfl
@[simp] theorem State.wr_now (a : Nat) (v : Word) : (s.wr a v).now = s.now := rfl
@[simp] theorem State.wr_free (a : Nat) (v : Word) : (s.wr a v).free = s.free := rfl
@[simp] theorem State.wr_out (a : Nat) (v : Word) : (s.wr a v).out = s.out := rfl
@[simp] theorem State.wr_limits (a : Nat) (v : Word) : (s.wr a v).limits = s.limits := rfl
@[simp] theorem State.wr_eff (a : Nat) (v : Word) : (s.wr a v).eff = s.eff := rfl
@[simp] theorem State.wr_latch (a : Nat) (v : Word) : (s.wr a v).latch = s.latch := rfl
@[simp] theorem State.wr_time (a : Nat) (v : Word) : (s.wr a v).time = s.time := rfl
@[simp] theorem State.wr_doms (a : Nat) (v : Word) : (s.wr a v).doms = s.doms := rfl
@[simp] theorem State.wr_img (a : Nat) (v : Word) : (s.wr a v).img = s.img := rfl
@[simp] theorem State.wr_st (a : Nat) (v : Word) : (s.wr a v).st = s.st := rfl
@[simp] theorem State.wr_funcs (a : Nat) (v : Word) : (s.wr a v).funcs = s.funcs := rfl
@[simp] theorem State.wr_waiting (a : Nat) (v : Word) : (s.wr a v).waiting = s.waiting := rfl
@[simp] theorem State.wr_resets (a : Nat) (v : Word) : (s.wr a v).resets = s.resets := rfl
@[simp] theorem State.wr_pcie (a : Nat) (v : Word) : (s.wr a v).pcie = s.pcie := rfl
@[simp] theorem State.wr_devMaint (a : Nat) (v : Word) : (s.wr a v).devMaint = s.devMaint := rfl
@[simp] theorem State.wr_devMaintCmd (a : Nat) (v : Word) : (s.wr a v).devMaintCmd = s.devMaintCmd := rfl
@[simp] theorem State.wr_retired (a : Nat) (v : Word) : (s.wr a v).retired = s.retired := rfl
@[simp] theorem State.wr_excluded (a : Nat) (v : Word) : (s.wr a v).excluded = s.excluded := rfl
@[simp] theorem State.wr_courses (a : Nat) (v : Word) : (s.wr a v).courses = s.courses := rfl
@[simp] theorem State.wr_stages (a : Nat) (v : Word) : (s.wr a v).stages = s.stages := rfl
@[simp] theorem State.wr_bufs (a : Nat) (v : Word) : (s.wr a v).bufs = s.bufs := rfl
@[simp] theorem State.wr_inl (a : Nat) (v : Word) : (s.wr a v).inl = s.inl := rfl
@[simp] theorem State.wr_streams (a : Nat) (v : Word) : (s.wr a v).streams = s.streams := rfl
@[simp] theorem State.wr_founts (a : Nat) (v : Word) : (s.wr a v).founts = s.founts := rfl
@[simp] theorem State.wr_layers (a : Nat) (v : Word) : (s.wr a v).layers = s.layers := rfl
@[simp] theorem State.wr_postLut (a : Nat) (v : Word) : (s.wr a v).postLut = s.postLut := rfl
@[simp] theorem State.wr_prots (a : Nat) (v : Word) : (s.wr a v).prots = s.prots := rfl
@[simp] theorem State.wr_hostIns (a : Nat) (v : Word) : (s.wr a v).hostIns = s.hostIns := rfl
@[simp] theorem State.wr_heads (a : Nat) (v : Word) : (s.wr a v).heads = s.heads := rfl
@[simp] theorem State.wr_mem (a : Nat) (v : Word) : (s.wr a v).mem = s.mem := rfl
@[simp] theorem State.wr_bces (a : Nat) (v : Word) : (s.wr a v).bces = s.bces := rfl
@[simp] theorem State.wr_checks (a : Nat) (v : Word) : (s.wr a v).checks = s.checks := rfl
@[simp] theorem State.wr_placed (a : Nat) (v : Word) : (s.wr a v).placed = s.placed := rfl
@[simp] theorem State.wr_degraded (a : Nat) (v : Word) : (s.wr a v).degraded = s.degraded := rfl
@[simp] theorem State.wr_tarns (a : Nat) (v : Word) : (s.wr a v).tarns = s.tarns := rfl
@[simp] theorem State.wr_spills (a : Nat) (v : Word) : (s.wr a v).spills = s.spills := rfl
@[simp] theorem State.wr_rends (a : Nat) (v : Word) : (s.wr a v).rends = s.rends := rfl
@[simp] theorem State.wr_keys (a : Nat) (v : Word) : (s.wr a v).keys = s.keys := rfl
@[simp] theorem State.wr_ras (a : Nat) (v : Word) : (s.wr a v).ras = s.ras := rfl
@[simp] theorem State.wr_selfRefresh (a : Nat) (v : Word) : (s.wr a v).selfRefresh = s.selfRefresh := rfl
@[simp] theorem State.wr_chans (a : Nat) (v : Word) : (s.wr a v).chans = s.chans := rfl
@[simp] theorem State.wr_fabric (a : Nat) (v : Word) : (s.wr a v).fabric = s.fabric := rfl
@[simp] theorem State.wr_sluice (a : Nat) (v : Word) : (s.wr a v).sluice = s.sluice := rfl
@[simp] theorem State.wr_sluiceOrder (a : Nat) (v : Word) : (s.wr a v).sluiceOrder = s.sluiceOrder := rfl
@[simp] theorem State.wr_lanes (a : Nat) (v : Word) : (s.wr a v).lanes = s.lanes := rfl
@[simp] theorem State.wr_boot (a : Nat) (v : Word) : (s.wr a v).boot = s.boot := rfl
@[simp] theorem State.wr_rings (a : Nat) (v : Word) : (s.wr a v).rings = s.rings := rfl
@[simp] theorem State.wr_chunks (a : Nat) (v : Word) : (s.wr a v).chunks = s.chunks := rfl
@[simp] theorem State.wr_outf (a : Nat) (v : Word) : (s.wr a v).outf = s.outf := rfl
@[simp] theorem State.wr_pair (a : Nat) (v : Word) : (s.wr a v).pair = s.pair := rfl
/-! ### wrn -/
@[simp] theorem State.wrn_pending (a v : Nat) : (s.wrn a v).pending = s.pending := rfl
@[simp] theorem State.wrn_now (a v : Nat) : (s.wrn a v).now = s.now := rfl
@[simp] theorem State.wrn_free (a v : Nat) : (s.wrn a v).free = s.free := rfl
@[simp] theorem State.wrn_out (a v : Nat) : (s.wrn a v).out = s.out := rfl
@[simp] theorem State.wrn_limits (a v : Nat) : (s.wrn a v).limits = s.limits := rfl
@[simp] theorem State.wrn_eff (a v : Nat) : (s.wrn a v).eff = s.eff := rfl
@[simp] theorem State.wrn_latch (a v : Nat) : (s.wrn a v).latch = s.latch := rfl
@[simp] theorem State.wrn_time (a v : Nat) : (s.wrn a v).time = s.time := rfl
@[simp] theorem State.wrn_doms (a v : Nat) : (s.wrn a v).doms = s.doms := rfl
@[simp] theorem State.wrn_img (a v : Nat) : (s.wrn a v).img = s.img := rfl
@[simp] theorem State.wrn_st (a v : Nat) : (s.wrn a v).st = s.st := rfl
@[simp] theorem State.wrn_funcs (a v : Nat) : (s.wrn a v).funcs = s.funcs := rfl
@[simp] theorem State.wrn_waiting (a v : Nat) : (s.wrn a v).waiting = s.waiting := rfl
@[simp] theorem State.wrn_resets (a v : Nat) : (s.wrn a v).resets = s.resets := rfl
@[simp] theorem State.wrn_pcie (a v : Nat) : (s.wrn a v).pcie = s.pcie := rfl
@[simp] theorem State.wrn_devMaint (a v : Nat) : (s.wrn a v).devMaint = s.devMaint := rfl
@[simp] theorem State.wrn_devMaintCmd (a v : Nat) : (s.wrn a v).devMaintCmd = s.devMaintCmd := rfl
@[simp] theorem State.wrn_retired (a v : Nat) : (s.wrn a v).retired = s.retired := rfl
@[simp] theorem State.wrn_excluded (a v : Nat) : (s.wrn a v).excluded = s.excluded := rfl
@[simp] theorem State.wrn_courses (a v : Nat) : (s.wrn a v).courses = s.courses := rfl
@[simp] theorem State.wrn_stages (a v : Nat) : (s.wrn a v).stages = s.stages := rfl
@[simp] theorem State.wrn_bufs (a v : Nat) : (s.wrn a v).bufs = s.bufs := rfl
@[simp] theorem State.wrn_inl (a v : Nat) : (s.wrn a v).inl = s.inl := rfl
@[simp] theorem State.wrn_streams (a v : Nat) : (s.wrn a v).streams = s.streams := rfl
@[simp] theorem State.wrn_founts (a v : Nat) : (s.wrn a v).founts = s.founts := rfl
@[simp] theorem State.wrn_layers (a v : Nat) : (s.wrn a v).layers = s.layers := rfl
@[simp] theorem State.wrn_postLut (a v : Nat) : (s.wrn a v).postLut = s.postLut := rfl
@[simp] theorem State.wrn_prots (a v : Nat) : (s.wrn a v).prots = s.prots := rfl
@[simp] theorem State.wrn_hostIns (a v : Nat) : (s.wrn a v).hostIns = s.hostIns := rfl
@[simp] theorem State.wrn_heads (a v : Nat) : (s.wrn a v).heads = s.heads := rfl
@[simp] theorem State.wrn_mem (a v : Nat) : (s.wrn a v).mem = s.mem := rfl
@[simp] theorem State.wrn_bces (a v : Nat) : (s.wrn a v).bces = s.bces := rfl
@[simp] theorem State.wrn_checks (a v : Nat) : (s.wrn a v).checks = s.checks := rfl
@[simp] theorem State.wrn_placed (a v : Nat) : (s.wrn a v).placed = s.placed := rfl
@[simp] theorem State.wrn_degraded (a v : Nat) : (s.wrn a v).degraded = s.degraded := rfl
@[simp] theorem State.wrn_tarns (a v : Nat) : (s.wrn a v).tarns = s.tarns := rfl
@[simp] theorem State.wrn_spills (a v : Nat) : (s.wrn a v).spills = s.spills := rfl
@[simp] theorem State.wrn_rends (a v : Nat) : (s.wrn a v).rends = s.rends := rfl
@[simp] theorem State.wrn_keys (a v : Nat) : (s.wrn a v).keys = s.keys := rfl
@[simp] theorem State.wrn_ras (a v : Nat) : (s.wrn a v).ras = s.ras := rfl
@[simp] theorem State.wrn_selfRefresh (a v : Nat) : (s.wrn a v).selfRefresh = s.selfRefresh := rfl
@[simp] theorem State.wrn_chans (a v : Nat) : (s.wrn a v).chans = s.chans := rfl
@[simp] theorem State.wrn_fabric (a v : Nat) : (s.wrn a v).fabric = s.fabric := rfl
@[simp] theorem State.wrn_sluice (a v : Nat) : (s.wrn a v).sluice = s.sluice := rfl
@[simp] theorem State.wrn_sluiceOrder (a v : Nat) : (s.wrn a v).sluiceOrder = s.sluiceOrder := rfl
@[simp] theorem State.wrn_lanes (a v : Nat) : (s.wrn a v).lanes = s.lanes := rfl
@[simp] theorem State.wrn_boot (a v : Nat) : (s.wrn a v).boot = s.boot := rfl
@[simp] theorem State.wrn_rings (a v : Nat) : (s.wrn a v).rings = s.rings := rfl
@[simp] theorem State.wrn_chunks (a v : Nat) : (s.wrn a v).chunks = s.chunks := rfl
@[simp] theorem State.wrn_outf (a v : Nat) : (s.wrn a v).outf = s.outf := rfl
@[simp] theorem State.wrn_pair (a v : Nat) : (s.wrn a v).pair = s.pair := rfl
/-! ### setFld -/
@[simp] theorem State.setFld_pending (a hi lo v : Nat) : (s.setFld a hi lo v).pending = s.pending := rfl
@[simp] theorem State.setFld_now (a hi lo v : Nat) : (s.setFld a hi lo v).now = s.now := rfl
@[simp] theorem State.setFld_free (a hi lo v : Nat) : (s.setFld a hi lo v).free = s.free := rfl
@[simp] theorem State.setFld_out (a hi lo v : Nat) : (s.setFld a hi lo v).out = s.out := rfl
@[simp] theorem State.setFld_limits (a hi lo v : Nat) : (s.setFld a hi lo v).limits = s.limits := rfl
@[simp] theorem State.setFld_eff (a hi lo v : Nat) : (s.setFld a hi lo v).eff = s.eff := rfl
@[simp] theorem State.setFld_latch (a hi lo v : Nat) : (s.setFld a hi lo v).latch = s.latch := rfl
@[simp] theorem State.setFld_time (a hi lo v : Nat) : (s.setFld a hi lo v).time = s.time := rfl
@[simp] theorem State.setFld_doms (a hi lo v : Nat) : (s.setFld a hi lo v).doms = s.doms := rfl
@[simp] theorem State.setFld_img (a hi lo v : Nat) : (s.setFld a hi lo v).img = s.img := rfl
@[simp] theorem State.setFld_st (a hi lo v : Nat) : (s.setFld a hi lo v).st = s.st := rfl
@[simp] theorem State.setFld_funcs (a hi lo v : Nat) : (s.setFld a hi lo v).funcs = s.funcs := rfl
@[simp] theorem State.setFld_waiting (a hi lo v : Nat) : (s.setFld a hi lo v).waiting = s.waiting := rfl
@[simp] theorem State.setFld_resets (a hi lo v : Nat) : (s.setFld a hi lo v).resets = s.resets := rfl
@[simp] theorem State.setFld_pcie (a hi lo v : Nat) : (s.setFld a hi lo v).pcie = s.pcie := rfl
@[simp] theorem State.setFld_devMaint (a hi lo v : Nat) : (s.setFld a hi lo v).devMaint = s.devMaint := rfl
@[simp] theorem State.setFld_devMaintCmd (a hi lo v : Nat) : (s.setFld a hi lo v).devMaintCmd = s.devMaintCmd := rfl
@[simp] theorem State.setFld_retired (a hi lo v : Nat) : (s.setFld a hi lo v).retired = s.retired := rfl
@[simp] theorem State.setFld_excluded (a hi lo v : Nat) : (s.setFld a hi lo v).excluded = s.excluded := rfl
@[simp] theorem State.setFld_courses (a hi lo v : Nat) : (s.setFld a hi lo v).courses = s.courses := rfl
@[simp] theorem State.setFld_stages (a hi lo v : Nat) : (s.setFld a hi lo v).stages = s.stages := rfl
@[simp] theorem State.setFld_bufs (a hi lo v : Nat) : (s.setFld a hi lo v).bufs = s.bufs := rfl
@[simp] theorem State.setFld_inl (a hi lo v : Nat) : (s.setFld a hi lo v).inl = s.inl := rfl
@[simp] theorem State.setFld_streams (a hi lo v : Nat) : (s.setFld a hi lo v).streams = s.streams := rfl
@[simp] theorem State.setFld_founts (a hi lo v : Nat) : (s.setFld a hi lo v).founts = s.founts := rfl
@[simp] theorem State.setFld_layers (a hi lo v : Nat) : (s.setFld a hi lo v).layers = s.layers := rfl
@[simp] theorem State.setFld_postLut (a hi lo v : Nat) : (s.setFld a hi lo v).postLut = s.postLut := rfl
@[simp] theorem State.setFld_prots (a hi lo v : Nat) : (s.setFld a hi lo v).prots = s.prots := rfl
@[simp] theorem State.setFld_hostIns (a hi lo v : Nat) : (s.setFld a hi lo v).hostIns = s.hostIns := rfl
@[simp] theorem State.setFld_heads (a hi lo v : Nat) : (s.setFld a hi lo v).heads = s.heads := rfl
@[simp] theorem State.setFld_mem (a hi lo v : Nat) : (s.setFld a hi lo v).mem = s.mem := rfl
@[simp] theorem State.setFld_bces (a hi lo v : Nat) : (s.setFld a hi lo v).bces = s.bces := rfl
@[simp] theorem State.setFld_checks (a hi lo v : Nat) : (s.setFld a hi lo v).checks = s.checks := rfl
@[simp] theorem State.setFld_placed (a hi lo v : Nat) : (s.setFld a hi lo v).placed = s.placed := rfl
@[simp] theorem State.setFld_degraded (a hi lo v : Nat) : (s.setFld a hi lo v).degraded = s.degraded := rfl
@[simp] theorem State.setFld_tarns (a hi lo v : Nat) : (s.setFld a hi lo v).tarns = s.tarns := rfl
@[simp] theorem State.setFld_spills (a hi lo v : Nat) : (s.setFld a hi lo v).spills = s.spills := rfl
@[simp] theorem State.setFld_rends (a hi lo v : Nat) : (s.setFld a hi lo v).rends = s.rends := rfl
@[simp] theorem State.setFld_keys (a hi lo v : Nat) : (s.setFld a hi lo v).keys = s.keys := rfl
@[simp] theorem State.setFld_ras (a hi lo v : Nat) : (s.setFld a hi lo v).ras = s.ras := rfl
@[simp] theorem State.setFld_selfRefresh (a hi lo v : Nat) : (s.setFld a hi lo v).selfRefresh = s.selfRefresh := rfl
@[simp] theorem State.setFld_chans (a hi lo v : Nat) : (s.setFld a hi lo v).chans = s.chans := rfl
@[simp] theorem State.setFld_fabric (a hi lo v : Nat) : (s.setFld a hi lo v).fabric = s.fabric := rfl
@[simp] theorem State.setFld_sluice (a hi lo v : Nat) : (s.setFld a hi lo v).sluice = s.sluice := rfl
@[simp] theorem State.setFld_sluiceOrder (a hi lo v : Nat) : (s.setFld a hi lo v).sluiceOrder = s.sluiceOrder := rfl
@[simp] theorem State.setFld_lanes (a hi lo v : Nat) : (s.setFld a hi lo v).lanes = s.lanes := rfl
@[simp] theorem State.setFld_boot (a hi lo v : Nat) : (s.setFld a hi lo v).boot = s.boot := rfl
@[simp] theorem State.setFld_rings (a hi lo v : Nat) : (s.setFld a hi lo v).rings = s.rings := rfl
@[simp] theorem State.setFld_chunks (a hi lo v : Nat) : (s.setFld a hi lo v).chunks = s.chunks := rfl
@[simp] theorem State.setFld_outf (a hi lo v : Nat) : (s.setFld a hi lo v).outf = s.outf := rfl
@[simp] theorem State.setFld_pair (a hi lo v : Nat) : (s.setFld a hi lo v).pair = s.pair := rfl
/-! ### inc -/
@[simp] theorem State.inc_pending (a n : Nat) : (s.inc a n).pending = s.pending := rfl
@[simp] theorem State.inc_now (a n : Nat) : (s.inc a n).now = s.now := rfl
@[simp] theorem State.inc_free (a n : Nat) : (s.inc a n).free = s.free := rfl
@[simp] theorem State.inc_out (a n : Nat) : (s.inc a n).out = s.out := rfl
@[simp] theorem State.inc_limits (a n : Nat) : (s.inc a n).limits = s.limits := rfl
@[simp] theorem State.inc_eff (a n : Nat) : (s.inc a n).eff = s.eff := rfl
@[simp] theorem State.inc_latch (a n : Nat) : (s.inc a n).latch = s.latch := rfl
@[simp] theorem State.inc_time (a n : Nat) : (s.inc a n).time = s.time := rfl
@[simp] theorem State.inc_doms (a n : Nat) : (s.inc a n).doms = s.doms := rfl
@[simp] theorem State.inc_img (a n : Nat) : (s.inc a n).img = s.img := rfl
@[simp] theorem State.inc_st (a n : Nat) : (s.inc a n).st = s.st := rfl
@[simp] theorem State.inc_funcs (a n : Nat) : (s.inc a n).funcs = s.funcs := rfl
@[simp] theorem State.inc_waiting (a n : Nat) : (s.inc a n).waiting = s.waiting := rfl
@[simp] theorem State.inc_resets (a n : Nat) : (s.inc a n).resets = s.resets := rfl
@[simp] theorem State.inc_pcie (a n : Nat) : (s.inc a n).pcie = s.pcie := rfl
@[simp] theorem State.inc_devMaint (a n : Nat) : (s.inc a n).devMaint = s.devMaint := rfl
@[simp] theorem State.inc_devMaintCmd (a n : Nat) : (s.inc a n).devMaintCmd = s.devMaintCmd := rfl
@[simp] theorem State.inc_retired (a n : Nat) : (s.inc a n).retired = s.retired := rfl
@[simp] theorem State.inc_excluded (a n : Nat) : (s.inc a n).excluded = s.excluded := rfl
@[simp] theorem State.inc_courses (a n : Nat) : (s.inc a n).courses = s.courses := rfl
@[simp] theorem State.inc_stages (a n : Nat) : (s.inc a n).stages = s.stages := rfl
@[simp] theorem State.inc_bufs (a n : Nat) : (s.inc a n).bufs = s.bufs := rfl
@[simp] theorem State.inc_inl (a n : Nat) : (s.inc a n).inl = s.inl := rfl
@[simp] theorem State.inc_streams (a n : Nat) : (s.inc a n).streams = s.streams := rfl
@[simp] theorem State.inc_founts (a n : Nat) : (s.inc a n).founts = s.founts := rfl
@[simp] theorem State.inc_layers (a n : Nat) : (s.inc a n).layers = s.layers := rfl
@[simp] theorem State.inc_postLut (a n : Nat) : (s.inc a n).postLut = s.postLut := rfl
@[simp] theorem State.inc_prots (a n : Nat) : (s.inc a n).prots = s.prots := rfl
@[simp] theorem State.inc_hostIns (a n : Nat) : (s.inc a n).hostIns = s.hostIns := rfl
@[simp] theorem State.inc_heads (a n : Nat) : (s.inc a n).heads = s.heads := rfl
@[simp] theorem State.inc_mem (a n : Nat) : (s.inc a n).mem = s.mem := rfl
@[simp] theorem State.inc_bces (a n : Nat) : (s.inc a n).bces = s.bces := rfl
@[simp] theorem State.inc_checks (a n : Nat) : (s.inc a n).checks = s.checks := rfl
@[simp] theorem State.inc_placed (a n : Nat) : (s.inc a n).placed = s.placed := rfl
@[simp] theorem State.inc_degraded (a n : Nat) : (s.inc a n).degraded = s.degraded := rfl
@[simp] theorem State.inc_tarns (a n : Nat) : (s.inc a n).tarns = s.tarns := rfl
@[simp] theorem State.inc_spills (a n : Nat) : (s.inc a n).spills = s.spills := rfl
@[simp] theorem State.inc_rends (a n : Nat) : (s.inc a n).rends = s.rends := rfl
@[simp] theorem State.inc_keys (a n : Nat) : (s.inc a n).keys = s.keys := rfl
@[simp] theorem State.inc_ras (a n : Nat) : (s.inc a n).ras = s.ras := rfl
@[simp] theorem State.inc_selfRefresh (a n : Nat) : (s.inc a n).selfRefresh = s.selfRefresh := rfl
@[simp] theorem State.inc_chans (a n : Nat) : (s.inc a n).chans = s.chans := rfl
@[simp] theorem State.inc_fabric (a n : Nat) : (s.inc a n).fabric = s.fabric := rfl
@[simp] theorem State.inc_sluice (a n : Nat) : (s.inc a n).sluice = s.sluice := rfl
@[simp] theorem State.inc_sluiceOrder (a n : Nat) : (s.inc a n).sluiceOrder = s.sluiceOrder := rfl
@[simp] theorem State.inc_lanes (a n : Nat) : (s.inc a n).lanes = s.lanes := rfl
@[simp] theorem State.inc_boot (a n : Nat) : (s.inc a n).boot = s.boot := rfl
@[simp] theorem State.inc_rings (a n : Nat) : (s.inc a n).rings = s.rings := rfl
@[simp] theorem State.inc_chunks (a n : Nat) : (s.inc a n).chunks = s.chunks := rfl
@[simp] theorem State.inc_outf (a n : Nat) : (s.inc a n).outf = s.outf := rfl
@[simp] theorem State.inc_pair (a n : Nat) : (s.inc a n).pair = s.pair := rfl
/-! ### incSat -/
@[simp] theorem State.incSat_pending (a n : Nat) : (s.incSat a n).pending = s.pending := rfl
@[simp] theorem State.incSat_now (a n : Nat) : (s.incSat a n).now = s.now := rfl
@[simp] theorem State.incSat_free (a n : Nat) : (s.incSat a n).free = s.free := rfl
@[simp] theorem State.incSat_out (a n : Nat) : (s.incSat a n).out = s.out := rfl
@[simp] theorem State.incSat_limits (a n : Nat) : (s.incSat a n).limits = s.limits := rfl
@[simp] theorem State.incSat_eff (a n : Nat) : (s.incSat a n).eff = s.eff := rfl
@[simp] theorem State.incSat_latch (a n : Nat) : (s.incSat a n).latch = s.latch := rfl
@[simp] theorem State.incSat_time (a n : Nat) : (s.incSat a n).time = s.time := rfl
@[simp] theorem State.incSat_doms (a n : Nat) : (s.incSat a n).doms = s.doms := rfl
@[simp] theorem State.incSat_img (a n : Nat) : (s.incSat a n).img = s.img := rfl
@[simp] theorem State.incSat_st (a n : Nat) : (s.incSat a n).st = s.st := rfl
@[simp] theorem State.incSat_funcs (a n : Nat) : (s.incSat a n).funcs = s.funcs := rfl
@[simp] theorem State.incSat_waiting (a n : Nat) : (s.incSat a n).waiting = s.waiting := rfl
@[simp] theorem State.incSat_resets (a n : Nat) : (s.incSat a n).resets = s.resets := rfl
@[simp] theorem State.incSat_pcie (a n : Nat) : (s.incSat a n).pcie = s.pcie := rfl
@[simp] theorem State.incSat_devMaint (a n : Nat) : (s.incSat a n).devMaint = s.devMaint := rfl
@[simp] theorem State.incSat_devMaintCmd (a n : Nat) : (s.incSat a n).devMaintCmd = s.devMaintCmd := rfl
@[simp] theorem State.incSat_retired (a n : Nat) : (s.incSat a n).retired = s.retired := rfl
@[simp] theorem State.incSat_excluded (a n : Nat) : (s.incSat a n).excluded = s.excluded := rfl
@[simp] theorem State.incSat_courses (a n : Nat) : (s.incSat a n).courses = s.courses := rfl
@[simp] theorem State.incSat_stages (a n : Nat) : (s.incSat a n).stages = s.stages := rfl
@[simp] theorem State.incSat_bufs (a n : Nat) : (s.incSat a n).bufs = s.bufs := rfl
@[simp] theorem State.incSat_inl (a n : Nat) : (s.incSat a n).inl = s.inl := rfl
@[simp] theorem State.incSat_streams (a n : Nat) : (s.incSat a n).streams = s.streams := rfl
@[simp] theorem State.incSat_founts (a n : Nat) : (s.incSat a n).founts = s.founts := rfl
@[simp] theorem State.incSat_layers (a n : Nat) : (s.incSat a n).layers = s.layers := rfl
@[simp] theorem State.incSat_postLut (a n : Nat) : (s.incSat a n).postLut = s.postLut := rfl
@[simp] theorem State.incSat_prots (a n : Nat) : (s.incSat a n).prots = s.prots := rfl
@[simp] theorem State.incSat_hostIns (a n : Nat) : (s.incSat a n).hostIns = s.hostIns := rfl
@[simp] theorem State.incSat_heads (a n : Nat) : (s.incSat a n).heads = s.heads := rfl
@[simp] theorem State.incSat_mem (a n : Nat) : (s.incSat a n).mem = s.mem := rfl
@[simp] theorem State.incSat_bces (a n : Nat) : (s.incSat a n).bces = s.bces := rfl
@[simp] theorem State.incSat_checks (a n : Nat) : (s.incSat a n).checks = s.checks := rfl
@[simp] theorem State.incSat_placed (a n : Nat) : (s.incSat a n).placed = s.placed := rfl
@[simp] theorem State.incSat_degraded (a n : Nat) : (s.incSat a n).degraded = s.degraded := rfl
@[simp] theorem State.incSat_tarns (a n : Nat) : (s.incSat a n).tarns = s.tarns := rfl
@[simp] theorem State.incSat_spills (a n : Nat) : (s.incSat a n).spills = s.spills := rfl
@[simp] theorem State.incSat_rends (a n : Nat) : (s.incSat a n).rends = s.rends := rfl
@[simp] theorem State.incSat_keys (a n : Nat) : (s.incSat a n).keys = s.keys := rfl
@[simp] theorem State.incSat_ras (a n : Nat) : (s.incSat a n).ras = s.ras := rfl
@[simp] theorem State.incSat_selfRefresh (a n : Nat) : (s.incSat a n).selfRefresh = s.selfRefresh := rfl
@[simp] theorem State.incSat_chans (a n : Nat) : (s.incSat a n).chans = s.chans := rfl
@[simp] theorem State.incSat_fabric (a n : Nat) : (s.incSat a n).fabric = s.fabric := rfl
@[simp] theorem State.incSat_sluice (a n : Nat) : (s.incSat a n).sluice = s.sluice := rfl
@[simp] theorem State.incSat_sluiceOrder (a n : Nat) : (s.incSat a n).sluiceOrder = s.sluiceOrder := rfl
@[simp] theorem State.incSat_lanes (a n : Nat) : (s.incSat a n).lanes = s.lanes := rfl
@[simp] theorem State.incSat_boot (a n : Nat) : (s.incSat a n).boot = s.boot := rfl
@[simp] theorem State.incSat_rings (a n : Nat) : (s.incSat a n).rings = s.rings := rfl
@[simp] theorem State.incSat_chunks (a n : Nat) : (s.incSat a n).chunks = s.chunks := rfl
@[simp] theorem State.incSat_outf (a n : Nat) : (s.incSat a n).outf = s.outf := rfl
@[simp] theorem State.incSat_pair (a n : Nat) : (s.incSat a n).pair = s.pair := rfl
/-! ### wr64 -/
@[simp] theorem State.wr64_pending (a v : Nat) : (s.wr64 a v).pending = s.pending := rfl
@[simp] theorem State.wr64_now (a v : Nat) : (s.wr64 a v).now = s.now := rfl
@[simp] theorem State.wr64_free (a v : Nat) : (s.wr64 a v).free = s.free := rfl
@[simp] theorem State.wr64_out (a v : Nat) : (s.wr64 a v).out = s.out := rfl
@[simp] theorem State.wr64_limits (a v : Nat) : (s.wr64 a v).limits = s.limits := rfl
@[simp] theorem State.wr64_eff (a v : Nat) : (s.wr64 a v).eff = s.eff := rfl
@[simp] theorem State.wr64_latch (a v : Nat) : (s.wr64 a v).latch = s.latch := rfl
@[simp] theorem State.wr64_time (a v : Nat) : (s.wr64 a v).time = s.time := rfl
@[simp] theorem State.wr64_doms (a v : Nat) : (s.wr64 a v).doms = s.doms := rfl
@[simp] theorem State.wr64_img (a v : Nat) : (s.wr64 a v).img = s.img := rfl
@[simp] theorem State.wr64_st (a v : Nat) : (s.wr64 a v).st = s.st := rfl
@[simp] theorem State.wr64_funcs (a v : Nat) : (s.wr64 a v).funcs = s.funcs := rfl
@[simp] theorem State.wr64_waiting (a v : Nat) : (s.wr64 a v).waiting = s.waiting := rfl
@[simp] theorem State.wr64_resets (a v : Nat) : (s.wr64 a v).resets = s.resets := rfl
@[simp] theorem State.wr64_pcie (a v : Nat) : (s.wr64 a v).pcie = s.pcie := rfl
@[simp] theorem State.wr64_devMaint (a v : Nat) : (s.wr64 a v).devMaint = s.devMaint := rfl
@[simp] theorem State.wr64_devMaintCmd (a v : Nat) : (s.wr64 a v).devMaintCmd = s.devMaintCmd := rfl
@[simp] theorem State.wr64_retired (a v : Nat) : (s.wr64 a v).retired = s.retired := rfl
@[simp] theorem State.wr64_excluded (a v : Nat) : (s.wr64 a v).excluded = s.excluded := rfl
@[simp] theorem State.wr64_courses (a v : Nat) : (s.wr64 a v).courses = s.courses := rfl
@[simp] theorem State.wr64_stages (a v : Nat) : (s.wr64 a v).stages = s.stages := rfl
@[simp] theorem State.wr64_bufs (a v : Nat) : (s.wr64 a v).bufs = s.bufs := rfl
@[simp] theorem State.wr64_inl (a v : Nat) : (s.wr64 a v).inl = s.inl := rfl
@[simp] theorem State.wr64_streams (a v : Nat) : (s.wr64 a v).streams = s.streams := rfl
@[simp] theorem State.wr64_founts (a v : Nat) : (s.wr64 a v).founts = s.founts := rfl
@[simp] theorem State.wr64_layers (a v : Nat) : (s.wr64 a v).layers = s.layers := rfl
@[simp] theorem State.wr64_postLut (a v : Nat) : (s.wr64 a v).postLut = s.postLut := rfl
@[simp] theorem State.wr64_prots (a v : Nat) : (s.wr64 a v).prots = s.prots := rfl
@[simp] theorem State.wr64_hostIns (a v : Nat) : (s.wr64 a v).hostIns = s.hostIns := rfl
@[simp] theorem State.wr64_heads (a v : Nat) : (s.wr64 a v).heads = s.heads := rfl
@[simp] theorem State.wr64_mem (a v : Nat) : (s.wr64 a v).mem = s.mem := rfl
@[simp] theorem State.wr64_bces (a v : Nat) : (s.wr64 a v).bces = s.bces := rfl
@[simp] theorem State.wr64_checks (a v : Nat) : (s.wr64 a v).checks = s.checks := rfl
@[simp] theorem State.wr64_placed (a v : Nat) : (s.wr64 a v).placed = s.placed := rfl
@[simp] theorem State.wr64_degraded (a v : Nat) : (s.wr64 a v).degraded = s.degraded := rfl
@[simp] theorem State.wr64_tarns (a v : Nat) : (s.wr64 a v).tarns = s.tarns := rfl
@[simp] theorem State.wr64_spills (a v : Nat) : (s.wr64 a v).spills = s.spills := rfl
@[simp] theorem State.wr64_rends (a v : Nat) : (s.wr64 a v).rends = s.rends := rfl
@[simp] theorem State.wr64_keys (a v : Nat) : (s.wr64 a v).keys = s.keys := rfl
@[simp] theorem State.wr64_ras (a v : Nat) : (s.wr64 a v).ras = s.ras := rfl
@[simp] theorem State.wr64_selfRefresh (a v : Nat) : (s.wr64 a v).selfRefresh = s.selfRefresh := rfl
@[simp] theorem State.wr64_chans (a v : Nat) : (s.wr64 a v).chans = s.chans := rfl
@[simp] theorem State.wr64_fabric (a v : Nat) : (s.wr64 a v).fabric = s.fabric := rfl
@[simp] theorem State.wr64_sluice (a v : Nat) : (s.wr64 a v).sluice = s.sluice := rfl
@[simp] theorem State.wr64_sluiceOrder (a v : Nat) : (s.wr64 a v).sluiceOrder = s.sluiceOrder := rfl
@[simp] theorem State.wr64_lanes (a v : Nat) : (s.wr64 a v).lanes = s.lanes := rfl
@[simp] theorem State.wr64_boot (a v : Nat) : (s.wr64 a v).boot = s.boot := rfl
@[simp] theorem State.wr64_rings (a v : Nat) : (s.wr64 a v).rings = s.rings := rfl
@[simp] theorem State.wr64_chunks (a v : Nat) : (s.wr64 a v).chunks = s.chunks := rfl
@[simp] theorem State.wr64_outf (a v : Nat) : (s.wr64 a v).outf = s.outf := rfl
@[simp] theorem State.wr64_pair (a v : Nat) : (s.wr64 a v).pair = s.pair := rfl
/-! ### inc64 -/
@[simp] theorem State.inc64_pending (a n : Nat) : (s.inc64 a n).pending = s.pending := rfl
@[simp] theorem State.inc64_now (a n : Nat) : (s.inc64 a n).now = s.now := rfl
@[simp] theorem State.inc64_free (a n : Nat) : (s.inc64 a n).free = s.free := rfl
@[simp] theorem State.inc64_out (a n : Nat) : (s.inc64 a n).out = s.out := rfl
@[simp] theorem State.inc64_limits (a n : Nat) : (s.inc64 a n).limits = s.limits := rfl
@[simp] theorem State.inc64_eff (a n : Nat) : (s.inc64 a n).eff = s.eff := rfl
@[simp] theorem State.inc64_latch (a n : Nat) : (s.inc64 a n).latch = s.latch := rfl
@[simp] theorem State.inc64_time (a n : Nat) : (s.inc64 a n).time = s.time := rfl
@[simp] theorem State.inc64_doms (a n : Nat) : (s.inc64 a n).doms = s.doms := rfl
@[simp] theorem State.inc64_img (a n : Nat) : (s.inc64 a n).img = s.img := rfl
@[simp] theorem State.inc64_st (a n : Nat) : (s.inc64 a n).st = s.st := rfl
@[simp] theorem State.inc64_funcs (a n : Nat) : (s.inc64 a n).funcs = s.funcs := rfl
@[simp] theorem State.inc64_waiting (a n : Nat) : (s.inc64 a n).waiting = s.waiting := rfl
@[simp] theorem State.inc64_resets (a n : Nat) : (s.inc64 a n).resets = s.resets := rfl
@[simp] theorem State.inc64_pcie (a n : Nat) : (s.inc64 a n).pcie = s.pcie := rfl
@[simp] theorem State.inc64_devMaint (a n : Nat) : (s.inc64 a n).devMaint = s.devMaint := rfl
@[simp] theorem State.inc64_devMaintCmd (a n : Nat) : (s.inc64 a n).devMaintCmd = s.devMaintCmd := rfl
@[simp] theorem State.inc64_retired (a n : Nat) : (s.inc64 a n).retired = s.retired := rfl
@[simp] theorem State.inc64_excluded (a n : Nat) : (s.inc64 a n).excluded = s.excluded := rfl
@[simp] theorem State.inc64_courses (a n : Nat) : (s.inc64 a n).courses = s.courses := rfl
@[simp] theorem State.inc64_stages (a n : Nat) : (s.inc64 a n).stages = s.stages := rfl
@[simp] theorem State.inc64_bufs (a n : Nat) : (s.inc64 a n).bufs = s.bufs := rfl
@[simp] theorem State.inc64_inl (a n : Nat) : (s.inc64 a n).inl = s.inl := rfl
@[simp] theorem State.inc64_streams (a n : Nat) : (s.inc64 a n).streams = s.streams := rfl
@[simp] theorem State.inc64_founts (a n : Nat) : (s.inc64 a n).founts = s.founts := rfl
@[simp] theorem State.inc64_layers (a n : Nat) : (s.inc64 a n).layers = s.layers := rfl
@[simp] theorem State.inc64_postLut (a n : Nat) : (s.inc64 a n).postLut = s.postLut := rfl
@[simp] theorem State.inc64_prots (a n : Nat) : (s.inc64 a n).prots = s.prots := rfl
@[simp] theorem State.inc64_hostIns (a n : Nat) : (s.inc64 a n).hostIns = s.hostIns := rfl
@[simp] theorem State.inc64_heads (a n : Nat) : (s.inc64 a n).heads = s.heads := rfl
@[simp] theorem State.inc64_mem (a n : Nat) : (s.inc64 a n).mem = s.mem := rfl
@[simp] theorem State.inc64_bces (a n : Nat) : (s.inc64 a n).bces = s.bces := rfl
@[simp] theorem State.inc64_checks (a n : Nat) : (s.inc64 a n).checks = s.checks := rfl
@[simp] theorem State.inc64_placed (a n : Nat) : (s.inc64 a n).placed = s.placed := rfl
@[simp] theorem State.inc64_degraded (a n : Nat) : (s.inc64 a n).degraded = s.degraded := rfl
@[simp] theorem State.inc64_tarns (a n : Nat) : (s.inc64 a n).tarns = s.tarns := rfl
@[simp] theorem State.inc64_spills (a n : Nat) : (s.inc64 a n).spills = s.spills := rfl
@[simp] theorem State.inc64_rends (a n : Nat) : (s.inc64 a n).rends = s.rends := rfl
@[simp] theorem State.inc64_keys (a n : Nat) : (s.inc64 a n).keys = s.keys := rfl
@[simp] theorem State.inc64_ras (a n : Nat) : (s.inc64 a n).ras = s.ras := rfl
@[simp] theorem State.inc64_selfRefresh (a n : Nat) : (s.inc64 a n).selfRefresh = s.selfRefresh := rfl
@[simp] theorem State.inc64_chans (a n : Nat) : (s.inc64 a n).chans = s.chans := rfl
@[simp] theorem State.inc64_fabric (a n : Nat) : (s.inc64 a n).fabric = s.fabric := rfl
@[simp] theorem State.inc64_sluice (a n : Nat) : (s.inc64 a n).sluice = s.sluice := rfl
@[simp] theorem State.inc64_sluiceOrder (a n : Nat) : (s.inc64 a n).sluiceOrder = s.sluiceOrder := rfl
@[simp] theorem State.inc64_lanes (a n : Nat) : (s.inc64 a n).lanes = s.lanes := rfl
@[simp] theorem State.inc64_boot (a n : Nat) : (s.inc64 a n).boot = s.boot := rfl
@[simp] theorem State.inc64_rings (a n : Nat) : (s.inc64 a n).rings = s.rings := rfl
@[simp] theorem State.inc64_chunks (a n : Nat) : (s.inc64 a n).chunks = s.chunks := rfl
@[simp] theorem State.inc64_outf (a n : Nat) : (s.inc64 a n).outf = s.outf := rfl
@[simp] theorem State.inc64_pair (a n : Nat) : (s.inc64 a n).pair = s.pair := rfl
/-! ### wrBoth -/
@[simp] theorem State.wrBoth_pending (a v : Nat) : (s.wrBoth a v).pending = s.pending := rfl
@[simp] theorem State.wrBoth_now (a v : Nat) : (s.wrBoth a v).now = s.now := rfl
@[simp] theorem State.wrBoth_free (a v : Nat) : (s.wrBoth a v).free = s.free := rfl
@[simp] theorem State.wrBoth_out (a v : Nat) : (s.wrBoth a v).out = s.out := rfl
@[simp] theorem State.wrBoth_limits (a v : Nat) : (s.wrBoth a v).limits = s.limits := rfl
@[simp] theorem State.wrBoth_latch (a v : Nat) : (s.wrBoth a v).latch = s.latch := rfl
@[simp] theorem State.wrBoth_time (a v : Nat) : (s.wrBoth a v).time = s.time := rfl
@[simp] theorem State.wrBoth_doms (a v : Nat) : (s.wrBoth a v).doms = s.doms := rfl
@[simp] theorem State.wrBoth_img (a v : Nat) : (s.wrBoth a v).img = s.img := rfl
@[simp] theorem State.wrBoth_st (a v : Nat) : (s.wrBoth a v).st = s.st := rfl
@[simp] theorem State.wrBoth_funcs (a v : Nat) : (s.wrBoth a v).funcs = s.funcs := rfl
@[simp] theorem State.wrBoth_waiting (a v : Nat) : (s.wrBoth a v).waiting = s.waiting := rfl
@[simp] theorem State.wrBoth_resets (a v : Nat) : (s.wrBoth a v).resets = s.resets := rfl
@[simp] theorem State.wrBoth_pcie (a v : Nat) : (s.wrBoth a v).pcie = s.pcie := rfl
@[simp] theorem State.wrBoth_devMaint (a v : Nat) : (s.wrBoth a v).devMaint = s.devMaint := rfl
@[simp] theorem State.wrBoth_devMaintCmd (a v : Nat) : (s.wrBoth a v).devMaintCmd = s.devMaintCmd := rfl
@[simp] theorem State.wrBoth_retired (a v : Nat) : (s.wrBoth a v).retired = s.retired := rfl
@[simp] theorem State.wrBoth_excluded (a v : Nat) : (s.wrBoth a v).excluded = s.excluded := rfl
@[simp] theorem State.wrBoth_courses (a v : Nat) : (s.wrBoth a v).courses = s.courses := rfl
@[simp] theorem State.wrBoth_stages (a v : Nat) : (s.wrBoth a v).stages = s.stages := rfl
@[simp] theorem State.wrBoth_bufs (a v : Nat) : (s.wrBoth a v).bufs = s.bufs := rfl
@[simp] theorem State.wrBoth_inl (a v : Nat) : (s.wrBoth a v).inl = s.inl := rfl
@[simp] theorem State.wrBoth_streams (a v : Nat) : (s.wrBoth a v).streams = s.streams := rfl
@[simp] theorem State.wrBoth_founts (a v : Nat) : (s.wrBoth a v).founts = s.founts := rfl
@[simp] theorem State.wrBoth_layers (a v : Nat) : (s.wrBoth a v).layers = s.layers := rfl
@[simp] theorem State.wrBoth_postLut (a v : Nat) : (s.wrBoth a v).postLut = s.postLut := rfl
@[simp] theorem State.wrBoth_prots (a v : Nat) : (s.wrBoth a v).prots = s.prots := rfl
@[simp] theorem State.wrBoth_hostIns (a v : Nat) : (s.wrBoth a v).hostIns = s.hostIns := rfl
@[simp] theorem State.wrBoth_heads (a v : Nat) : (s.wrBoth a v).heads = s.heads := rfl
@[simp] theorem State.wrBoth_mem (a v : Nat) : (s.wrBoth a v).mem = s.mem := rfl
@[simp] theorem State.wrBoth_bces (a v : Nat) : (s.wrBoth a v).bces = s.bces := rfl
@[simp] theorem State.wrBoth_checks (a v : Nat) : (s.wrBoth a v).checks = s.checks := rfl
@[simp] theorem State.wrBoth_placed (a v : Nat) : (s.wrBoth a v).placed = s.placed := rfl
@[simp] theorem State.wrBoth_degraded (a v : Nat) : (s.wrBoth a v).degraded = s.degraded := rfl
@[simp] theorem State.wrBoth_tarns (a v : Nat) : (s.wrBoth a v).tarns = s.tarns := rfl
@[simp] theorem State.wrBoth_spills (a v : Nat) : (s.wrBoth a v).spills = s.spills := rfl
@[simp] theorem State.wrBoth_rends (a v : Nat) : (s.wrBoth a v).rends = s.rends := rfl
@[simp] theorem State.wrBoth_keys (a v : Nat) : (s.wrBoth a v).keys = s.keys := rfl
@[simp] theorem State.wrBoth_ras (a v : Nat) : (s.wrBoth a v).ras = s.ras := rfl
@[simp] theorem State.wrBoth_selfRefresh (a v : Nat) : (s.wrBoth a v).selfRefresh = s.selfRefresh := rfl
@[simp] theorem State.wrBoth_chans (a v : Nat) : (s.wrBoth a v).chans = s.chans := rfl
@[simp] theorem State.wrBoth_fabric (a v : Nat) : (s.wrBoth a v).fabric = s.fabric := rfl
@[simp] theorem State.wrBoth_sluice (a v : Nat) : (s.wrBoth a v).sluice = s.sluice := rfl
@[simp] theorem State.wrBoth_sluiceOrder (a v : Nat) : (s.wrBoth a v).sluiceOrder = s.sluiceOrder := rfl
@[simp] theorem State.wrBoth_lanes (a v : Nat) : (s.wrBoth a v).lanes = s.lanes := rfl
@[simp] theorem State.wrBoth_boot (a v : Nat) : (s.wrBoth a v).boot = s.boot := rfl
@[simp] theorem State.wrBoth_rings (a v : Nat) : (s.wrBoth a v).rings = s.rings := rfl
@[simp] theorem State.wrBoth_chunks (a v : Nat) : (s.wrBoth a v).chunks = s.chunks := rfl
@[simp] theorem State.wrBoth_outf (a v : Nat) : (s.wrBoth a v).outf = s.outf := rfl
@[simp] theorem State.wrBoth_pair (a v : Nat) : (s.wrBoth a v).pair = s.pair := rfl
/-! ### emit -/
@[simp] theorem State.emit_pending (o : Output) : (s.emit o).pending = s.pending := rfl
@[simp] theorem State.emit_now (o : Output) : (s.emit o).now = s.now := rfl
@[simp] theorem State.emit_free (o : Output) : (s.emit o).free = s.free := rfl
@[simp] theorem State.emit_limits (o : Output) : (s.emit o).limits = s.limits := rfl
@[simp] theorem State.emit_regs (o : Output) : (s.emit o).regs = s.regs := rfl
@[simp] theorem State.emit_eff (o : Output) : (s.emit o).eff = s.eff := rfl
@[simp] theorem State.emit_latch (o : Output) : (s.emit o).latch = s.latch := rfl
@[simp] theorem State.emit_time (o : Output) : (s.emit o).time = s.time := rfl
@[simp] theorem State.emit_doms (o : Output) : (s.emit o).doms = s.doms := rfl
@[simp] theorem State.emit_img (o : Output) : (s.emit o).img = s.img := rfl
@[simp] theorem State.emit_st (o : Output) : (s.emit o).st = s.st := rfl
@[simp] theorem State.emit_funcs (o : Output) : (s.emit o).funcs = s.funcs := rfl
@[simp] theorem State.emit_waiting (o : Output) : (s.emit o).waiting = s.waiting := rfl
@[simp] theorem State.emit_resets (o : Output) : (s.emit o).resets = s.resets := rfl
@[simp] theorem State.emit_pcie (o : Output) : (s.emit o).pcie = s.pcie := rfl
@[simp] theorem State.emit_devMaint (o : Output) : (s.emit o).devMaint = s.devMaint := rfl
@[simp] theorem State.emit_devMaintCmd (o : Output) : (s.emit o).devMaintCmd = s.devMaintCmd := rfl
@[simp] theorem State.emit_retired (o : Output) : (s.emit o).retired = s.retired := rfl
@[simp] theorem State.emit_excluded (o : Output) : (s.emit o).excluded = s.excluded := rfl
@[simp] theorem State.emit_courses (o : Output) : (s.emit o).courses = s.courses := rfl
@[simp] theorem State.emit_stages (o : Output) : (s.emit o).stages = s.stages := rfl
@[simp] theorem State.emit_bufs (o : Output) : (s.emit o).bufs = s.bufs := rfl
@[simp] theorem State.emit_inl (o : Output) : (s.emit o).inl = s.inl := rfl
@[simp] theorem State.emit_streams (o : Output) : (s.emit o).streams = s.streams := rfl
@[simp] theorem State.emit_founts (o : Output) : (s.emit o).founts = s.founts := rfl
@[simp] theorem State.emit_layers (o : Output) : (s.emit o).layers = s.layers := rfl
@[simp] theorem State.emit_postLut (o : Output) : (s.emit o).postLut = s.postLut := rfl
@[simp] theorem State.emit_prots (o : Output) : (s.emit o).prots = s.prots := rfl
@[simp] theorem State.emit_hostIns (o : Output) : (s.emit o).hostIns = s.hostIns := rfl
@[simp] theorem State.emit_heads (o : Output) : (s.emit o).heads = s.heads := rfl
@[simp] theorem State.emit_mem (o : Output) : (s.emit o).mem = s.mem := rfl
@[simp] theorem State.emit_bces (o : Output) : (s.emit o).bces = s.bces := rfl
@[simp] theorem State.emit_checks (o : Output) : (s.emit o).checks = s.checks := rfl
@[simp] theorem State.emit_placed (o : Output) : (s.emit o).placed = s.placed := rfl
@[simp] theorem State.emit_degraded (o : Output) : (s.emit o).degraded = s.degraded := rfl
@[simp] theorem State.emit_tarns (o : Output) : (s.emit o).tarns = s.tarns := rfl
@[simp] theorem State.emit_spills (o : Output) : (s.emit o).spills = s.spills := rfl
@[simp] theorem State.emit_rends (o : Output) : (s.emit o).rends = s.rends := rfl
@[simp] theorem State.emit_keys (o : Output) : (s.emit o).keys = s.keys := rfl
@[simp] theorem State.emit_ras (o : Output) : (s.emit o).ras = s.ras := rfl
@[simp] theorem State.emit_selfRefresh (o : Output) : (s.emit o).selfRefresh = s.selfRefresh := rfl
@[simp] theorem State.emit_chans (o : Output) : (s.emit o).chans = s.chans := rfl
@[simp] theorem State.emit_fabric (o : Output) : (s.emit o).fabric = s.fabric := rfl
@[simp] theorem State.emit_sluice (o : Output) : (s.emit o).sluice = s.sluice := rfl
@[simp] theorem State.emit_sluiceOrder (o : Output) : (s.emit o).sluiceOrder = s.sluiceOrder := rfl
@[simp] theorem State.emit_lanes (o : Output) : (s.emit o).lanes = s.lanes := rfl
@[simp] theorem State.emit_boot (o : Output) : (s.emit o).boot = s.boot := rfl
@[simp] theorem State.emit_rings (o : Output) : (s.emit o).rings = s.rings := rfl
@[simp] theorem State.emit_chunks (o : Output) : (s.emit o).chunks = s.chunks := rfl
@[simp] theorem State.emit_outf (o : Output) : (s.emit o).outf = s.outf := rfl
@[simp] theorem State.emit_pair (o : Output) : (s.emit o).pair = s.pair := rfl
/-! ### emits -/
@[simp] theorem State.emits_pending (o : List Output) : (s.emits o).pending = s.pending := rfl
@[simp] theorem State.emits_now (o : List Output) : (s.emits o).now = s.now := rfl
@[simp] theorem State.emits_free (o : List Output) : (s.emits o).free = s.free := rfl
@[simp] theorem State.emits_limits (o : List Output) : (s.emits o).limits = s.limits := rfl
@[simp] theorem State.emits_regs (o : List Output) : (s.emits o).regs = s.regs := rfl
@[simp] theorem State.emits_eff (o : List Output) : (s.emits o).eff = s.eff := rfl
@[simp] theorem State.emits_latch (o : List Output) : (s.emits o).latch = s.latch := rfl
@[simp] theorem State.emits_time (o : List Output) : (s.emits o).time = s.time := rfl
@[simp] theorem State.emits_doms (o : List Output) : (s.emits o).doms = s.doms := rfl
@[simp] theorem State.emits_img (o : List Output) : (s.emits o).img = s.img := rfl
@[simp] theorem State.emits_st (o : List Output) : (s.emits o).st = s.st := rfl
@[simp] theorem State.emits_funcs (o : List Output) : (s.emits o).funcs = s.funcs := rfl
@[simp] theorem State.emits_waiting (o : List Output) : (s.emits o).waiting = s.waiting := rfl
@[simp] theorem State.emits_resets (o : List Output) : (s.emits o).resets = s.resets := rfl
@[simp] theorem State.emits_pcie (o : List Output) : (s.emits o).pcie = s.pcie := rfl
@[simp] theorem State.emits_devMaint (o : List Output) : (s.emits o).devMaint = s.devMaint := rfl
@[simp] theorem State.emits_devMaintCmd (o : List Output) : (s.emits o).devMaintCmd = s.devMaintCmd := rfl
@[simp] theorem State.emits_retired (o : List Output) : (s.emits o).retired = s.retired := rfl
@[simp] theorem State.emits_excluded (o : List Output) : (s.emits o).excluded = s.excluded := rfl
@[simp] theorem State.emits_courses (o : List Output) : (s.emits o).courses = s.courses := rfl
@[simp] theorem State.emits_stages (o : List Output) : (s.emits o).stages = s.stages := rfl
@[simp] theorem State.emits_bufs (o : List Output) : (s.emits o).bufs = s.bufs := rfl
@[simp] theorem State.emits_inl (o : List Output) : (s.emits o).inl = s.inl := rfl
@[simp] theorem State.emits_streams (o : List Output) : (s.emits o).streams = s.streams := rfl
@[simp] theorem State.emits_founts (o : List Output) : (s.emits o).founts = s.founts := rfl
@[simp] theorem State.emits_layers (o : List Output) : (s.emits o).layers = s.layers := rfl
@[simp] theorem State.emits_postLut (o : List Output) : (s.emits o).postLut = s.postLut := rfl
@[simp] theorem State.emits_prots (o : List Output) : (s.emits o).prots = s.prots := rfl
@[simp] theorem State.emits_hostIns (o : List Output) : (s.emits o).hostIns = s.hostIns := rfl
@[simp] theorem State.emits_heads (o : List Output) : (s.emits o).heads = s.heads := rfl
@[simp] theorem State.emits_mem (o : List Output) : (s.emits o).mem = s.mem := rfl
@[simp] theorem State.emits_bces (o : List Output) : (s.emits o).bces = s.bces := rfl
@[simp] theorem State.emits_checks (o : List Output) : (s.emits o).checks = s.checks := rfl
@[simp] theorem State.emits_placed (o : List Output) : (s.emits o).placed = s.placed := rfl
@[simp] theorem State.emits_degraded (o : List Output) : (s.emits o).degraded = s.degraded := rfl
@[simp] theorem State.emits_tarns (o : List Output) : (s.emits o).tarns = s.tarns := rfl
@[simp] theorem State.emits_spills (o : List Output) : (s.emits o).spills = s.spills := rfl
@[simp] theorem State.emits_rends (o : List Output) : (s.emits o).rends = s.rends := rfl
@[simp] theorem State.emits_keys (o : List Output) : (s.emits o).keys = s.keys := rfl
@[simp] theorem State.emits_ras (o : List Output) : (s.emits o).ras = s.ras := rfl
@[simp] theorem State.emits_selfRefresh (o : List Output) : (s.emits o).selfRefresh = s.selfRefresh := rfl
@[simp] theorem State.emits_chans (o : List Output) : (s.emits o).chans = s.chans := rfl
@[simp] theorem State.emits_fabric (o : List Output) : (s.emits o).fabric = s.fabric := rfl
@[simp] theorem State.emits_sluice (o : List Output) : (s.emits o).sluice = s.sluice := rfl
@[simp] theorem State.emits_sluiceOrder (o : List Output) : (s.emits o).sluiceOrder = s.sluiceOrder := rfl
@[simp] theorem State.emits_lanes (o : List Output) : (s.emits o).lanes = s.lanes := rfl
@[simp] theorem State.emits_boot (o : List Output) : (s.emits o).boot = s.boot := rfl
@[simp] theorem State.emits_rings (o : List Output) : (s.emits o).rings = s.rings := rfl
@[simp] theorem State.emits_chunks (o : List Output) : (s.emits o).chunks = s.chunks := rfl
@[simp] theorem State.emits_outf (o : List Output) : (s.emits o).outf = s.outf := rfl
@[simp] theorem State.emits_pair (o : List Output) : (s.emits o).pair = s.pair := rfl
/-! ### cycles -/
@[simp] theorem State.cycles_pending (k : Nat) : (s.cycles k).pending = s.pending := rfl
@[simp] theorem State.cycles_free (k : Nat) : (s.cycles k).free = s.free := rfl
@[simp] theorem State.cycles_out (k : Nat) : (s.cycles k).out = s.out := rfl
@[simp] theorem State.cycles_limits (k : Nat) : (s.cycles k).limits = s.limits := rfl
@[simp] theorem State.cycles_regs (k : Nat) : (s.cycles k).regs = s.regs := rfl
@[simp] theorem State.cycles_eff (k : Nat) : (s.cycles k).eff = s.eff := rfl
@[simp] theorem State.cycles_latch (k : Nat) : (s.cycles k).latch = s.latch := rfl
@[simp] theorem State.cycles_doms (k : Nat) : (s.cycles k).doms = s.doms := rfl
@[simp] theorem State.cycles_img (k : Nat) : (s.cycles k).img = s.img := rfl
@[simp] theorem State.cycles_st (k : Nat) : (s.cycles k).st = s.st := rfl
@[simp] theorem State.cycles_funcs (k : Nat) : (s.cycles k).funcs = s.funcs := rfl
@[simp] theorem State.cycles_waiting (k : Nat) : (s.cycles k).waiting = s.waiting := rfl
@[simp] theorem State.cycles_resets (k : Nat) : (s.cycles k).resets = s.resets := rfl
@[simp] theorem State.cycles_pcie (k : Nat) : (s.cycles k).pcie = s.pcie := rfl
@[simp] theorem State.cycles_devMaint (k : Nat) : (s.cycles k).devMaint = s.devMaint := rfl
@[simp] theorem State.cycles_devMaintCmd (k : Nat) : (s.cycles k).devMaintCmd = s.devMaintCmd := rfl
@[simp] theorem State.cycles_retired (k : Nat) : (s.cycles k).retired = s.retired := rfl
@[simp] theorem State.cycles_excluded (k : Nat) : (s.cycles k).excluded = s.excluded := rfl
@[simp] theorem State.cycles_courses (k : Nat) : (s.cycles k).courses = s.courses := rfl
@[simp] theorem State.cycles_stages (k : Nat) : (s.cycles k).stages = s.stages := rfl
@[simp] theorem State.cycles_bufs (k : Nat) : (s.cycles k).bufs = s.bufs := rfl
@[simp] theorem State.cycles_inl (k : Nat) : (s.cycles k).inl = s.inl := rfl
@[simp] theorem State.cycles_streams (k : Nat) : (s.cycles k).streams = s.streams := rfl
@[simp] theorem State.cycles_founts (k : Nat) : (s.cycles k).founts = s.founts := rfl
@[simp] theorem State.cycles_layers (k : Nat) : (s.cycles k).layers = s.layers := rfl
@[simp] theorem State.cycles_postLut (k : Nat) : (s.cycles k).postLut = s.postLut := rfl
@[simp] theorem State.cycles_prots (k : Nat) : (s.cycles k).prots = s.prots := rfl
@[simp] theorem State.cycles_hostIns (k : Nat) : (s.cycles k).hostIns = s.hostIns := rfl
@[simp] theorem State.cycles_heads (k : Nat) : (s.cycles k).heads = s.heads := rfl
@[simp] theorem State.cycles_mem (k : Nat) : (s.cycles k).mem = s.mem := rfl
@[simp] theorem State.cycles_bces (k : Nat) : (s.cycles k).bces = s.bces := rfl
@[simp] theorem State.cycles_checks (k : Nat) : (s.cycles k).checks = s.checks := rfl
@[simp] theorem State.cycles_placed (k : Nat) : (s.cycles k).placed = s.placed := rfl
@[simp] theorem State.cycles_degraded (k : Nat) : (s.cycles k).degraded = s.degraded := rfl
@[simp] theorem State.cycles_tarns (k : Nat) : (s.cycles k).tarns = s.tarns := rfl
@[simp] theorem State.cycles_spills (k : Nat) : (s.cycles k).spills = s.spills := rfl
@[simp] theorem State.cycles_rends (k : Nat) : (s.cycles k).rends = s.rends := rfl
@[simp] theorem State.cycles_keys (k : Nat) : (s.cycles k).keys = s.keys := rfl
@[simp] theorem State.cycles_ras (k : Nat) : (s.cycles k).ras = s.ras := rfl
@[simp] theorem State.cycles_selfRefresh (k : Nat) : (s.cycles k).selfRefresh = s.selfRefresh := rfl
@[simp] theorem State.cycles_chans (k : Nat) : (s.cycles k).chans = s.chans := rfl
@[simp] theorem State.cycles_fabric (k : Nat) : (s.cycles k).fabric = s.fabric := rfl
@[simp] theorem State.cycles_sluice (k : Nat) : (s.cycles k).sluice = s.sluice := rfl
@[simp] theorem State.cycles_sluiceOrder (k : Nat) : (s.cycles k).sluiceOrder = s.sluiceOrder := rfl
@[simp] theorem State.cycles_lanes (k : Nat) : (s.cycles k).lanes = s.lanes := rfl
@[simp] theorem State.cycles_boot (k : Nat) : (s.cycles k).boot = s.boot := rfl
@[simp] theorem State.cycles_rings (k : Nat) : (s.cycles k).rings = s.rings := rfl
@[simp] theorem State.cycles_chunks (k : Nat) : (s.cycles k).chunks = s.chunks := rfl
@[simp] theorem State.cycles_outf (k : Nat) : (s.cycles k).outf = s.outf := rfl
@[simp] theorem State.cycles_pair (k : Nat) : (s.cycles k).pair = s.pair := rfl
/-! ### runTo -/
@[simp] theorem State.runTo_pending (c : Nat) : (s.runTo c).pending = s.pending := rfl
@[simp] theorem State.runTo_free (c : Nat) : (s.runTo c).free = s.free := rfl
@[simp] theorem State.runTo_out (c : Nat) : (s.runTo c).out = s.out := rfl
@[simp] theorem State.runTo_limits (c : Nat) : (s.runTo c).limits = s.limits := rfl
@[simp] theorem State.runTo_regs (c : Nat) : (s.runTo c).regs = s.regs := rfl
@[simp] theorem State.runTo_eff (c : Nat) : (s.runTo c).eff = s.eff := rfl
@[simp] theorem State.runTo_latch (c : Nat) : (s.runTo c).latch = s.latch := rfl
@[simp] theorem State.runTo_doms (c : Nat) : (s.runTo c).doms = s.doms := rfl
@[simp] theorem State.runTo_img (c : Nat) : (s.runTo c).img = s.img := rfl
@[simp] theorem State.runTo_st (c : Nat) : (s.runTo c).st = s.st := rfl
@[simp] theorem State.runTo_funcs (c : Nat) : (s.runTo c).funcs = s.funcs := rfl
@[simp] theorem State.runTo_waiting (c : Nat) : (s.runTo c).waiting = s.waiting := rfl
@[simp] theorem State.runTo_resets (c : Nat) : (s.runTo c).resets = s.resets := rfl
@[simp] theorem State.runTo_pcie (c : Nat) : (s.runTo c).pcie = s.pcie := rfl
@[simp] theorem State.runTo_devMaint (c : Nat) : (s.runTo c).devMaint = s.devMaint := rfl
@[simp] theorem State.runTo_devMaintCmd (c : Nat) : (s.runTo c).devMaintCmd = s.devMaintCmd := rfl
@[simp] theorem State.runTo_retired (c : Nat) : (s.runTo c).retired = s.retired := rfl
@[simp] theorem State.runTo_excluded (c : Nat) : (s.runTo c).excluded = s.excluded := rfl
@[simp] theorem State.runTo_courses (c : Nat) : (s.runTo c).courses = s.courses := rfl
@[simp] theorem State.runTo_stages (c : Nat) : (s.runTo c).stages = s.stages := rfl
@[simp] theorem State.runTo_bufs (c : Nat) : (s.runTo c).bufs = s.bufs := rfl
@[simp] theorem State.runTo_inl (c : Nat) : (s.runTo c).inl = s.inl := rfl
@[simp] theorem State.runTo_streams (c : Nat) : (s.runTo c).streams = s.streams := rfl
@[simp] theorem State.runTo_founts (c : Nat) : (s.runTo c).founts = s.founts := rfl
@[simp] theorem State.runTo_layers (c : Nat) : (s.runTo c).layers = s.layers := rfl
@[simp] theorem State.runTo_postLut (c : Nat) : (s.runTo c).postLut = s.postLut := rfl
@[simp] theorem State.runTo_prots (c : Nat) : (s.runTo c).prots = s.prots := rfl
@[simp] theorem State.runTo_hostIns (c : Nat) : (s.runTo c).hostIns = s.hostIns := rfl
@[simp] theorem State.runTo_heads (c : Nat) : (s.runTo c).heads = s.heads := rfl
@[simp] theorem State.runTo_mem (c : Nat) : (s.runTo c).mem = s.mem := rfl
@[simp] theorem State.runTo_bces (c : Nat) : (s.runTo c).bces = s.bces := rfl
@[simp] theorem State.runTo_checks (c : Nat) : (s.runTo c).checks = s.checks := rfl
@[simp] theorem State.runTo_placed (c : Nat) : (s.runTo c).placed = s.placed := rfl
@[simp] theorem State.runTo_degraded (c : Nat) : (s.runTo c).degraded = s.degraded := rfl
@[simp] theorem State.runTo_tarns (c : Nat) : (s.runTo c).tarns = s.tarns := rfl
@[simp] theorem State.runTo_spills (c : Nat) : (s.runTo c).spills = s.spills := rfl
@[simp] theorem State.runTo_rends (c : Nat) : (s.runTo c).rends = s.rends := rfl
@[simp] theorem State.runTo_keys (c : Nat) : (s.runTo c).keys = s.keys := rfl
@[simp] theorem State.runTo_ras (c : Nat) : (s.runTo c).ras = s.ras := rfl
@[simp] theorem State.runTo_selfRefresh (c : Nat) : (s.runTo c).selfRefresh = s.selfRefresh := rfl
@[simp] theorem State.runTo_chans (c : Nat) : (s.runTo c).chans = s.chans := rfl
@[simp] theorem State.runTo_fabric (c : Nat) : (s.runTo c).fabric = s.fabric := rfl
@[simp] theorem State.runTo_sluice (c : Nat) : (s.runTo c).sluice = s.sluice := rfl
@[simp] theorem State.runTo_sluiceOrder (c : Nat) : (s.runTo c).sluiceOrder = s.sluiceOrder := rfl
@[simp] theorem State.runTo_lanes (c : Nat) : (s.runTo c).lanes = s.lanes := rfl
@[simp] theorem State.runTo_boot (c : Nat) : (s.runTo c).boot = s.boot := rfl
@[simp] theorem State.runTo_rings (c : Nat) : (s.runTo c).rings = s.rings := rfl
@[simp] theorem State.runTo_chunks (c : Nat) : (s.runTo c).chunks = s.chunks := rfl
@[simp] theorem State.runTo_outf (c : Nat) : (s.runTo c).outf = s.outf := rfl
@[simp] theorem State.runTo_pair (c : Nat) : (s.runTo c).pair = s.pair := rfl
/-! ### setDom -/
@[simp] theorem State.setDom_pending (d : Nat) (x : Domain) : (s.setDom d x).pending = s.pending := rfl
@[simp] theorem State.setDom_now (d : Nat) (x : Domain) : (s.setDom d x).now = s.now := rfl
@[simp] theorem State.setDom_free (d : Nat) (x : Domain) : (s.setDom d x).free = s.free := rfl
@[simp] theorem State.setDom_out (d : Nat) (x : Domain) : (s.setDom d x).out = s.out := rfl
@[simp] theorem State.setDom_limits (d : Nat) (x : Domain) : (s.setDom d x).limits = s.limits := rfl
@[simp] theorem State.setDom_regs (d : Nat) (x : Domain) : (s.setDom d x).regs = s.regs := rfl
@[simp] theorem State.setDom_eff (d : Nat) (x : Domain) : (s.setDom d x).eff = s.eff := rfl
@[simp] theorem State.setDom_latch (d : Nat) (x : Domain) : (s.setDom d x).latch = s.latch := rfl
@[simp] theorem State.setDom_time (d : Nat) (x : Domain) : (s.setDom d x).time = s.time := rfl
@[simp] theorem State.setDom_img (d : Nat) (x : Domain) : (s.setDom d x).img = s.img := rfl
@[simp] theorem State.setDom_st (d : Nat) (x : Domain) : (s.setDom d x).st = s.st := rfl
@[simp] theorem State.setDom_funcs (d : Nat) (x : Domain) : (s.setDom d x).funcs = s.funcs := rfl
@[simp] theorem State.setDom_waiting (d : Nat) (x : Domain) : (s.setDom d x).waiting = s.waiting := rfl
@[simp] theorem State.setDom_resets (d : Nat) (x : Domain) : (s.setDom d x).resets = s.resets := rfl
@[simp] theorem State.setDom_pcie (d : Nat) (x : Domain) : (s.setDom d x).pcie = s.pcie := rfl
@[simp] theorem State.setDom_devMaint (d : Nat) (x : Domain) : (s.setDom d x).devMaint = s.devMaint := rfl
@[simp] theorem State.setDom_devMaintCmd (d : Nat) (x : Domain) : (s.setDom d x).devMaintCmd = s.devMaintCmd := rfl
@[simp] theorem State.setDom_retired (d : Nat) (x : Domain) : (s.setDom d x).retired = s.retired := rfl
@[simp] theorem State.setDom_excluded (d : Nat) (x : Domain) : (s.setDom d x).excluded = s.excluded := rfl
@[simp] theorem State.setDom_courses (d : Nat) (x : Domain) : (s.setDom d x).courses = s.courses := rfl
@[simp] theorem State.setDom_stages (d : Nat) (x : Domain) : (s.setDom d x).stages = s.stages := rfl
@[simp] theorem State.setDom_bufs (d : Nat) (x : Domain) : (s.setDom d x).bufs = s.bufs := rfl
@[simp] theorem State.setDom_inl (d : Nat) (x : Domain) : (s.setDom d x).inl = s.inl := rfl
@[simp] theorem State.setDom_streams (d : Nat) (x : Domain) : (s.setDom d x).streams = s.streams := rfl
@[simp] theorem State.setDom_founts (d : Nat) (x : Domain) : (s.setDom d x).founts = s.founts := rfl
@[simp] theorem State.setDom_layers (d : Nat) (x : Domain) : (s.setDom d x).layers = s.layers := rfl
@[simp] theorem State.setDom_postLut (d : Nat) (x : Domain) : (s.setDom d x).postLut = s.postLut := rfl
@[simp] theorem State.setDom_prots (d : Nat) (x : Domain) : (s.setDom d x).prots = s.prots := rfl
@[simp] theorem State.setDom_hostIns (d : Nat) (x : Domain) : (s.setDom d x).hostIns = s.hostIns := rfl
@[simp] theorem State.setDom_heads (d : Nat) (x : Domain) : (s.setDom d x).heads = s.heads := rfl
@[simp] theorem State.setDom_mem (d : Nat) (x : Domain) : (s.setDom d x).mem = s.mem := rfl
@[simp] theorem State.setDom_bces (d : Nat) (x : Domain) : (s.setDom d x).bces = s.bces := rfl
@[simp] theorem State.setDom_checks (d : Nat) (x : Domain) : (s.setDom d x).checks = s.checks := rfl
@[simp] theorem State.setDom_placed (d : Nat) (x : Domain) : (s.setDom d x).placed = s.placed := rfl
@[simp] theorem State.setDom_degraded (d : Nat) (x : Domain) : (s.setDom d x).degraded = s.degraded := rfl
@[simp] theorem State.setDom_tarns (d : Nat) (x : Domain) : (s.setDom d x).tarns = s.tarns := rfl
@[simp] theorem State.setDom_spills (d : Nat) (x : Domain) : (s.setDom d x).spills = s.spills := rfl
@[simp] theorem State.setDom_rends (d : Nat) (x : Domain) : (s.setDom d x).rends = s.rends := rfl
@[simp] theorem State.setDom_keys (d : Nat) (x : Domain) : (s.setDom d x).keys = s.keys := rfl
@[simp] theorem State.setDom_ras (d : Nat) (x : Domain) : (s.setDom d x).ras = s.ras := rfl
@[simp] theorem State.setDom_selfRefresh (d : Nat) (x : Domain) : (s.setDom d x).selfRefresh = s.selfRefresh := rfl
@[simp] theorem State.setDom_chans (d : Nat) (x : Domain) : (s.setDom d x).chans = s.chans := rfl
@[simp] theorem State.setDom_fabric (d : Nat) (x : Domain) : (s.setDom d x).fabric = s.fabric := rfl
@[simp] theorem State.setDom_sluice (d : Nat) (x : Domain) : (s.setDom d x).sluice = s.sluice := rfl
@[simp] theorem State.setDom_sluiceOrder (d : Nat) (x : Domain) : (s.setDom d x).sluiceOrder = s.sluiceOrder := rfl
@[simp] theorem State.setDom_lanes (d : Nat) (x : Domain) : (s.setDom d x).lanes = s.lanes := rfl
@[simp] theorem State.setDom_boot (d : Nat) (x : Domain) : (s.setDom d x).boot = s.boot := rfl
@[simp] theorem State.setDom_rings (d : Nat) (x : Domain) : (s.setDom d x).rings = s.rings := rfl
@[simp] theorem State.setDom_chunks (d : Nat) (x : Domain) : (s.setDom d x).chunks = s.chunks := rfl
@[simp] theorem State.setDom_outf (d : Nat) (x : Domain) : (s.setDom d x).outf = s.outf := rfl
@[simp] theorem State.setDom_pair (d : Nat) (x : Domain) : (s.setDom d x).pair = s.pair := rfl
/-! ### updDom -/
@[simp] theorem State.updDom_pending (d : Nat) (f : Domain → Domain) : (s.updDom d f).pending = s.pending := rfl
@[simp] theorem State.updDom_now (d : Nat) (f : Domain → Domain) : (s.updDom d f).now = s.now := rfl
@[simp] theorem State.updDom_free (d : Nat) (f : Domain → Domain) : (s.updDom d f).free = s.free := rfl
@[simp] theorem State.updDom_out (d : Nat) (f : Domain → Domain) : (s.updDom d f).out = s.out := rfl
@[simp] theorem State.updDom_limits (d : Nat) (f : Domain → Domain) : (s.updDom d f).limits = s.limits := rfl
@[simp] theorem State.updDom_regs (d : Nat) (f : Domain → Domain) : (s.updDom d f).regs = s.regs := rfl
@[simp] theorem State.updDom_eff (d : Nat) (f : Domain → Domain) : (s.updDom d f).eff = s.eff := rfl
@[simp] theorem State.updDom_latch (d : Nat) (f : Domain → Domain) : (s.updDom d f).latch = s.latch := rfl
@[simp] theorem State.updDom_time (d : Nat) (f : Domain → Domain) : (s.updDom d f).time = s.time := rfl
@[simp] theorem State.updDom_img (d : Nat) (f : Domain → Domain) : (s.updDom d f).img = s.img := rfl
@[simp] theorem State.updDom_st (d : Nat) (f : Domain → Domain) : (s.updDom d f).st = s.st := rfl
@[simp] theorem State.updDom_funcs (d : Nat) (f : Domain → Domain) : (s.updDom d f).funcs = s.funcs := rfl
@[simp] theorem State.updDom_waiting (d : Nat) (f : Domain → Domain) : (s.updDom d f).waiting = s.waiting := rfl
@[simp] theorem State.updDom_resets (d : Nat) (f : Domain → Domain) : (s.updDom d f).resets = s.resets := rfl
@[simp] theorem State.updDom_pcie (d : Nat) (f : Domain → Domain) : (s.updDom d f).pcie = s.pcie := rfl
@[simp] theorem State.updDom_devMaint (d : Nat) (f : Domain → Domain) : (s.updDom d f).devMaint = s.devMaint := rfl
@[simp] theorem State.updDom_devMaintCmd (d : Nat) (f : Domain → Domain) : (s.updDom d f).devMaintCmd = s.devMaintCmd := rfl
@[simp] theorem State.updDom_retired (d : Nat) (f : Domain → Domain) : (s.updDom d f).retired = s.retired := rfl
@[simp] theorem State.updDom_excluded (d : Nat) (f : Domain → Domain) : (s.updDom d f).excluded = s.excluded := rfl
@[simp] theorem State.updDom_courses (d : Nat) (f : Domain → Domain) : (s.updDom d f).courses = s.courses := rfl
@[simp] theorem State.updDom_stages (d : Nat) (f : Domain → Domain) : (s.updDom d f).stages = s.stages := rfl
@[simp] theorem State.updDom_bufs (d : Nat) (f : Domain → Domain) : (s.updDom d f).bufs = s.bufs := rfl
@[simp] theorem State.updDom_inl (d : Nat) (f : Domain → Domain) : (s.updDom d f).inl = s.inl := rfl
@[simp] theorem State.updDom_streams (d : Nat) (f : Domain → Domain) : (s.updDom d f).streams = s.streams := rfl
@[simp] theorem State.updDom_founts (d : Nat) (f : Domain → Domain) : (s.updDom d f).founts = s.founts := rfl
@[simp] theorem State.updDom_layers (d : Nat) (f : Domain → Domain) : (s.updDom d f).layers = s.layers := rfl
@[simp] theorem State.updDom_postLut (d : Nat) (f : Domain → Domain) : (s.updDom d f).postLut = s.postLut := rfl
@[simp] theorem State.updDom_prots (d : Nat) (f : Domain → Domain) : (s.updDom d f).prots = s.prots := rfl
@[simp] theorem State.updDom_hostIns (d : Nat) (f : Domain → Domain) : (s.updDom d f).hostIns = s.hostIns := rfl
@[simp] theorem State.updDom_heads (d : Nat) (f : Domain → Domain) : (s.updDom d f).heads = s.heads := rfl
@[simp] theorem State.updDom_mem (d : Nat) (f : Domain → Domain) : (s.updDom d f).mem = s.mem := rfl
@[simp] theorem State.updDom_bces (d : Nat) (f : Domain → Domain) : (s.updDom d f).bces = s.bces := rfl
@[simp] theorem State.updDom_checks (d : Nat) (f : Domain → Domain) : (s.updDom d f).checks = s.checks := rfl
@[simp] theorem State.updDom_placed (d : Nat) (f : Domain → Domain) : (s.updDom d f).placed = s.placed := rfl
@[simp] theorem State.updDom_degraded (d : Nat) (f : Domain → Domain) : (s.updDom d f).degraded = s.degraded := rfl
@[simp] theorem State.updDom_tarns (d : Nat) (f : Domain → Domain) : (s.updDom d f).tarns = s.tarns := rfl
@[simp] theorem State.updDom_spills (d : Nat) (f : Domain → Domain) : (s.updDom d f).spills = s.spills := rfl
@[simp] theorem State.updDom_rends (d : Nat) (f : Domain → Domain) : (s.updDom d f).rends = s.rends := rfl
@[simp] theorem State.updDom_keys (d : Nat) (f : Domain → Domain) : (s.updDom d f).keys = s.keys := rfl
@[simp] theorem State.updDom_ras (d : Nat) (f : Domain → Domain) : (s.updDom d f).ras = s.ras := rfl
@[simp] theorem State.updDom_selfRefresh (d : Nat) (f : Domain → Domain) : (s.updDom d f).selfRefresh = s.selfRefresh := rfl
@[simp] theorem State.updDom_chans (d : Nat) (f : Domain → Domain) : (s.updDom d f).chans = s.chans := rfl
@[simp] theorem State.updDom_fabric (d : Nat) (f : Domain → Domain) : (s.updDom d f).fabric = s.fabric := rfl
@[simp] theorem State.updDom_sluice (d : Nat) (f : Domain → Domain) : (s.updDom d f).sluice = s.sluice := rfl
@[simp] theorem State.updDom_sluiceOrder (d : Nat) (f : Domain → Domain) : (s.updDom d f).sluiceOrder = s.sluiceOrder := rfl
@[simp] theorem State.updDom_lanes (d : Nat) (f : Domain → Domain) : (s.updDom d f).lanes = s.lanes := rfl
@[simp] theorem State.updDom_boot (d : Nat) (f : Domain → Domain) : (s.updDom d f).boot = s.boot := rfl
@[simp] theorem State.updDom_rings (d : Nat) (f : Domain → Domain) : (s.updDom d f).rings = s.rings := rfl
@[simp] theorem State.updDom_chunks (d : Nat) (f : Domain → Domain) : (s.updDom d f).chunks = s.chunks := rfl
@[simp] theorem State.updDom_outf (d : Nat) (f : Domain → Domain) : (s.updDom d f).outf = s.outf := rfl
@[simp] theorem State.updDom_pair (d : Nat) (f : Domain → Domain) : (s.updDom d f).pair = s.pair := rfl
/-! ### updFunc -/
@[simp] theorem State.updFunc_pending (n : Nat) (f : Func → Func) : (s.updFunc n f).pending = s.pending := rfl
@[simp] theorem State.updFunc_now (n : Nat) (f : Func → Func) : (s.updFunc n f).now = s.now := rfl
@[simp] theorem State.updFunc_free (n : Nat) (f : Func → Func) : (s.updFunc n f).free = s.free := rfl
@[simp] theorem State.updFunc_out (n : Nat) (f : Func → Func) : (s.updFunc n f).out = s.out := rfl
@[simp] theorem State.updFunc_limits (n : Nat) (f : Func → Func) : (s.updFunc n f).limits = s.limits := rfl
@[simp] theorem State.updFunc_regs (n : Nat) (f : Func → Func) : (s.updFunc n f).regs = s.regs := rfl
@[simp] theorem State.updFunc_eff (n : Nat) (f : Func → Func) : (s.updFunc n f).eff = s.eff := rfl
@[simp] theorem State.updFunc_latch (n : Nat) (f : Func → Func) : (s.updFunc n f).latch = s.latch := rfl
@[simp] theorem State.updFunc_time (n : Nat) (f : Func → Func) : (s.updFunc n f).time = s.time := rfl
@[simp] theorem State.updFunc_doms (n : Nat) (f : Func → Func) : (s.updFunc n f).doms = s.doms := rfl
@[simp] theorem State.updFunc_img (n : Nat) (f : Func → Func) : (s.updFunc n f).img = s.img := rfl
@[simp] theorem State.updFunc_st (n : Nat) (f : Func → Func) : (s.updFunc n f).st = s.st := rfl
@[simp] theorem State.updFunc_waiting (n : Nat) (f : Func → Func) : (s.updFunc n f).waiting = s.waiting := rfl
@[simp] theorem State.updFunc_resets (n : Nat) (f : Func → Func) : (s.updFunc n f).resets = s.resets := rfl
@[simp] theorem State.updFunc_pcie (n : Nat) (f : Func → Func) : (s.updFunc n f).pcie = s.pcie := rfl
@[simp] theorem State.updFunc_devMaint (n : Nat) (f : Func → Func) : (s.updFunc n f).devMaint = s.devMaint := rfl
@[simp] theorem State.updFunc_devMaintCmd (n : Nat) (f : Func → Func) : (s.updFunc n f).devMaintCmd = s.devMaintCmd := rfl
@[simp] theorem State.updFunc_retired (n : Nat) (f : Func → Func) : (s.updFunc n f).retired = s.retired := rfl
@[simp] theorem State.updFunc_excluded (n : Nat) (f : Func → Func) : (s.updFunc n f).excluded = s.excluded := rfl
@[simp] theorem State.updFunc_courses (n : Nat) (f : Func → Func) : (s.updFunc n f).courses = s.courses := rfl
@[simp] theorem State.updFunc_stages (n : Nat) (f : Func → Func) : (s.updFunc n f).stages = s.stages := rfl
@[simp] theorem State.updFunc_bufs (n : Nat) (f : Func → Func) : (s.updFunc n f).bufs = s.bufs := rfl
@[simp] theorem State.updFunc_inl (n : Nat) (f : Func → Func) : (s.updFunc n f).inl = s.inl := rfl
@[simp] theorem State.updFunc_streams (n : Nat) (f : Func → Func) : (s.updFunc n f).streams = s.streams := rfl
@[simp] theorem State.updFunc_founts (n : Nat) (f : Func → Func) : (s.updFunc n f).founts = s.founts := rfl
@[simp] theorem State.updFunc_layers (n : Nat) (f : Func → Func) : (s.updFunc n f).layers = s.layers := rfl
@[simp] theorem State.updFunc_postLut (n : Nat) (f : Func → Func) : (s.updFunc n f).postLut = s.postLut := rfl
@[simp] theorem State.updFunc_prots (n : Nat) (f : Func → Func) : (s.updFunc n f).prots = s.prots := rfl
@[simp] theorem State.updFunc_hostIns (n : Nat) (f : Func → Func) : (s.updFunc n f).hostIns = s.hostIns := rfl
@[simp] theorem State.updFunc_heads (n : Nat) (f : Func → Func) : (s.updFunc n f).heads = s.heads := rfl
@[simp] theorem State.updFunc_mem (n : Nat) (f : Func → Func) : (s.updFunc n f).mem = s.mem := rfl
@[simp] theorem State.updFunc_bces (n : Nat) (f : Func → Func) : (s.updFunc n f).bces = s.bces := rfl
@[simp] theorem State.updFunc_checks (n : Nat) (f : Func → Func) : (s.updFunc n f).checks = s.checks := rfl
@[simp] theorem State.updFunc_placed (n : Nat) (f : Func → Func) : (s.updFunc n f).placed = s.placed := rfl
@[simp] theorem State.updFunc_degraded (n : Nat) (f : Func → Func) : (s.updFunc n f).degraded = s.degraded := rfl
@[simp] theorem State.updFunc_tarns (n : Nat) (f : Func → Func) : (s.updFunc n f).tarns = s.tarns := rfl
@[simp] theorem State.updFunc_spills (n : Nat) (f : Func → Func) : (s.updFunc n f).spills = s.spills := rfl
@[simp] theorem State.updFunc_rends (n : Nat) (f : Func → Func) : (s.updFunc n f).rends = s.rends := rfl
@[simp] theorem State.updFunc_keys (n : Nat) (f : Func → Func) : (s.updFunc n f).keys = s.keys := rfl
@[simp] theorem State.updFunc_ras (n : Nat) (f : Func → Func) : (s.updFunc n f).ras = s.ras := rfl
@[simp] theorem State.updFunc_selfRefresh (n : Nat) (f : Func → Func) : (s.updFunc n f).selfRefresh = s.selfRefresh := rfl
@[simp] theorem State.updFunc_chans (n : Nat) (f : Func → Func) : (s.updFunc n f).chans = s.chans := rfl
@[simp] theorem State.updFunc_fabric (n : Nat) (f : Func → Func) : (s.updFunc n f).fabric = s.fabric := rfl
@[simp] theorem State.updFunc_sluice (n : Nat) (f : Func → Func) : (s.updFunc n f).sluice = s.sluice := rfl
@[simp] theorem State.updFunc_sluiceOrder (n : Nat) (f : Func → Func) : (s.updFunc n f).sluiceOrder = s.sluiceOrder := rfl
@[simp] theorem State.updFunc_lanes (n : Nat) (f : Func → Func) : (s.updFunc n f).lanes = s.lanes := rfl
@[simp] theorem State.updFunc_boot (n : Nat) (f : Func → Func) : (s.updFunc n f).boot = s.boot := rfl
@[simp] theorem State.updFunc_rings (n : Nat) (f : Func → Func) : (s.updFunc n f).rings = s.rings := rfl
@[simp] theorem State.updFunc_chunks (n : Nat) (f : Func → Func) : (s.updFunc n f).chunks = s.chunks := rfl
@[simp] theorem State.updFunc_outf (n : Nat) (f : Func → Func) : (s.updFunc n f).outf = s.outf := rfl
@[simp] theorem State.updFunc_pair (n : Nat) (f : Func → Func) : (s.updFunc n f).pair = s.pair := rfl
/-! ### raiseTo -/
@[simp] theorem State.raiseTo_pending (l : List Nat) (a b c d e : Nat) : (s.raiseTo l a b c d e).pending = s.pending := rfl
@[simp] theorem State.raiseTo_now (l : List Nat) (a b c d e : Nat) : (s.raiseTo l a b c d e).now = s.now := rfl
@[simp] theorem State.raiseTo_free (l : List Nat) (a b c d e : Nat) : (s.raiseTo l a b c d e).free = s.free := rfl
@[simp] theorem State.raiseTo_limits (l : List Nat) (a b c d e : Nat) : (s.raiseTo l a b c d e).limits = s.limits := rfl
@[simp] theorem State.raiseTo_regs (l : List Nat) (a b c d e : Nat) : (s.raiseTo l a b c d e).regs = s.regs := rfl
@[simp] theorem State.raiseTo_eff (l : List Nat) (a b c d e : Nat) : (s.raiseTo l a b c d e).eff = s.eff := rfl
@[simp] theorem State.raiseTo_latch (l : List Nat) (a b c d e : Nat) : (s.raiseTo l a b c d e).latch = s.latch := rfl
@[simp] theorem State.raiseTo_time (l : List Nat) (a b c d e : Nat) : (s.raiseTo l a b c d e).time = s.time := rfl
@[simp] theorem State.raiseTo_doms (l : List Nat) (a b c d e : Nat) : (s.raiseTo l a b c d e).doms = s.doms := rfl
@[simp] theorem State.raiseTo_img (l : List Nat) (a b c d e : Nat) : (s.raiseTo l a b c d e).img = s.img := rfl
@[simp] theorem State.raiseTo_st (l : List Nat) (a b c d e : Nat) : (s.raiseTo l a b c d e).st = s.st := rfl
@[simp] theorem State.raiseTo_waiting (l : List Nat) (a b c d e : Nat) : (s.raiseTo l a b c d e).waiting = s.waiting := rfl
@[simp] theorem State.raiseTo_resets (l : List Nat) (a b c d e : Nat) : (s.raiseTo l a b c d e).resets = s.resets := rfl
@[simp] theorem State.raiseTo_pcie (l : List Nat) (a b c d e : Nat) : (s.raiseTo l a b c d e).pcie = s.pcie := rfl
@[simp] theorem State.raiseTo_devMaint (l : List Nat) (a b c d e : Nat) : (s.raiseTo l a b c d e).devMaint = s.devMaint := rfl
@[simp] theorem State.raiseTo_devMaintCmd (l : List Nat) (a b c d e : Nat) : (s.raiseTo l a b c d e).devMaintCmd = s.devMaintCmd := rfl
@[simp] theorem State.raiseTo_retired (l : List Nat) (a b c d e : Nat) : (s.raiseTo l a b c d e).retired = s.retired := rfl
@[simp] theorem State.raiseTo_excluded (l : List Nat) (a b c d e : Nat) : (s.raiseTo l a b c d e).excluded = s.excluded := rfl
@[simp] theorem State.raiseTo_courses (l : List Nat) (a b c d e : Nat) : (s.raiseTo l a b c d e).courses = s.courses := rfl
@[simp] theorem State.raiseTo_stages (l : List Nat) (a b c d e : Nat) : (s.raiseTo l a b c d e).stages = s.stages := rfl
@[simp] theorem State.raiseTo_bufs (l : List Nat) (a b c d e : Nat) : (s.raiseTo l a b c d e).bufs = s.bufs := rfl
@[simp] theorem State.raiseTo_inl (l : List Nat) (a b c d e : Nat) : (s.raiseTo l a b c d e).inl = s.inl := rfl
@[simp] theorem State.raiseTo_streams (l : List Nat) (a b c d e : Nat) : (s.raiseTo l a b c d e).streams = s.streams := rfl
@[simp] theorem State.raiseTo_founts (l : List Nat) (a b c d e : Nat) : (s.raiseTo l a b c d e).founts = s.founts := rfl
@[simp] theorem State.raiseTo_layers (l : List Nat) (a b c d e : Nat) : (s.raiseTo l a b c d e).layers = s.layers := rfl
@[simp] theorem State.raiseTo_postLut (l : List Nat) (a b c d e : Nat) : (s.raiseTo l a b c d e).postLut = s.postLut := rfl
@[simp] theorem State.raiseTo_prots (l : List Nat) (a b c d e : Nat) : (s.raiseTo l a b c d e).prots = s.prots := rfl
@[simp] theorem State.raiseTo_hostIns (l : List Nat) (a b c d e : Nat) : (s.raiseTo l a b c d e).hostIns = s.hostIns := rfl
@[simp] theorem State.raiseTo_heads (l : List Nat) (a b c d e : Nat) : (s.raiseTo l a b c d e).heads = s.heads := rfl
@[simp] theorem State.raiseTo_mem (l : List Nat) (a b c d e : Nat) : (s.raiseTo l a b c d e).mem = s.mem := rfl
@[simp] theorem State.raiseTo_bces (l : List Nat) (a b c d e : Nat) : (s.raiseTo l a b c d e).bces = s.bces := rfl
@[simp] theorem State.raiseTo_checks (l : List Nat) (a b c d e : Nat) : (s.raiseTo l a b c d e).checks = s.checks := rfl
@[simp] theorem State.raiseTo_placed (l : List Nat) (a b c d e : Nat) : (s.raiseTo l a b c d e).placed = s.placed := rfl
@[simp] theorem State.raiseTo_degraded (l : List Nat) (a b c d e : Nat) : (s.raiseTo l a b c d e).degraded = s.degraded := rfl
@[simp] theorem State.raiseTo_tarns (l : List Nat) (a b c d e : Nat) : (s.raiseTo l a b c d e).tarns = s.tarns := rfl
@[simp] theorem State.raiseTo_spills (l : List Nat) (a b c d e : Nat) : (s.raiseTo l a b c d e).spills = s.spills := rfl
@[simp] theorem State.raiseTo_rends (l : List Nat) (a b c d e : Nat) : (s.raiseTo l a b c d e).rends = s.rends := rfl
@[simp] theorem State.raiseTo_keys (l : List Nat) (a b c d e : Nat) : (s.raiseTo l a b c d e).keys = s.keys := rfl
@[simp] theorem State.raiseTo_ras (l : List Nat) (a b c d e : Nat) : (s.raiseTo l a b c d e).ras = s.ras := rfl
@[simp] theorem State.raiseTo_selfRefresh (l : List Nat) (a b c d e : Nat) : (s.raiseTo l a b c d e).selfRefresh = s.selfRefresh := rfl
@[simp] theorem State.raiseTo_chans (l : List Nat) (a b c d e : Nat) : (s.raiseTo l a b c d e).chans = s.chans := rfl
@[simp] theorem State.raiseTo_fabric (l : List Nat) (a b c d e : Nat) : (s.raiseTo l a b c d e).fabric = s.fabric := rfl
@[simp] theorem State.raiseTo_sluice (l : List Nat) (a b c d e : Nat) : (s.raiseTo l a b c d e).sluice = s.sluice := rfl
@[simp] theorem State.raiseTo_sluiceOrder (l : List Nat) (a b c d e : Nat) : (s.raiseTo l a b c d e).sluiceOrder = s.sluiceOrder := rfl
@[simp] theorem State.raiseTo_lanes (l : List Nat) (a b c d e : Nat) : (s.raiseTo l a b c d e).lanes = s.lanes := rfl
@[simp] theorem State.raiseTo_boot (l : List Nat) (a b c d e : Nat) : (s.raiseTo l a b c d e).boot = s.boot := rfl
@[simp] theorem State.raiseTo_rings (l : List Nat) (a b c d e : Nat) : (s.raiseTo l a b c d e).rings = s.rings := rfl
@[simp] theorem State.raiseTo_chunks (l : List Nat) (a b c d e : Nat) : (s.raiseTo l a b c d e).chunks = s.chunks := rfl
@[simp] theorem State.raiseTo_outf (l : List Nat) (a b c d e : Nat) : (s.raiseTo l a b c d e).outf = s.outf := rfl
@[simp] theorem State.raiseTo_pair (l : List Nat) (a b c d e : Nat) : (s.raiseTo l a b c d e).pair = s.pair := rfl
/-! ### ev -/
@[simp] theorem State.ev_pending (a b c : Nat) : (s.ev a b c).pending = s.pending := rfl
@[simp] theorem State.ev_now (a b c : Nat) : (s.ev a b c).now = s.now := rfl
@[simp] theorem State.ev_free (a b c : Nat) : (s.ev a b c).free = s.free := rfl
@[simp] theorem State.ev_limits (a b c : Nat) : (s.ev a b c).limits = s.limits := rfl
@[simp] theorem State.ev_regs (a b c : Nat) : (s.ev a b c).regs = s.regs := rfl
@[simp] theorem State.ev_eff (a b c : Nat) : (s.ev a b c).eff = s.eff := rfl
@[simp] theorem State.ev_latch (a b c : Nat) : (s.ev a b c).latch = s.latch := rfl
@[simp] theorem State.ev_time (a b c : Nat) : (s.ev a b c).time = s.time := rfl
@[simp] theorem State.ev_doms (a b c : Nat) : (s.ev a b c).doms = s.doms := rfl
@[simp] theorem State.ev_img (a b c : Nat) : (s.ev a b c).img = s.img := rfl
@[simp] theorem State.ev_st (a b c : Nat) : (s.ev a b c).st = s.st := rfl
@[simp] theorem State.ev_waiting (a b c : Nat) : (s.ev a b c).waiting = s.waiting := rfl
@[simp] theorem State.ev_resets (a b c : Nat) : (s.ev a b c).resets = s.resets := rfl
@[simp] theorem State.ev_pcie (a b c : Nat) : (s.ev a b c).pcie = s.pcie := rfl
@[simp] theorem State.ev_devMaint (a b c : Nat) : (s.ev a b c).devMaint = s.devMaint := rfl
@[simp] theorem State.ev_devMaintCmd (a b c : Nat) : (s.ev a b c).devMaintCmd = s.devMaintCmd := rfl
@[simp] theorem State.ev_retired (a b c : Nat) : (s.ev a b c).retired = s.retired := rfl
@[simp] theorem State.ev_excluded (a b c : Nat) : (s.ev a b c).excluded = s.excluded := rfl
@[simp] theorem State.ev_courses (a b c : Nat) : (s.ev a b c).courses = s.courses := rfl
@[simp] theorem State.ev_stages (a b c : Nat) : (s.ev a b c).stages = s.stages := rfl
@[simp] theorem State.ev_bufs (a b c : Nat) : (s.ev a b c).bufs = s.bufs := rfl
@[simp] theorem State.ev_inl (a b c : Nat) : (s.ev a b c).inl = s.inl := rfl
@[simp] theorem State.ev_streams (a b c : Nat) : (s.ev a b c).streams = s.streams := rfl
@[simp] theorem State.ev_founts (a b c : Nat) : (s.ev a b c).founts = s.founts := rfl
@[simp] theorem State.ev_layers (a b c : Nat) : (s.ev a b c).layers = s.layers := rfl
@[simp] theorem State.ev_postLut (a b c : Nat) : (s.ev a b c).postLut = s.postLut := rfl
@[simp] theorem State.ev_prots (a b c : Nat) : (s.ev a b c).prots = s.prots := rfl
@[simp] theorem State.ev_hostIns (a b c : Nat) : (s.ev a b c).hostIns = s.hostIns := rfl
@[simp] theorem State.ev_heads (a b c : Nat) : (s.ev a b c).heads = s.heads := rfl
@[simp] theorem State.ev_mem (a b c : Nat) : (s.ev a b c).mem = s.mem := rfl
@[simp] theorem State.ev_bces (a b c : Nat) : (s.ev a b c).bces = s.bces := rfl
@[simp] theorem State.ev_checks (a b c : Nat) : (s.ev a b c).checks = s.checks := rfl
@[simp] theorem State.ev_placed (a b c : Nat) : (s.ev a b c).placed = s.placed := rfl
@[simp] theorem State.ev_degraded (a b c : Nat) : (s.ev a b c).degraded = s.degraded := rfl
@[simp] theorem State.ev_tarns (a b c : Nat) : (s.ev a b c).tarns = s.tarns := rfl
@[simp] theorem State.ev_spills (a b c : Nat) : (s.ev a b c).spills = s.spills := rfl
@[simp] theorem State.ev_rends (a b c : Nat) : (s.ev a b c).rends = s.rends := rfl
@[simp] theorem State.ev_keys (a b c : Nat) : (s.ev a b c).keys = s.keys := rfl
@[simp] theorem State.ev_ras (a b c : Nat) : (s.ev a b c).ras = s.ras := rfl
@[simp] theorem State.ev_selfRefresh (a b c : Nat) : (s.ev a b c).selfRefresh = s.selfRefresh := rfl
@[simp] theorem State.ev_chans (a b c : Nat) : (s.ev a b c).chans = s.chans := rfl
@[simp] theorem State.ev_fabric (a b c : Nat) : (s.ev a b c).fabric = s.fabric := rfl
@[simp] theorem State.ev_sluice (a b c : Nat) : (s.ev a b c).sluice = s.sluice := rfl
@[simp] theorem State.ev_sluiceOrder (a b c : Nat) : (s.ev a b c).sluiceOrder = s.sluiceOrder := rfl
@[simp] theorem State.ev_lanes (a b c : Nat) : (s.ev a b c).lanes = s.lanes := rfl
@[simp] theorem State.ev_boot (a b c : Nat) : (s.ev a b c).boot = s.boot := rfl
@[simp] theorem State.ev_rings (a b c : Nat) : (s.ev a b c).rings = s.rings := rfl
@[simp] theorem State.ev_chunks (a b c : Nat) : (s.ev a b c).chunks = s.chunks := rfl
@[simp] theorem State.ev_outf (a b c : Nat) : (s.ev a b c).outf = s.outf := rfl
@[simp] theorem State.ev_pair (a b c : Nat) : (s.ev a b c).pair = s.pair := rfl
/-! ### evC -/
@[simp] theorem State.evC_pending (a b c d : Nat) : (s.evC a b c d).pending = s.pending := rfl
@[simp] theorem State.evC_now (a b c d : Nat) : (s.evC a b c d).now = s.now := rfl
@[simp] theorem State.evC_free (a b c d : Nat) : (s.evC a b c d).free = s.free := rfl
@[simp] theorem State.evC_limits (a b c d : Nat) : (s.evC a b c d).limits = s.limits := rfl
@[simp] theorem State.evC_regs (a b c d : Nat) : (s.evC a b c d).regs = s.regs := rfl
@[simp] theorem State.evC_eff (a b c d : Nat) : (s.evC a b c d).eff = s.eff := rfl
@[simp] theorem State.evC_latch (a b c d : Nat) : (s.evC a b c d).latch = s.latch := rfl
@[simp] theorem State.evC_time (a b c d : Nat) : (s.evC a b c d).time = s.time := rfl
@[simp] theorem State.evC_doms (a b c d : Nat) : (s.evC a b c d).doms = s.doms := rfl
@[simp] theorem State.evC_img (a b c d : Nat) : (s.evC a b c d).img = s.img := rfl
@[simp] theorem State.evC_st (a b c d : Nat) : (s.evC a b c d).st = s.st := rfl
@[simp] theorem State.evC_waiting (a b c d : Nat) : (s.evC a b c d).waiting = s.waiting := rfl
@[simp] theorem State.evC_resets (a b c d : Nat) : (s.evC a b c d).resets = s.resets := rfl
@[simp] theorem State.evC_pcie (a b c d : Nat) : (s.evC a b c d).pcie = s.pcie := rfl
@[simp] theorem State.evC_devMaint (a b c d : Nat) : (s.evC a b c d).devMaint = s.devMaint := rfl
@[simp] theorem State.evC_devMaintCmd (a b c d : Nat) : (s.evC a b c d).devMaintCmd = s.devMaintCmd := rfl
@[simp] theorem State.evC_retired (a b c d : Nat) : (s.evC a b c d).retired = s.retired := rfl
@[simp] theorem State.evC_excluded (a b c d : Nat) : (s.evC a b c d).excluded = s.excluded := rfl
@[simp] theorem State.evC_courses (a b c d : Nat) : (s.evC a b c d).courses = s.courses := rfl
@[simp] theorem State.evC_stages (a b c d : Nat) : (s.evC a b c d).stages = s.stages := rfl
@[simp] theorem State.evC_bufs (a b c d : Nat) : (s.evC a b c d).bufs = s.bufs := rfl
@[simp] theorem State.evC_inl (a b c d : Nat) : (s.evC a b c d).inl = s.inl := rfl
@[simp] theorem State.evC_streams (a b c d : Nat) : (s.evC a b c d).streams = s.streams := rfl
@[simp] theorem State.evC_founts (a b c d : Nat) : (s.evC a b c d).founts = s.founts := rfl
@[simp] theorem State.evC_layers (a b c d : Nat) : (s.evC a b c d).layers = s.layers := rfl
@[simp] theorem State.evC_postLut (a b c d : Nat) : (s.evC a b c d).postLut = s.postLut := rfl
@[simp] theorem State.evC_prots (a b c d : Nat) : (s.evC a b c d).prots = s.prots := rfl
@[simp] theorem State.evC_hostIns (a b c d : Nat) : (s.evC a b c d).hostIns = s.hostIns := rfl
@[simp] theorem State.evC_heads (a b c d : Nat) : (s.evC a b c d).heads = s.heads := rfl
@[simp] theorem State.evC_mem (a b c d : Nat) : (s.evC a b c d).mem = s.mem := rfl
@[simp] theorem State.evC_bces (a b c d : Nat) : (s.evC a b c d).bces = s.bces := rfl
@[simp] theorem State.evC_checks (a b c d : Nat) : (s.evC a b c d).checks = s.checks := rfl
@[simp] theorem State.evC_placed (a b c d : Nat) : (s.evC a b c d).placed = s.placed := rfl
@[simp] theorem State.evC_degraded (a b c d : Nat) : (s.evC a b c d).degraded = s.degraded := rfl
@[simp] theorem State.evC_tarns (a b c d : Nat) : (s.evC a b c d).tarns = s.tarns := rfl
@[simp] theorem State.evC_spills (a b c d : Nat) : (s.evC a b c d).spills = s.spills := rfl
@[simp] theorem State.evC_rends (a b c d : Nat) : (s.evC a b c d).rends = s.rends := rfl
@[simp] theorem State.evC_keys (a b c d : Nat) : (s.evC a b c d).keys = s.keys := rfl
@[simp] theorem State.evC_ras (a b c d : Nat) : (s.evC a b c d).ras = s.ras := rfl
@[simp] theorem State.evC_selfRefresh (a b c d : Nat) : (s.evC a b c d).selfRefresh = s.selfRefresh := rfl
@[simp] theorem State.evC_chans (a b c d : Nat) : (s.evC a b c d).chans = s.chans := rfl
@[simp] theorem State.evC_fabric (a b c d : Nat) : (s.evC a b c d).fabric = s.fabric := rfl
@[simp] theorem State.evC_sluice (a b c d : Nat) : (s.evC a b c d).sluice = s.sluice := rfl
@[simp] theorem State.evC_sluiceOrder (a b c d : Nat) : (s.evC a b c d).sluiceOrder = s.sluiceOrder := rfl
@[simp] theorem State.evC_lanes (a b c d : Nat) : (s.evC a b c d).lanes = s.lanes := rfl
@[simp] theorem State.evC_boot (a b c d : Nat) : (s.evC a b c d).boot = s.boot := rfl
@[simp] theorem State.evC_rings (a b c d : Nat) : (s.evC a b c d).rings = s.rings := rfl
@[simp] theorem State.evC_chunks (a b c d : Nat) : (s.evC a b c d).chunks = s.chunks := rfl
@[simp] theorem State.evC_outf (a b c d : Nat) : (s.evC a b c d).outf = s.outf := rfl
@[simp] theorem State.evC_pair (a b c d : Nat) : (s.evC a b c d).pair = s.pair := rfl
/-! ### evR -/
@[simp] theorem State.evR_pending (a b c d : Nat) : (s.evR a b c d).pending = s.pending := rfl
@[simp] theorem State.evR_now (a b c d : Nat) : (s.evR a b c d).now = s.now := rfl
@[simp] theorem State.evR_free (a b c d : Nat) : (s.evR a b c d).free = s.free := rfl
@[simp] theorem State.evR_limits (a b c d : Nat) : (s.evR a b c d).limits = s.limits := rfl
@[simp] theorem State.evR_regs (a b c d : Nat) : (s.evR a b c d).regs = s.regs := rfl
@[simp] theorem State.evR_eff (a b c d : Nat) : (s.evR a b c d).eff = s.eff := rfl
@[simp] theorem State.evR_latch (a b c d : Nat) : (s.evR a b c d).latch = s.latch := rfl
@[simp] theorem State.evR_time (a b c d : Nat) : (s.evR a b c d).time = s.time := rfl
@[simp] theorem State.evR_doms (a b c d : Nat) : (s.evR a b c d).doms = s.doms := rfl
@[simp] theorem State.evR_img (a b c d : Nat) : (s.evR a b c d).img = s.img := rfl
@[simp] theorem State.evR_st (a b c d : Nat) : (s.evR a b c d).st = s.st := rfl
@[simp] theorem State.evR_waiting (a b c d : Nat) : (s.evR a b c d).waiting = s.waiting := rfl
@[simp] theorem State.evR_resets (a b c d : Nat) : (s.evR a b c d).resets = s.resets := rfl
@[simp] theorem State.evR_pcie (a b c d : Nat) : (s.evR a b c d).pcie = s.pcie := rfl
@[simp] theorem State.evR_devMaint (a b c d : Nat) : (s.evR a b c d).devMaint = s.devMaint := rfl
@[simp] theorem State.evR_devMaintCmd (a b c d : Nat) : (s.evR a b c d).devMaintCmd = s.devMaintCmd := rfl
@[simp] theorem State.evR_retired (a b c d : Nat) : (s.evR a b c d).retired = s.retired := rfl
@[simp] theorem State.evR_excluded (a b c d : Nat) : (s.evR a b c d).excluded = s.excluded := rfl
@[simp] theorem State.evR_courses (a b c d : Nat) : (s.evR a b c d).courses = s.courses := rfl
@[simp] theorem State.evR_stages (a b c d : Nat) : (s.evR a b c d).stages = s.stages := rfl
@[simp] theorem State.evR_bufs (a b c d : Nat) : (s.evR a b c d).bufs = s.bufs := rfl
@[simp] theorem State.evR_inl (a b c d : Nat) : (s.evR a b c d).inl = s.inl := rfl
@[simp] theorem State.evR_streams (a b c d : Nat) : (s.evR a b c d).streams = s.streams := rfl
@[simp] theorem State.evR_founts (a b c d : Nat) : (s.evR a b c d).founts = s.founts := rfl
@[simp] theorem State.evR_layers (a b c d : Nat) : (s.evR a b c d).layers = s.layers := rfl
@[simp] theorem State.evR_postLut (a b c d : Nat) : (s.evR a b c d).postLut = s.postLut := rfl
@[simp] theorem State.evR_prots (a b c d : Nat) : (s.evR a b c d).prots = s.prots := rfl
@[simp] theorem State.evR_hostIns (a b c d : Nat) : (s.evR a b c d).hostIns = s.hostIns := rfl
@[simp] theorem State.evR_heads (a b c d : Nat) : (s.evR a b c d).heads = s.heads := rfl
@[simp] theorem State.evR_mem (a b c d : Nat) : (s.evR a b c d).mem = s.mem := rfl
@[simp] theorem State.evR_bces (a b c d : Nat) : (s.evR a b c d).bces = s.bces := rfl
@[simp] theorem State.evR_checks (a b c d : Nat) : (s.evR a b c d).checks = s.checks := rfl
@[simp] theorem State.evR_placed (a b c d : Nat) : (s.evR a b c d).placed = s.placed := rfl
@[simp] theorem State.evR_degraded (a b c d : Nat) : (s.evR a b c d).degraded = s.degraded := rfl
@[simp] theorem State.evR_tarns (a b c d : Nat) : (s.evR a b c d).tarns = s.tarns := rfl
@[simp] theorem State.evR_spills (a b c d : Nat) : (s.evR a b c d).spills = s.spills := rfl
@[simp] theorem State.evR_rends (a b c d : Nat) : (s.evR a b c d).rends = s.rends := rfl
@[simp] theorem State.evR_keys (a b c d : Nat) : (s.evR a b c d).keys = s.keys := rfl
@[simp] theorem State.evR_ras (a b c d : Nat) : (s.evR a b c d).ras = s.ras := rfl
@[simp] theorem State.evR_selfRefresh (a b c d : Nat) : (s.evR a b c d).selfRefresh = s.selfRefresh := rfl
@[simp] theorem State.evR_chans (a b c d : Nat) : (s.evR a b c d).chans = s.chans := rfl
@[simp] theorem State.evR_fabric (a b c d : Nat) : (s.evR a b c d).fabric = s.fabric := rfl
@[simp] theorem State.evR_sluice (a b c d : Nat) : (s.evR a b c d).sluice = s.sluice := rfl
@[simp] theorem State.evR_sluiceOrder (a b c d : Nat) : (s.evR a b c d).sluiceOrder = s.sluiceOrder := rfl
@[simp] theorem State.evR_lanes (a b c d : Nat) : (s.evR a b c d).lanes = s.lanes := rfl
@[simp] theorem State.evR_boot (a b c d : Nat) : (s.evR a b c d).boot = s.boot := rfl
@[simp] theorem State.evR_rings (a b c d : Nat) : (s.evR a b c d).rings = s.rings := rfl
@[simp] theorem State.evR_chunks (a b c d : Nat) : (s.evR a b c d).chunks = s.chunks := rfl
@[simp] theorem State.evR_outf (a b c d : Nat) : (s.evR a b c d).outf = s.outf := rfl
@[simp] theorem State.evR_pair (a b c d : Nat) : (s.evR a b c d).pair = s.pair := rfl
/-! ### evTo -/
@[simp] theorem State.evTo_pending (a b c d : Nat) : (s.evTo a b c d).pending = s.pending := rfl
@[simp] theorem State.evTo_now (a b c d : Nat) : (s.evTo a b c d).now = s.now := rfl
@[simp] theorem State.evTo_free (a b c d : Nat) : (s.evTo a b c d).free = s.free := rfl
@[simp] theorem State.evTo_limits (a b c d : Nat) : (s.evTo a b c d).limits = s.limits := rfl
@[simp] theorem State.evTo_regs (a b c d : Nat) : (s.evTo a b c d).regs = s.regs := rfl
@[simp] theorem State.evTo_eff (a b c d : Nat) : (s.evTo a b c d).eff = s.eff := rfl
@[simp] theorem State.evTo_latch (a b c d : Nat) : (s.evTo a b c d).latch = s.latch := rfl
@[simp] theorem State.evTo_time (a b c d : Nat) : (s.evTo a b c d).time = s.time := rfl
@[simp] theorem State.evTo_doms (a b c d : Nat) : (s.evTo a b c d).doms = s.doms := rfl
@[simp] theorem State.evTo_img (a b c d : Nat) : (s.evTo a b c d).img = s.img := rfl
@[simp] theorem State.evTo_st (a b c d : Nat) : (s.evTo a b c d).st = s.st := rfl
@[simp] theorem State.evTo_waiting (a b c d : Nat) : (s.evTo a b c d).waiting = s.waiting := rfl
@[simp] theorem State.evTo_resets (a b c d : Nat) : (s.evTo a b c d).resets = s.resets := rfl
@[simp] theorem State.evTo_pcie (a b c d : Nat) : (s.evTo a b c d).pcie = s.pcie := rfl
@[simp] theorem State.evTo_devMaint (a b c d : Nat) : (s.evTo a b c d).devMaint = s.devMaint := rfl
@[simp] theorem State.evTo_devMaintCmd (a b c d : Nat) : (s.evTo a b c d).devMaintCmd = s.devMaintCmd := rfl
@[simp] theorem State.evTo_retired (a b c d : Nat) : (s.evTo a b c d).retired = s.retired := rfl
@[simp] theorem State.evTo_excluded (a b c d : Nat) : (s.evTo a b c d).excluded = s.excluded := rfl
@[simp] theorem State.evTo_courses (a b c d : Nat) : (s.evTo a b c d).courses = s.courses := rfl
@[simp] theorem State.evTo_stages (a b c d : Nat) : (s.evTo a b c d).stages = s.stages := rfl
@[simp] theorem State.evTo_bufs (a b c d : Nat) : (s.evTo a b c d).bufs = s.bufs := rfl
@[simp] theorem State.evTo_inl (a b c d : Nat) : (s.evTo a b c d).inl = s.inl := rfl
@[simp] theorem State.evTo_streams (a b c d : Nat) : (s.evTo a b c d).streams = s.streams := rfl
@[simp] theorem State.evTo_founts (a b c d : Nat) : (s.evTo a b c d).founts = s.founts := rfl
@[simp] theorem State.evTo_layers (a b c d : Nat) : (s.evTo a b c d).layers = s.layers := rfl
@[simp] theorem State.evTo_postLut (a b c d : Nat) : (s.evTo a b c d).postLut = s.postLut := rfl
@[simp] theorem State.evTo_prots (a b c d : Nat) : (s.evTo a b c d).prots = s.prots := rfl
@[simp] theorem State.evTo_hostIns (a b c d : Nat) : (s.evTo a b c d).hostIns = s.hostIns := rfl
@[simp] theorem State.evTo_heads (a b c d : Nat) : (s.evTo a b c d).heads = s.heads := rfl
@[simp] theorem State.evTo_mem (a b c d : Nat) : (s.evTo a b c d).mem = s.mem := rfl
@[simp] theorem State.evTo_bces (a b c d : Nat) : (s.evTo a b c d).bces = s.bces := rfl
@[simp] theorem State.evTo_checks (a b c d : Nat) : (s.evTo a b c d).checks = s.checks := rfl
@[simp] theorem State.evTo_placed (a b c d : Nat) : (s.evTo a b c d).placed = s.placed := rfl
@[simp] theorem State.evTo_degraded (a b c d : Nat) : (s.evTo a b c d).degraded = s.degraded := rfl
@[simp] theorem State.evTo_tarns (a b c d : Nat) : (s.evTo a b c d).tarns = s.tarns := rfl
@[simp] theorem State.evTo_spills (a b c d : Nat) : (s.evTo a b c d).spills = s.spills := rfl
@[simp] theorem State.evTo_rends (a b c d : Nat) : (s.evTo a b c d).rends = s.rends := rfl
@[simp] theorem State.evTo_keys (a b c d : Nat) : (s.evTo a b c d).keys = s.keys := rfl
@[simp] theorem State.evTo_ras (a b c d : Nat) : (s.evTo a b c d).ras = s.ras := rfl
@[simp] theorem State.evTo_selfRefresh (a b c d : Nat) : (s.evTo a b c d).selfRefresh = s.selfRefresh := rfl
@[simp] theorem State.evTo_chans (a b c d : Nat) : (s.evTo a b c d).chans = s.chans := rfl
@[simp] theorem State.evTo_fabric (a b c d : Nat) : (s.evTo a b c d).fabric = s.fabric := rfl
@[simp] theorem State.evTo_sluice (a b c d : Nat) : (s.evTo a b c d).sluice = s.sluice := rfl
@[simp] theorem State.evTo_sluiceOrder (a b c d : Nat) : (s.evTo a b c d).sluiceOrder = s.sluiceOrder := rfl
@[simp] theorem State.evTo_lanes (a b c d : Nat) : (s.evTo a b c d).lanes = s.lanes := rfl
@[simp] theorem State.evTo_boot (a b c d : Nat) : (s.evTo a b c d).boot = s.boot := rfl
@[simp] theorem State.evTo_rings (a b c d : Nat) : (s.evTo a b c d).rings = s.rings := rfl
@[simp] theorem State.evTo_chunks (a b c d : Nat) : (s.evTo a b c d).chunks = s.chunks := rfl
@[simp] theorem State.evTo_outf (a b c d : Nat) : (s.evTo a b c d).outf = s.outf := rfl
@[simp] theorem State.evTo_pair (a b c d : Nat) : (s.evTo a b c d).pair = s.pair := rfl
/-! ### updTime -/
@[simp] theorem State.updTime_pending (f : TimeUnit → TimeUnit) : (s.updTime f).pending = s.pending := rfl
@[simp] theorem State.updTime_now (f : TimeUnit → TimeUnit) : (s.updTime f).now = s.now := rfl
@[simp] theorem State.updTime_free (f : TimeUnit → TimeUnit) : (s.updTime f).free = s.free := rfl
@[simp] theorem State.updTime_out (f : TimeUnit → TimeUnit) : (s.updTime f).out = s.out := rfl
@[simp] theorem State.updTime_limits (f : TimeUnit → TimeUnit) : (s.updTime f).limits = s.limits := rfl
@[simp] theorem State.updTime_regs (f : TimeUnit → TimeUnit) : (s.updTime f).regs = s.regs := rfl
@[simp] theorem State.updTime_eff (f : TimeUnit → TimeUnit) : (s.updTime f).eff = s.eff := rfl
@[simp] theorem State.updTime_latch (f : TimeUnit → TimeUnit) : (s.updTime f).latch = s.latch := rfl
@[simp] theorem State.updTime_doms (f : TimeUnit → TimeUnit) : (s.updTime f).doms = s.doms := rfl
@[simp] theorem State.updTime_img (f : TimeUnit → TimeUnit) : (s.updTime f).img = s.img := rfl
@[simp] theorem State.updTime_st (f : TimeUnit → TimeUnit) : (s.updTime f).st = s.st := rfl
@[simp] theorem State.updTime_funcs (f : TimeUnit → TimeUnit) : (s.updTime f).funcs = s.funcs := rfl
@[simp] theorem State.updTime_waiting (f : TimeUnit → TimeUnit) : (s.updTime f).waiting = s.waiting := rfl
@[simp] theorem State.updTime_resets (f : TimeUnit → TimeUnit) : (s.updTime f).resets = s.resets := rfl
@[simp] theorem State.updTime_pcie (f : TimeUnit → TimeUnit) : (s.updTime f).pcie = s.pcie := rfl
@[simp] theorem State.updTime_devMaint (f : TimeUnit → TimeUnit) : (s.updTime f).devMaint = s.devMaint := rfl
@[simp] theorem State.updTime_devMaintCmd (f : TimeUnit → TimeUnit) : (s.updTime f).devMaintCmd = s.devMaintCmd := rfl
@[simp] theorem State.updTime_retired (f : TimeUnit → TimeUnit) : (s.updTime f).retired = s.retired := rfl
@[simp] theorem State.updTime_excluded (f : TimeUnit → TimeUnit) : (s.updTime f).excluded = s.excluded := rfl
@[simp] theorem State.updTime_courses (f : TimeUnit → TimeUnit) : (s.updTime f).courses = s.courses := rfl
@[simp] theorem State.updTime_stages (f : TimeUnit → TimeUnit) : (s.updTime f).stages = s.stages := rfl
@[simp] theorem State.updTime_bufs (f : TimeUnit → TimeUnit) : (s.updTime f).bufs = s.bufs := rfl
@[simp] theorem State.updTime_inl (f : TimeUnit → TimeUnit) : (s.updTime f).inl = s.inl := rfl
@[simp] theorem State.updTime_streams (f : TimeUnit → TimeUnit) : (s.updTime f).streams = s.streams := rfl
@[simp] theorem State.updTime_founts (f : TimeUnit → TimeUnit) : (s.updTime f).founts = s.founts := rfl
@[simp] theorem State.updTime_layers (f : TimeUnit → TimeUnit) : (s.updTime f).layers = s.layers := rfl
@[simp] theorem State.updTime_postLut (f : TimeUnit → TimeUnit) : (s.updTime f).postLut = s.postLut := rfl
@[simp] theorem State.updTime_prots (f : TimeUnit → TimeUnit) : (s.updTime f).prots = s.prots := rfl
@[simp] theorem State.updTime_hostIns (f : TimeUnit → TimeUnit) : (s.updTime f).hostIns = s.hostIns := rfl
@[simp] theorem State.updTime_heads (f : TimeUnit → TimeUnit) : (s.updTime f).heads = s.heads := rfl
@[simp] theorem State.updTime_mem (f : TimeUnit → TimeUnit) : (s.updTime f).mem = s.mem := rfl
@[simp] theorem State.updTime_bces (f : TimeUnit → TimeUnit) : (s.updTime f).bces = s.bces := rfl
@[simp] theorem State.updTime_checks (f : TimeUnit → TimeUnit) : (s.updTime f).checks = s.checks := rfl
@[simp] theorem State.updTime_placed (f : TimeUnit → TimeUnit) : (s.updTime f).placed = s.placed := rfl
@[simp] theorem State.updTime_degraded (f : TimeUnit → TimeUnit) : (s.updTime f).degraded = s.degraded := rfl
@[simp] theorem State.updTime_tarns (f : TimeUnit → TimeUnit) : (s.updTime f).tarns = s.tarns := rfl
@[simp] theorem State.updTime_spills (f : TimeUnit → TimeUnit) : (s.updTime f).spills = s.spills := rfl
@[simp] theorem State.updTime_rends (f : TimeUnit → TimeUnit) : (s.updTime f).rends = s.rends := rfl
@[simp] theorem State.updTime_keys (f : TimeUnit → TimeUnit) : (s.updTime f).keys = s.keys := rfl
@[simp] theorem State.updTime_ras (f : TimeUnit → TimeUnit) : (s.updTime f).ras = s.ras := rfl
@[simp] theorem State.updTime_selfRefresh (f : TimeUnit → TimeUnit) : (s.updTime f).selfRefresh = s.selfRefresh := rfl
@[simp] theorem State.updTime_chans (f : TimeUnit → TimeUnit) : (s.updTime f).chans = s.chans := rfl
@[simp] theorem State.updTime_fabric (f : TimeUnit → TimeUnit) : (s.updTime f).fabric = s.fabric := rfl
@[simp] theorem State.updTime_sluice (f : TimeUnit → TimeUnit) : (s.updTime f).sluice = s.sluice := rfl
@[simp] theorem State.updTime_sluiceOrder (f : TimeUnit → TimeUnit) : (s.updTime f).sluiceOrder = s.sluiceOrder := rfl
@[simp] theorem State.updTime_lanes (f : TimeUnit → TimeUnit) : (s.updTime f).lanes = s.lanes := rfl
@[simp] theorem State.updTime_boot (f : TimeUnit → TimeUnit) : (s.updTime f).boot = s.boot := rfl
@[simp] theorem State.updTime_rings (f : TimeUnit → TimeUnit) : (s.updTime f).rings = s.rings := rfl
@[simp] theorem State.updTime_chunks (f : TimeUnit → TimeUnit) : (s.updTime f).chunks = s.chunks := rfl
@[simp] theorem State.updTime_outf (f : TimeUnit → TimeUnit) : (s.updTime f).outf = s.outf := rfl
@[simp] theorem State.updTime_pair (f : TimeUnit → TimeUnit) : (s.updTime f).pair = s.pair := rfl
/-! ### setSlc -/
@[simp] theorem State.setSlc_pending (g : Nat) (x : SluiceChan) : (s.setSlc g x).pending = s.pending := rfl
@[simp] theorem State.setSlc_now (g : Nat) (x : SluiceChan) : (s.setSlc g x).now = s.now := rfl
@[simp] theorem State.setSlc_free (g : Nat) (x : SluiceChan) : (s.setSlc g x).free = s.free := rfl
@[simp] theorem State.setSlc_out (g : Nat) (x : SluiceChan) : (s.setSlc g x).out = s.out := rfl
@[simp] theorem State.setSlc_limits (g : Nat) (x : SluiceChan) : (s.setSlc g x).limits = s.limits := rfl
@[simp] theorem State.setSlc_regs (g : Nat) (x : SluiceChan) : (s.setSlc g x).regs = s.regs := rfl
@[simp] theorem State.setSlc_eff (g : Nat) (x : SluiceChan) : (s.setSlc g x).eff = s.eff := rfl
@[simp] theorem State.setSlc_latch (g : Nat) (x : SluiceChan) : (s.setSlc g x).latch = s.latch := rfl
@[simp] theorem State.setSlc_time (g : Nat) (x : SluiceChan) : (s.setSlc g x).time = s.time := rfl
@[simp] theorem State.setSlc_doms (g : Nat) (x : SluiceChan) : (s.setSlc g x).doms = s.doms := rfl
@[simp] theorem State.setSlc_img (g : Nat) (x : SluiceChan) : (s.setSlc g x).img = s.img := rfl
@[simp] theorem State.setSlc_st (g : Nat) (x : SluiceChan) : (s.setSlc g x).st = s.st := rfl
@[simp] theorem State.setSlc_funcs (g : Nat) (x : SluiceChan) : (s.setSlc g x).funcs = s.funcs := rfl
@[simp] theorem State.setSlc_waiting (g : Nat) (x : SluiceChan) : (s.setSlc g x).waiting = s.waiting := rfl
@[simp] theorem State.setSlc_resets (g : Nat) (x : SluiceChan) : (s.setSlc g x).resets = s.resets := rfl
@[simp] theorem State.setSlc_pcie (g : Nat) (x : SluiceChan) : (s.setSlc g x).pcie = s.pcie := rfl
@[simp] theorem State.setSlc_devMaint (g : Nat) (x : SluiceChan) : (s.setSlc g x).devMaint = s.devMaint := rfl
@[simp] theorem State.setSlc_devMaintCmd (g : Nat) (x : SluiceChan) : (s.setSlc g x).devMaintCmd = s.devMaintCmd := rfl
@[simp] theorem State.setSlc_retired (g : Nat) (x : SluiceChan) : (s.setSlc g x).retired = s.retired := rfl
@[simp] theorem State.setSlc_excluded (g : Nat) (x : SluiceChan) : (s.setSlc g x).excluded = s.excluded := rfl
@[simp] theorem State.setSlc_courses (g : Nat) (x : SluiceChan) : (s.setSlc g x).courses = s.courses := rfl
@[simp] theorem State.setSlc_stages (g : Nat) (x : SluiceChan) : (s.setSlc g x).stages = s.stages := rfl
@[simp] theorem State.setSlc_bufs (g : Nat) (x : SluiceChan) : (s.setSlc g x).bufs = s.bufs := rfl
@[simp] theorem State.setSlc_inl (g : Nat) (x : SluiceChan) : (s.setSlc g x).inl = s.inl := rfl
@[simp] theorem State.setSlc_streams (g : Nat) (x : SluiceChan) : (s.setSlc g x).streams = s.streams := rfl
@[simp] theorem State.setSlc_founts (g : Nat) (x : SluiceChan) : (s.setSlc g x).founts = s.founts := rfl
@[simp] theorem State.setSlc_layers (g : Nat) (x : SluiceChan) : (s.setSlc g x).layers = s.layers := rfl
@[simp] theorem State.setSlc_postLut (g : Nat) (x : SluiceChan) : (s.setSlc g x).postLut = s.postLut := rfl
@[simp] theorem State.setSlc_prots (g : Nat) (x : SluiceChan) : (s.setSlc g x).prots = s.prots := rfl
@[simp] theorem State.setSlc_hostIns (g : Nat) (x : SluiceChan) : (s.setSlc g x).hostIns = s.hostIns := rfl
@[simp] theorem State.setSlc_heads (g : Nat) (x : SluiceChan) : (s.setSlc g x).heads = s.heads := rfl
@[simp] theorem State.setSlc_mem (g : Nat) (x : SluiceChan) : (s.setSlc g x).mem = s.mem := rfl
@[simp] theorem State.setSlc_bces (g : Nat) (x : SluiceChan) : (s.setSlc g x).bces = s.bces := rfl
@[simp] theorem State.setSlc_checks (g : Nat) (x : SluiceChan) : (s.setSlc g x).checks = s.checks := rfl
@[simp] theorem State.setSlc_placed (g : Nat) (x : SluiceChan) : (s.setSlc g x).placed = s.placed := rfl
@[simp] theorem State.setSlc_degraded (g : Nat) (x : SluiceChan) : (s.setSlc g x).degraded = s.degraded := rfl
@[simp] theorem State.setSlc_tarns (g : Nat) (x : SluiceChan) : (s.setSlc g x).tarns = s.tarns := rfl
@[simp] theorem State.setSlc_spills (g : Nat) (x : SluiceChan) : (s.setSlc g x).spills = s.spills := rfl
@[simp] theorem State.setSlc_rends (g : Nat) (x : SluiceChan) : (s.setSlc g x).rends = s.rends := rfl
@[simp] theorem State.setSlc_keys (g : Nat) (x : SluiceChan) : (s.setSlc g x).keys = s.keys := rfl
@[simp] theorem State.setSlc_ras (g : Nat) (x : SluiceChan) : (s.setSlc g x).ras = s.ras := rfl
@[simp] theorem State.setSlc_selfRefresh (g : Nat) (x : SluiceChan) : (s.setSlc g x).selfRefresh = s.selfRefresh := rfl
@[simp] theorem State.setSlc_chans (g : Nat) (x : SluiceChan) : (s.setSlc g x).chans = s.chans := rfl
@[simp] theorem State.setSlc_fabric (g : Nat) (x : SluiceChan) : (s.setSlc g x).fabric = s.fabric := rfl
@[simp] theorem State.setSlc_sluiceOrder (g : Nat) (x : SluiceChan) : (s.setSlc g x).sluiceOrder = s.sluiceOrder := rfl
@[simp] theorem State.setSlc_lanes (g : Nat) (x : SluiceChan) : (s.setSlc g x).lanes = s.lanes := rfl
@[simp] theorem State.setSlc_boot (g : Nat) (x : SluiceChan) : (s.setSlc g x).boot = s.boot := rfl
@[simp] theorem State.setSlc_rings (g : Nat) (x : SluiceChan) : (s.setSlc g x).rings = s.rings := rfl
@[simp] theorem State.setSlc_chunks (g : Nat) (x : SluiceChan) : (s.setSlc g x).chunks = s.chunks := rfl
@[simp] theorem State.setSlc_outf (g : Nat) (x : SluiceChan) : (s.setSlc g x).outf = s.outf := rfl
@[simp] theorem State.setSlc_pair (g : Nat) (x : SluiceChan) : (s.setSlc g x).pair = s.pair := rfl
/-! ### updFab -/
@[simp] theorem State.updFab_pending (f : Fabric → Fabric) : (s.updFab f).pending = s.pending := rfl
@[simp] theorem State.updFab_now (f : Fabric → Fabric) : (s.updFab f).now = s.now := rfl
@[simp] theorem State.updFab_free (f : Fabric → Fabric) : (s.updFab f).free = s.free := rfl
@[simp] theorem State.updFab_out (f : Fabric → Fabric) : (s.updFab f).out = s.out := rfl
@[simp] theorem State.updFab_limits (f : Fabric → Fabric) : (s.updFab f).limits = s.limits := rfl
@[simp] theorem State.updFab_regs (f : Fabric → Fabric) : (s.updFab f).regs = s.regs := rfl
@[simp] theorem State.updFab_eff (f : Fabric → Fabric) : (s.updFab f).eff = s.eff := rfl
@[simp] theorem State.updFab_latch (f : Fabric → Fabric) : (s.updFab f).latch = s.latch := rfl
@[simp] theorem State.updFab_time (f : Fabric → Fabric) : (s.updFab f).time = s.time := rfl
@[simp] theorem State.updFab_doms (f : Fabric → Fabric) : (s.updFab f).doms = s.doms := rfl
@[simp] theorem State.updFab_img (f : Fabric → Fabric) : (s.updFab f).img = s.img := rfl
@[simp] theorem State.updFab_st (f : Fabric → Fabric) : (s.updFab f).st = s.st := rfl
@[simp] theorem State.updFab_funcs (f : Fabric → Fabric) : (s.updFab f).funcs = s.funcs := rfl
@[simp] theorem State.updFab_waiting (f : Fabric → Fabric) : (s.updFab f).waiting = s.waiting := rfl
@[simp] theorem State.updFab_resets (f : Fabric → Fabric) : (s.updFab f).resets = s.resets := rfl
@[simp] theorem State.updFab_pcie (f : Fabric → Fabric) : (s.updFab f).pcie = s.pcie := rfl
@[simp] theorem State.updFab_devMaint (f : Fabric → Fabric) : (s.updFab f).devMaint = s.devMaint := rfl
@[simp] theorem State.updFab_devMaintCmd (f : Fabric → Fabric) : (s.updFab f).devMaintCmd = s.devMaintCmd := rfl
@[simp] theorem State.updFab_retired (f : Fabric → Fabric) : (s.updFab f).retired = s.retired := rfl
@[simp] theorem State.updFab_excluded (f : Fabric → Fabric) : (s.updFab f).excluded = s.excluded := rfl
@[simp] theorem State.updFab_courses (f : Fabric → Fabric) : (s.updFab f).courses = s.courses := rfl
@[simp] theorem State.updFab_stages (f : Fabric → Fabric) : (s.updFab f).stages = s.stages := rfl
@[simp] theorem State.updFab_bufs (f : Fabric → Fabric) : (s.updFab f).bufs = s.bufs := rfl
@[simp] theorem State.updFab_inl (f : Fabric → Fabric) : (s.updFab f).inl = s.inl := rfl
@[simp] theorem State.updFab_streams (f : Fabric → Fabric) : (s.updFab f).streams = s.streams := rfl
@[simp] theorem State.updFab_founts (f : Fabric → Fabric) : (s.updFab f).founts = s.founts := rfl
@[simp] theorem State.updFab_layers (f : Fabric → Fabric) : (s.updFab f).layers = s.layers := rfl
@[simp] theorem State.updFab_postLut (f : Fabric → Fabric) : (s.updFab f).postLut = s.postLut := rfl
@[simp] theorem State.updFab_prots (f : Fabric → Fabric) : (s.updFab f).prots = s.prots := rfl
@[simp] theorem State.updFab_hostIns (f : Fabric → Fabric) : (s.updFab f).hostIns = s.hostIns := rfl
@[simp] theorem State.updFab_heads (f : Fabric → Fabric) : (s.updFab f).heads = s.heads := rfl
@[simp] theorem State.updFab_mem (f : Fabric → Fabric) : (s.updFab f).mem = s.mem := rfl
@[simp] theorem State.updFab_bces (f : Fabric → Fabric) : (s.updFab f).bces = s.bces := rfl
@[simp] theorem State.updFab_checks (f : Fabric → Fabric) : (s.updFab f).checks = s.checks := rfl
@[simp] theorem State.updFab_placed (f : Fabric → Fabric) : (s.updFab f).placed = s.placed := rfl
@[simp] theorem State.updFab_degraded (f : Fabric → Fabric) : (s.updFab f).degraded = s.degraded := rfl
@[simp] theorem State.updFab_tarns (f : Fabric → Fabric) : (s.updFab f).tarns = s.tarns := rfl
@[simp] theorem State.updFab_spills (f : Fabric → Fabric) : (s.updFab f).spills = s.spills := rfl
@[simp] theorem State.updFab_rends (f : Fabric → Fabric) : (s.updFab f).rends = s.rends := rfl
@[simp] theorem State.updFab_keys (f : Fabric → Fabric) : (s.updFab f).keys = s.keys := rfl
@[simp] theorem State.updFab_ras (f : Fabric → Fabric) : (s.updFab f).ras = s.ras := rfl
@[simp] theorem State.updFab_selfRefresh (f : Fabric → Fabric) : (s.updFab f).selfRefresh = s.selfRefresh := rfl
@[simp] theorem State.updFab_chans (f : Fabric → Fabric) : (s.updFab f).chans = s.chans := rfl
@[simp] theorem State.updFab_sluice (f : Fabric → Fabric) : (s.updFab f).sluice = s.sluice := rfl
@[simp] theorem State.updFab_sluiceOrder (f : Fabric → Fabric) : (s.updFab f).sluiceOrder = s.sluiceOrder := rfl
@[simp] theorem State.updFab_lanes (f : Fabric → Fabric) : (s.updFab f).lanes = s.lanes := rfl
@[simp] theorem State.updFab_boot (f : Fabric → Fabric) : (s.updFab f).boot = s.boot := rfl
@[simp] theorem State.updFab_rings (f : Fabric → Fabric) : (s.updFab f).rings = s.rings := rfl
@[simp] theorem State.updFab_chunks (f : Fabric → Fabric) : (s.updFab f).chunks = s.chunks := rfl
@[simp] theorem State.updFab_outf (f : Fabric → Fabric) : (s.updFab f).outf = s.outf := rfl
@[simp] theorem State.updFab_pair (f : Fabric → Fabric) : (s.updFab f).pair = s.pair := rfl
/-! ### setTport -/
@[simp] theorem State.setTport_pending (g : Nat) (x : TargetPort) : (s.setTport g x).pending = s.pending := rfl
@[simp] theorem State.setTport_now (g : Nat) (x : TargetPort) : (s.setTport g x).now = s.now := rfl
@[simp] theorem State.setTport_free (g : Nat) (x : TargetPort) : (s.setTport g x).free = s.free := rfl
@[simp] theorem State.setTport_out (g : Nat) (x : TargetPort) : (s.setTport g x).out = s.out := rfl
@[simp] theorem State.setTport_limits (g : Nat) (x : TargetPort) : (s.setTport g x).limits = s.limits := rfl
@[simp] theorem State.setTport_regs (g : Nat) (x : TargetPort) : (s.setTport g x).regs = s.regs := rfl
@[simp] theorem State.setTport_eff (g : Nat) (x : TargetPort) : (s.setTport g x).eff = s.eff := rfl
@[simp] theorem State.setTport_latch (g : Nat) (x : TargetPort) : (s.setTport g x).latch = s.latch := rfl
@[simp] theorem State.setTport_time (g : Nat) (x : TargetPort) : (s.setTport g x).time = s.time := rfl
@[simp] theorem State.setTport_doms (g : Nat) (x : TargetPort) : (s.setTport g x).doms = s.doms := rfl
@[simp] theorem State.setTport_img (g : Nat) (x : TargetPort) : (s.setTport g x).img = s.img := rfl
@[simp] theorem State.setTport_st (g : Nat) (x : TargetPort) : (s.setTport g x).st = s.st := rfl
@[simp] theorem State.setTport_funcs (g : Nat) (x : TargetPort) : (s.setTport g x).funcs = s.funcs := rfl
@[simp] theorem State.setTport_waiting (g : Nat) (x : TargetPort) : (s.setTport g x).waiting = s.waiting := rfl
@[simp] theorem State.setTport_resets (g : Nat) (x : TargetPort) : (s.setTport g x).resets = s.resets := rfl
@[simp] theorem State.setTport_pcie (g : Nat) (x : TargetPort) : (s.setTport g x).pcie = s.pcie := rfl
@[simp] theorem State.setTport_devMaint (g : Nat) (x : TargetPort) : (s.setTport g x).devMaint = s.devMaint := rfl
@[simp] theorem State.setTport_devMaintCmd (g : Nat) (x : TargetPort) : (s.setTport g x).devMaintCmd = s.devMaintCmd := rfl
@[simp] theorem State.setTport_retired (g : Nat) (x : TargetPort) : (s.setTport g x).retired = s.retired := rfl
@[simp] theorem State.setTport_excluded (g : Nat) (x : TargetPort) : (s.setTport g x).excluded = s.excluded := rfl
@[simp] theorem State.setTport_courses (g : Nat) (x : TargetPort) : (s.setTport g x).courses = s.courses := rfl
@[simp] theorem State.setTport_stages (g : Nat) (x : TargetPort) : (s.setTport g x).stages = s.stages := rfl
@[simp] theorem State.setTport_bufs (g : Nat) (x : TargetPort) : (s.setTport g x).bufs = s.bufs := rfl
@[simp] theorem State.setTport_inl (g : Nat) (x : TargetPort) : (s.setTport g x).inl = s.inl := rfl
@[simp] theorem State.setTport_streams (g : Nat) (x : TargetPort) : (s.setTport g x).streams = s.streams := rfl
@[simp] theorem State.setTport_founts (g : Nat) (x : TargetPort) : (s.setTport g x).founts = s.founts := rfl
@[simp] theorem State.setTport_layers (g : Nat) (x : TargetPort) : (s.setTport g x).layers = s.layers := rfl
@[simp] theorem State.setTport_postLut (g : Nat) (x : TargetPort) : (s.setTport g x).postLut = s.postLut := rfl
@[simp] theorem State.setTport_prots (g : Nat) (x : TargetPort) : (s.setTport g x).prots = s.prots := rfl
@[simp] theorem State.setTport_hostIns (g : Nat) (x : TargetPort) : (s.setTport g x).hostIns = s.hostIns := rfl
@[simp] theorem State.setTport_heads (g : Nat) (x : TargetPort) : (s.setTport g x).heads = s.heads := rfl
@[simp] theorem State.setTport_mem (g : Nat) (x : TargetPort) : (s.setTport g x).mem = s.mem := rfl
@[simp] theorem State.setTport_bces (g : Nat) (x : TargetPort) : (s.setTport g x).bces = s.bces := rfl
@[simp] theorem State.setTport_checks (g : Nat) (x : TargetPort) : (s.setTport g x).checks = s.checks := rfl
@[simp] theorem State.setTport_placed (g : Nat) (x : TargetPort) : (s.setTport g x).placed = s.placed := rfl
@[simp] theorem State.setTport_degraded (g : Nat) (x : TargetPort) : (s.setTport g x).degraded = s.degraded := rfl
@[simp] theorem State.setTport_tarns (g : Nat) (x : TargetPort) : (s.setTport g x).tarns = s.tarns := rfl
@[simp] theorem State.setTport_spills (g : Nat) (x : TargetPort) : (s.setTport g x).spills = s.spills := rfl
@[simp] theorem State.setTport_rends (g : Nat) (x : TargetPort) : (s.setTport g x).rends = s.rends := rfl
@[simp] theorem State.setTport_keys (g : Nat) (x : TargetPort) : (s.setTport g x).keys = s.keys := rfl
@[simp] theorem State.setTport_ras (g : Nat) (x : TargetPort) : (s.setTport g x).ras = s.ras := rfl
@[simp] theorem State.setTport_selfRefresh (g : Nat) (x : TargetPort) : (s.setTport g x).selfRefresh = s.selfRefresh := rfl
@[simp] theorem State.setTport_chans (g : Nat) (x : TargetPort) : (s.setTport g x).chans = s.chans := rfl
@[simp] theorem State.setTport_sluice (g : Nat) (x : TargetPort) : (s.setTport g x).sluice = s.sluice := rfl
@[simp] theorem State.setTport_sluiceOrder (g : Nat) (x : TargetPort) : (s.setTport g x).sluiceOrder = s.sluiceOrder := rfl
@[simp] theorem State.setTport_lanes (g : Nat) (x : TargetPort) : (s.setTport g x).lanes = s.lanes := rfl
@[simp] theorem State.setTport_boot (g : Nat) (x : TargetPort) : (s.setTport g x).boot = s.boot := rfl
@[simp] theorem State.setTport_rings (g : Nat) (x : TargetPort) : (s.setTport g x).rings = s.rings := rfl
@[simp] theorem State.setTport_chunks (g : Nat) (x : TargetPort) : (s.setTport g x).chunks = s.chunks := rfl
@[simp] theorem State.setTport_outf (g : Nat) (x : TargetPort) : (s.setTport g x).outf = s.outf := rfl
@[simp] theorem State.setTport_pair (g : Nat) (x : TargetPort) : (s.setTport g x).pair = s.pair := rfl
/-! ### setChan -/
@[simp] theorem State.setChan_pending (n : Nat) (x : Chan) : (s.setChan n x).pending = s.pending := rfl
@[simp] theorem State.setChan_now (n : Nat) (x : Chan) : (s.setChan n x).now = s.now := rfl
@[simp] theorem State.setChan_free (n : Nat) (x : Chan) : (s.setChan n x).free = s.free := rfl
@[simp] theorem State.setChan_out (n : Nat) (x : Chan) : (s.setChan n x).out = s.out := rfl
@[simp] theorem State.setChan_limits (n : Nat) (x : Chan) : (s.setChan n x).limits = s.limits := rfl
@[simp] theorem State.setChan_regs (n : Nat) (x : Chan) : (s.setChan n x).regs = s.regs := rfl
@[simp] theorem State.setChan_eff (n : Nat) (x : Chan) : (s.setChan n x).eff = s.eff := rfl
@[simp] theorem State.setChan_latch (n : Nat) (x : Chan) : (s.setChan n x).latch = s.latch := rfl
@[simp] theorem State.setChan_time (n : Nat) (x : Chan) : (s.setChan n x).time = s.time := rfl
@[simp] theorem State.setChan_doms (n : Nat) (x : Chan) : (s.setChan n x).doms = s.doms := rfl
@[simp] theorem State.setChan_img (n : Nat) (x : Chan) : (s.setChan n x).img = s.img := rfl
@[simp] theorem State.setChan_st (n : Nat) (x : Chan) : (s.setChan n x).st = s.st := rfl
@[simp] theorem State.setChan_funcs (n : Nat) (x : Chan) : (s.setChan n x).funcs = s.funcs := rfl
@[simp] theorem State.setChan_waiting (n : Nat) (x : Chan) : (s.setChan n x).waiting = s.waiting := rfl
@[simp] theorem State.setChan_resets (n : Nat) (x : Chan) : (s.setChan n x).resets = s.resets := rfl
@[simp] theorem State.setChan_pcie (n : Nat) (x : Chan) : (s.setChan n x).pcie = s.pcie := rfl
@[simp] theorem State.setChan_devMaint (n : Nat) (x : Chan) : (s.setChan n x).devMaint = s.devMaint := rfl
@[simp] theorem State.setChan_devMaintCmd (n : Nat) (x : Chan) : (s.setChan n x).devMaintCmd = s.devMaintCmd := rfl
@[simp] theorem State.setChan_retired (n : Nat) (x : Chan) : (s.setChan n x).retired = s.retired := rfl
@[simp] theorem State.setChan_excluded (n : Nat) (x : Chan) : (s.setChan n x).excluded = s.excluded := rfl
@[simp] theorem State.setChan_courses (n : Nat) (x : Chan) : (s.setChan n x).courses = s.courses := rfl
@[simp] theorem State.setChan_stages (n : Nat) (x : Chan) : (s.setChan n x).stages = s.stages := rfl
@[simp] theorem State.setChan_bufs (n : Nat) (x : Chan) : (s.setChan n x).bufs = s.bufs := rfl
@[simp] theorem State.setChan_inl (n : Nat) (x : Chan) : (s.setChan n x).inl = s.inl := rfl
@[simp] theorem State.setChan_streams (n : Nat) (x : Chan) : (s.setChan n x).streams = s.streams := rfl
@[simp] theorem State.setChan_founts (n : Nat) (x : Chan) : (s.setChan n x).founts = s.founts := rfl
@[simp] theorem State.setChan_layers (n : Nat) (x : Chan) : (s.setChan n x).layers = s.layers := rfl
@[simp] theorem State.setChan_postLut (n : Nat) (x : Chan) : (s.setChan n x).postLut = s.postLut := rfl
@[simp] theorem State.setChan_prots (n : Nat) (x : Chan) : (s.setChan n x).prots = s.prots := rfl
@[simp] theorem State.setChan_hostIns (n : Nat) (x : Chan) : (s.setChan n x).hostIns = s.hostIns := rfl
@[simp] theorem State.setChan_heads (n : Nat) (x : Chan) : (s.setChan n x).heads = s.heads := rfl
@[simp] theorem State.setChan_mem (n : Nat) (x : Chan) : (s.setChan n x).mem = s.mem := rfl
@[simp] theorem State.setChan_bces (n : Nat) (x : Chan) : (s.setChan n x).bces = s.bces := rfl
@[simp] theorem State.setChan_checks (n : Nat) (x : Chan) : (s.setChan n x).checks = s.checks := rfl
@[simp] theorem State.setChan_placed (n : Nat) (x : Chan) : (s.setChan n x).placed = s.placed := rfl
@[simp] theorem State.setChan_degraded (n : Nat) (x : Chan) : (s.setChan n x).degraded = s.degraded := rfl
@[simp] theorem State.setChan_tarns (n : Nat) (x : Chan) : (s.setChan n x).tarns = s.tarns := rfl
@[simp] theorem State.setChan_spills (n : Nat) (x : Chan) : (s.setChan n x).spills = s.spills := rfl
@[simp] theorem State.setChan_rends (n : Nat) (x : Chan) : (s.setChan n x).rends = s.rends := rfl
@[simp] theorem State.setChan_keys (n : Nat) (x : Chan) : (s.setChan n x).keys = s.keys := rfl
@[simp] theorem State.setChan_ras (n : Nat) (x : Chan) : (s.setChan n x).ras = s.ras := rfl
@[simp] theorem State.setChan_selfRefresh (n : Nat) (x : Chan) : (s.setChan n x).selfRefresh = s.selfRefresh := rfl
@[simp] theorem State.setChan_fabric (n : Nat) (x : Chan) : (s.setChan n x).fabric = s.fabric := rfl
@[simp] theorem State.setChan_sluice (n : Nat) (x : Chan) : (s.setChan n x).sluice = s.sluice := rfl
@[simp] theorem State.setChan_sluiceOrder (n : Nat) (x : Chan) : (s.setChan n x).sluiceOrder = s.sluiceOrder := rfl
@[simp] theorem State.setChan_lanes (n : Nat) (x : Chan) : (s.setChan n x).lanes = s.lanes := rfl
@[simp] theorem State.setChan_boot (n : Nat) (x : Chan) : (s.setChan n x).boot = s.boot := rfl
@[simp] theorem State.setChan_rings (n : Nat) (x : Chan) : (s.setChan n x).rings = s.rings := rfl
@[simp] theorem State.setChan_chunks (n : Nat) (x : Chan) : (s.setChan n x).chunks = s.chunks := rfl
@[simp] theorem State.setChan_outf (n : Nat) (x : Chan) : (s.setChan n x).outf = s.outf := rfl
@[simp] theorem State.setChan_pair (n : Nat) (x : Chan) : (s.setChan n x).pair = s.pair := rfl
/-! ### updChan -/
@[simp] theorem State.updChan_pending (n : Nat) (f : Chan → Chan) : (s.updChan n f).pending = s.pending := rfl
@[simp] theorem State.updChan_now (n : Nat) (f : Chan → Chan) : (s.updChan n f).now = s.now := rfl
@[simp] theorem State.updChan_free (n : Nat) (f : Chan → Chan) : (s.updChan n f).free = s.free := rfl
@[simp] theorem State.updChan_out (n : Nat) (f : Chan → Chan) : (s.updChan n f).out = s.out := rfl
@[simp] theorem State.updChan_limits (n : Nat) (f : Chan → Chan) : (s.updChan n f).limits = s.limits := rfl
@[simp] theorem State.updChan_regs (n : Nat) (f : Chan → Chan) : (s.updChan n f).regs = s.regs := rfl
@[simp] theorem State.updChan_eff (n : Nat) (f : Chan → Chan) : (s.updChan n f).eff = s.eff := rfl
@[simp] theorem State.updChan_latch (n : Nat) (f : Chan → Chan) : (s.updChan n f).latch = s.latch := rfl
@[simp] theorem State.updChan_time (n : Nat) (f : Chan → Chan) : (s.updChan n f).time = s.time := rfl
@[simp] theorem State.updChan_doms (n : Nat) (f : Chan → Chan) : (s.updChan n f).doms = s.doms := rfl
@[simp] theorem State.updChan_img (n : Nat) (f : Chan → Chan) : (s.updChan n f).img = s.img := rfl
@[simp] theorem State.updChan_st (n : Nat) (f : Chan → Chan) : (s.updChan n f).st = s.st := rfl
@[simp] theorem State.updChan_funcs (n : Nat) (f : Chan → Chan) : (s.updChan n f).funcs = s.funcs := rfl
@[simp] theorem State.updChan_waiting (n : Nat) (f : Chan → Chan) : (s.updChan n f).waiting = s.waiting := rfl
@[simp] theorem State.updChan_resets (n : Nat) (f : Chan → Chan) : (s.updChan n f).resets = s.resets := rfl
@[simp] theorem State.updChan_pcie (n : Nat) (f : Chan → Chan) : (s.updChan n f).pcie = s.pcie := rfl
@[simp] theorem State.updChan_devMaint (n : Nat) (f : Chan → Chan) : (s.updChan n f).devMaint = s.devMaint := rfl
@[simp] theorem State.updChan_devMaintCmd (n : Nat) (f : Chan → Chan) : (s.updChan n f).devMaintCmd = s.devMaintCmd := rfl
@[simp] theorem State.updChan_retired (n : Nat) (f : Chan → Chan) : (s.updChan n f).retired = s.retired := rfl
@[simp] theorem State.updChan_excluded (n : Nat) (f : Chan → Chan) : (s.updChan n f).excluded = s.excluded := rfl
@[simp] theorem State.updChan_courses (n : Nat) (f : Chan → Chan) : (s.updChan n f).courses = s.courses := rfl
@[simp] theorem State.updChan_stages (n : Nat) (f : Chan → Chan) : (s.updChan n f).stages = s.stages := rfl
@[simp] theorem State.updChan_bufs (n : Nat) (f : Chan → Chan) : (s.updChan n f).bufs = s.bufs := rfl
@[simp] theorem State.updChan_inl (n : Nat) (f : Chan → Chan) : (s.updChan n f).inl = s.inl := rfl
@[simp] theorem State.updChan_streams (n : Nat) (f : Chan → Chan) : (s.updChan n f).streams = s.streams := rfl
@[simp] theorem State.updChan_founts (n : Nat) (f : Chan → Chan) : (s.updChan n f).founts = s.founts := rfl
@[simp] theorem State.updChan_layers (n : Nat) (f : Chan → Chan) : (s.updChan n f).layers = s.layers := rfl
@[simp] theorem State.updChan_postLut (n : Nat) (f : Chan → Chan) : (s.updChan n f).postLut = s.postLut := rfl
@[simp] theorem State.updChan_prots (n : Nat) (f : Chan → Chan) : (s.updChan n f).prots = s.prots := rfl
@[simp] theorem State.updChan_hostIns (n : Nat) (f : Chan → Chan) : (s.updChan n f).hostIns = s.hostIns := rfl
@[simp] theorem State.updChan_heads (n : Nat) (f : Chan → Chan) : (s.updChan n f).heads = s.heads := rfl
@[simp] theorem State.updChan_mem (n : Nat) (f : Chan → Chan) : (s.updChan n f).mem = s.mem := rfl
@[simp] theorem State.updChan_bces (n : Nat) (f : Chan → Chan) : (s.updChan n f).bces = s.bces := rfl
@[simp] theorem State.updChan_checks (n : Nat) (f : Chan → Chan) : (s.updChan n f).checks = s.checks := rfl
@[simp] theorem State.updChan_placed (n : Nat) (f : Chan → Chan) : (s.updChan n f).placed = s.placed := rfl
@[simp] theorem State.updChan_degraded (n : Nat) (f : Chan → Chan) : (s.updChan n f).degraded = s.degraded := rfl
@[simp] theorem State.updChan_tarns (n : Nat) (f : Chan → Chan) : (s.updChan n f).tarns = s.tarns := rfl
@[simp] theorem State.updChan_spills (n : Nat) (f : Chan → Chan) : (s.updChan n f).spills = s.spills := rfl
@[simp] theorem State.updChan_rends (n : Nat) (f : Chan → Chan) : (s.updChan n f).rends = s.rends := rfl
@[simp] theorem State.updChan_keys (n : Nat) (f : Chan → Chan) : (s.updChan n f).keys = s.keys := rfl
@[simp] theorem State.updChan_ras (n : Nat) (f : Chan → Chan) : (s.updChan n f).ras = s.ras := rfl
@[simp] theorem State.updChan_selfRefresh (n : Nat) (f : Chan → Chan) : (s.updChan n f).selfRefresh = s.selfRefresh := rfl
@[simp] theorem State.updChan_fabric (n : Nat) (f : Chan → Chan) : (s.updChan n f).fabric = s.fabric := rfl
@[simp] theorem State.updChan_sluice (n : Nat) (f : Chan → Chan) : (s.updChan n f).sluice = s.sluice := rfl
@[simp] theorem State.updChan_sluiceOrder (n : Nat) (f : Chan → Chan) : (s.updChan n f).sluiceOrder = s.sluiceOrder := rfl
@[simp] theorem State.updChan_lanes (n : Nat) (f : Chan → Chan) : (s.updChan n f).lanes = s.lanes := rfl
@[simp] theorem State.updChan_boot (n : Nat) (f : Chan → Chan) : (s.updChan n f).boot = s.boot := rfl
@[simp] theorem State.updChan_rings (n : Nat) (f : Chan → Chan) : (s.updChan n f).rings = s.rings := rfl
@[simp] theorem State.updChan_chunks (n : Nat) (f : Chan → Chan) : (s.updChan n f).chunks = s.chunks := rfl
@[simp] theorem State.updChan_outf (n : Nat) (f : Chan → Chan) : (s.updChan n f).outf = s.outf := rfl
@[simp] theorem State.updChan_pair (n : Nat) (f : Chan → Chan) : (s.updChan n f).pair = s.pair := rfl
/-! ### setChk -/
@[simp] theorem State.setChk_pending (u : Nat) (x : CheckUnit) : (s.setChk u x).pending = s.pending := rfl
@[simp] theorem State.setChk_now (u : Nat) (x : CheckUnit) : (s.setChk u x).now = s.now := rfl
@[simp] theorem State.setChk_free (u : Nat) (x : CheckUnit) : (s.setChk u x).free = s.free := rfl
@[simp] theorem State.setChk_out (u : Nat) (x : CheckUnit) : (s.setChk u x).out = s.out := rfl
@[simp] theorem State.setChk_limits (u : Nat) (x : CheckUnit) : (s.setChk u x).limits = s.limits := rfl
@[simp] theorem State.setChk_regs (u : Nat) (x : CheckUnit) : (s.setChk u x).regs = s.regs := rfl
@[simp] theorem State.setChk_eff (u : Nat) (x : CheckUnit) : (s.setChk u x).eff = s.eff := rfl
@[simp] theorem State.setChk_latch (u : Nat) (x : CheckUnit) : (s.setChk u x).latch = s.latch := rfl
@[simp] theorem State.setChk_time (u : Nat) (x : CheckUnit) : (s.setChk u x).time = s.time := rfl
@[simp] theorem State.setChk_doms (u : Nat) (x : CheckUnit) : (s.setChk u x).doms = s.doms := rfl
@[simp] theorem State.setChk_img (u : Nat) (x : CheckUnit) : (s.setChk u x).img = s.img := rfl
@[simp] theorem State.setChk_st (u : Nat) (x : CheckUnit) : (s.setChk u x).st = s.st := rfl
@[simp] theorem State.setChk_funcs (u : Nat) (x : CheckUnit) : (s.setChk u x).funcs = s.funcs := rfl
@[simp] theorem State.setChk_waiting (u : Nat) (x : CheckUnit) : (s.setChk u x).waiting = s.waiting := rfl
@[simp] theorem State.setChk_resets (u : Nat) (x : CheckUnit) : (s.setChk u x).resets = s.resets := rfl
@[simp] theorem State.setChk_pcie (u : Nat) (x : CheckUnit) : (s.setChk u x).pcie = s.pcie := rfl
@[simp] theorem State.setChk_devMaint (u : Nat) (x : CheckUnit) : (s.setChk u x).devMaint = s.devMaint := rfl
@[simp] theorem State.setChk_devMaintCmd (u : Nat) (x : CheckUnit) : (s.setChk u x).devMaintCmd = s.devMaintCmd := rfl
@[simp] theorem State.setChk_retired (u : Nat) (x : CheckUnit) : (s.setChk u x).retired = s.retired := rfl
@[simp] theorem State.setChk_excluded (u : Nat) (x : CheckUnit) : (s.setChk u x).excluded = s.excluded := rfl
@[simp] theorem State.setChk_courses (u : Nat) (x : CheckUnit) : (s.setChk u x).courses = s.courses := rfl
@[simp] theorem State.setChk_stages (u : Nat) (x : CheckUnit) : (s.setChk u x).stages = s.stages := rfl
@[simp] theorem State.setChk_bufs (u : Nat) (x : CheckUnit) : (s.setChk u x).bufs = s.bufs := rfl
@[simp] theorem State.setChk_inl (u : Nat) (x : CheckUnit) : (s.setChk u x).inl = s.inl := rfl
@[simp] theorem State.setChk_streams (u : Nat) (x : CheckUnit) : (s.setChk u x).streams = s.streams := rfl
@[simp] theorem State.setChk_founts (u : Nat) (x : CheckUnit) : (s.setChk u x).founts = s.founts := rfl
@[simp] theorem State.setChk_layers (u : Nat) (x : CheckUnit) : (s.setChk u x).layers = s.layers := rfl
@[simp] theorem State.setChk_postLut (u : Nat) (x : CheckUnit) : (s.setChk u x).postLut = s.postLut := rfl
@[simp] theorem State.setChk_prots (u : Nat) (x : CheckUnit) : (s.setChk u x).prots = s.prots := rfl
@[simp] theorem State.setChk_hostIns (u : Nat) (x : CheckUnit) : (s.setChk u x).hostIns = s.hostIns := rfl
@[simp] theorem State.setChk_heads (u : Nat) (x : CheckUnit) : (s.setChk u x).heads = s.heads := rfl
@[simp] theorem State.setChk_mem (u : Nat) (x : CheckUnit) : (s.setChk u x).mem = s.mem := rfl
@[simp] theorem State.setChk_bces (u : Nat) (x : CheckUnit) : (s.setChk u x).bces = s.bces := rfl
@[simp] theorem State.setChk_placed (u : Nat) (x : CheckUnit) : (s.setChk u x).placed = s.placed := rfl
@[simp] theorem State.setChk_degraded (u : Nat) (x : CheckUnit) : (s.setChk u x).degraded = s.degraded := rfl
@[simp] theorem State.setChk_tarns (u : Nat) (x : CheckUnit) : (s.setChk u x).tarns = s.tarns := rfl
@[simp] theorem State.setChk_spills (u : Nat) (x : CheckUnit) : (s.setChk u x).spills = s.spills := rfl
@[simp] theorem State.setChk_rends (u : Nat) (x : CheckUnit) : (s.setChk u x).rends = s.rends := rfl
@[simp] theorem State.setChk_keys (u : Nat) (x : CheckUnit) : (s.setChk u x).keys = s.keys := rfl
@[simp] theorem State.setChk_ras (u : Nat) (x : CheckUnit) : (s.setChk u x).ras = s.ras := rfl
@[simp] theorem State.setChk_selfRefresh (u : Nat) (x : CheckUnit) : (s.setChk u x).selfRefresh = s.selfRefresh := rfl
@[simp] theorem State.setChk_chans (u : Nat) (x : CheckUnit) : (s.setChk u x).chans = s.chans := rfl
@[simp] theorem State.setChk_fabric (u : Nat) (x : CheckUnit) : (s.setChk u x).fabric = s.fabric := rfl
@[simp] theorem State.setChk_sluice (u : Nat) (x : CheckUnit) : (s.setChk u x).sluice = s.sluice := rfl
@[simp] theorem State.setChk_sluiceOrder (u : Nat) (x : CheckUnit) : (s.setChk u x).sluiceOrder = s.sluiceOrder := rfl
@[simp] theorem State.setChk_lanes (u : Nat) (x : CheckUnit) : (s.setChk u x).lanes = s.lanes := rfl
@[simp] theorem State.setChk_boot (u : Nat) (x : CheckUnit) : (s.setChk u x).boot = s.boot := rfl
@[simp] theorem State.setChk_rings (u : Nat) (x : CheckUnit) : (s.setChk u x).rings = s.rings := rfl
@[simp] theorem State.setChk_chunks (u : Nat) (x : CheckUnit) : (s.setChk u x).chunks = s.chunks := rfl
@[simp] theorem State.setChk_outf (u : Nat) (x : CheckUnit) : (s.setChk u x).outf = s.outf := rfl
@[simp] theorem State.setChk_pair (u : Nat) (x : CheckUnit) : (s.setChk u x).pair = s.pair := rfl
/-! ### setBce -/
@[simp] theorem State.setBce_pending (b : Nat) (x : Bce) : (s.setBce b x).pending = s.pending := rfl
@[simp] theorem State.setBce_now (b : Nat) (x : Bce) : (s.setBce b x).now = s.now := rfl
@[simp] theorem State.setBce_free (b : Nat) (x : Bce) : (s.setBce b x).free = s.free := rfl
@[simp] theorem State.setBce_out (b : Nat) (x : Bce) : (s.setBce b x).out = s.out := rfl
@[simp] theorem State.setBce_limits (b : Nat) (x : Bce) : (s.setBce b x).limits = s.limits := rfl
@[simp] theorem State.setBce_regs (b : Nat) (x : Bce) : (s.setBce b x).regs = s.regs := rfl
@[simp] theorem State.setBce_eff (b : Nat) (x : Bce) : (s.setBce b x).eff = s.eff := rfl
@[simp] theorem State.setBce_latch (b : Nat) (x : Bce) : (s.setBce b x).latch = s.latch := rfl
@[simp] theorem State.setBce_time (b : Nat) (x : Bce) : (s.setBce b x).time = s.time := rfl
@[simp] theorem State.setBce_doms (b : Nat) (x : Bce) : (s.setBce b x).doms = s.doms := rfl
@[simp] theorem State.setBce_img (b : Nat) (x : Bce) : (s.setBce b x).img = s.img := rfl
@[simp] theorem State.setBce_st (b : Nat) (x : Bce) : (s.setBce b x).st = s.st := rfl
@[simp] theorem State.setBce_funcs (b : Nat) (x : Bce) : (s.setBce b x).funcs = s.funcs := rfl
@[simp] theorem State.setBce_waiting (b : Nat) (x : Bce) : (s.setBce b x).waiting = s.waiting := rfl
@[simp] theorem State.setBce_resets (b : Nat) (x : Bce) : (s.setBce b x).resets = s.resets := rfl
@[simp] theorem State.setBce_pcie (b : Nat) (x : Bce) : (s.setBce b x).pcie = s.pcie := rfl
@[simp] theorem State.setBce_devMaint (b : Nat) (x : Bce) : (s.setBce b x).devMaint = s.devMaint := rfl
@[simp] theorem State.setBce_devMaintCmd (b : Nat) (x : Bce) : (s.setBce b x).devMaintCmd = s.devMaintCmd := rfl
@[simp] theorem State.setBce_retired (b : Nat) (x : Bce) : (s.setBce b x).retired = s.retired := rfl
@[simp] theorem State.setBce_excluded (b : Nat) (x : Bce) : (s.setBce b x).excluded = s.excluded := rfl
@[simp] theorem State.setBce_courses (b : Nat) (x : Bce) : (s.setBce b x).courses = s.courses := rfl
@[simp] theorem State.setBce_stages (b : Nat) (x : Bce) : (s.setBce b x).stages = s.stages := rfl
@[simp] theorem State.setBce_bufs (b : Nat) (x : Bce) : (s.setBce b x).bufs = s.bufs := rfl
@[simp] theorem State.setBce_inl (b : Nat) (x : Bce) : (s.setBce b x).inl = s.inl := rfl
@[simp] theorem State.setBce_streams (b : Nat) (x : Bce) : (s.setBce b x).streams = s.streams := rfl
@[simp] theorem State.setBce_founts (b : Nat) (x : Bce) : (s.setBce b x).founts = s.founts := rfl
@[simp] theorem State.setBce_layers (b : Nat) (x : Bce) : (s.setBce b x).layers = s.layers := rfl
@[simp] theorem State.setBce_postLut (b : Nat) (x : Bce) : (s.setBce b x).postLut = s.postLut := rfl
@[simp] theorem State.setBce_prots (b : Nat) (x : Bce) : (s.setBce b x).prots = s.prots := rfl
@[simp] theorem State.setBce_hostIns (b : Nat) (x : Bce) : (s.setBce b x).hostIns = s.hostIns := rfl
@[simp] theorem State.setBce_heads (b : Nat) (x : Bce) : (s.setBce b x).heads = s.heads := rfl
@[simp] theorem State.setBce_mem (b : Nat) (x : Bce) : (s.setBce b x).mem = s.mem := rfl
@[simp] theorem State.setBce_checks (b : Nat) (x : Bce) : (s.setBce b x).checks = s.checks := rfl
@[simp] theorem State.setBce_placed (b : Nat) (x : Bce) : (s.setBce b x).placed = s.placed := rfl
@[simp] theorem State.setBce_degraded (b : Nat) (x : Bce) : (s.setBce b x).degraded = s.degraded := rfl
@[simp] theorem State.setBce_tarns (b : Nat) (x : Bce) : (s.setBce b x).tarns = s.tarns := rfl
@[simp] theorem State.setBce_spills (b : Nat) (x : Bce) : (s.setBce b x).spills = s.spills := rfl
@[simp] theorem State.setBce_rends (b : Nat) (x : Bce) : (s.setBce b x).rends = s.rends := rfl
@[simp] theorem State.setBce_keys (b : Nat) (x : Bce) : (s.setBce b x).keys = s.keys := rfl
@[simp] theorem State.setBce_ras (b : Nat) (x : Bce) : (s.setBce b x).ras = s.ras := rfl
@[simp] theorem State.setBce_selfRefresh (b : Nat) (x : Bce) : (s.setBce b x).selfRefresh = s.selfRefresh := rfl
@[simp] theorem State.setBce_chans (b : Nat) (x : Bce) : (s.setBce b x).chans = s.chans := rfl
@[simp] theorem State.setBce_fabric (b : Nat) (x : Bce) : (s.setBce b x).fabric = s.fabric := rfl
@[simp] theorem State.setBce_sluice (b : Nat) (x : Bce) : (s.setBce b x).sluice = s.sluice := rfl
@[simp] theorem State.setBce_sluiceOrder (b : Nat) (x : Bce) : (s.setBce b x).sluiceOrder = s.sluiceOrder := rfl
@[simp] theorem State.setBce_lanes (b : Nat) (x : Bce) : (s.setBce b x).lanes = s.lanes := rfl
@[simp] theorem State.setBce_boot (b : Nat) (x : Bce) : (s.setBce b x).boot = s.boot := rfl
@[simp] theorem State.setBce_rings (b : Nat) (x : Bce) : (s.setBce b x).rings = s.rings := rfl
@[simp] theorem State.setBce_chunks (b : Nat) (x : Bce) : (s.setBce b x).chunks = s.chunks := rfl
@[simp] theorem State.setBce_outf (b : Nat) (x : Bce) : (s.setBce b x).outf = s.outf := rfl
@[simp] theorem State.setBce_pair (b : Nat) (x : Bce) : (s.setBce b x).pair = s.pair := rfl
/-! ### updInl -/
@[simp] theorem State.updInl_pending (f : Inlet → Inlet) : (s.updInl f).pending = s.pending := rfl
@[simp] theorem State.updInl_now (f : Inlet → Inlet) : (s.updInl f).now = s.now := rfl
@[simp] theorem State.updInl_free (f : Inlet → Inlet) : (s.updInl f).free = s.free := rfl
@[simp] theorem State.updInl_out (f : Inlet → Inlet) : (s.updInl f).out = s.out := rfl
@[simp] theorem State.updInl_limits (f : Inlet → Inlet) : (s.updInl f).limits = s.limits := rfl
@[simp] theorem State.updInl_regs (f : Inlet → Inlet) : (s.updInl f).regs = s.regs := rfl
@[simp] theorem State.updInl_eff (f : Inlet → Inlet) : (s.updInl f).eff = s.eff := rfl
@[simp] theorem State.updInl_latch (f : Inlet → Inlet) : (s.updInl f).latch = s.latch := rfl
@[simp] theorem State.updInl_time (f : Inlet → Inlet) : (s.updInl f).time = s.time := rfl
@[simp] theorem State.updInl_doms (f : Inlet → Inlet) : (s.updInl f).doms = s.doms := rfl
@[simp] theorem State.updInl_img (f : Inlet → Inlet) : (s.updInl f).img = s.img := rfl
@[simp] theorem State.updInl_st (f : Inlet → Inlet) : (s.updInl f).st = s.st := rfl
@[simp] theorem State.updInl_funcs (f : Inlet → Inlet) : (s.updInl f).funcs = s.funcs := rfl
@[simp] theorem State.updInl_waiting (f : Inlet → Inlet) : (s.updInl f).waiting = s.waiting := rfl
@[simp] theorem State.updInl_resets (f : Inlet → Inlet) : (s.updInl f).resets = s.resets := rfl
@[simp] theorem State.updInl_pcie (f : Inlet → Inlet) : (s.updInl f).pcie = s.pcie := rfl
@[simp] theorem State.updInl_devMaint (f : Inlet → Inlet) : (s.updInl f).devMaint = s.devMaint := rfl
@[simp] theorem State.updInl_devMaintCmd (f : Inlet → Inlet) : (s.updInl f).devMaintCmd = s.devMaintCmd := rfl
@[simp] theorem State.updInl_retired (f : Inlet → Inlet) : (s.updInl f).retired = s.retired := rfl
@[simp] theorem State.updInl_excluded (f : Inlet → Inlet) : (s.updInl f).excluded = s.excluded := rfl
@[simp] theorem State.updInl_courses (f : Inlet → Inlet) : (s.updInl f).courses = s.courses := rfl
@[simp] theorem State.updInl_stages (f : Inlet → Inlet) : (s.updInl f).stages = s.stages := rfl
@[simp] theorem State.updInl_bufs (f : Inlet → Inlet) : (s.updInl f).bufs = s.bufs := rfl
@[simp] theorem State.updInl_streams (f : Inlet → Inlet) : (s.updInl f).streams = s.streams := rfl
@[simp] theorem State.updInl_founts (f : Inlet → Inlet) : (s.updInl f).founts = s.founts := rfl
@[simp] theorem State.updInl_layers (f : Inlet → Inlet) : (s.updInl f).layers = s.layers := rfl
@[simp] theorem State.updInl_postLut (f : Inlet → Inlet) : (s.updInl f).postLut = s.postLut := rfl
@[simp] theorem State.updInl_prots (f : Inlet → Inlet) : (s.updInl f).prots = s.prots := rfl
@[simp] theorem State.updInl_hostIns (f : Inlet → Inlet) : (s.updInl f).hostIns = s.hostIns := rfl
@[simp] theorem State.updInl_heads (f : Inlet → Inlet) : (s.updInl f).heads = s.heads := rfl
@[simp] theorem State.updInl_mem (f : Inlet → Inlet) : (s.updInl f).mem = s.mem := rfl
@[simp] theorem State.updInl_bces (f : Inlet → Inlet) : (s.updInl f).bces = s.bces := rfl
@[simp] theorem State.updInl_checks (f : Inlet → Inlet) : (s.updInl f).checks = s.checks := rfl
@[simp] theorem State.updInl_placed (f : Inlet → Inlet) : (s.updInl f).placed = s.placed := rfl
@[simp] theorem State.updInl_degraded (f : Inlet → Inlet) : (s.updInl f).degraded = s.degraded := rfl
@[simp] theorem State.updInl_tarns (f : Inlet → Inlet) : (s.updInl f).tarns = s.tarns := rfl
@[simp] theorem State.updInl_spills (f : Inlet → Inlet) : (s.updInl f).spills = s.spills := rfl
@[simp] theorem State.updInl_rends (f : Inlet → Inlet) : (s.updInl f).rends = s.rends := rfl
@[simp] theorem State.updInl_keys (f : Inlet → Inlet) : (s.updInl f).keys = s.keys := rfl
@[simp] theorem State.updInl_ras (f : Inlet → Inlet) : (s.updInl f).ras = s.ras := rfl
@[simp] theorem State.updInl_selfRefresh (f : Inlet → Inlet) : (s.updInl f).selfRefresh = s.selfRefresh := rfl
@[simp] theorem State.updInl_chans (f : Inlet → Inlet) : (s.updInl f).chans = s.chans := rfl
@[simp] theorem State.updInl_fabric (f : Inlet → Inlet) : (s.updInl f).fabric = s.fabric := rfl
@[simp] theorem State.updInl_sluice (f : Inlet → Inlet) : (s.updInl f).sluice = s.sluice := rfl
@[simp] theorem State.updInl_sluiceOrder (f : Inlet → Inlet) : (s.updInl f).sluiceOrder = s.sluiceOrder := rfl
@[simp] theorem State.updInl_lanes (f : Inlet → Inlet) : (s.updInl f).lanes = s.lanes := rfl
@[simp] theorem State.updInl_boot (f : Inlet → Inlet) : (s.updInl f).boot = s.boot := rfl
@[simp] theorem State.updInl_rings (f : Inlet → Inlet) : (s.updInl f).rings = s.rings := rfl
@[simp] theorem State.updInl_chunks (f : Inlet → Inlet) : (s.updInl f).chunks = s.chunks := rfl
@[simp] theorem State.updInl_outf (f : Inlet → Inlet) : (s.updInl f).outf = s.outf := rfl
@[simp] theorem State.updInl_pair (f : Inlet → Inlet) : (s.updInl f).pair = s.pair := rfl
/-! ### setStream -/
@[simp] theorem State.setStream_pending (i : InputRec) (x : FountStream) : (s.setStream i x).pending = s.pending := rfl
@[simp] theorem State.setStream_now (i : InputRec) (x : FountStream) : (s.setStream i x).now = s.now := rfl
@[simp] theorem State.setStream_free (i : InputRec) (x : FountStream) : (s.setStream i x).free = s.free := rfl
@[simp] theorem State.setStream_out (i : InputRec) (x : FountStream) : (s.setStream i x).out = s.out := rfl
@[simp] theorem State.setStream_limits (i : InputRec) (x : FountStream) : (s.setStream i x).limits = s.limits := rfl
@[simp] theorem State.setStream_regs (i : InputRec) (x : FountStream) : (s.setStream i x).regs = s.regs := rfl
@[simp] theorem State.setStream_eff (i : InputRec) (x : FountStream) : (s.setStream i x).eff = s.eff := rfl
@[simp] theorem State.setStream_latch (i : InputRec) (x : FountStream) : (s.setStream i x).latch = s.latch := rfl
@[simp] theorem State.setStream_time (i : InputRec) (x : FountStream) : (s.setStream i x).time = s.time := rfl
@[simp] theorem State.setStream_doms (i : InputRec) (x : FountStream) : (s.setStream i x).doms = s.doms := rfl
@[simp] theorem State.setStream_img (i : InputRec) (x : FountStream) : (s.setStream i x).img = s.img := rfl
@[simp] theorem State.setStream_st (i : InputRec) (x : FountStream) : (s.setStream i x).st = s.st := rfl
@[simp] theorem State.setStream_funcs (i : InputRec) (x : FountStream) : (s.setStream i x).funcs = s.funcs := rfl
@[simp] theorem State.setStream_waiting (i : InputRec) (x : FountStream) : (s.setStream i x).waiting = s.waiting := rfl
@[simp] theorem State.setStream_resets (i : InputRec) (x : FountStream) : (s.setStream i x).resets = s.resets := rfl
@[simp] theorem State.setStream_pcie (i : InputRec) (x : FountStream) : (s.setStream i x).pcie = s.pcie := rfl
@[simp] theorem State.setStream_devMaint (i : InputRec) (x : FountStream) : (s.setStream i x).devMaint = s.devMaint := rfl
@[simp] theorem State.setStream_devMaintCmd (i : InputRec) (x : FountStream) : (s.setStream i x).devMaintCmd = s.devMaintCmd := rfl
@[simp] theorem State.setStream_retired (i : InputRec) (x : FountStream) : (s.setStream i x).retired = s.retired := rfl
@[simp] theorem State.setStream_excluded (i : InputRec) (x : FountStream) : (s.setStream i x).excluded = s.excluded := rfl
@[simp] theorem State.setStream_courses (i : InputRec) (x : FountStream) : (s.setStream i x).courses = s.courses := rfl
@[simp] theorem State.setStream_stages (i : InputRec) (x : FountStream) : (s.setStream i x).stages = s.stages := rfl
@[simp] theorem State.setStream_bufs (i : InputRec) (x : FountStream) : (s.setStream i x).bufs = s.bufs := rfl
@[simp] theorem State.setStream_inl (i : InputRec) (x : FountStream) : (s.setStream i x).inl = s.inl := rfl
@[simp] theorem State.setStream_founts (i : InputRec) (x : FountStream) : (s.setStream i x).founts = s.founts := rfl
@[simp] theorem State.setStream_layers (i : InputRec) (x : FountStream) : (s.setStream i x).layers = s.layers := rfl
@[simp] theorem State.setStream_postLut (i : InputRec) (x : FountStream) : (s.setStream i x).postLut = s.postLut := rfl
@[simp] theorem State.setStream_prots (i : InputRec) (x : FountStream) : (s.setStream i x).prots = s.prots := rfl
@[simp] theorem State.setStream_hostIns (i : InputRec) (x : FountStream) : (s.setStream i x).hostIns = s.hostIns := rfl
@[simp] theorem State.setStream_heads (i : InputRec) (x : FountStream) : (s.setStream i x).heads = s.heads := rfl
@[simp] theorem State.setStream_mem (i : InputRec) (x : FountStream) : (s.setStream i x).mem = s.mem := rfl
@[simp] theorem State.setStream_bces (i : InputRec) (x : FountStream) : (s.setStream i x).bces = s.bces := rfl
@[simp] theorem State.setStream_checks (i : InputRec) (x : FountStream) : (s.setStream i x).checks = s.checks := rfl
@[simp] theorem State.setStream_placed (i : InputRec) (x : FountStream) : (s.setStream i x).placed = s.placed := rfl
@[simp] theorem State.setStream_degraded (i : InputRec) (x : FountStream) : (s.setStream i x).degraded = s.degraded := rfl
@[simp] theorem State.setStream_tarns (i : InputRec) (x : FountStream) : (s.setStream i x).tarns = s.tarns := rfl
@[simp] theorem State.setStream_spills (i : InputRec) (x : FountStream) : (s.setStream i x).spills = s.spills := rfl
@[simp] theorem State.setStream_rends (i : InputRec) (x : FountStream) : (s.setStream i x).rends = s.rends := rfl
@[simp] theorem State.setStream_keys (i : InputRec) (x : FountStream) : (s.setStream i x).keys = s.keys := rfl
@[simp] theorem State.setStream_ras (i : InputRec) (x : FountStream) : (s.setStream i x).ras = s.ras := rfl
@[simp] theorem State.setStream_selfRefresh (i : InputRec) (x : FountStream) : (s.setStream i x).selfRefresh = s.selfRefresh := rfl
@[simp] theorem State.setStream_chans (i : InputRec) (x : FountStream) : (s.setStream i x).chans = s.chans := rfl
@[simp] theorem State.setStream_fabric (i : InputRec) (x : FountStream) : (s.setStream i x).fabric = s.fabric := rfl
@[simp] theorem State.setStream_sluice (i : InputRec) (x : FountStream) : (s.setStream i x).sluice = s.sluice := rfl
@[simp] theorem State.setStream_sluiceOrder (i : InputRec) (x : FountStream) : (s.setStream i x).sluiceOrder = s.sluiceOrder := rfl
@[simp] theorem State.setStream_lanes (i : InputRec) (x : FountStream) : (s.setStream i x).lanes = s.lanes := rfl
@[simp] theorem State.setStream_boot (i : InputRec) (x : FountStream) : (s.setStream i x).boot = s.boot := rfl
@[simp] theorem State.setStream_rings (i : InputRec) (x : FountStream) : (s.setStream i x).rings = s.rings := rfl
@[simp] theorem State.setStream_chunks (i : InputRec) (x : FountStream) : (s.setStream i x).chunks = s.chunks := rfl
@[simp] theorem State.setStream_outf (i : InputRec) (x : FountStream) : (s.setStream i x).outf = s.outf := rfl
@[simp] theorem State.setStream_pair (i : InputRec) (x : FountStream) : (s.setStream i x).pair = s.pair := rfl
/-! ### setLayer -/
@[simp] theorem State.setLayer_pending (c l : Nat) (y : Layer) : (s.setLayer c l y).pending = s.pending := rfl
@[simp] theorem State.setLayer_now (c l : Nat) (y : Layer) : (s.setLayer c l y).now = s.now := rfl
@[simp] theorem State.setLayer_free (c l : Nat) (y : Layer) : (s.setLayer c l y).free = s.free := rfl
@[simp] theorem State.setLayer_out (c l : Nat) (y : Layer) : (s.setLayer c l y).out = s.out := rfl
@[simp] theorem State.setLayer_limits (c l : Nat) (y : Layer) : (s.setLayer c l y).limits = s.limits := rfl
@[simp] theorem State.setLayer_regs (c l : Nat) (y : Layer) : (s.setLayer c l y).regs = s.regs := rfl
@[simp] theorem State.setLayer_eff (c l : Nat) (y : Layer) : (s.setLayer c l y).eff = s.eff := rfl
@[simp] theorem State.setLayer_latch (c l : Nat) (y : Layer) : (s.setLayer c l y).latch = s.latch := rfl
@[simp] theorem State.setLayer_time (c l : Nat) (y : Layer) : (s.setLayer c l y).time = s.time := rfl
@[simp] theorem State.setLayer_doms (c l : Nat) (y : Layer) : (s.setLayer c l y).doms = s.doms := rfl
@[simp] theorem State.setLayer_img (c l : Nat) (y : Layer) : (s.setLayer c l y).img = s.img := rfl
@[simp] theorem State.setLayer_st (c l : Nat) (y : Layer) : (s.setLayer c l y).st = s.st := rfl
@[simp] theorem State.setLayer_funcs (c l : Nat) (y : Layer) : (s.setLayer c l y).funcs = s.funcs := rfl
@[simp] theorem State.setLayer_waiting (c l : Nat) (y : Layer) : (s.setLayer c l y).waiting = s.waiting := rfl
@[simp] theorem State.setLayer_resets (c l : Nat) (y : Layer) : (s.setLayer c l y).resets = s.resets := rfl
@[simp] theorem State.setLayer_pcie (c l : Nat) (y : Layer) : (s.setLayer c l y).pcie = s.pcie := rfl
@[simp] theorem State.setLayer_devMaint (c l : Nat) (y : Layer) : (s.setLayer c l y).devMaint = s.devMaint := rfl
@[simp] theorem State.setLayer_devMaintCmd (c l : Nat) (y : Layer) : (s.setLayer c l y).devMaintCmd = s.devMaintCmd := rfl
@[simp] theorem State.setLayer_retired (c l : Nat) (y : Layer) : (s.setLayer c l y).retired = s.retired := rfl
@[simp] theorem State.setLayer_excluded (c l : Nat) (y : Layer) : (s.setLayer c l y).excluded = s.excluded := rfl
@[simp] theorem State.setLayer_courses (c l : Nat) (y : Layer) : (s.setLayer c l y).courses = s.courses := rfl
@[simp] theorem State.setLayer_stages (c l : Nat) (y : Layer) : (s.setLayer c l y).stages = s.stages := rfl
@[simp] theorem State.setLayer_bufs (c l : Nat) (y : Layer) : (s.setLayer c l y).bufs = s.bufs := rfl
@[simp] theorem State.setLayer_inl (c l : Nat) (y : Layer) : (s.setLayer c l y).inl = s.inl := rfl
@[simp] theorem State.setLayer_streams (c l : Nat) (y : Layer) : (s.setLayer c l y).streams = s.streams := rfl
@[simp] theorem State.setLayer_founts (c l : Nat) (y : Layer) : (s.setLayer c l y).founts = s.founts := rfl
@[simp] theorem State.setLayer_postLut (c l : Nat) (y : Layer) : (s.setLayer c l y).postLut = s.postLut := rfl
@[simp] theorem State.setLayer_prots (c l : Nat) (y : Layer) : (s.setLayer c l y).prots = s.prots := rfl
@[simp] theorem State.setLayer_hostIns (c l : Nat) (y : Layer) : (s.setLayer c l y).hostIns = s.hostIns := rfl
@[simp] theorem State.setLayer_heads (c l : Nat) (y : Layer) : (s.setLayer c l y).heads = s.heads := rfl
@[simp] theorem State.setLayer_mem (c l : Nat) (y : Layer) : (s.setLayer c l y).mem = s.mem := rfl
@[simp] theorem State.setLayer_bces (c l : Nat) (y : Layer) : (s.setLayer c l y).bces = s.bces := rfl
@[simp] theorem State.setLayer_checks (c l : Nat) (y : Layer) : (s.setLayer c l y).checks = s.checks := rfl
@[simp] theorem State.setLayer_placed (c l : Nat) (y : Layer) : (s.setLayer c l y).placed = s.placed := rfl
@[simp] theorem State.setLayer_degraded (c l : Nat) (y : Layer) : (s.setLayer c l y).degraded = s.degraded := rfl
@[simp] theorem State.setLayer_tarns (c l : Nat) (y : Layer) : (s.setLayer c l y).tarns = s.tarns := rfl
@[simp] theorem State.setLayer_spills (c l : Nat) (y : Layer) : (s.setLayer c l y).spills = s.spills := rfl
@[simp] theorem State.setLayer_rends (c l : Nat) (y : Layer) : (s.setLayer c l y).rends = s.rends := rfl
@[simp] theorem State.setLayer_keys (c l : Nat) (y : Layer) : (s.setLayer c l y).keys = s.keys := rfl
@[simp] theorem State.setLayer_ras (c l : Nat) (y : Layer) : (s.setLayer c l y).ras = s.ras := rfl
@[simp] theorem State.setLayer_selfRefresh (c l : Nat) (y : Layer) : (s.setLayer c l y).selfRefresh = s.selfRefresh := rfl
@[simp] theorem State.setLayer_chans (c l : Nat) (y : Layer) : (s.setLayer c l y).chans = s.chans := rfl
@[simp] theorem State.setLayer_fabric (c l : Nat) (y : Layer) : (s.setLayer c l y).fabric = s.fabric := rfl
@[simp] theorem State.setLayer_sluice (c l : Nat) (y : Layer) : (s.setLayer c l y).sluice = s.sluice := rfl
@[simp] theorem State.setLayer_sluiceOrder (c l : Nat) (y : Layer) : (s.setLayer c l y).sluiceOrder = s.sluiceOrder := rfl
@[simp] theorem State.setLayer_lanes (c l : Nat) (y : Layer) : (s.setLayer c l y).lanes = s.lanes := rfl
@[simp] theorem State.setLayer_boot (c l : Nat) (y : Layer) : (s.setLayer c l y).boot = s.boot := rfl
@[simp] theorem State.setLayer_rings (c l : Nat) (y : Layer) : (s.setLayer c l y).rings = s.rings := rfl
@[simp] theorem State.setLayer_chunks (c l : Nat) (y : Layer) : (s.setLayer c l y).chunks = s.chunks := rfl
@[simp] theorem State.setLayer_outf (c l : Nat) (y : Layer) : (s.setLayer c l y).outf = s.outf := rfl
@[simp] theorem State.setLayer_pair (c l : Nat) (y : Layer) : (s.setLayer c l y).pair = s.pair := rfl
/-! ### setProt -/
@[simp] theorem State.setProt_pending (c : Nat) (p : Prot) : (s.setProt c p).pending = s.pending := rfl
@[simp] theorem State.setProt_now (c : Nat) (p : Prot) : (s.setProt c p).now = s.now := rfl
@[simp] theorem State.setProt_free (c : Nat) (p : Prot) : (s.setProt c p).free = s.free := rfl
@[simp] theorem State.setProt_out (c : Nat) (p : Prot) : (s.setProt c p).out = s.out := rfl
@[simp] theorem State.setProt_limits (c : Nat) (p : Prot) : (s.setProt c p).limits = s.limits := rfl
@[simp] theorem State.setProt_regs (c : Nat) (p : Prot) : (s.setProt c p).regs = s.regs := rfl
@[simp] theorem State.setProt_eff (c : Nat) (p : Prot) : (s.setProt c p).eff = s.eff := rfl
@[simp] theorem State.setProt_latch (c : Nat) (p : Prot) : (s.setProt c p).latch = s.latch := rfl
@[simp] theorem State.setProt_time (c : Nat) (p : Prot) : (s.setProt c p).time = s.time := rfl
@[simp] theorem State.setProt_doms (c : Nat) (p : Prot) : (s.setProt c p).doms = s.doms := rfl
@[simp] theorem State.setProt_img (c : Nat) (p : Prot) : (s.setProt c p).img = s.img := rfl
@[simp] theorem State.setProt_st (c : Nat) (p : Prot) : (s.setProt c p).st = s.st := rfl
@[simp] theorem State.setProt_funcs (c : Nat) (p : Prot) : (s.setProt c p).funcs = s.funcs := rfl
@[simp] theorem State.setProt_waiting (c : Nat) (p : Prot) : (s.setProt c p).waiting = s.waiting := rfl
@[simp] theorem State.setProt_resets (c : Nat) (p : Prot) : (s.setProt c p).resets = s.resets := rfl
@[simp] theorem State.setProt_pcie (c : Nat) (p : Prot) : (s.setProt c p).pcie = s.pcie := rfl
@[simp] theorem State.setProt_devMaint (c : Nat) (p : Prot) : (s.setProt c p).devMaint = s.devMaint := rfl
@[simp] theorem State.setProt_devMaintCmd (c : Nat) (p : Prot) : (s.setProt c p).devMaintCmd = s.devMaintCmd := rfl
@[simp] theorem State.setProt_retired (c : Nat) (p : Prot) : (s.setProt c p).retired = s.retired := rfl
@[simp] theorem State.setProt_excluded (c : Nat) (p : Prot) : (s.setProt c p).excluded = s.excluded := rfl
@[simp] theorem State.setProt_courses (c : Nat) (p : Prot) : (s.setProt c p).courses = s.courses := rfl
@[simp] theorem State.setProt_stages (c : Nat) (p : Prot) : (s.setProt c p).stages = s.stages := rfl
@[simp] theorem State.setProt_bufs (c : Nat) (p : Prot) : (s.setProt c p).bufs = s.bufs := rfl
@[simp] theorem State.setProt_inl (c : Nat) (p : Prot) : (s.setProt c p).inl = s.inl := rfl
@[simp] theorem State.setProt_streams (c : Nat) (p : Prot) : (s.setProt c p).streams = s.streams := rfl
@[simp] theorem State.setProt_founts (c : Nat) (p : Prot) : (s.setProt c p).founts = s.founts := rfl
@[simp] theorem State.setProt_layers (c : Nat) (p : Prot) : (s.setProt c p).layers = s.layers := rfl
@[simp] theorem State.setProt_postLut (c : Nat) (p : Prot) : (s.setProt c p).postLut = s.postLut := rfl
@[simp] theorem State.setProt_hostIns (c : Nat) (p : Prot) : (s.setProt c p).hostIns = s.hostIns := rfl
@[simp] theorem State.setProt_heads (c : Nat) (p : Prot) : (s.setProt c p).heads = s.heads := rfl
@[simp] theorem State.setProt_mem (c : Nat) (p : Prot) : (s.setProt c p).mem = s.mem := rfl
@[simp] theorem State.setProt_bces (c : Nat) (p : Prot) : (s.setProt c p).bces = s.bces := rfl
@[simp] theorem State.setProt_checks (c : Nat) (p : Prot) : (s.setProt c p).checks = s.checks := rfl
@[simp] theorem State.setProt_placed (c : Nat) (p : Prot) : (s.setProt c p).placed = s.placed := rfl
@[simp] theorem State.setProt_degraded (c : Nat) (p : Prot) : (s.setProt c p).degraded = s.degraded := rfl
@[simp] theorem State.setProt_tarns (c : Nat) (p : Prot) : (s.setProt c p).tarns = s.tarns := rfl
@[simp] theorem State.setProt_spills (c : Nat) (p : Prot) : (s.setProt c p).spills = s.spills := rfl
@[simp] theorem State.setProt_rends (c : Nat) (p : Prot) : (s.setProt c p).rends = s.rends := rfl
@[simp] theorem State.setProt_keys (c : Nat) (p : Prot) : (s.setProt c p).keys = s.keys := rfl
@[simp] theorem State.setProt_ras (c : Nat) (p : Prot) : (s.setProt c p).ras = s.ras := rfl
@[simp] theorem State.setProt_selfRefresh (c : Nat) (p : Prot) : (s.setProt c p).selfRefresh = s.selfRefresh := rfl
@[simp] theorem State.setProt_chans (c : Nat) (p : Prot) : (s.setProt c p).chans = s.chans := rfl
@[simp] theorem State.setProt_fabric (c : Nat) (p : Prot) : (s.setProt c p).fabric = s.fabric := rfl
@[simp] theorem State.setProt_sluice (c : Nat) (p : Prot) : (s.setProt c p).sluice = s.sluice := rfl
@[simp] theorem State.setProt_sluiceOrder (c : Nat) (p : Prot) : (s.setProt c p).sluiceOrder = s.sluiceOrder := rfl
@[simp] theorem State.setProt_lanes (c : Nat) (p : Prot) : (s.setProt c p).lanes = s.lanes := rfl
@[simp] theorem State.setProt_boot (c : Nat) (p : Prot) : (s.setProt c p).boot = s.boot := rfl
@[simp] theorem State.setProt_rings (c : Nat) (p : Prot) : (s.setProt c p).rings = s.rings := rfl
@[simp] theorem State.setProt_chunks (c : Nat) (p : Prot) : (s.setProt c p).chunks = s.chunks := rfl
@[simp] theorem State.setProt_outf (c : Nat) (p : Prot) : (s.setProt c p).outf = s.outf := rfl
@[simp] theorem State.setProt_pair (c : Nat) (p : Prot) : (s.setProt c p).pair = s.pair := rfl
/-! ### updBuf -/
@[simp] theorem State.updBuf_pending (k : Nat) (f : Buffer → Buffer) : (s.updBuf k f).pending = s.pending := rfl
@[simp] theorem State.updBuf_now (k : Nat) (f : Buffer → Buffer) : (s.updBuf k f).now = s.now := rfl
@[simp] theorem State.updBuf_free (k : Nat) (f : Buffer → Buffer) : (s.updBuf k f).free = s.free := rfl
@[simp] theorem State.updBuf_out (k : Nat) (f : Buffer → Buffer) : (s.updBuf k f).out = s.out := rfl
@[simp] theorem State.updBuf_limits (k : Nat) (f : Buffer → Buffer) : (s.updBuf k f).limits = s.limits := rfl
@[simp] theorem State.updBuf_regs (k : Nat) (f : Buffer → Buffer) : (s.updBuf k f).regs = s.regs := rfl
@[simp] theorem State.updBuf_eff (k : Nat) (f : Buffer → Buffer) : (s.updBuf k f).eff = s.eff := rfl
@[simp] theorem State.updBuf_latch (k : Nat) (f : Buffer → Buffer) : (s.updBuf k f).latch = s.latch := rfl
@[simp] theorem State.updBuf_time (k : Nat) (f : Buffer → Buffer) : (s.updBuf k f).time = s.time := rfl
@[simp] theorem State.updBuf_doms (k : Nat) (f : Buffer → Buffer) : (s.updBuf k f).doms = s.doms := rfl
@[simp] theorem State.updBuf_img (k : Nat) (f : Buffer → Buffer) : (s.updBuf k f).img = s.img := rfl
@[simp] theorem State.updBuf_st (k : Nat) (f : Buffer → Buffer) : (s.updBuf k f).st = s.st := rfl
@[simp] theorem State.updBuf_funcs (k : Nat) (f : Buffer → Buffer) : (s.updBuf k f).funcs = s.funcs := rfl
@[simp] theorem State.updBuf_waiting (k : Nat) (f : Buffer → Buffer) : (s.updBuf k f).waiting = s.waiting := rfl
@[simp] theorem State.updBuf_resets (k : Nat) (f : Buffer → Buffer) : (s.updBuf k f).resets = s.resets := rfl
@[simp] theorem State.updBuf_pcie (k : Nat) (f : Buffer → Buffer) : (s.updBuf k f).pcie = s.pcie := rfl
@[simp] theorem State.updBuf_devMaint (k : Nat) (f : Buffer → Buffer) : (s.updBuf k f).devMaint = s.devMaint := rfl
@[simp] theorem State.updBuf_devMaintCmd (k : Nat) (f : Buffer → Buffer) : (s.updBuf k f).devMaintCmd = s.devMaintCmd := rfl
@[simp] theorem State.updBuf_retired (k : Nat) (f : Buffer → Buffer) : (s.updBuf k f).retired = s.retired := rfl
@[simp] theorem State.updBuf_excluded (k : Nat) (f : Buffer → Buffer) : (s.updBuf k f).excluded = s.excluded := rfl
@[simp] theorem State.updBuf_courses (k : Nat) (f : Buffer → Buffer) : (s.updBuf k f).courses = s.courses := rfl
@[simp] theorem State.updBuf_stages (k : Nat) (f : Buffer → Buffer) : (s.updBuf k f).stages = s.stages := rfl
@[simp] theorem State.updBuf_inl (k : Nat) (f : Buffer → Buffer) : (s.updBuf k f).inl = s.inl := rfl
@[simp] theorem State.updBuf_streams (k : Nat) (f : Buffer → Buffer) : (s.updBuf k f).streams = s.streams := rfl
@[simp] theorem State.updBuf_founts (k : Nat) (f : Buffer → Buffer) : (s.updBuf k f).founts = s.founts := rfl
@[simp] theorem State.updBuf_layers (k : Nat) (f : Buffer → Buffer) : (s.updBuf k f).layers = s.layers := rfl
@[simp] theorem State.updBuf_postLut (k : Nat) (f : Buffer → Buffer) : (s.updBuf k f).postLut = s.postLut := rfl
@[simp] theorem State.updBuf_prots (k : Nat) (f : Buffer → Buffer) : (s.updBuf k f).prots = s.prots := rfl
@[simp] theorem State.updBuf_hostIns (k : Nat) (f : Buffer → Buffer) : (s.updBuf k f).hostIns = s.hostIns := rfl
@[simp] theorem State.updBuf_heads (k : Nat) (f : Buffer → Buffer) : (s.updBuf k f).heads = s.heads := rfl
@[simp] theorem State.updBuf_mem (k : Nat) (f : Buffer → Buffer) : (s.updBuf k f).mem = s.mem := rfl
@[simp] theorem State.updBuf_bces (k : Nat) (f : Buffer → Buffer) : (s.updBuf k f).bces = s.bces := rfl
@[simp] theorem State.updBuf_checks (k : Nat) (f : Buffer → Buffer) : (s.updBuf k f).checks = s.checks := rfl
@[simp] theorem State.updBuf_placed (k : Nat) (f : Buffer → Buffer) : (s.updBuf k f).placed = s.placed := rfl
@[simp] theorem State.updBuf_degraded (k : Nat) (f : Buffer → Buffer) : (s.updBuf k f).degraded = s.degraded := rfl
@[simp] theorem State.updBuf_tarns (k : Nat) (f : Buffer → Buffer) : (s.updBuf k f).tarns = s.tarns := rfl
@[simp] theorem State.updBuf_spills (k : Nat) (f : Buffer → Buffer) : (s.updBuf k f).spills = s.spills := rfl
@[simp] theorem State.updBuf_rends (k : Nat) (f : Buffer → Buffer) : (s.updBuf k f).rends = s.rends := rfl
@[simp] theorem State.updBuf_keys (k : Nat) (f : Buffer → Buffer) : (s.updBuf k f).keys = s.keys := rfl
@[simp] theorem State.updBuf_ras (k : Nat) (f : Buffer → Buffer) : (s.updBuf k f).ras = s.ras := rfl
@[simp] theorem State.updBuf_selfRefresh (k : Nat) (f : Buffer → Buffer) : (s.updBuf k f).selfRefresh = s.selfRefresh := rfl
@[simp] theorem State.updBuf_chans (k : Nat) (f : Buffer → Buffer) : (s.updBuf k f).chans = s.chans := rfl
@[simp] theorem State.updBuf_fabric (k : Nat) (f : Buffer → Buffer) : (s.updBuf k f).fabric = s.fabric := rfl
@[simp] theorem State.updBuf_sluice (k : Nat) (f : Buffer → Buffer) : (s.updBuf k f).sluice = s.sluice := rfl
@[simp] theorem State.updBuf_sluiceOrder (k : Nat) (f : Buffer → Buffer) : (s.updBuf k f).sluiceOrder = s.sluiceOrder := rfl
@[simp] theorem State.updBuf_lanes (k : Nat) (f : Buffer → Buffer) : (s.updBuf k f).lanes = s.lanes := rfl
@[simp] theorem State.updBuf_boot (k : Nat) (f : Buffer → Buffer) : (s.updBuf k f).boot = s.boot := rfl
@[simp] theorem State.updBuf_rings (k : Nat) (f : Buffer → Buffer) : (s.updBuf k f).rings = s.rings := rfl
@[simp] theorem State.updBuf_chunks (k : Nat) (f : Buffer → Buffer) : (s.updBuf k f).chunks = s.chunks := rfl
@[simp] theorem State.updBuf_outf (k : Nat) (f : Buffer → Buffer) : (s.updBuf k f).outf = s.outf := rfl
@[simp] theorem State.updBuf_pair (k : Nat) (f : Buffer → Buffer) : (s.updBuf k f).pair = s.pair := rfl
/-! ### setStage -/
@[simp] theorem State.setStage_pending (x : Stage) (r : StageRun) : (s.setStage x r).pending = s.pending := rfl
@[simp] theorem State.setStage_now (x : Stage) (r : StageRun) : (s.setStage x r).now = s.now := rfl
@[simp] theorem State.setStage_free (x : Stage) (r : StageRun) : (s.setStage x r).free = s.free := rfl
@[simp] theorem State.setStage_out (x : Stage) (r : StageRun) : (s.setStage x r).out = s.out := rfl
@[simp] theorem State.setStage_limits (x : Stage) (r : StageRun) : (s.setStage x r).limits = s.limits := rfl
@[simp] theorem State.setStage_regs (x : Stage) (r : StageRun) : (s.setStage x r).regs = s.regs := rfl
@[simp] theorem State.setStage_eff (x : Stage) (r : StageRun) : (s.setStage x r).eff = s.eff := rfl
@[simp] theorem State.setStage_latch (x : Stage) (r : StageRun) : (s.setStage x r).latch = s.latch := rfl
@[simp] theorem State.setStage_time (x : Stage) (r : StageRun) : (s.setStage x r).time = s.time := rfl
@[simp] theorem State.setStage_doms (x : Stage) (r : StageRun) : (s.setStage x r).doms = s.doms := rfl
@[simp] theorem State.setStage_img (x : Stage) (r : StageRun) : (s.setStage x r).img = s.img := rfl
@[simp] theorem State.setStage_st (x : Stage) (r : StageRun) : (s.setStage x r).st = s.st := rfl
@[simp] theorem State.setStage_funcs (x : Stage) (r : StageRun) : (s.setStage x r).funcs = s.funcs := rfl
@[simp] theorem State.setStage_waiting (x : Stage) (r : StageRun) : (s.setStage x r).waiting = s.waiting := rfl
@[simp] theorem State.setStage_resets (x : Stage) (r : StageRun) : (s.setStage x r).resets = s.resets := rfl
@[simp] theorem State.setStage_pcie (x : Stage) (r : StageRun) : (s.setStage x r).pcie = s.pcie := rfl
@[simp] theorem State.setStage_devMaint (x : Stage) (r : StageRun) : (s.setStage x r).devMaint = s.devMaint := rfl
@[simp] theorem State.setStage_devMaintCmd (x : Stage) (r : StageRun) : (s.setStage x r).devMaintCmd = s.devMaintCmd := rfl
@[simp] theorem State.setStage_retired (x : Stage) (r : StageRun) : (s.setStage x r).retired = s.retired := rfl
@[simp] theorem State.setStage_excluded (x : Stage) (r : StageRun) : (s.setStage x r).excluded = s.excluded := rfl
@[simp] theorem State.setStage_courses (x : Stage) (r : StageRun) : (s.setStage x r).courses = s.courses := rfl
@[simp] theorem State.setStage_bufs (x : Stage) (r : StageRun) : (s.setStage x r).bufs = s.bufs := rfl
@[simp] theorem State.setStage_inl (x : Stage) (r : StageRun) : (s.setStage x r).inl = s.inl := rfl
@[simp] theorem State.setStage_streams (x : Stage) (r : StageRun) : (s.setStage x r).streams = s.streams := rfl
@[simp] theorem State.setStage_founts (x : Stage) (r : StageRun) : (s.setStage x r).founts = s.founts := rfl
@[simp] theorem State.setStage_layers (x : Stage) (r : StageRun) : (s.setStage x r).layers = s.layers := rfl
@[simp] theorem State.setStage_postLut (x : Stage) (r : StageRun) : (s.setStage x r).postLut = s.postLut := rfl
@[simp] theorem State.setStage_prots (x : Stage) (r : StageRun) : (s.setStage x r).prots = s.prots := rfl
@[simp] theorem State.setStage_hostIns (x : Stage) (r : StageRun) : (s.setStage x r).hostIns = s.hostIns := rfl
@[simp] theorem State.setStage_heads (x : Stage) (r : StageRun) : (s.setStage x r).heads = s.heads := rfl
@[simp] theorem State.setStage_mem (x : Stage) (r : StageRun) : (s.setStage x r).mem = s.mem := rfl
@[simp] theorem State.setStage_bces (x : Stage) (r : StageRun) : (s.setStage x r).bces = s.bces := rfl
@[simp] theorem State.setStage_checks (x : Stage) (r : StageRun) : (s.setStage x r).checks = s.checks := rfl
@[simp] theorem State.setStage_placed (x : Stage) (r : StageRun) : (s.setStage x r).placed = s.placed := rfl
@[simp] theorem State.setStage_degraded (x : Stage) (r : StageRun) : (s.setStage x r).degraded = s.degraded := rfl
@[simp] theorem State.setStage_tarns (x : Stage) (r : StageRun) : (s.setStage x r).tarns = s.tarns := rfl
@[simp] theorem State.setStage_spills (x : Stage) (r : StageRun) : (s.setStage x r).spills = s.spills := rfl
@[simp] theorem State.setStage_rends (x : Stage) (r : StageRun) : (s.setStage x r).rends = s.rends := rfl
@[simp] theorem State.setStage_keys (x : Stage) (r : StageRun) : (s.setStage x r).keys = s.keys := rfl
@[simp] theorem State.setStage_ras (x : Stage) (r : StageRun) : (s.setStage x r).ras = s.ras := rfl
@[simp] theorem State.setStage_selfRefresh (x : Stage) (r : StageRun) : (s.setStage x r).selfRefresh = s.selfRefresh := rfl
@[simp] theorem State.setStage_chans (x : Stage) (r : StageRun) : (s.setStage x r).chans = s.chans := rfl
@[simp] theorem State.setStage_fabric (x : Stage) (r : StageRun) : (s.setStage x r).fabric = s.fabric := rfl
@[simp] theorem State.setStage_sluice (x : Stage) (r : StageRun) : (s.setStage x r).sluice = s.sluice := rfl
@[simp] theorem State.setStage_sluiceOrder (x : Stage) (r : StageRun) : (s.setStage x r).sluiceOrder = s.sluiceOrder := rfl
@[simp] theorem State.setStage_lanes (x : Stage) (r : StageRun) : (s.setStage x r).lanes = s.lanes := rfl
@[simp] theorem State.setStage_boot (x : Stage) (r : StageRun) : (s.setStage x r).boot = s.boot := rfl
@[simp] theorem State.setStage_rings (x : Stage) (r : StageRun) : (s.setStage x r).rings = s.rings := rfl
@[simp] theorem State.setStage_chunks (x : Stage) (r : StageRun) : (s.setStage x r).chunks = s.chunks := rfl
@[simp] theorem State.setStage_outf (x : Stage) (r : StageRun) : (s.setStage x r).outf = s.outf := rfl
@[simp] theorem State.setStage_pair (x : Stage) (r : StageRun) : (s.setStage x r).pair = s.pair := rfl
/-! ### setHead -/
@[simp] theorem State.setHead_pending (c : Nat) (h : CourseHw) : (s.setHead c h).pending = s.pending := rfl
@[simp] theorem State.setHead_now (c : Nat) (h : CourseHw) : (s.setHead c h).now = s.now := rfl
@[simp] theorem State.setHead_free (c : Nat) (h : CourseHw) : (s.setHead c h).free = s.free := rfl
@[simp] theorem State.setHead_out (c : Nat) (h : CourseHw) : (s.setHead c h).out = s.out := rfl
@[simp] theorem State.setHead_limits (c : Nat) (h : CourseHw) : (s.setHead c h).limits = s.limits := rfl
@[simp] theorem State.setHead_regs (c : Nat) (h : CourseHw) : (s.setHead c h).regs = s.regs := rfl
@[simp] theorem State.setHead_eff (c : Nat) (h : CourseHw) : (s.setHead c h).eff = s.eff := rfl
@[simp] theorem State.setHead_latch (c : Nat) (h : CourseHw) : (s.setHead c h).latch = s.latch := rfl
@[simp] theorem State.setHead_time (c : Nat) (h : CourseHw) : (s.setHead c h).time = s.time := rfl
@[simp] theorem State.setHead_doms (c : Nat) (h : CourseHw) : (s.setHead c h).doms = s.doms := rfl
@[simp] theorem State.setHead_img (c : Nat) (h : CourseHw) : (s.setHead c h).img = s.img := rfl
@[simp] theorem State.setHead_st (c : Nat) (h : CourseHw) : (s.setHead c h).st = s.st := rfl
@[simp] theorem State.setHead_funcs (c : Nat) (h : CourseHw) : (s.setHead c h).funcs = s.funcs := rfl
@[simp] theorem State.setHead_waiting (c : Nat) (h : CourseHw) : (s.setHead c h).waiting = s.waiting := rfl
@[simp] theorem State.setHead_resets (c : Nat) (h : CourseHw) : (s.setHead c h).resets = s.resets := rfl
@[simp] theorem State.setHead_pcie (c : Nat) (h : CourseHw) : (s.setHead c h).pcie = s.pcie := rfl
@[simp] theorem State.setHead_devMaint (c : Nat) (h : CourseHw) : (s.setHead c h).devMaint = s.devMaint := rfl
@[simp] theorem State.setHead_devMaintCmd (c : Nat) (h : CourseHw) : (s.setHead c h).devMaintCmd = s.devMaintCmd := rfl
@[simp] theorem State.setHead_retired (c : Nat) (h : CourseHw) : (s.setHead c h).retired = s.retired := rfl
@[simp] theorem State.setHead_excluded (c : Nat) (h : CourseHw) : (s.setHead c h).excluded = s.excluded := rfl
@[simp] theorem State.setHead_courses (c : Nat) (h : CourseHw) : (s.setHead c h).courses = s.courses := rfl
@[simp] theorem State.setHead_stages (c : Nat) (h : CourseHw) : (s.setHead c h).stages = s.stages := rfl
@[simp] theorem State.setHead_bufs (c : Nat) (h : CourseHw) : (s.setHead c h).bufs = s.bufs := rfl
@[simp] theorem State.setHead_inl (c : Nat) (h : CourseHw) : (s.setHead c h).inl = s.inl := rfl
@[simp] theorem State.setHead_streams (c : Nat) (h : CourseHw) : (s.setHead c h).streams = s.streams := rfl
@[simp] theorem State.setHead_founts (c : Nat) (h : CourseHw) : (s.setHead c h).founts = s.founts := rfl
@[simp] theorem State.setHead_layers (c : Nat) (h : CourseHw) : (s.setHead c h).layers = s.layers := rfl
@[simp] theorem State.setHead_postLut (c : Nat) (h : CourseHw) : (s.setHead c h).postLut = s.postLut := rfl
@[simp] theorem State.setHead_prots (c : Nat) (h : CourseHw) : (s.setHead c h).prots = s.prots := rfl
@[simp] theorem State.setHead_hostIns (c : Nat) (h : CourseHw) : (s.setHead c h).hostIns = s.hostIns := rfl
@[simp] theorem State.setHead_mem (c : Nat) (h : CourseHw) : (s.setHead c h).mem = s.mem := rfl
@[simp] theorem State.setHead_bces (c : Nat) (h : CourseHw) : (s.setHead c h).bces = s.bces := rfl
@[simp] theorem State.setHead_checks (c : Nat) (h : CourseHw) : (s.setHead c h).checks = s.checks := rfl
@[simp] theorem State.setHead_placed (c : Nat) (h : CourseHw) : (s.setHead c h).placed = s.placed := rfl
@[simp] theorem State.setHead_degraded (c : Nat) (h : CourseHw) : (s.setHead c h).degraded = s.degraded := rfl
@[simp] theorem State.setHead_tarns (c : Nat) (h : CourseHw) : (s.setHead c h).tarns = s.tarns := rfl
@[simp] theorem State.setHead_spills (c : Nat) (h : CourseHw) : (s.setHead c h).spills = s.spills := rfl
@[simp] theorem State.setHead_rends (c : Nat) (h : CourseHw) : (s.setHead c h).rends = s.rends := rfl
@[simp] theorem State.setHead_keys (c : Nat) (h : CourseHw) : (s.setHead c h).keys = s.keys := rfl
@[simp] theorem State.setHead_ras (c : Nat) (h : CourseHw) : (s.setHead c h).ras = s.ras := rfl
@[simp] theorem State.setHead_selfRefresh (c : Nat) (h : CourseHw) : (s.setHead c h).selfRefresh = s.selfRefresh := rfl
@[simp] theorem State.setHead_chans (c : Nat) (h : CourseHw) : (s.setHead c h).chans = s.chans := rfl
@[simp] theorem State.setHead_fabric (c : Nat) (h : CourseHw) : (s.setHead c h).fabric = s.fabric := rfl
@[simp] theorem State.setHead_sluice (c : Nat) (h : CourseHw) : (s.setHead c h).sluice = s.sluice := rfl
@[simp] theorem State.setHead_sluiceOrder (c : Nat) (h : CourseHw) : (s.setHead c h).sluiceOrder = s.sluiceOrder := rfl
@[simp] theorem State.setHead_lanes (c : Nat) (h : CourseHw) : (s.setHead c h).lanes = s.lanes := rfl
@[simp] theorem State.setHead_boot (c : Nat) (h : CourseHw) : (s.setHead c h).boot = s.boot := rfl
@[simp] theorem State.setHead_rings (c : Nat) (h : CourseHw) : (s.setHead c h).rings = s.rings := rfl
@[simp] theorem State.setHead_chunks (c : Nat) (h : CourseHw) : (s.setHead c h).chunks = s.chunks := rfl
@[simp] theorem State.setHead_outf (c : Nat) (h : CourseHw) : (s.setHead c h).outf = s.outf := rfl
@[simp] theorem State.setHead_pair (c : Nat) (h : CourseHw) : (s.setHead c h).pair = s.pair := rfl
/-! ### setRend -/
@[simp] theorem State.setRend_pending (r : Nat) (x : Rend) : (s.setRend r x).pending = s.pending := rfl
@[simp] theorem State.setRend_now (r : Nat) (x : Rend) : (s.setRend r x).now = s.now := rfl
@[simp] theorem State.setRend_free (r : Nat) (x : Rend) : (s.setRend r x).free = s.free := rfl
@[simp] theorem State.setRend_out (r : Nat) (x : Rend) : (s.setRend r x).out = s.out := rfl
@[simp] theorem State.setRend_limits (r : Nat) (x : Rend) : (s.setRend r x).limits = s.limits := rfl
@[simp] theorem State.setRend_regs (r : Nat) (x : Rend) : (s.setRend r x).regs = s.regs := rfl
@[simp] theorem State.setRend_eff (r : Nat) (x : Rend) : (s.setRend r x).eff = s.eff := rfl
@[simp] theorem State.setRend_latch (r : Nat) (x : Rend) : (s.setRend r x).latch = s.latch := rfl
@[simp] theorem State.setRend_time (r : Nat) (x : Rend) : (s.setRend r x).time = s.time := rfl
@[simp] theorem State.setRend_doms (r : Nat) (x : Rend) : (s.setRend r x).doms = s.doms := rfl
@[simp] theorem State.setRend_img (r : Nat) (x : Rend) : (s.setRend r x).img = s.img := rfl
@[simp] theorem State.setRend_st (r : Nat) (x : Rend) : (s.setRend r x).st = s.st := rfl
@[simp] theorem State.setRend_funcs (r : Nat) (x : Rend) : (s.setRend r x).funcs = s.funcs := rfl
@[simp] theorem State.setRend_waiting (r : Nat) (x : Rend) : (s.setRend r x).waiting = s.waiting := rfl
@[simp] theorem State.setRend_resets (r : Nat) (x : Rend) : (s.setRend r x).resets = s.resets := rfl
@[simp] theorem State.setRend_pcie (r : Nat) (x : Rend) : (s.setRend r x).pcie = s.pcie := rfl
@[simp] theorem State.setRend_devMaint (r : Nat) (x : Rend) : (s.setRend r x).devMaint = s.devMaint := rfl
@[simp] theorem State.setRend_devMaintCmd (r : Nat) (x : Rend) : (s.setRend r x).devMaintCmd = s.devMaintCmd := rfl
@[simp] theorem State.setRend_retired (r : Nat) (x : Rend) : (s.setRend r x).retired = s.retired := rfl
@[simp] theorem State.setRend_excluded (r : Nat) (x : Rend) : (s.setRend r x).excluded = s.excluded := rfl
@[simp] theorem State.setRend_courses (r : Nat) (x : Rend) : (s.setRend r x).courses = s.courses := rfl
@[simp] theorem State.setRend_stages (r : Nat) (x : Rend) : (s.setRend r x).stages = s.stages := rfl
@[simp] theorem State.setRend_bufs (r : Nat) (x : Rend) : (s.setRend r x).bufs = s.bufs := rfl
@[simp] theorem State.setRend_inl (r : Nat) (x : Rend) : (s.setRend r x).inl = s.inl := rfl
@[simp] theorem State.setRend_streams (r : Nat) (x : Rend) : (s.setRend r x).streams = s.streams := rfl
@[simp] theorem State.setRend_founts (r : Nat) (x : Rend) : (s.setRend r x).founts = s.founts := rfl
@[simp] theorem State.setRend_layers (r : Nat) (x : Rend) : (s.setRend r x).layers = s.layers := rfl
@[simp] theorem State.setRend_postLut (r : Nat) (x : Rend) : (s.setRend r x).postLut = s.postLut := rfl
@[simp] theorem State.setRend_prots (r : Nat) (x : Rend) : (s.setRend r x).prots = s.prots := rfl
@[simp] theorem State.setRend_hostIns (r : Nat) (x : Rend) : (s.setRend r x).hostIns = s.hostIns := rfl
@[simp] theorem State.setRend_heads (r : Nat) (x : Rend) : (s.setRend r x).heads = s.heads := rfl
@[simp] theorem State.setRend_mem (r : Nat) (x : Rend) : (s.setRend r x).mem = s.mem := rfl
@[simp] theorem State.setRend_bces (r : Nat) (x : Rend) : (s.setRend r x).bces = s.bces := rfl
@[simp] theorem State.setRend_checks (r : Nat) (x : Rend) : (s.setRend r x).checks = s.checks := rfl
@[simp] theorem State.setRend_placed (r : Nat) (x : Rend) : (s.setRend r x).placed = s.placed := rfl
@[simp] theorem State.setRend_degraded (r : Nat) (x : Rend) : (s.setRend r x).degraded = s.degraded := rfl
@[simp] theorem State.setRend_tarns (r : Nat) (x : Rend) : (s.setRend r x).tarns = s.tarns := rfl
@[simp] theorem State.setRend_spills (r : Nat) (x : Rend) : (s.setRend r x).spills = s.spills := rfl
@[simp] theorem State.setRend_keys (r : Nat) (x : Rend) : (s.setRend r x).keys = s.keys := rfl
@[simp] theorem State.setRend_ras (r : Nat) (x : Rend) : (s.setRend r x).ras = s.ras := rfl
@[simp] theorem State.setRend_selfRefresh (r : Nat) (x : Rend) : (s.setRend r x).selfRefresh = s.selfRefresh := rfl
@[simp] theorem State.setRend_chans (r : Nat) (x : Rend) : (s.setRend r x).chans = s.chans := rfl
@[simp] theorem State.setRend_fabric (r : Nat) (x : Rend) : (s.setRend r x).fabric = s.fabric := rfl
@[simp] theorem State.setRend_sluice (r : Nat) (x : Rend) : (s.setRend r x).sluice = s.sluice := rfl
@[simp] theorem State.setRend_sluiceOrder (r : Nat) (x : Rend) : (s.setRend r x).sluiceOrder = s.sluiceOrder := rfl
@[simp] theorem State.setRend_lanes (r : Nat) (x : Rend) : (s.setRend r x).lanes = s.lanes := rfl
@[simp] theorem State.setRend_boot (r : Nat) (x : Rend) : (s.setRend r x).boot = s.boot := rfl
@[simp] theorem State.setRend_rings (r : Nat) (x : Rend) : (s.setRend r x).rings = s.rings := rfl
@[simp] theorem State.setRend_chunks (r : Nat) (x : Rend) : (s.setRend r x).chunks = s.chunks := rfl
@[simp] theorem State.setRend_outf (r : Nat) (x : Rend) : (s.setRend r x).outf = s.outf := rfl
@[simp] theorem State.setRend_pair (r : Nat) (x : Rend) : (s.setRend r x).pair = s.pair := rfl
/-! ### updTarn -/
@[simp] theorem State.updTarn_pending (n : Nat) (f : Tarn → Tarn) : (s.updTarn n f).pending = s.pending := rfl
@[simp] theorem State.updTarn_now (n : Nat) (f : Tarn → Tarn) : (s.updTarn n f).now = s.now := rfl
@[simp] theorem State.updTarn_free (n : Nat) (f : Tarn → Tarn) : (s.updTarn n f).free = s.free := rfl
@[simp] theorem State.updTarn_out (n : Nat) (f : Tarn → Tarn) : (s.updTarn n f).out = s.out := rfl
@[simp] theorem State.updTarn_limits (n : Nat) (f : Tarn → Tarn) : (s.updTarn n f).limits = s.limits := rfl
@[simp] theorem State.updTarn_regs (n : Nat) (f : Tarn → Tarn) : (s.updTarn n f).regs = s.regs := rfl
@[simp] theorem State.updTarn_eff (n : Nat) (f : Tarn → Tarn) : (s.updTarn n f).eff = s.eff := rfl
@[simp] theorem State.updTarn_latch (n : Nat) (f : Tarn → Tarn) : (s.updTarn n f).latch = s.latch := rfl
@[simp] theorem State.updTarn_time (n : Nat) (f : Tarn → Tarn) : (s.updTarn n f).time = s.time := rfl
@[simp] theorem State.updTarn_doms (n : Nat) (f : Tarn → Tarn) : (s.updTarn n f).doms = s.doms := rfl
@[simp] theorem State.updTarn_img (n : Nat) (f : Tarn → Tarn) : (s.updTarn n f).img = s.img := rfl
@[simp] theorem State.updTarn_st (n : Nat) (f : Tarn → Tarn) : (s.updTarn n f).st = s.st := rfl
@[simp] theorem State.updTarn_funcs (n : Nat) (f : Tarn → Tarn) : (s.updTarn n f).funcs = s.funcs := rfl
@[simp] theorem State.updTarn_waiting (n : Nat) (f : Tarn → Tarn) : (s.updTarn n f).waiting = s.waiting := rfl
@[simp] theorem State.updTarn_resets (n : Nat) (f : Tarn → Tarn) : (s.updTarn n f).resets = s.resets := rfl
@[simp] theorem State.updTarn_pcie (n : Nat) (f : Tarn → Tarn) : (s.updTarn n f).pcie = s.pcie := rfl
@[simp] theorem State.updTarn_devMaint (n : Nat) (f : Tarn → Tarn) : (s.updTarn n f).devMaint = s.devMaint := rfl
@[simp] theorem State.updTarn_devMaintCmd (n : Nat) (f : Tarn → Tarn) : (s.updTarn n f).devMaintCmd = s.devMaintCmd := rfl
@[simp] theorem State.updTarn_retired (n : Nat) (f : Tarn → Tarn) : (s.updTarn n f).retired = s.retired := rfl
@[simp] theorem State.updTarn_excluded (n : Nat) (f : Tarn → Tarn) : (s.updTarn n f).excluded = s.excluded := rfl
@[simp] theorem State.updTarn_courses (n : Nat) (f : Tarn → Tarn) : (s.updTarn n f).courses = s.courses := rfl
@[simp] theorem State.updTarn_stages (n : Nat) (f : Tarn → Tarn) : (s.updTarn n f).stages = s.stages := rfl
@[simp] theorem State.updTarn_bufs (n : Nat) (f : Tarn → Tarn) : (s.updTarn n f).bufs = s.bufs := rfl
@[simp] theorem State.updTarn_inl (n : Nat) (f : Tarn → Tarn) : (s.updTarn n f).inl = s.inl := rfl
@[simp] theorem State.updTarn_streams (n : Nat) (f : Tarn → Tarn) : (s.updTarn n f).streams = s.streams := rfl
@[simp] theorem State.updTarn_founts (n : Nat) (f : Tarn → Tarn) : (s.updTarn n f).founts = s.founts := rfl
@[simp] theorem State.updTarn_layers (n : Nat) (f : Tarn → Tarn) : (s.updTarn n f).layers = s.layers := rfl
@[simp] theorem State.updTarn_postLut (n : Nat) (f : Tarn → Tarn) : (s.updTarn n f).postLut = s.postLut := rfl
@[simp] theorem State.updTarn_prots (n : Nat) (f : Tarn → Tarn) : (s.updTarn n f).prots = s.prots := rfl
@[simp] theorem State.updTarn_hostIns (n : Nat) (f : Tarn → Tarn) : (s.updTarn n f).hostIns = s.hostIns := rfl
@[simp] theorem State.updTarn_heads (n : Nat) (f : Tarn → Tarn) : (s.updTarn n f).heads = s.heads := rfl
@[simp] theorem State.updTarn_mem (n : Nat) (f : Tarn → Tarn) : (s.updTarn n f).mem = s.mem := rfl
@[simp] theorem State.updTarn_bces (n : Nat) (f : Tarn → Tarn) : (s.updTarn n f).bces = s.bces := rfl
@[simp] theorem State.updTarn_checks (n : Nat) (f : Tarn → Tarn) : (s.updTarn n f).checks = s.checks := rfl
@[simp] theorem State.updTarn_placed (n : Nat) (f : Tarn → Tarn) : (s.updTarn n f).placed = s.placed := rfl
@[simp] theorem State.updTarn_degraded (n : Nat) (f : Tarn → Tarn) : (s.updTarn n f).degraded = s.degraded := rfl
@[simp] theorem State.updTarn_spills (n : Nat) (f : Tarn → Tarn) : (s.updTarn n f).spills = s.spills := rfl
@[simp] theorem State.updTarn_rends (n : Nat) (f : Tarn → Tarn) : (s.updTarn n f).rends = s.rends := rfl
@[simp] theorem State.updTarn_keys (n : Nat) (f : Tarn → Tarn) : (s.updTarn n f).keys = s.keys := rfl
@[simp] theorem State.updTarn_ras (n : Nat) (f : Tarn → Tarn) : (s.updTarn n f).ras = s.ras := rfl
@[simp] theorem State.updTarn_selfRefresh (n : Nat) (f : Tarn → Tarn) : (s.updTarn n f).selfRefresh = s.selfRefresh := rfl
@[simp] theorem State.updTarn_chans (n : Nat) (f : Tarn → Tarn) : (s.updTarn n f).chans = s.chans := rfl
@[simp] theorem State.updTarn_fabric (n : Nat) (f : Tarn → Tarn) : (s.updTarn n f).fabric = s.fabric := rfl
@[simp] theorem State.updTarn_sluice (n : Nat) (f : Tarn → Tarn) : (s.updTarn n f).sluice = s.sluice := rfl
@[simp] theorem State.updTarn_sluiceOrder (n : Nat) (f : Tarn → Tarn) : (s.updTarn n f).sluiceOrder = s.sluiceOrder := rfl
@[simp] theorem State.updTarn_lanes (n : Nat) (f : Tarn → Tarn) : (s.updTarn n f).lanes = s.lanes := rfl
@[simp] theorem State.updTarn_boot (n : Nat) (f : Tarn → Tarn) : (s.updTarn n f).boot = s.boot := rfl
@[simp] theorem State.updTarn_rings (n : Nat) (f : Tarn → Tarn) : (s.updTarn n f).rings = s.rings := rfl
@[simp] theorem State.updTarn_chunks (n : Nat) (f : Tarn → Tarn) : (s.updTarn n f).chunks = s.chunks := rfl
@[simp] theorem State.updTarn_outf (n : Nat) (f : Tarn → Tarn) : (s.updTarn n f).outf = s.outf := rfl
@[simp] theorem State.updTarn_pair (n : Nat) (f : Tarn → Tarn) : (s.updTarn n f).pair = s.pair := rfl
/-! ### setRing -/
@[simp] theorem State.setRing_pending (r : Nat) (x : Ring) : (s.setRing r x).pending = s.pending := rfl
@[simp] theorem State.setRing_now (r : Nat) (x : Ring) : (s.setRing r x).now = s.now := rfl
@[simp] theorem State.setRing_free (r : Nat) (x : Ring) : (s.setRing r x).free = s.free := rfl
@[simp] theorem State.setRing_out (r : Nat) (x : Ring) : (s.setRing r x).out = s.out := rfl
@[simp] theorem State.setRing_limits (r : Nat) (x : Ring) : (s.setRing r x).limits = s.limits := rfl
@[simp] theorem State.setRing_regs (r : Nat) (x : Ring) : (s.setRing r x).regs = s.regs := rfl
@[simp] theorem State.setRing_eff (r : Nat) (x : Ring) : (s.setRing r x).eff = s.eff := rfl
@[simp] theorem State.setRing_latch (r : Nat) (x : Ring) : (s.setRing r x).latch = s.latch := rfl
@[simp] theorem State.setRing_time (r : Nat) (x : Ring) : (s.setRing r x).time = s.time := rfl
@[simp] theorem State.setRing_doms (r : Nat) (x : Ring) : (s.setRing r x).doms = s.doms := rfl
@[simp] theorem State.setRing_img (r : Nat) (x : Ring) : (s.setRing r x).img = s.img := rfl
@[simp] theorem State.setRing_st (r : Nat) (x : Ring) : (s.setRing r x).st = s.st := rfl
@[simp] theorem State.setRing_funcs (r : Nat) (x : Ring) : (s.setRing r x).funcs = s.funcs := rfl
@[simp] theorem State.setRing_waiting (r : Nat) (x : Ring) : (s.setRing r x).waiting = s.waiting := rfl
@[simp] theorem State.setRing_resets (r : Nat) (x : Ring) : (s.setRing r x).resets = s.resets := rfl
@[simp] theorem State.setRing_pcie (r : Nat) (x : Ring) : (s.setRing r x).pcie = s.pcie := rfl
@[simp] theorem State.setRing_devMaint (r : Nat) (x : Ring) : (s.setRing r x).devMaint = s.devMaint := rfl
@[simp] theorem State.setRing_devMaintCmd (r : Nat) (x : Ring) : (s.setRing r x).devMaintCmd = s.devMaintCmd := rfl
@[simp] theorem State.setRing_retired (r : Nat) (x : Ring) : (s.setRing r x).retired = s.retired := rfl
@[simp] theorem State.setRing_excluded (r : Nat) (x : Ring) : (s.setRing r x).excluded = s.excluded := rfl
@[simp] theorem State.setRing_courses (r : Nat) (x : Ring) : (s.setRing r x).courses = s.courses := rfl
@[simp] theorem State.setRing_stages (r : Nat) (x : Ring) : (s.setRing r x).stages = s.stages := rfl
@[simp] theorem State.setRing_bufs (r : Nat) (x : Ring) : (s.setRing r x).bufs = s.bufs := rfl
@[simp] theorem State.setRing_inl (r : Nat) (x : Ring) : (s.setRing r x).inl = s.inl := rfl
@[simp] theorem State.setRing_streams (r : Nat) (x : Ring) : (s.setRing r x).streams = s.streams := rfl
@[simp] theorem State.setRing_founts (r : Nat) (x : Ring) : (s.setRing r x).founts = s.founts := rfl
@[simp] theorem State.setRing_layers (r : Nat) (x : Ring) : (s.setRing r x).layers = s.layers := rfl
@[simp] theorem State.setRing_postLut (r : Nat) (x : Ring) : (s.setRing r x).postLut = s.postLut := rfl
@[simp] theorem State.setRing_prots (r : Nat) (x : Ring) : (s.setRing r x).prots = s.prots := rfl
@[simp] theorem State.setRing_hostIns (r : Nat) (x : Ring) : (s.setRing r x).hostIns = s.hostIns := rfl
@[simp] theorem State.setRing_heads (r : Nat) (x : Ring) : (s.setRing r x).heads = s.heads := rfl
@[simp] theorem State.setRing_mem (r : Nat) (x : Ring) : (s.setRing r x).mem = s.mem := rfl
@[simp] theorem State.setRing_bces (r : Nat) (x : Ring) : (s.setRing r x).bces = s.bces := rfl
@[simp] theorem State.setRing_checks (r : Nat) (x : Ring) : (s.setRing r x).checks = s.checks := rfl
@[simp] theorem State.setRing_placed (r : Nat) (x : Ring) : (s.setRing r x).placed = s.placed := rfl
@[simp] theorem State.setRing_degraded (r : Nat) (x : Ring) : (s.setRing r x).degraded = s.degraded := rfl
@[simp] theorem State.setRing_tarns (r : Nat) (x : Ring) : (s.setRing r x).tarns = s.tarns := rfl
@[simp] theorem State.setRing_spills (r : Nat) (x : Ring) : (s.setRing r x).spills = s.spills := rfl
@[simp] theorem State.setRing_rends (r : Nat) (x : Ring) : (s.setRing r x).rends = s.rends := rfl
@[simp] theorem State.setRing_keys (r : Nat) (x : Ring) : (s.setRing r x).keys = s.keys := rfl
@[simp] theorem State.setRing_ras (r : Nat) (x : Ring) : (s.setRing r x).ras = s.ras := rfl
@[simp] theorem State.setRing_selfRefresh (r : Nat) (x : Ring) : (s.setRing r x).selfRefresh = s.selfRefresh := rfl
@[simp] theorem State.setRing_chans (r : Nat) (x : Ring) : (s.setRing r x).chans = s.chans := rfl
@[simp] theorem State.setRing_fabric (r : Nat) (x : Ring) : (s.setRing r x).fabric = s.fabric := rfl
@[simp] theorem State.setRing_sluice (r : Nat) (x : Ring) : (s.setRing r x).sluice = s.sluice := rfl
@[simp] theorem State.setRing_sluiceOrder (r : Nat) (x : Ring) : (s.setRing r x).sluiceOrder = s.sluiceOrder := rfl
@[simp] theorem State.setRing_lanes (r : Nat) (x : Ring) : (s.setRing r x).lanes = s.lanes := rfl
@[simp] theorem State.setRing_boot (r : Nat) (x : Ring) : (s.setRing r x).boot = s.boot := rfl
@[simp] theorem State.setRing_chunks (r : Nat) (x : Ring) : (s.setRing r x).chunks = s.chunks := rfl
@[simp] theorem State.setRing_outf (r : Nat) (x : Ring) : (s.setRing r x).outf = s.outf := rfl
@[simp] theorem State.setRing_pair (r : Nat) (x : Ring) : (s.setRing r x).pair = s.pair := rfl
/-! ### setChunk -/
@[simp] theorem State.setChunk_pending (r : Nat) (x : HostRing) : (s.setChunk r x).pending = s.pending := rfl
@[simp] theorem State.setChunk_now (r : Nat) (x : HostRing) : (s.setChunk r x).now = s.now := rfl
@[simp] theorem State.setChunk_free (r : Nat) (x : HostRing) : (s.setChunk r x).free = s.free := rfl
@[simp] theorem State.setChunk_out (r : Nat) (x : HostRing) : (s.setChunk r x).out = s.out := rfl
@[simp] theorem State.setChunk_limits (r : Nat) (x : HostRing) : (s.setChunk r x).limits = s.limits := rfl
@[simp] theorem State.setChunk_regs (r : Nat) (x : HostRing) : (s.setChunk r x).regs = s.regs := rfl
@[simp] theorem State.setChunk_eff (r : Nat) (x : HostRing) : (s.setChunk r x).eff = s.eff := rfl
@[simp] theorem State.setChunk_latch (r : Nat) (x : HostRing) : (s.setChunk r x).latch = s.latch := rfl
@[simp] theorem State.setChunk_time (r : Nat) (x : HostRing) : (s.setChunk r x).time = s.time := rfl
@[simp] theorem State.setChunk_doms (r : Nat) (x : HostRing) : (s.setChunk r x).doms = s.doms := rfl
@[simp] theorem State.setChunk_img (r : Nat) (x : HostRing) : (s.setChunk r x).img = s.img := rfl
@[simp] theorem State.setChunk_st (r : Nat) (x : HostRing) : (s.setChunk r x).st = s.st := rfl
@[simp] theorem State.setChunk_funcs (r : Nat) (x : HostRing) : (s.setChunk r x).funcs = s.funcs := rfl
@[simp] theorem State.setChunk_waiting (r : Nat) (x : HostRing) : (s.setChunk r x).waiting = s.waiting := rfl
@[simp] theorem State.setChunk_resets (r : Nat) (x : HostRing) : (s.setChunk r x).resets = s.resets := rfl
@[simp] theorem State.setChunk_pcie (r : Nat) (x : HostRing) : (s.setChunk r x).pcie = s.pcie := rfl
@[simp] theorem State.setChunk_devMaint (r : Nat) (x : HostRing) : (s.setChunk r x).devMaint = s.devMaint := rfl
@[simp] theorem State.setChunk_devMaintCmd (r : Nat) (x : HostRing) : (s.setChunk r x).devMaintCmd = s.devMaintCmd := rfl
@[simp] theorem State.setChunk_retired (r : Nat) (x : HostRing) : (s.setChunk r x).retired = s.retired := rfl
@[simp] theorem State.setChunk_excluded (r : Nat) (x : HostRing) : (s.setChunk r x).excluded = s.excluded := rfl
@[simp] theorem State.setChunk_courses (r : Nat) (x : HostRing) : (s.setChunk r x).courses = s.courses := rfl
@[simp] theorem State.setChunk_stages (r : Nat) (x : HostRing) : (s.setChunk r x).stages = s.stages := rfl
@[simp] theorem State.setChunk_bufs (r : Nat) (x : HostRing) : (s.setChunk r x).bufs = s.bufs := rfl
@[simp] theorem State.setChunk_inl (r : Nat) (x : HostRing) : (s.setChunk r x).inl = s.inl := rfl
@[simp] theorem State.setChunk_streams (r : Nat) (x : HostRing) : (s.setChunk r x).streams = s.streams := rfl
@[simp] theorem State.setChunk_founts (r : Nat) (x : HostRing) : (s.setChunk r x).founts = s.founts := rfl
@[simp] theorem State.setChunk_layers (r : Nat) (x : HostRing) : (s.setChunk r x).layers = s.layers := rfl
@[simp] theorem State.setChunk_postLut (r : Nat) (x : HostRing) : (s.setChunk r x).postLut = s.postLut := rfl
@[simp] theorem State.setChunk_prots (r : Nat) (x : HostRing) : (s.setChunk r x).prots = s.prots := rfl
@[simp] theorem State.setChunk_hostIns (r : Nat) (x : HostRing) : (s.setChunk r x).hostIns = s.hostIns := rfl
@[simp] theorem State.setChunk_heads (r : Nat) (x : HostRing) : (s.setChunk r x).heads = s.heads := rfl
@[simp] theorem State.setChunk_mem (r : Nat) (x : HostRing) : (s.setChunk r x).mem = s.mem := rfl
@[simp] theorem State.setChunk_bces (r : Nat) (x : HostRing) : (s.setChunk r x).bces = s.bces := rfl
@[simp] theorem State.setChunk_checks (r : Nat) (x : HostRing) : (s.setChunk r x).checks = s.checks := rfl
@[simp] theorem State.setChunk_placed (r : Nat) (x : HostRing) : (s.setChunk r x).placed = s.placed := rfl
@[simp] theorem State.setChunk_degraded (r : Nat) (x : HostRing) : (s.setChunk r x).degraded = s.degraded := rfl
@[simp] theorem State.setChunk_tarns (r : Nat) (x : HostRing) : (s.setChunk r x).tarns = s.tarns := rfl
@[simp] theorem State.setChunk_spills (r : Nat) (x : HostRing) : (s.setChunk r x).spills = s.spills := rfl
@[simp] theorem State.setChunk_rends (r : Nat) (x : HostRing) : (s.setChunk r x).rends = s.rends := rfl
@[simp] theorem State.setChunk_keys (r : Nat) (x : HostRing) : (s.setChunk r x).keys = s.keys := rfl
@[simp] theorem State.setChunk_ras (r : Nat) (x : HostRing) : (s.setChunk r x).ras = s.ras := rfl
@[simp] theorem State.setChunk_selfRefresh (r : Nat) (x : HostRing) : (s.setChunk r x).selfRefresh = s.selfRefresh := rfl
@[simp] theorem State.setChunk_chans (r : Nat) (x : HostRing) : (s.setChunk r x).chans = s.chans := rfl
@[simp] theorem State.setChunk_fabric (r : Nat) (x : HostRing) : (s.setChunk r x).fabric = s.fabric := rfl
@[simp] theorem State.setChunk_sluice (r : Nat) (x : HostRing) : (s.setChunk r x).sluice = s.sluice := rfl
@[simp] theorem State.setChunk_sluiceOrder (r : Nat) (x : HostRing) : (s.setChunk r x).sluiceOrder = s.sluiceOrder := rfl
@[simp] theorem State.setChunk_lanes (r : Nat) (x : HostRing) : (s.setChunk r x).lanes = s.lanes := rfl
@[simp] theorem State.setChunk_boot (r : Nat) (x : HostRing) : (s.setChunk r x).boot = s.boot := rfl
@[simp] theorem State.setChunk_rings (r : Nat) (x : HostRing) : (s.setChunk r x).rings = s.rings := rfl
@[simp] theorem State.setChunk_outf (r : Nat) (x : HostRing) : (s.setChunk r x).outf = s.outf := rfl
@[simp] theorem State.setChunk_pair (r : Nat) (x : HostRing) : (s.setChunk r x).pair = s.pair := rfl
/-! ### updOut -/
@[simp] theorem State.updOut_pending (f : Outflow → Outflow) : (s.updOut f).pending = s.pending := rfl
@[simp] theorem State.updOut_now (f : Outflow → Outflow) : (s.updOut f).now = s.now := rfl
@[simp] theorem State.updOut_free (f : Outflow → Outflow) : (s.updOut f).free = s.free := rfl
@[simp] theorem State.updOut_out (f : Outflow → Outflow) : (s.updOut f).out = s.out := rfl
@[simp] theorem State.updOut_limits (f : Outflow → Outflow) : (s.updOut f).limits = s.limits := rfl
@[simp] theorem State.updOut_regs (f : Outflow → Outflow) : (s.updOut f).regs = s.regs := rfl
@[simp] theorem State.updOut_eff (f : Outflow → Outflow) : (s.updOut f).eff = s.eff := rfl
@[simp] theorem State.updOut_latch (f : Outflow → Outflow) : (s.updOut f).latch = s.latch := rfl
@[simp] theorem State.updOut_time (f : Outflow → Outflow) : (s.updOut f).time = s.time := rfl
@[simp] theorem State.updOut_doms (f : Outflow → Outflow) : (s.updOut f).doms = s.doms := rfl
@[simp] theorem State.updOut_img (f : Outflow → Outflow) : (s.updOut f).img = s.img := rfl
@[simp] theorem State.updOut_st (f : Outflow → Outflow) : (s.updOut f).st = s.st := rfl
@[simp] theorem State.updOut_funcs (f : Outflow → Outflow) : (s.updOut f).funcs = s.funcs := rfl
@[simp] theorem State.updOut_waiting (f : Outflow → Outflow) : (s.updOut f).waiting = s.waiting := rfl
@[simp] theorem State.updOut_resets (f : Outflow → Outflow) : (s.updOut f).resets = s.resets := rfl
@[simp] theorem State.updOut_pcie (f : Outflow → Outflow) : (s.updOut f).pcie = s.pcie := rfl
@[simp] theorem State.updOut_devMaint (f : Outflow → Outflow) : (s.updOut f).devMaint = s.devMaint := rfl
@[simp] theorem State.updOut_devMaintCmd (f : Outflow → Outflow) : (s.updOut f).devMaintCmd = s.devMaintCmd := rfl
@[simp] theorem State.updOut_retired (f : Outflow → Outflow) : (s.updOut f).retired = s.retired := rfl
@[simp] theorem State.updOut_excluded (f : Outflow → Outflow) : (s.updOut f).excluded = s.excluded := rfl
@[simp] theorem State.updOut_courses (f : Outflow → Outflow) : (s.updOut f).courses = s.courses := rfl
@[simp] theorem State.updOut_stages (f : Outflow → Outflow) : (s.updOut f).stages = s.stages := rfl
@[simp] theorem State.updOut_bufs (f : Outflow → Outflow) : (s.updOut f).bufs = s.bufs := rfl
@[simp] theorem State.updOut_inl (f : Outflow → Outflow) : (s.updOut f).inl = s.inl := rfl
@[simp] theorem State.updOut_streams (f : Outflow → Outflow) : (s.updOut f).streams = s.streams := rfl
@[simp] theorem State.updOut_founts (f : Outflow → Outflow) : (s.updOut f).founts = s.founts := rfl
@[simp] theorem State.updOut_layers (f : Outflow → Outflow) : (s.updOut f).layers = s.layers := rfl
@[simp] theorem State.updOut_postLut (f : Outflow → Outflow) : (s.updOut f).postLut = s.postLut := rfl
@[simp] theorem State.updOut_prots (f : Outflow → Outflow) : (s.updOut f).prots = s.prots := rfl
@[simp] theorem State.updOut_hostIns (f : Outflow → Outflow) : (s.updOut f).hostIns = s.hostIns := rfl
@[simp] theorem State.updOut_heads (f : Outflow → Outflow) : (s.updOut f).heads = s.heads := rfl
@[simp] theorem State.updOut_mem (f : Outflow → Outflow) : (s.updOut f).mem = s.mem := rfl
@[simp] theorem State.updOut_bces (f : Outflow → Outflow) : (s.updOut f).bces = s.bces := rfl
@[simp] theorem State.updOut_checks (f : Outflow → Outflow) : (s.updOut f).checks = s.checks := rfl
@[simp] theorem State.updOut_placed (f : Outflow → Outflow) : (s.updOut f).placed = s.placed := rfl
@[simp] theorem State.updOut_degraded (f : Outflow → Outflow) : (s.updOut f).degraded = s.degraded := rfl
@[simp] theorem State.updOut_tarns (f : Outflow → Outflow) : (s.updOut f).tarns = s.tarns := rfl
@[simp] theorem State.updOut_spills (f : Outflow → Outflow) : (s.updOut f).spills = s.spills := rfl
@[simp] theorem State.updOut_rends (f : Outflow → Outflow) : (s.updOut f).rends = s.rends := rfl
@[simp] theorem State.updOut_keys (f : Outflow → Outflow) : (s.updOut f).keys = s.keys := rfl
@[simp] theorem State.updOut_ras (f : Outflow → Outflow) : (s.updOut f).ras = s.ras := rfl
@[simp] theorem State.updOut_selfRefresh (f : Outflow → Outflow) : (s.updOut f).selfRefresh = s.selfRefresh := rfl
@[simp] theorem State.updOut_chans (f : Outflow → Outflow) : (s.updOut f).chans = s.chans := rfl
@[simp] theorem State.updOut_fabric (f : Outflow → Outflow) : (s.updOut f).fabric = s.fabric := rfl
@[simp] theorem State.updOut_sluice (f : Outflow → Outflow) : (s.updOut f).sluice = s.sluice := rfl
@[simp] theorem State.updOut_sluiceOrder (f : Outflow → Outflow) : (s.updOut f).sluiceOrder = s.sluiceOrder := rfl
@[simp] theorem State.updOut_lanes (f : Outflow → Outflow) : (s.updOut f).lanes = s.lanes := rfl
@[simp] theorem State.updOut_boot (f : Outflow → Outflow) : (s.updOut f).boot = s.boot := rfl
@[simp] theorem State.updOut_rings (f : Outflow → Outflow) : (s.updOut f).rings = s.rings := rfl
@[simp] theorem State.updOut_chunks (f : Outflow → Outflow) : (s.updOut f).chunks = s.chunks := rfl
@[simp] theorem State.updOut_pair (f : Outflow → Outflow) : (s.updOut f).pair = s.pair := rfl
/-! ### setOport -/
@[simp] theorem State.setOport_pending (n : Nat) (x : OutPort) : (s.setOport n x).pending = s.pending := rfl
@[simp] theorem State.setOport_now (n : Nat) (x : OutPort) : (s.setOport n x).now = s.now := rfl
@[simp] theorem State.setOport_free (n : Nat) (x : OutPort) : (s.setOport n x).free = s.free := rfl
@[simp] theorem State.setOport_out (n : Nat) (x : OutPort) : (s.setOport n x).out = s.out := rfl
@[simp] theorem State.setOport_limits (n : Nat) (x : OutPort) : (s.setOport n x).limits = s.limits := rfl
@[simp] theorem State.setOport_regs (n : Nat) (x : OutPort) : (s.setOport n x).regs = s.regs := rfl
@[simp] theorem State.setOport_eff (n : Nat) (x : OutPort) : (s.setOport n x).eff = s.eff := rfl
@[simp] theorem State.setOport_latch (n : Nat) (x : OutPort) : (s.setOport n x).latch = s.latch := rfl
@[simp] theorem State.setOport_time (n : Nat) (x : OutPort) : (s.setOport n x).time = s.time := rfl
@[simp] theorem State.setOport_doms (n : Nat) (x : OutPort) : (s.setOport n x).doms = s.doms := rfl
@[simp] theorem State.setOport_img (n : Nat) (x : OutPort) : (s.setOport n x).img = s.img := rfl
@[simp] theorem State.setOport_st (n : Nat) (x : OutPort) : (s.setOport n x).st = s.st := rfl
@[simp] theorem State.setOport_funcs (n : Nat) (x : OutPort) : (s.setOport n x).funcs = s.funcs := rfl
@[simp] theorem State.setOport_waiting (n : Nat) (x : OutPort) : (s.setOport n x).waiting = s.waiting := rfl
@[simp] theorem State.setOport_resets (n : Nat) (x : OutPort) : (s.setOport n x).resets = s.resets := rfl
@[simp] theorem State.setOport_pcie (n : Nat) (x : OutPort) : (s.setOport n x).pcie = s.pcie := rfl
@[simp] theorem State.setOport_devMaint (n : Nat) (x : OutPort) : (s.setOport n x).devMaint = s.devMaint := rfl
@[simp] theorem State.setOport_devMaintCmd (n : Nat) (x : OutPort) : (s.setOport n x).devMaintCmd = s.devMaintCmd := rfl
@[simp] theorem State.setOport_retired (n : Nat) (x : OutPort) : (s.setOport n x).retired = s.retired := rfl
@[simp] theorem State.setOport_excluded (n : Nat) (x : OutPort) : (s.setOport n x).excluded = s.excluded := rfl
@[simp] theorem State.setOport_courses (n : Nat) (x : OutPort) : (s.setOport n x).courses = s.courses := rfl
@[simp] theorem State.setOport_stages (n : Nat) (x : OutPort) : (s.setOport n x).stages = s.stages := rfl
@[simp] theorem State.setOport_bufs (n : Nat) (x : OutPort) : (s.setOport n x).bufs = s.bufs := rfl
@[simp] theorem State.setOport_inl (n : Nat) (x : OutPort) : (s.setOport n x).inl = s.inl := rfl
@[simp] theorem State.setOport_streams (n : Nat) (x : OutPort) : (s.setOport n x).streams = s.streams := rfl
@[simp] theorem State.setOport_founts (n : Nat) (x : OutPort) : (s.setOport n x).founts = s.founts := rfl
@[simp] theorem State.setOport_layers (n : Nat) (x : OutPort) : (s.setOport n x).layers = s.layers := rfl
@[simp] theorem State.setOport_postLut (n : Nat) (x : OutPort) : (s.setOport n x).postLut = s.postLut := rfl
@[simp] theorem State.setOport_prots (n : Nat) (x : OutPort) : (s.setOport n x).prots = s.prots := rfl
@[simp] theorem State.setOport_hostIns (n : Nat) (x : OutPort) : (s.setOport n x).hostIns = s.hostIns := rfl
@[simp] theorem State.setOport_heads (n : Nat) (x : OutPort) : (s.setOport n x).heads = s.heads := rfl
@[simp] theorem State.setOport_mem (n : Nat) (x : OutPort) : (s.setOport n x).mem = s.mem := rfl
@[simp] theorem State.setOport_bces (n : Nat) (x : OutPort) : (s.setOport n x).bces = s.bces := rfl
@[simp] theorem State.setOport_checks (n : Nat) (x : OutPort) : (s.setOport n x).checks = s.checks := rfl
@[simp] theorem State.setOport_placed (n : Nat) (x : OutPort) : (s.setOport n x).placed = s.placed := rfl
@[simp] theorem State.setOport_degraded (n : Nat) (x : OutPort) : (s.setOport n x).degraded = s.degraded := rfl
@[simp] theorem State.setOport_tarns (n : Nat) (x : OutPort) : (s.setOport n x).tarns = s.tarns := rfl
@[simp] theorem State.setOport_spills (n : Nat) (x : OutPort) : (s.setOport n x).spills = s.spills := rfl
@[simp] theorem State.setOport_rends (n : Nat) (x : OutPort) : (s.setOport n x).rends = s.rends := rfl
@[simp] theorem State.setOport_keys (n : Nat) (x : OutPort) : (s.setOport n x).keys = s.keys := rfl
@[simp] theorem State.setOport_ras (n : Nat) (x : OutPort) : (s.setOport n x).ras = s.ras := rfl
@[simp] theorem State.setOport_selfRefresh (n : Nat) (x : OutPort) : (s.setOport n x).selfRefresh = s.selfRefresh := rfl
@[simp] theorem State.setOport_chans (n : Nat) (x : OutPort) : (s.setOport n x).chans = s.chans := rfl
@[simp] theorem State.setOport_fabric (n : Nat) (x : OutPort) : (s.setOport n x).fabric = s.fabric := rfl
@[simp] theorem State.setOport_sluice (n : Nat) (x : OutPort) : (s.setOport n x).sluice = s.sluice := rfl
@[simp] theorem State.setOport_sluiceOrder (n : Nat) (x : OutPort) : (s.setOport n x).sluiceOrder = s.sluiceOrder := rfl
@[simp] theorem State.setOport_lanes (n : Nat) (x : OutPort) : (s.setOport n x).lanes = s.lanes := rfl
@[simp] theorem State.setOport_boot (n : Nat) (x : OutPort) : (s.setOport n x).boot = s.boot := rfl
@[simp] theorem State.setOport_rings (n : Nat) (x : OutPort) : (s.setOport n x).rings = s.rings := rfl
@[simp] theorem State.setOport_chunks (n : Nat) (x : OutPort) : (s.setOport n x).chunks = s.chunks := rfl
@[simp] theorem State.setOport_pair (n : Nat) (x : OutPort) : (s.setOport n x).pair = s.pair := rfl
/-! ### setOsvc -/
@[simp] theorem State.setOsvc_pending (n : Nat) (x : Node) : (s.setOsvc n x).pending = s.pending := rfl
@[simp] theorem State.setOsvc_now (n : Nat) (x : Node) : (s.setOsvc n x).now = s.now := rfl
@[simp] theorem State.setOsvc_free (n : Nat) (x : Node) : (s.setOsvc n x).free = s.free := rfl
@[simp] theorem State.setOsvc_out (n : Nat) (x : Node) : (s.setOsvc n x).out = s.out := rfl
@[simp] theorem State.setOsvc_limits (n : Nat) (x : Node) : (s.setOsvc n x).limits = s.limits := rfl
@[simp] theorem State.setOsvc_regs (n : Nat) (x : Node) : (s.setOsvc n x).regs = s.regs := rfl
@[simp] theorem State.setOsvc_eff (n : Nat) (x : Node) : (s.setOsvc n x).eff = s.eff := rfl
@[simp] theorem State.setOsvc_latch (n : Nat) (x : Node) : (s.setOsvc n x).latch = s.latch := rfl
@[simp] theorem State.setOsvc_time (n : Nat) (x : Node) : (s.setOsvc n x).time = s.time := rfl
@[simp] theorem State.setOsvc_doms (n : Nat) (x : Node) : (s.setOsvc n x).doms = s.doms := rfl
@[simp] theorem State.setOsvc_img (n : Nat) (x : Node) : (s.setOsvc n x).img = s.img := rfl
@[simp] theorem State.setOsvc_st (n : Nat) (x : Node) : (s.setOsvc n x).st = s.st := rfl
@[simp] theorem State.setOsvc_funcs (n : Nat) (x : Node) : (s.setOsvc n x).funcs = s.funcs := rfl
@[simp] theorem State.setOsvc_waiting (n : Nat) (x : Node) : (s.setOsvc n x).waiting = s.waiting := rfl
@[simp] theorem State.setOsvc_resets (n : Nat) (x : Node) : (s.setOsvc n x).resets = s.resets := rfl
@[simp] theorem State.setOsvc_pcie (n : Nat) (x : Node) : (s.setOsvc n x).pcie = s.pcie := rfl
@[simp] theorem State.setOsvc_devMaint (n : Nat) (x : Node) : (s.setOsvc n x).devMaint = s.devMaint := rfl
@[simp] theorem State.setOsvc_devMaintCmd (n : Nat) (x : Node) : (s.setOsvc n x).devMaintCmd = s.devMaintCmd := rfl
@[simp] theorem State.setOsvc_retired (n : Nat) (x : Node) : (s.setOsvc n x).retired = s.retired := rfl
@[simp] theorem State.setOsvc_excluded (n : Nat) (x : Node) : (s.setOsvc n x).excluded = s.excluded := rfl
@[simp] theorem State.setOsvc_courses (n : Nat) (x : Node) : (s.setOsvc n x).courses = s.courses := rfl
@[simp] theorem State.setOsvc_stages (n : Nat) (x : Node) : (s.setOsvc n x).stages = s.stages := rfl
@[simp] theorem State.setOsvc_bufs (n : Nat) (x : Node) : (s.setOsvc n x).bufs = s.bufs := rfl
@[simp] theorem State.setOsvc_inl (n : Nat) (x : Node) : (s.setOsvc n x).inl = s.inl := rfl
@[simp] theorem State.setOsvc_streams (n : Nat) (x : Node) : (s.setOsvc n x).streams = s.streams := rfl
@[simp] theorem State.setOsvc_founts (n : Nat) (x : Node) : (s.setOsvc n x).founts = s.founts := rfl
@[simp] theorem State.setOsvc_layers (n : Nat) (x : Node) : (s.setOsvc n x).layers = s.layers := rfl
@[simp] theorem State.setOsvc_postLut (n : Nat) (x : Node) : (s.setOsvc n x).postLut = s.postLut := rfl
@[simp] theorem State.setOsvc_prots (n : Nat) (x : Node) : (s.setOsvc n x).prots = s.prots := rfl
@[simp] theorem State.setOsvc_hostIns (n : Nat) (x : Node) : (s.setOsvc n x).hostIns = s.hostIns := rfl
@[simp] theorem State.setOsvc_heads (n : Nat) (x : Node) : (s.setOsvc n x).heads = s.heads := rfl
@[simp] theorem State.setOsvc_mem (n : Nat) (x : Node) : (s.setOsvc n x).mem = s.mem := rfl
@[simp] theorem State.setOsvc_bces (n : Nat) (x : Node) : (s.setOsvc n x).bces = s.bces := rfl
@[simp] theorem State.setOsvc_checks (n : Nat) (x : Node) : (s.setOsvc n x).checks = s.checks := rfl
@[simp] theorem State.setOsvc_placed (n : Nat) (x : Node) : (s.setOsvc n x).placed = s.placed := rfl
@[simp] theorem State.setOsvc_degraded (n : Nat) (x : Node) : (s.setOsvc n x).degraded = s.degraded := rfl
@[simp] theorem State.setOsvc_tarns (n : Nat) (x : Node) : (s.setOsvc n x).tarns = s.tarns := rfl
@[simp] theorem State.setOsvc_spills (n : Nat) (x : Node) : (s.setOsvc n x).spills = s.spills := rfl
@[simp] theorem State.setOsvc_rends (n : Nat) (x : Node) : (s.setOsvc n x).rends = s.rends := rfl
@[simp] theorem State.setOsvc_keys (n : Nat) (x : Node) : (s.setOsvc n x).keys = s.keys := rfl
@[simp] theorem State.setOsvc_ras (n : Nat) (x : Node) : (s.setOsvc n x).ras = s.ras := rfl
@[simp] theorem State.setOsvc_selfRefresh (n : Nat) (x : Node) : (s.setOsvc n x).selfRefresh = s.selfRefresh := rfl
@[simp] theorem State.setOsvc_chans (n : Nat) (x : Node) : (s.setOsvc n x).chans = s.chans := rfl
@[simp] theorem State.setOsvc_fabric (n : Nat) (x : Node) : (s.setOsvc n x).fabric = s.fabric := rfl
@[simp] theorem State.setOsvc_sluice (n : Nat) (x : Node) : (s.setOsvc n x).sluice = s.sluice := rfl
@[simp] theorem State.setOsvc_sluiceOrder (n : Nat) (x : Node) : (s.setOsvc n x).sluiceOrder = s.sluiceOrder := rfl
@[simp] theorem State.setOsvc_lanes (n : Nat) (x : Node) : (s.setOsvc n x).lanes = s.lanes := rfl
@[simp] theorem State.setOsvc_boot (n : Nat) (x : Node) : (s.setOsvc n x).boot = s.boot := rfl
@[simp] theorem State.setOsvc_rings (n : Nat) (x : Node) : (s.setOsvc n x).rings = s.rings := rfl
@[simp] theorem State.setOsvc_chunks (n : Nat) (x : Node) : (s.setOsvc n x).chunks = s.chunks := rfl
@[simp] theorem State.setOsvc_pair (n : Nat) (x : Node) : (s.setOsvc n x).pair = s.pair := rfl
/-! ### setOsub -/
@[simp] theorem State.setOsub_pending (n : Nat) (x : OutSub) : (s.setOsub n x).pending = s.pending := rfl
@[simp] theorem State.setOsub_now (n : Nat) (x : OutSub) : (s.setOsub n x).now = s.now := rfl
@[simp] theorem State.setOsub_free (n : Nat) (x : OutSub) : (s.setOsub n x).free = s.free := rfl
@[simp] theorem State.setOsub_out (n : Nat) (x : OutSub) : (s.setOsub n x).out = s.out := rfl
@[simp] theorem State.setOsub_limits (n : Nat) (x : OutSub) : (s.setOsub n x).limits = s.limits := rfl
@[simp] theorem State.setOsub_regs (n : Nat) (x : OutSub) : (s.setOsub n x).regs = s.regs := rfl
@[simp] theorem State.setOsub_eff (n : Nat) (x : OutSub) : (s.setOsub n x).eff = s.eff := rfl
@[simp] theorem State.setOsub_latch (n : Nat) (x : OutSub) : (s.setOsub n x).latch = s.latch := rfl
@[simp] theorem State.setOsub_time (n : Nat) (x : OutSub) : (s.setOsub n x).time = s.time := rfl
@[simp] theorem State.setOsub_doms (n : Nat) (x : OutSub) : (s.setOsub n x).doms = s.doms := rfl
@[simp] theorem State.setOsub_img (n : Nat) (x : OutSub) : (s.setOsub n x).img = s.img := rfl
@[simp] theorem State.setOsub_st (n : Nat) (x : OutSub) : (s.setOsub n x).st = s.st := rfl
@[simp] theorem State.setOsub_funcs (n : Nat) (x : OutSub) : (s.setOsub n x).funcs = s.funcs := rfl
@[simp] theorem State.setOsub_waiting (n : Nat) (x : OutSub) : (s.setOsub n x).waiting = s.waiting := rfl
@[simp] theorem State.setOsub_resets (n : Nat) (x : OutSub) : (s.setOsub n x).resets = s.resets := rfl
@[simp] theorem State.setOsub_pcie (n : Nat) (x : OutSub) : (s.setOsub n x).pcie = s.pcie := rfl
@[simp] theorem State.setOsub_devMaint (n : Nat) (x : OutSub) : (s.setOsub n x).devMaint = s.devMaint := rfl
@[simp] theorem State.setOsub_devMaintCmd (n : Nat) (x : OutSub) : (s.setOsub n x).devMaintCmd = s.devMaintCmd := rfl
@[simp] theorem State.setOsub_retired (n : Nat) (x : OutSub) : (s.setOsub n x).retired = s.retired := rfl
@[simp] theorem State.setOsub_excluded (n : Nat) (x : OutSub) : (s.setOsub n x).excluded = s.excluded := rfl
@[simp] theorem State.setOsub_courses (n : Nat) (x : OutSub) : (s.setOsub n x).courses = s.courses := rfl
@[simp] theorem State.setOsub_stages (n : Nat) (x : OutSub) : (s.setOsub n x).stages = s.stages := rfl
@[simp] theorem State.setOsub_bufs (n : Nat) (x : OutSub) : (s.setOsub n x).bufs = s.bufs := rfl
@[simp] theorem State.setOsub_inl (n : Nat) (x : OutSub) : (s.setOsub n x).inl = s.inl := rfl
@[simp] theorem State.setOsub_streams (n : Nat) (x : OutSub) : (s.setOsub n x).streams = s.streams := rfl
@[simp] theorem State.setOsub_founts (n : Nat) (x : OutSub) : (s.setOsub n x).founts = s.founts := rfl
@[simp] theorem State.setOsub_layers (n : Nat) (x : OutSub) : (s.setOsub n x).layers = s.layers := rfl
@[simp] theorem State.setOsub_postLut (n : Nat) (x : OutSub) : (s.setOsub n x).postLut = s.postLut := rfl
@[simp] theorem State.setOsub_prots (n : Nat) (x : OutSub) : (s.setOsub n x).prots = s.prots := rfl
@[simp] theorem State.setOsub_hostIns (n : Nat) (x : OutSub) : (s.setOsub n x).hostIns = s.hostIns := rfl
@[simp] theorem State.setOsub_heads (n : Nat) (x : OutSub) : (s.setOsub n x).heads = s.heads := rfl
@[simp] theorem State.setOsub_mem (n : Nat) (x : OutSub) : (s.setOsub n x).mem = s.mem := rfl
@[simp] theorem State.setOsub_bces (n : Nat) (x : OutSub) : (s.setOsub n x).bces = s.bces := rfl
@[simp] theorem State.setOsub_checks (n : Nat) (x : OutSub) : (s.setOsub n x).checks = s.checks := rfl
@[simp] theorem State.setOsub_placed (n : Nat) (x : OutSub) : (s.setOsub n x).placed = s.placed := rfl
@[simp] theorem State.setOsub_degraded (n : Nat) (x : OutSub) : (s.setOsub n x).degraded = s.degraded := rfl
@[simp] theorem State.setOsub_tarns (n : Nat) (x : OutSub) : (s.setOsub n x).tarns = s.tarns := rfl
@[simp] theorem State.setOsub_spills (n : Nat) (x : OutSub) : (s.setOsub n x).spills = s.spills := rfl
@[simp] theorem State.setOsub_rends (n : Nat) (x : OutSub) : (s.setOsub n x).rends = s.rends := rfl
@[simp] theorem State.setOsub_keys (n : Nat) (x : OutSub) : (s.setOsub n x).keys = s.keys := rfl
@[simp] theorem State.setOsub_ras (n : Nat) (x : OutSub) : (s.setOsub n x).ras = s.ras := rfl
@[simp] theorem State.setOsub_selfRefresh (n : Nat) (x : OutSub) : (s.setOsub n x).selfRefresh = s.selfRefresh := rfl
@[simp] theorem State.setOsub_chans (n : Nat) (x : OutSub) : (s.setOsub n x).chans = s.chans := rfl
@[simp] theorem State.setOsub_fabric (n : Nat) (x : OutSub) : (s.setOsub n x).fabric = s.fabric := rfl
@[simp] theorem State.setOsub_sluice (n : Nat) (x : OutSub) : (s.setOsub n x).sluice = s.sluice := rfl
@[simp] theorem State.setOsub_sluiceOrder (n : Nat) (x : OutSub) : (s.setOsub n x).sluiceOrder = s.sluiceOrder := rfl
@[simp] theorem State.setOsub_lanes (n : Nat) (x : OutSub) : (s.setOsub n x).lanes = s.lanes := rfl
@[simp] theorem State.setOsub_boot (n : Nat) (x : OutSub) : (s.setOsub n x).boot = s.boot := rfl
@[simp] theorem State.setOsub_rings (n : Nat) (x : OutSub) : (s.setOsub n x).rings = s.rings := rfl
@[simp] theorem State.setOsub_chunks (n : Nat) (x : OutSub) : (s.setOsub n x).chunks = s.chunks := rfl
@[simp] theorem State.setOsub_pair (n : Nat) (x : OutSub) : (s.setOsub n x).pair = s.pair := rfl
/-! ### updPair -/
@[simp] theorem State.updPair_pending (f : Pair → Pair) : (s.updPair f).pending = s.pending := rfl
@[simp] theorem State.updPair_now (f : Pair → Pair) : (s.updPair f).now = s.now := rfl
@[simp] theorem State.updPair_free (f : Pair → Pair) : (s.updPair f).free = s.free := rfl
@[simp] theorem State.updPair_out (f : Pair → Pair) : (s.updPair f).out = s.out := rfl
@[simp] theorem State.updPair_limits (f : Pair → Pair) : (s.updPair f).limits = s.limits := rfl
@[simp] theorem State.updPair_regs (f : Pair → Pair) : (s.updPair f).regs = s.regs := rfl
@[simp] theorem State.updPair_eff (f : Pair → Pair) : (s.updPair f).eff = s.eff := rfl
@[simp] theorem State.updPair_latch (f : Pair → Pair) : (s.updPair f).latch = s.latch := rfl
@[simp] theorem State.updPair_time (f : Pair → Pair) : (s.updPair f).time = s.time := rfl
@[simp] theorem State.updPair_doms (f : Pair → Pair) : (s.updPair f).doms = s.doms := rfl
@[simp] theorem State.updPair_img (f : Pair → Pair) : (s.updPair f).img = s.img := rfl
@[simp] theorem State.updPair_st (f : Pair → Pair) : (s.updPair f).st = s.st := rfl
@[simp] theorem State.updPair_funcs (f : Pair → Pair) : (s.updPair f).funcs = s.funcs := rfl
@[simp] theorem State.updPair_waiting (f : Pair → Pair) : (s.updPair f).waiting = s.waiting := rfl
@[simp] theorem State.updPair_resets (f : Pair → Pair) : (s.updPair f).resets = s.resets := rfl
@[simp] theorem State.updPair_pcie (f : Pair → Pair) : (s.updPair f).pcie = s.pcie := rfl
@[simp] theorem State.updPair_devMaint (f : Pair → Pair) : (s.updPair f).devMaint = s.devMaint := rfl
@[simp] theorem State.updPair_devMaintCmd (f : Pair → Pair) : (s.updPair f).devMaintCmd = s.devMaintCmd := rfl
@[simp] theorem State.updPair_retired (f : Pair → Pair) : (s.updPair f).retired = s.retired := rfl
@[simp] theorem State.updPair_excluded (f : Pair → Pair) : (s.updPair f).excluded = s.excluded := rfl
@[simp] theorem State.updPair_courses (f : Pair → Pair) : (s.updPair f).courses = s.courses := rfl
@[simp] theorem State.updPair_stages (f : Pair → Pair) : (s.updPair f).stages = s.stages := rfl
@[simp] theorem State.updPair_bufs (f : Pair → Pair) : (s.updPair f).bufs = s.bufs := rfl
@[simp] theorem State.updPair_inl (f : Pair → Pair) : (s.updPair f).inl = s.inl := rfl
@[simp] theorem State.updPair_streams (f : Pair → Pair) : (s.updPair f).streams = s.streams := rfl
@[simp] theorem State.updPair_founts (f : Pair → Pair) : (s.updPair f).founts = s.founts := rfl
@[simp] theorem State.updPair_layers (f : Pair → Pair) : (s.updPair f).layers = s.layers := rfl
@[simp] theorem State.updPair_postLut (f : Pair → Pair) : (s.updPair f).postLut = s.postLut := rfl
@[simp] theorem State.updPair_prots (f : Pair → Pair) : (s.updPair f).prots = s.prots := rfl
@[simp] theorem State.updPair_hostIns (f : Pair → Pair) : (s.updPair f).hostIns = s.hostIns := rfl
@[simp] theorem State.updPair_heads (f : Pair → Pair) : (s.updPair f).heads = s.heads := rfl
@[simp] theorem State.updPair_mem (f : Pair → Pair) : (s.updPair f).mem = s.mem := rfl
@[simp] theorem State.updPair_bces (f : Pair → Pair) : (s.updPair f).bces = s.bces := rfl
@[simp] theorem State.updPair_checks (f : Pair → Pair) : (s.updPair f).checks = s.checks := rfl
@[simp] theorem State.updPair_placed (f : Pair → Pair) : (s.updPair f).placed = s.placed := rfl
@[simp] theorem State.updPair_degraded (f : Pair → Pair) : (s.updPair f).degraded = s.degraded := rfl
@[simp] theorem State.updPair_tarns (f : Pair → Pair) : (s.updPair f).tarns = s.tarns := rfl
@[simp] theorem State.updPair_spills (f : Pair → Pair) : (s.updPair f).spills = s.spills := rfl
@[simp] theorem State.updPair_rends (f : Pair → Pair) : (s.updPair f).rends = s.rends := rfl
@[simp] theorem State.updPair_keys (f : Pair → Pair) : (s.updPair f).keys = s.keys := rfl
@[simp] theorem State.updPair_ras (f : Pair → Pair) : (s.updPair f).ras = s.ras := rfl
@[simp] theorem State.updPair_selfRefresh (f : Pair → Pair) : (s.updPair f).selfRefresh = s.selfRefresh := rfl
@[simp] theorem State.updPair_chans (f : Pair → Pair) : (s.updPair f).chans = s.chans := rfl
@[simp] theorem State.updPair_fabric (f : Pair → Pair) : (s.updPair f).fabric = s.fabric := rfl
@[simp] theorem State.updPair_sluice (f : Pair → Pair) : (s.updPair f).sluice = s.sluice := rfl
@[simp] theorem State.updPair_sluiceOrder (f : Pair → Pair) : (s.updPair f).sluiceOrder = s.sluiceOrder := rfl
@[simp] theorem State.updPair_lanes (f : Pair → Pair) : (s.updPair f).lanes = s.lanes := rfl
@[simp] theorem State.updPair_boot (f : Pair → Pair) : (s.updPair f).boot = s.boot := rfl
@[simp] theorem State.updPair_rings (f : Pair → Pair) : (s.updPair f).rings = s.rings := rfl
@[simp] theorem State.updPair_chunks (f : Pair → Pair) : (s.updPair f).chunks = s.chunks := rfl
@[simp] theorem State.updPair_outf (f : Pair → Pair) : (s.updPair f).outf = s.outf := rfl
/-! ### updDegraded -/
@[simp] theorem State.updDegraded_pending (r : Nat) (f : Degraded → Degraded) : (s.updDegraded r f).pending = s.pending := rfl
@[simp] theorem State.updDegraded_now (r : Nat) (f : Degraded → Degraded) : (s.updDegraded r f).now = s.now := rfl
@[simp] theorem State.updDegraded_free (r : Nat) (f : Degraded → Degraded) : (s.updDegraded r f).free = s.free := rfl
@[simp] theorem State.updDegraded_out (r : Nat) (f : Degraded → Degraded) : (s.updDegraded r f).out = s.out := rfl
@[simp] theorem State.updDegraded_limits (r : Nat) (f : Degraded → Degraded) : (s.updDegraded r f).limits = s.limits := rfl
@[simp] theorem State.updDegraded_regs (r : Nat) (f : Degraded → Degraded) : (s.updDegraded r f).regs = s.regs := rfl
@[simp] theorem State.updDegraded_eff (r : Nat) (f : Degraded → Degraded) : (s.updDegraded r f).eff = s.eff := rfl
@[simp] theorem State.updDegraded_latch (r : Nat) (f : Degraded → Degraded) : (s.updDegraded r f).latch = s.latch := rfl
@[simp] theorem State.updDegraded_time (r : Nat) (f : Degraded → Degraded) : (s.updDegraded r f).time = s.time := rfl
@[simp] theorem State.updDegraded_doms (r : Nat) (f : Degraded → Degraded) : (s.updDegraded r f).doms = s.doms := rfl
@[simp] theorem State.updDegraded_img (r : Nat) (f : Degraded → Degraded) : (s.updDegraded r f).img = s.img := rfl
@[simp] theorem State.updDegraded_st (r : Nat) (f : Degraded → Degraded) : (s.updDegraded r f).st = s.st := rfl
@[simp] theorem State.updDegraded_funcs (r : Nat) (f : Degraded → Degraded) : (s.updDegraded r f).funcs = s.funcs := rfl
@[simp] theorem State.updDegraded_waiting (r : Nat) (f : Degraded → Degraded) : (s.updDegraded r f).waiting = s.waiting := rfl
@[simp] theorem State.updDegraded_resets (r : Nat) (f : Degraded → Degraded) : (s.updDegraded r f).resets = s.resets := rfl
@[simp] theorem State.updDegraded_pcie (r : Nat) (f : Degraded → Degraded) : (s.updDegraded r f).pcie = s.pcie := rfl
@[simp] theorem State.updDegraded_devMaint (r : Nat) (f : Degraded → Degraded) : (s.updDegraded r f).devMaint = s.devMaint := rfl
@[simp] theorem State.updDegraded_devMaintCmd (r : Nat) (f : Degraded → Degraded) : (s.updDegraded r f).devMaintCmd = s.devMaintCmd := rfl
@[simp] theorem State.updDegraded_retired (r : Nat) (f : Degraded → Degraded) : (s.updDegraded r f).retired = s.retired := rfl
@[simp] theorem State.updDegraded_excluded (r : Nat) (f : Degraded → Degraded) : (s.updDegraded r f).excluded = s.excluded := rfl
@[simp] theorem State.updDegraded_courses (r : Nat) (f : Degraded → Degraded) : (s.updDegraded r f).courses = s.courses := rfl
@[simp] theorem State.updDegraded_stages (r : Nat) (f : Degraded → Degraded) : (s.updDegraded r f).stages = s.stages := rfl
@[simp] theorem State.updDegraded_bufs (r : Nat) (f : Degraded → Degraded) : (s.updDegraded r f).bufs = s.bufs := rfl
@[simp] theorem State.updDegraded_inl (r : Nat) (f : Degraded → Degraded) : (s.updDegraded r f).inl = s.inl := rfl
@[simp] theorem State.updDegraded_streams (r : Nat) (f : Degraded → Degraded) : (s.updDegraded r f).streams = s.streams := rfl
@[simp] theorem State.updDegraded_founts (r : Nat) (f : Degraded → Degraded) : (s.updDegraded r f).founts = s.founts := rfl
@[simp] theorem State.updDegraded_layers (r : Nat) (f : Degraded → Degraded) : (s.updDegraded r f).layers = s.layers := rfl
@[simp] theorem State.updDegraded_postLut (r : Nat) (f : Degraded → Degraded) : (s.updDegraded r f).postLut = s.postLut := rfl
@[simp] theorem State.updDegraded_prots (r : Nat) (f : Degraded → Degraded) : (s.updDegraded r f).prots = s.prots := rfl
@[simp] theorem State.updDegraded_hostIns (r : Nat) (f : Degraded → Degraded) : (s.updDegraded r f).hostIns = s.hostIns := rfl
@[simp] theorem State.updDegraded_heads (r : Nat) (f : Degraded → Degraded) : (s.updDegraded r f).heads = s.heads := rfl
@[simp] theorem State.updDegraded_mem (r : Nat) (f : Degraded → Degraded) : (s.updDegraded r f).mem = s.mem := rfl
@[simp] theorem State.updDegraded_bces (r : Nat) (f : Degraded → Degraded) : (s.updDegraded r f).bces = s.bces := rfl
@[simp] theorem State.updDegraded_checks (r : Nat) (f : Degraded → Degraded) : (s.updDegraded r f).checks = s.checks := rfl
@[simp] theorem State.updDegraded_placed (r : Nat) (f : Degraded → Degraded) : (s.updDegraded r f).placed = s.placed := rfl
@[simp] theorem State.updDegraded_tarns (r : Nat) (f : Degraded → Degraded) : (s.updDegraded r f).tarns = s.tarns := rfl
@[simp] theorem State.updDegraded_spills (r : Nat) (f : Degraded → Degraded) : (s.updDegraded r f).spills = s.spills := rfl
@[simp] theorem State.updDegraded_rends (r : Nat) (f : Degraded → Degraded) : (s.updDegraded r f).rends = s.rends := rfl
@[simp] theorem State.updDegraded_keys (r : Nat) (f : Degraded → Degraded) : (s.updDegraded r f).keys = s.keys := rfl
@[simp] theorem State.updDegraded_ras (r : Nat) (f : Degraded → Degraded) : (s.updDegraded r f).ras = s.ras := rfl
@[simp] theorem State.updDegraded_selfRefresh (r : Nat) (f : Degraded → Degraded) : (s.updDegraded r f).selfRefresh = s.selfRefresh := rfl
@[simp] theorem State.updDegraded_chans (r : Nat) (f : Degraded → Degraded) : (s.updDegraded r f).chans = s.chans := rfl
@[simp] theorem State.updDegraded_fabric (r : Nat) (f : Degraded → Degraded) : (s.updDegraded r f).fabric = s.fabric := rfl
@[simp] theorem State.updDegraded_sluice (r : Nat) (f : Degraded → Degraded) : (s.updDegraded r f).sluice = s.sluice := rfl
@[simp] theorem State.updDegraded_sluiceOrder (r : Nat) (f : Degraded → Degraded) : (s.updDegraded r f).sluiceOrder = s.sluiceOrder := rfl
@[simp] theorem State.updDegraded_lanes (r : Nat) (f : Degraded → Degraded) : (s.updDegraded r f).lanes = s.lanes := rfl
@[simp] theorem State.updDegraded_boot (r : Nat) (f : Degraded → Degraded) : (s.updDegraded r f).boot = s.boot := rfl
@[simp] theorem State.updDegraded_rings (r : Nat) (f : Degraded → Degraded) : (s.updDegraded r f).rings = s.rings := rfl
@[simp] theorem State.updDegraded_chunks (r : Nat) (f : Degraded → Degraded) : (s.updDegraded r f).chunks = s.chunks := rfl
@[simp] theorem State.updDegraded_outf (r : Nat) (f : Degraded → Degraded) : (s.updDegraded r f).outf = s.outf := rfl
@[simp] theorem State.updDegraded_pair (r : Nat) (f : Degraded → Degraded) : (s.updDegraded r f).pair = s.pair := rfl
/-! ### setLane -/
@[simp] theorem State.setLane_pending (n : Nat) (x : Lane) : (s.setLane n x).pending = s.pending := rfl
@[simp] theorem State.setLane_now (n : Nat) (x : Lane) : (s.setLane n x).now = s.now := rfl
@[simp] theorem State.setLane_free (n : Nat) (x : Lane) : (s.setLane n x).free = s.free := rfl
@[simp] theorem State.setLane_out (n : Nat) (x : Lane) : (s.setLane n x).out = s.out := rfl
@[simp] theorem State.setLane_limits (n : Nat) (x : Lane) : (s.setLane n x).limits = s.limits := rfl
@[simp] theorem State.setLane_regs (n : Nat) (x : Lane) : (s.setLane n x).regs = s.regs := rfl
@[simp] theorem State.setLane_eff (n : Nat) (x : Lane) : (s.setLane n x).eff = s.eff := rfl
@[simp] theorem State.setLane_latch (n : Nat) (x : Lane) : (s.setLane n x).latch = s.latch := rfl
@[simp] theorem State.setLane_time (n : Nat) (x : Lane) : (s.setLane n x).time = s.time := rfl
@[simp] theorem State.setLane_doms (n : Nat) (x : Lane) : (s.setLane n x).doms = s.doms := rfl
@[simp] theorem State.setLane_img (n : Nat) (x : Lane) : (s.setLane n x).img = s.img := rfl
@[simp] theorem State.setLane_st (n : Nat) (x : Lane) : (s.setLane n x).st = s.st := rfl
@[simp] theorem State.setLane_funcs (n : Nat) (x : Lane) : (s.setLane n x).funcs = s.funcs := rfl
@[simp] theorem State.setLane_waiting (n : Nat) (x : Lane) : (s.setLane n x).waiting = s.waiting := rfl
@[simp] theorem State.setLane_resets (n : Nat) (x : Lane) : (s.setLane n x).resets = s.resets := rfl
@[simp] theorem State.setLane_pcie (n : Nat) (x : Lane) : (s.setLane n x).pcie = s.pcie := rfl
@[simp] theorem State.setLane_devMaint (n : Nat) (x : Lane) : (s.setLane n x).devMaint = s.devMaint := rfl
@[simp] theorem State.setLane_devMaintCmd (n : Nat) (x : Lane) : (s.setLane n x).devMaintCmd = s.devMaintCmd := rfl
@[simp] theorem State.setLane_retired (n : Nat) (x : Lane) : (s.setLane n x).retired = s.retired := rfl
@[simp] theorem State.setLane_excluded (n : Nat) (x : Lane) : (s.setLane n x).excluded = s.excluded := rfl
@[simp] theorem State.setLane_courses (n : Nat) (x : Lane) : (s.setLane n x).courses = s.courses := rfl
@[simp] theorem State.setLane_stages (n : Nat) (x : Lane) : (s.setLane n x).stages = s.stages := rfl
@[simp] theorem State.setLane_bufs (n : Nat) (x : Lane) : (s.setLane n x).bufs = s.bufs := rfl
@[simp] theorem State.setLane_inl (n : Nat) (x : Lane) : (s.setLane n x).inl = s.inl := rfl
@[simp] theorem State.setLane_streams (n : Nat) (x : Lane) : (s.setLane n x).streams = s.streams := rfl
@[simp] theorem State.setLane_founts (n : Nat) (x : Lane) : (s.setLane n x).founts = s.founts := rfl
@[simp] theorem State.setLane_layers (n : Nat) (x : Lane) : (s.setLane n x).layers = s.layers := rfl
@[simp] theorem State.setLane_postLut (n : Nat) (x : Lane) : (s.setLane n x).postLut = s.postLut := rfl
@[simp] theorem State.setLane_prots (n : Nat) (x : Lane) : (s.setLane n x).prots = s.prots := rfl
@[simp] theorem State.setLane_hostIns (n : Nat) (x : Lane) : (s.setLane n x).hostIns = s.hostIns := rfl
@[simp] theorem State.setLane_heads (n : Nat) (x : Lane) : (s.setLane n x).heads = s.heads := rfl
@[simp] theorem State.setLane_mem (n : Nat) (x : Lane) : (s.setLane n x).mem = s.mem := rfl
@[simp] theorem State.setLane_bces (n : Nat) (x : Lane) : (s.setLane n x).bces = s.bces := rfl
@[simp] theorem State.setLane_checks (n : Nat) (x : Lane) : (s.setLane n x).checks = s.checks := rfl
@[simp] theorem State.setLane_placed (n : Nat) (x : Lane) : (s.setLane n x).placed = s.placed := rfl
@[simp] theorem State.setLane_degraded (n : Nat) (x : Lane) : (s.setLane n x).degraded = s.degraded := rfl
@[simp] theorem State.setLane_tarns (n : Nat) (x : Lane) : (s.setLane n x).tarns = s.tarns := rfl
@[simp] theorem State.setLane_spills (n : Nat) (x : Lane) : (s.setLane n x).spills = s.spills := rfl
@[simp] theorem State.setLane_rends (n : Nat) (x : Lane) : (s.setLane n x).rends = s.rends := rfl
@[simp] theorem State.setLane_keys (n : Nat) (x : Lane) : (s.setLane n x).keys = s.keys := rfl
@[simp] theorem State.setLane_ras (n : Nat) (x : Lane) : (s.setLane n x).ras = s.ras := rfl
@[simp] theorem State.setLane_selfRefresh (n : Nat) (x : Lane) : (s.setLane n x).selfRefresh = s.selfRefresh := rfl
@[simp] theorem State.setLane_chans (n : Nat) (x : Lane) : (s.setLane n x).chans = s.chans := rfl
@[simp] theorem State.setLane_fabric (n : Nat) (x : Lane) : (s.setLane n x).fabric = s.fabric := rfl
@[simp] theorem State.setLane_sluice (n : Nat) (x : Lane) : (s.setLane n x).sluice = s.sluice := rfl
@[simp] theorem State.setLane_sluiceOrder (n : Nat) (x : Lane) : (s.setLane n x).sluiceOrder = s.sluiceOrder := rfl
@[simp] theorem State.setLane_boot (n : Nat) (x : Lane) : (s.setLane n x).boot = s.boot := rfl
@[simp] theorem State.setLane_rings (n : Nat) (x : Lane) : (s.setLane n x).rings = s.rings := rfl
@[simp] theorem State.setLane_chunks (n : Nat) (x : Lane) : (s.setLane n x).chunks = s.chunks := rfl
@[simp] theorem State.setLane_outf (n : Nat) (x : Lane) : (s.setLane n x).outf = s.outf := rfl
@[simp] theorem State.setLane_pair (n : Nat) (x : Lane) : (s.setLane n x).pair = s.pair := rfl
/-! ### updBoot -/
@[simp] theorem State.updBoot_pending (f : Boot → Boot) : (s.updBoot f).pending = s.pending := rfl
@[simp] theorem State.updBoot_now (f : Boot → Boot) : (s.updBoot f).now = s.now := rfl
@[simp] theorem State.updBoot_free (f : Boot → Boot) : (s.updBoot f).free = s.free := rfl
@[simp] theorem State.updBoot_out (f : Boot → Boot) : (s.updBoot f).out = s.out := rfl
@[simp] theorem State.updBoot_limits (f : Boot → Boot) : (s.updBoot f).limits = s.limits := rfl
@[simp] theorem State.updBoot_regs (f : Boot → Boot) : (s.updBoot f).regs = s.regs := rfl
@[simp] theorem State.updBoot_eff (f : Boot → Boot) : (s.updBoot f).eff = s.eff := rfl
@[simp] theorem State.updBoot_latch (f : Boot → Boot) : (s.updBoot f).latch = s.latch := rfl
@[simp] theorem State.updBoot_time (f : Boot → Boot) : (s.updBoot f).time = s.time := rfl
@[simp] theorem State.updBoot_doms (f : Boot → Boot) : (s.updBoot f).doms = s.doms := rfl
@[simp] theorem State.updBoot_img (f : Boot → Boot) : (s.updBoot f).img = s.img := rfl
@[simp] theorem State.updBoot_st (f : Boot → Boot) : (s.updBoot f).st = s.st := rfl
@[simp] theorem State.updBoot_funcs (f : Boot → Boot) : (s.updBoot f).funcs = s.funcs := rfl
@[simp] theorem State.updBoot_waiting (f : Boot → Boot) : (s.updBoot f).waiting = s.waiting := rfl
@[simp] theorem State.updBoot_resets (f : Boot → Boot) : (s.updBoot f).resets = s.resets := rfl
@[simp] theorem State.updBoot_pcie (f : Boot → Boot) : (s.updBoot f).pcie = s.pcie := rfl
@[simp] theorem State.updBoot_devMaint (f : Boot → Boot) : (s.updBoot f).devMaint = s.devMaint := rfl
@[simp] theorem State.updBoot_devMaintCmd (f : Boot → Boot) : (s.updBoot f).devMaintCmd = s.devMaintCmd := rfl
@[simp] theorem State.updBoot_retired (f : Boot → Boot) : (s.updBoot f).retired = s.retired := rfl
@[simp] theorem State.updBoot_excluded (f : Boot → Boot) : (s.updBoot f).excluded = s.excluded := rfl
@[simp] theorem State.updBoot_courses (f : Boot → Boot) : (s.updBoot f).courses = s.courses := rfl
@[simp] theorem State.updBoot_stages (f : Boot → Boot) : (s.updBoot f).stages = s.stages := rfl
@[simp] theorem State.updBoot_bufs (f : Boot → Boot) : (s.updBoot f).bufs = s.bufs := rfl
@[simp] theorem State.updBoot_inl (f : Boot → Boot) : (s.updBoot f).inl = s.inl := rfl
@[simp] theorem State.updBoot_streams (f : Boot → Boot) : (s.updBoot f).streams = s.streams := rfl
@[simp] theorem State.updBoot_founts (f : Boot → Boot) : (s.updBoot f).founts = s.founts := rfl
@[simp] theorem State.updBoot_layers (f : Boot → Boot) : (s.updBoot f).layers = s.layers := rfl
@[simp] theorem State.updBoot_postLut (f : Boot → Boot) : (s.updBoot f).postLut = s.postLut := rfl
@[simp] theorem State.updBoot_prots (f : Boot → Boot) : (s.updBoot f).prots = s.prots := rfl
@[simp] theorem State.updBoot_hostIns (f : Boot → Boot) : (s.updBoot f).hostIns = s.hostIns := rfl
@[simp] theorem State.updBoot_heads (f : Boot → Boot) : (s.updBoot f).heads = s.heads := rfl
@[simp] theorem State.updBoot_mem (f : Boot → Boot) : (s.updBoot f).mem = s.mem := rfl
@[simp] theorem State.updBoot_bces (f : Boot → Boot) : (s.updBoot f).bces = s.bces := rfl
@[simp] theorem State.updBoot_checks (f : Boot → Boot) : (s.updBoot f).checks = s.checks := rfl
@[simp] theorem State.updBoot_placed (f : Boot → Boot) : (s.updBoot f).placed = s.placed := rfl
@[simp] theorem State.updBoot_degraded (f : Boot → Boot) : (s.updBoot f).degraded = s.degraded := rfl
@[simp] theorem State.updBoot_tarns (f : Boot → Boot) : (s.updBoot f).tarns = s.tarns := rfl
@[simp] theorem State.updBoot_spills (f : Boot → Boot) : (s.updBoot f).spills = s.spills := rfl
@[simp] theorem State.updBoot_rends (f : Boot → Boot) : (s.updBoot f).rends = s.rends := rfl
@[simp] theorem State.updBoot_keys (f : Boot → Boot) : (s.updBoot f).keys = s.keys := rfl
@[simp] theorem State.updBoot_ras (f : Boot → Boot) : (s.updBoot f).ras = s.ras := rfl
@[simp] theorem State.updBoot_selfRefresh (f : Boot → Boot) : (s.updBoot f).selfRefresh = s.selfRefresh := rfl
@[simp] theorem State.updBoot_chans (f : Boot → Boot) : (s.updBoot f).chans = s.chans := rfl
@[simp] theorem State.updBoot_fabric (f : Boot → Boot) : (s.updBoot f).fabric = s.fabric := rfl
@[simp] theorem State.updBoot_sluice (f : Boot → Boot) : (s.updBoot f).sluice = s.sluice := rfl
@[simp] theorem State.updBoot_sluiceOrder (f : Boot → Boot) : (s.updBoot f).sluiceOrder = s.sluiceOrder := rfl
@[simp] theorem State.updBoot_lanes (f : Boot → Boot) : (s.updBoot f).lanes = s.lanes := rfl
@[simp] theorem State.updBoot_rings (f : Boot → Boot) : (s.updBoot f).rings = s.rings := rfl
@[simp] theorem State.updBoot_chunks (f : Boot → Boot) : (s.updBoot f).chunks = s.chunks := rfl
@[simp] theorem State.updBoot_outf (f : Boot → Boot) : (s.updBoot f).outf = s.outf := rfl
@[simp] theorem State.updBoot_pair (f : Boot → Boot) : (s.updBoot f).pair = s.pair := rfl
/-! ### push -/
@[simp] theorem State.push_now (c : Instr) : (s.push c).now = s.now := rfl
@[simp] theorem State.push_free (c : Instr) : (s.push c).free = s.free := rfl
@[simp] theorem State.push_out (c : Instr) : (s.push c).out = s.out := rfl
@[simp] theorem State.push_limits (c : Instr) : (s.push c).limits = s.limits := rfl
@[simp] theorem State.push_regs (c : Instr) : (s.push c).regs = s.regs := rfl
@[simp] theorem State.push_eff (c : Instr) : (s.push c).eff = s.eff := rfl
@[simp] theorem State.push_latch (c : Instr) : (s.push c).latch = s.latch := rfl
@[simp] theorem State.push_time (c : Instr) : (s.push c).time = s.time := rfl
@[simp] theorem State.push_doms (c : Instr) : (s.push c).doms = s.doms := rfl
@[simp] theorem State.push_img (c : Instr) : (s.push c).img = s.img := rfl
@[simp] theorem State.push_st (c : Instr) : (s.push c).st = s.st := rfl
@[simp] theorem State.push_funcs (c : Instr) : (s.push c).funcs = s.funcs := rfl
@[simp] theorem State.push_waiting (c : Instr) : (s.push c).waiting = s.waiting := rfl
@[simp] theorem State.push_resets (c : Instr) : (s.push c).resets = s.resets := rfl
@[simp] theorem State.push_pcie (c : Instr) : (s.push c).pcie = s.pcie := rfl
@[simp] theorem State.push_devMaint (c : Instr) : (s.push c).devMaint = s.devMaint := rfl
@[simp] theorem State.push_devMaintCmd (c : Instr) : (s.push c).devMaintCmd = s.devMaintCmd := rfl
@[simp] theorem State.push_retired (c : Instr) : (s.push c).retired = s.retired := rfl
@[simp] theorem State.push_excluded (c : Instr) : (s.push c).excluded = s.excluded := rfl
@[simp] theorem State.push_courses (c : Instr) : (s.push c).courses = s.courses := rfl
@[simp] theorem State.push_stages (c : Instr) : (s.push c).stages = s.stages := rfl
@[simp] theorem State.push_bufs (c : Instr) : (s.push c).bufs = s.bufs := rfl
@[simp] theorem State.push_inl (c : Instr) : (s.push c).inl = s.inl := rfl
@[simp] theorem State.push_streams (c : Instr) : (s.push c).streams = s.streams := rfl
@[simp] theorem State.push_founts (c : Instr) : (s.push c).founts = s.founts := rfl
@[simp] theorem State.push_layers (c : Instr) : (s.push c).layers = s.layers := rfl
@[simp] theorem State.push_postLut (c : Instr) : (s.push c).postLut = s.postLut := rfl
@[simp] theorem State.push_prots (c : Instr) : (s.push c).prots = s.prots := rfl
@[simp] theorem State.push_hostIns (c : Instr) : (s.push c).hostIns = s.hostIns := rfl
@[simp] theorem State.push_heads (c : Instr) : (s.push c).heads = s.heads := rfl
@[simp] theorem State.push_mem (c : Instr) : (s.push c).mem = s.mem := rfl
@[simp] theorem State.push_bces (c : Instr) : (s.push c).bces = s.bces := rfl
@[simp] theorem State.push_checks (c : Instr) : (s.push c).checks = s.checks := rfl
@[simp] theorem State.push_placed (c : Instr) : (s.push c).placed = s.placed := rfl
@[simp] theorem State.push_degraded (c : Instr) : (s.push c).degraded = s.degraded := rfl
@[simp] theorem State.push_tarns (c : Instr) : (s.push c).tarns = s.tarns := rfl
@[simp] theorem State.push_spills (c : Instr) : (s.push c).spills = s.spills := rfl
@[simp] theorem State.push_rends (c : Instr) : (s.push c).rends = s.rends := rfl
@[simp] theorem State.push_keys (c : Instr) : (s.push c).keys = s.keys := rfl
@[simp] theorem State.push_ras (c : Instr) : (s.push c).ras = s.ras := rfl
@[simp] theorem State.push_selfRefresh (c : Instr) : (s.push c).selfRefresh = s.selfRefresh := rfl
@[simp] theorem State.push_chans (c : Instr) : (s.push c).chans = s.chans := rfl
@[simp] theorem State.push_fabric (c : Instr) : (s.push c).fabric = s.fabric := rfl
@[simp] theorem State.push_sluice (c : Instr) : (s.push c).sluice = s.sluice := rfl
@[simp] theorem State.push_sluiceOrder (c : Instr) : (s.push c).sluiceOrder = s.sluiceOrder := rfl
@[simp] theorem State.push_lanes (c : Instr) : (s.push c).lanes = s.lanes := rfl
@[simp] theorem State.push_boot (c : Instr) : (s.push c).boot = s.boot := rfl
@[simp] theorem State.push_rings (c : Instr) : (s.push c).rings = s.rings := rfl
@[simp] theorem State.push_chunks (c : Instr) : (s.push c).chunks = s.chunks := rfl
@[simp] theorem State.push_outf (c : Instr) : (s.push c).outf = s.outf := rfl
@[simp] theorem State.push_pair (c : Instr) : (s.push c).pair = s.pair := rfl

end Sys2Proof.Machine
end

