-- ==== Sys2Proof/Laws/Keeps01.lean ====
section
/-! SUPPORT. Keeps01.lean: what every operation keeps (Keeps.lean), one lemma an operation: Ops, Memory, Confluence, Bce, Check, Bands, Pace, Mere, Headwater, Ras, Sluice, Time. -/

namespace Sys2Proof.Machine

set_option linter.unusedVariables false
set_option linter.unusedTactic false
set_option linter.unreachableTactic false

variable {{sc : Scope}} {{s0 : State}}

/-! ### Ops -/

theorem keeps_wr (s : State) (a : Nat) (v : Word) (h : Keeps sc s0 s) (hregs : sc.regs = true) : Keeps sc s0 (State.wr s a v)
    := by
  unfold State.wr
  exact keeps_put_regs hregs h

theorem keeps_wrn (s : State) (a : Nat) (v : Nat) (h : Keeps sc s0 s) (hregs : sc.regs = true) : Keeps sc s0 (State.wrn s a v)
    := by
  unfold State.wrn
  repeat' (with_reducible first | assumption | apply keeps_wr)

theorem keeps_setFld (s : State) (a : Nat) (hi : Nat) (lo : Nat) (v : Nat) (h : Keeps sc s0 s) (hregs : sc.regs = true) : Keeps
    sc s0 (State.setFld s a hi lo v) := by
  unfold State.setFld
  repeat' (with_reducible first | assumption | apply keeps_wrn)

theorem keeps_inc (s : State) (a : Nat) (n : Nat) (h : Keeps sc s0 s) (hregs : sc.regs = true) : Keeps sc s0 (State.inc s a n)
    := by
  unfold State.inc
  repeat' (with_reducible first | assumption | apply keeps_wrn)

theorem keeps_incSat (s : State) (a : Nat) (n : Nat) (h : Keeps sc s0 s) (hregs : sc.regs = true) : Keeps sc s0 (State.incSat s
    a n) := by
  unfold State.incSat
  repeat' (with_reducible first | assumption | apply keeps_wrn)

theorem keeps_wr64 (s : State) (a : Nat) (v : Nat) (h : Keeps sc s0 s) (hregs : sc.regs = true) : Keeps sc s0 (State.wr64 s a
    v) := by
  unfold State.wr64
  repeat' (with_reducible first | assumption | apply keeps_wrn)

theorem keeps_inc64 (s : State) (a : Nat) (n : Nat) (h : Keeps sc s0 s) (hregs : sc.regs = true) : Keeps sc s0 (State.inc64 s a
    n) := by
  unfold State.inc64
  repeat' (with_reducible first | assumption | apply keeps_wr64)

theorem keeps_wrBoth (s : State) (a : Nat) (v : Nat) (h : Keeps sc s0 s) (hregs : sc.regs = true) : Keeps sc s0 (State.wrBoth s
    a v) := by
  unfold State.wrBoth
  repeat' first
      | (with_reducible first
          | assumption
          | apply keeps_wrn
          | refine keeps_ite ?_ ?_
          | apply keeps_foldl)
      | split
      | (with_reducible apply keeps_put_regs hregs; (with_reducible first
          | assumption
          | apply keeps_wrn
          | apply keeps_foldl
          | split))
      | intro _
      | dsimp only

theorem keeps_emit (s : State) (o : Output) (h : Keeps sc s0 s) (hout : sc.out = true) : Keeps sc s0 (State.emit s o) := by
  unfold State.emit
  exact keeps_put_out hout h

theorem keeps_emits (s : State) (os : List Output) (h : Keeps sc s0 s) (hout : sc.out = true) : Keeps sc s0 (State.emits s os)
    := by
  unfold State.emits
  exact keeps_put_out hout h

theorem keeps_drawFree (s : State) (h : Keeps sc s0 s) (hout : sc.out = true) : Keeps sc s0 (State.drawFree s).2 := by
  unfold State.drawFree
  exact keeps_put_out hout h

theorem keeps_cycles (s : State) (k : Nat) (h : Keeps sc s0 s) (hclk : sc.clk = true) : Keeps sc s0 (s.cycles k) := by
  unfold State.cycles
  exact keeps_phc hclk (Nat.le_add_right _ _) (fun _ => phcAdvance_inRange _ _ _) h

theorem keeps_runTo (s : State) (c : Nat) (h : Keeps sc s0 s) (hclk : sc.clk = true) : Keeps sc s0 (State.runTo s c) := by
  unfold State.runTo
  repeat' (with_reducible first | assumption | apply keeps_cycles)

theorem keeps_setDom (s : State) (d : Nat) (x : Domain) (h : Keeps sc s0 s) (hweir : sc.weir = true) : Keeps sc s0
    (State.setDom s d x) := by
  unfold State.setDom
  exact keeps_put_weir hweir h

theorem keeps_updDom (s : State) (d : Nat) (f : Domain → Domain) (h : Keeps sc s0 s) (hweir : sc.weir = true) : Keeps sc s0
    (State.updDom s d f) := by
  unfold State.updDom
  exact keeps_put_weir hweir h

theorem keeps_updFunc (s : State) (f : Nat) (g : Func → Func) (h : Keeps sc s0 s) (hout : sc.out = true) : Keeps sc s0
    (State.updFunc s f g) := by
  unfold State.updFunc
  exact keeps_put_out hout h

theorem keeps_raiseTo (s : State) (extra : List Nat) (code : Nat) (src : Nat) (course : Nat) (rend : Nat) (detail : Nat) (h :
    Keeps sc s0 s) (hout : sc.out = true) : Keeps sc s0 (State.raiseTo s extra code src course rend detail) := by
  unfold State.raiseTo
  exact keeps_put_out hout h

theorem keeps_ev (s : State) (code : Nat) (src : Nat) (detail : Nat) (h : Keeps sc s0 s) (hout : sc.out = true) : Keeps sc s0
    (State.ev s code src detail) := by
  unfold State.ev
  repeat' (with_reducible first | assumption | apply keeps_raiseTo)

theorem keeps_evC (s : State) (code : Nat) (src : Nat) (course : Nat) (detail : Nat) (h : Keeps sc s0 s) (hout : sc.out = true)
    : Keeps sc s0 (State.evC s code src course detail) := by
  unfold State.evC
  repeat' (with_reducible first | assumption | apply keeps_raiseTo)

theorem keeps_evR (s : State) (code : Nat) (src : Nat) (rend : Nat) (detail : Nat) (h : Keeps sc s0 s) (hout : sc.out = true) :
    Keeps sc s0 (State.evR s code src rend detail) := by
  unfold State.evR
  repeat' (with_reducible first | assumption | apply keeps_raiseTo)

theorem keeps_evTo (s : State) (owner : Nat) (code : Nat) (src : Nat) (detail : Nat) (h : Keeps sc s0 s) (hout : sc.out = true)
    : Keeps sc s0 (State.evTo s owner code src detail) := by
  unfold State.evTo
  repeat' (with_reducible first | assumption | apply keeps_raiseTo)

theorem keeps_limitedBy (s : State) (key : Nat) (period : Nat) (k : Nat) (raise : Nat → State → State) (hraise : ∀ n s, Keeps
    sc s0 s → Keeps sc s0 (raise n s)) (h : Keeps sc s0 s) (hout : sc.out = true) : Keeps sc s0 (State.limitedBy s key period k
    raise) := by
  unfold State.limitedBy
  repeat' first
      | (with_reducible first
          | assumption
          | apply hraise
          | refine keeps_ite ?_ ?_
          | apply keeps_foldl)
      | split
      | (with_reducible apply keeps_put_out hout; (with_reducible first
          | assumption
          | apply hraise
          | apply keeps_foldl
          | split))
      | intro _
      | dsimp only

theorem keeps_limited (s : State) (key : Nat) (period : Nat) (raise : Nat → State → State) (hraise : ∀ n s, Keeps sc s0 s →
    Keeps sc s0 (raise n s)) (h : Keeps sc s0 s) (hout : sc.out = true) : Keeps sc s0 (State.limited s key period raise) := by
  unfold State.limited
  repeat' (with_reducible first | assumption | apply keeps_limitedBy | apply hraise)

theorem keeps_hostWr (s : State) (f : Nat) (a : Nat) (b : Bytes) (h : Keeps sc s0 s) (hout : sc.out = true) : Keeps sc s0
    (State.hostWr s f a b) := by
  unfold State.hostWr
  repeat' (with_reducible first | assumption | apply keeps_emit | refine keeps_ite ?_ ?_)

theorem keeps_irq (s : State) (f : Nat) (v : Nat) (on : Bool) (h : Keeps sc s0 s) (hout : sc.out = true) : Keeps sc s0
    (State.irq s f v on) := by
  unfold State.irq
  repeat' first
      | (with_reducible first
          | assumption
          | refine keeps_ite ?_ ?_
          | apply keeps_foldl)
      | split
      | (with_reducible apply keeps_put_out hout; (with_reducible first
          | assumption
          | apply keeps_foldl
          | split))
      | intro _
      | dsimp only

theorem keeps_doorbellInvalid (s : State) (f : Nat) (off : Nat) (v : Nat) (h : Keeps sc s0 s) (hout : sc.out = true) : Keeps sc
    s0 (State.doorbellInvalid s f off v) := by
  unfold State.doorbellInvalid
  repeat' (with_reducible first | assumption | apply keeps_ev)

theorem keeps_standbyWrite (s : State) (f : Nat) (a : Nat) (h : Keeps sc s0 s) (hout : sc.out = true) : Keeps sc s0
    (State.standbyWrite s f a) := by
  unfold State.standbyWrite
  repeat' first
      | (with_reducible first
          | assumption
          | apply keeps_limited
          | apply keeps_ev
          | refine keeps_ite ?_ ?_
          | apply keeps_foldl
          | intro _)
      | split
      | dsimp only

theorem keeps_weirWrite (s : State) (f : Nat) (a : Nat) (k : State → State) (hk : ∀ s, Keeps sc s0 s → Keeps sc s0 (k s)) (h :
    Keeps sc s0 s) (hout : sc.out = true) : Keeps sc s0 (State.weirWrite s f a k) := by
  unfold State.weirWrite
  repeat' (with_reducible first | assumption | apply keeps_standbyWrite | apply hk | refine keeps_ite ?_ ?_)

theorem keeps_complete (s : State) (o : Origin) (st : Status) (info : Nat) (detail : Nat) (h : Keeps sc s0 s) (hout : sc.out =
    true) : Keeps sc s0 (State.complete s o st info detail) := by
  unfold State.complete
  repeat' first
      | (with_reducible first
          | assumption
          | apply keeps_ev
          | refine keeps_ite ?_ ?_
          | apply keeps_foldl)
      | split
      | (with_reducible apply keeps_put_out hout; (with_reducible first
          | assumption
          | apply keeps_ev
          | apply keeps_foldl
          | split))
      | intro _
      | dsimp only

theorem keeps_checked (s : State) (o : Origin) (checks : List (Bool × Status)) (k : State → State) (hk : ∀ s, Keeps sc s0 s →
    Keeps sc s0 (k s)) (h : Keeps sc s0 s) (hout : sc.out = true) : Keeps sc s0 (State.checked s o checks k) := by
  unfold State.checked
  repeat' first
      | (with_reducible first
          | assumption
          | apply keeps_complete
          | apply hk
          | refine keeps_ite ?_ ?_
          | apply keeps_foldl
          | intro _)
      | split
      | dsimp only

/-! ### Memory -/

theorem keeps_cnfLog (s : State) (o : Nat) (master : Nat) (target : Nat) (f : Option Nat) (write : Bool) (a : Nat) (h : Keeps
    sc s0 s) (hregs : sc.regs = true) : Keeps sc s0 (State.cnfLog s o master target f write a) := by
  unfold State.cnfLog
  repeat' (with_reducible first | assumption | apply keeps_inc | apply keeps_wr64 | apply keeps_wrn | refine keeps_ite ?_ ?_)

theorem keeps_decodeError (s : State) (master : Nat) (f : Option Nat) (write : Bool) (a : Nat) (h : Keeps sc s0 s) (hregs :
    sc.regs = true) (hout : sc.out = true) : Keeps sc s0 (State.decodeError s master f write a) := by
  unfold State.decodeError
  repeat' first
      | (with_reducible first
          | assumption
          | apply keeps_limited
          | apply keeps_cnfLog
          | apply keeps_ev
          | refine keeps_ite ?_ ?_
          | apply keeps_foldl
          | intro _)
      | split
      | dsimp only

theorem keeps_targetTimeout (s : State) (master : Nat) (target : Nat) (f : Option Nat) (write : Bool) (a : Nat) (h : Keeps sc
    s0 s) (hregs : sc.regs = true) (hout : sc.out = true) : Keeps sc s0 (State.targetTimeout s master target f write a) := by
  unfold State.targetTimeout
  repeat' first
      | (with_reducible first
          | assumption
          | apply keeps_limited
          | apply keeps_cnfLog
          | apply keeps_ev
          | refine keeps_ite ?_ ?_
          | apply keeps_foldl
          | intro _)
      | split
      | dsimp only

/-! ### Confluence -/

theorem keeps_updFab (s : State) (f : Fabric → Fabric) (h : Keeps sc s0 s) (hmemsys : sc.memsys = true) : Keeps sc s0
    (State.updFab s f) := by
  unfold State.updFab
  exact keeps_put_memsys hmemsys h

theorem keeps_setTport (s : State) (g : Nat) (x : TargetPort) (h : Keeps sc s0 s) (hmemsys : sc.memsys = true) : Keeps sc s0
    (State.setTport s g x) := by
  unfold State.setTport
  repeat' (with_reducible first | assumption | apply keeps_updFab)

theorem keeps_granted (s : State) (g : Nat) (cyc : Nat) (w : AtArbiter) (pass : Nat) (p : TargetPort) (parked : Bool) (h :
    Keeps sc s0 s) (hregs : sc.regs = true) (hmemsys : sc.memsys = true) : Keeps sc s0 (State.granted s g cyc w pass p parked)
    := by
  unfold State.granted
  repeat' (with_reducible first
      | assumption
      | apply keeps_setTport
      | apply keeps_inc64
      | apply keeps_inc
      | refine keeps_ite ?_ ?_)

theorem keeps_grants (room : State → Txn → Bool) (serve : State → AtArbiter → Nat → State)
    (hserve : ∀ s w n, Keeps sc s0 s → Keeps sc s0 (serve s w n)) (g fuel n : Nat) (s : State) (h : Keeps sc s0 s) (hregs :
        sc.regs = true) (hmemsys : sc.memsys = true) :
    Keeps sc s0 (State.grants room serve g fuel n s) := by
  induction fuel generalizing n s with
  | zero => exact h
  | succ fuel ih =>
    unfold State.grants
    repeat' first
        | (with_reducible first
            | assumption
            | apply hserve
            | apply keeps_granted
            | refine keeps_ite ?_ ?_
            | apply keeps_foldl)
        | split
        | (with_reducible apply keeps_upd; (with_reducible first
            | assumption
            | apply hserve
            | apply keeps_granted
            | apply keeps_foldl
            | split))
        | (with_reducible first
            | exact Held.refl _
            | exact TimeStep.refl _
            | exact ImgStep.refl _
            | exact UnitStep.refl _ _
            | exact MemStep.refl _
            | exact Held.write hregs
            | exact Held.write hmemsys)
        | intro _
        | dsimp only
    all_goals apply ih
    repeat' first
        | (with_reducible first
            | assumption
            | apply hserve
            | apply keeps_granted
            | refine keeps_ite ?_ ?_
            | apply keeps_foldl)
        | split
        | (with_reducible apply keeps_upd; (with_reducible first
            | assumption
            | apply hserve
            | apply keeps_granted
            | apply keeps_foldl
            | split))
        | (with_reducible first
            | exact Held.refl _
            | exact TimeStep.refl _
            | exact ImgStep.refl _
            | exact UnitStep.refl _ _
            | exact MemStep.refl _
            | exact Held.write hregs
            | exact Held.write hmemsys)
        | intro _
        | dsimp only

theorem keeps_respond (s : State) (t : Txn) (code : Nat) (b : Bytes) (h : Keeps sc s0 s) (hout : sc.out = true) : Keeps sc s0
    (State.respond s t code b) := by
  unfold State.respond
  repeat' (with_reducible first | assumption | apply keeps_emit)

theorem keeps_injectTimeout (s : State) (w : AtArbiter) (g cyc : Nat) (h : Keeps sc s0 s) (hout : sc.out = true) (hmemsys :
    sc.memsys = true) (hras : sc.ras = true) :
    ∀ t, State.injectTimeout s w g cyc = some t → Keeps sc s0 t := by
  intro t e
  unfold State.injectTimeout at e
  split at e
  · cases e
  · injection e with e
    subst e
    repeat' first
        | (with_reducible first
            | assumption
            | apply keeps_updFab
            | apply keeps_ev
            | refine keeps_ite ?_ ?_
            | apply keeps_foldl)
        | split
        | (with_reducible apply keeps_upd; (with_reducible first
            | assumption
            | apply keeps_updFab
            | apply keeps_ev
            | apply keeps_foldl
            | split))
        | (with_reducible first
            | exact Held.refl _
            | exact TimeStep.refl _
            | exact ImgStep.refl _
            | exact UnitStep.refl _ _
            | exact MemStep.refl _
            | exact Held.write hout
            | exact Held.write hmemsys
            | exact Held.write hras)
        | intro _
        | dsimp only

theorem keeps_masterReset (s : State) (m : Nat) (p : Txn → Bool) (h : Keeps sc s0 s) (hmemsys : sc.memsys = true) : Keeps sc s0
    (State.masterReset s m p) := by
  unfold State.masterReset
  repeat' (with_reducible first | assumption | apply keeps_updFab | refine keeps_ite ?_ ?_)

theorem keeps_unitBurst (s : State) (src : Nat) (h : Keeps sc s0 s) (hmemsys : sc.memsys = true) : Keeps sc s0 (State.unitBurst
    s src) := by
  unfold State.unitBurst
  repeat' first
      | (with_reducible first
          | assumption
          | apply keeps_masterReset
          | refine keeps_ite ?_ ?_
          | apply keeps_foldl
          | intro _)
      | split
      | dsimp only

theorem keeps_burstFinish (s : State) (m : Nat) (h : Keeps sc s0 s) (hregs : sc.regs = true) (hout : sc.out = true) (hmemsys :
    sc.memsys = true) : Keeps sc s0 (State.burstFinish s m) := by
  unfold State.burstFinish
  repeat' (with_reducible first | assumption | apply keeps_updFab | apply keeps_ev | apply keeps_inc | refine keeps_ite ?_ ?_)

theorem keeps_execBurstFinishDone (m : Nat) (s : State) (h : Keeps sc s0 s) (hregs : sc.regs = true) (hout : sc.out = true)
    (hmemsys : sc.memsys = true) : KeepsO sc s0 (execBurstFinishDone m s) := by
  unfold execBurstFinishDone
  repeat' (with_reducible first | assumption | apply keeps_burstFinish | apply keepsO_next)

/-! ### Bce -/

theorem keeps_setBce (s : State) (b : Nat) (x : Bce) (h : Keeps sc s0 s) (hdma : sc.dma = true) : Keeps sc s0 (State.setBce s b
    x) := by
  unfold State.setBce
  exact keeps_put_dma hdma h

theorem keeps_bceNotHeld (s : State) (b : Nat) (f : Nat) (h : Keeps sc s0 s) (hout : sc.out = true) : Keeps sc s0
    (State.bceNotHeld s b f) := by
  unfold State.bceNotHeld
  repeat' first
      | (with_reducible first
          | assumption
          | apply keeps_limited
          | apply keeps_ev
          | refine keeps_ite ?_ ?_
          | apply keeps_foldl
          | intro _)
      | split
      | dsimp only

theorem keeps_bceAcquire (s : State) (b : Nat) (f : Nat) (h : Keeps sc s0 s) (hdma : sc.dma = true) : Keeps sc s0
    (State.bceAcquire s b f) := by
  unfold State.bceAcquire
  repeat' (with_reducible first | assumption | apply keeps_setBce | refine keeps_ite ?_ ?_)

theorem keeps_execBceAcquire (b : Nat) (f : Nat) (s : State) (h : Keeps sc s0 s) (hdma : sc.dma = true) : KeepsO sc s0
    (execBceAcquire b f s) := by
  unfold execBceAcquire
  repeat' (with_reducible first | assumption | apply keeps_bceAcquire | apply keepsO_next)

theorem keeps_bceRelease (s : State) (b : Nat) (f : Nat) (h : Keeps sc s0 s) (hdma : sc.dma = true) : Keeps sc s0
    (State.bceRelease s b f) := by
  unfold State.bceRelease
  repeat' (with_reducible first | assumption | apply keeps_setBce | refine keeps_ite ?_ ?_)

theorem keeps_execBceRelease (b : Nat) (f : Nat) (s : State) (h : Keeps sc s0 s) (hdma : sc.dma = true) : KeepsO sc s0
    (execBceRelease b f s) := by
  unfold execBceRelease
  repeat' (with_reducible first | assumption | apply keeps_bceRelease | apply keepsO_next)

theorem keeps_bceStatus (s : State) (b : Nat) (result : Nat) (left : Nat) (done : Bool) (h : Keeps sc s0 s) (hregs : sc.regs =
    true) : Keeps sc s0 (State.bceStatus s b result left done) := by
  unfold State.bceStatus
  repeat' (with_reducible first | assumption | apply keeps_wrn)

theorem keeps_freeLine (s : State) (a : Nat) (n : Nat) (h : Keeps sc s0 s) (hmem : sc.mem = true) (hout : sc.out = true) :
    Keeps sc s0 (State.freeLine s a n) := by
  unfold State.freeLine
  repeat' first
      | (with_reducible first
          | assumption
          | refine keeps_ite ?_ ?_
          | apply keeps_foldl)
      | split
      | (with_reducible apply keeps_upd; (with_reducible first
          | assumption
          | apply keeps_foldl
          | split))
      | (with_reducible first
          | exact Held.refl _
          | exact TimeStep.refl _
          | exact ImgStep.refl _
          | exact UnitStep.refl _ _
          | exact MemStep.refl _
          | exact Held.write hout)
      | (with_reducible refine MemStep.write hmem (Mem.wf_puts _ _ _))
      | (with_reducible refine MemStep.write hmem (Mem.wf_putEnabled _ _ _))
      | intro _
      | dsimp only

theorem keeps_bceDrop (s : State) (b : Nat) (cause : Nat) (h : Keeps sc s0 s) (hmem : sc.mem = true) (hregs : sc.regs = true)
    (hout : sc.out = true) (hmemsys : sc.memsys = true) (hdma : sc.dma = true) : Keeps sc s0 (State.bceDrop s b cause) := by
  unfold State.bceDrop
  repeat' first
      | (with_reducible first
          | assumption
          | apply keeps_setBce
          | apply keeps_freeLine
          | apply keeps_ev
          | apply keeps_bceStatus
          | apply keeps_masterReset
          | refine keeps_ite ?_ ?_
          | apply keeps_foldl
          | intro _)
      | split
      | dsimp only

theorem keeps_bceForce (s : State) (b : Nat) (f : Nat) (h : Keeps sc s0 s) (hmem : sc.mem = true) (hregs : sc.regs = true)
    (hout : sc.out = true) (hmemsys : sc.memsys = true) (hdma : sc.dma = true) : Keeps sc s0 (State.bceForce s b f) := by
  unfold State.bceForce
  repeat' (with_reducible first | assumption | apply keeps_bceDrop | refine keeps_ite ?_ ?_)

theorem keeps_execBceForceRelease (b : Nat) (f : Nat) (s : State) (h : Keeps sc s0 s) (hmem : sc.mem = true) (hregs : sc.regs =
    true) (hout : sc.out = true) (hmemsys : sc.memsys = true) (hdma : sc.dma = true) : KeepsO sc s0 (execBceForceRelease b f s)
    := by
  unfold execBceForceRelease
  repeat' (with_reducible first | assumption | apply keeps_bceForce | apply keepsO_next)

theorem keeps_bceSem (s : State) (b : Nat) (f : Nat) (w : Word) (h : Keeps sc s0 s) (hmem : sc.mem = true) (hregs : sc.regs =
    true) (hout : sc.out = true) (hmemsys : sc.memsys = true) (hdma : sc.dma = true) : Keeps sc s0 (State.bceSem s b f w) := by
  unfold State.bceSem
  repeat' (with_reducible first
      | assumption
      | apply keeps_bceForce
      | apply keeps_bceRelease
      | apply keeps_bceAcquire
      | refine keeps_ite ?_ ?_)

theorem keeps_bceGo (s : State) (b : Nat) (h : Keeps sc s0 s) (hregs : sc.regs = true) (hdma : sc.dma = true) : Keeps sc s0
    (State.bceGo s b) := by
  unfold State.bceGo
  repeat' first
      | (with_reducible first
          | assumption
          | apply keeps_bceStatus
          | apply keeps_setBce
          | refine keeps_ite ?_ ?_
          | apply keeps_foldl
          | intro _)
      | split
      | dsimp only

theorem keeps_bceCtrl (s : State) (b : Nat) (f : Nat) (w : Word) (h : Keeps sc s0 s) (hregs : sc.regs = true) (hout : sc.out =
    true) (hdma : sc.dma = true) : Keeps sc s0 (State.bceCtrl s b f w) := by
  unfold State.bceCtrl
  repeat' (with_reducible first
      | assumption
      | apply keeps_bceNotHeld
      | apply keeps_wrn
      | apply keeps_bceGo
      | refine keeps_ite ?_ ?_)

theorem keeps_execBceGo (b : Nat) (f : Nat) (w : Word) (s : State) (h : Keeps sc s0 s) (hregs : sc.regs = true) (hout : sc.out
    = true) (hdma : sc.dma = true) : KeepsO sc s0 (execBceGo b f w s) := by
  unfold execBceGo
  repeat' (with_reducible first | assumption | apply keeps_bceCtrl | apply keepsO_next)

theorem keeps_bceReg_ (s : State) (b : Nat) (f : Nat) (o : Nat) (w : Word) (h : Keeps sc s0 s) (hregs : sc.regs = true) (hout :
    sc.out = true) : Keeps sc s0 (State.bceReg_ s b f o w) := by
  unfold State.bceReg_
  repeat' (with_reducible first
      | assumption
      | apply keeps_bceNotHeld
      | apply keeps_setFld
      | apply keeps_wrn
      | refine keeps_ite ?_ ?_)

theorem keeps_bceEnd (s : State) (b : Nat) (result : Nat) (left : Nat) (h : Keeps sc s0 s) (hregs : sc.regs = true) (hout :
    sc.out = true) (hdma : sc.dma = true) : Keeps sc s0 (State.bceEnd s b result left) := by
  unfold State.bceEnd
  repeat' (with_reducible first | assumption | apply keeps_setBce | apply keeps_bceStatus | apply keeps_irq)

theorem BceOp.wf_writeLines (x : BceOp) (old : Mem) (l : List Nat) : ∀ m : Mem, Mem.wf m = true → Mem.wf (x.writeLines old m l)
    = true := by
  induction l with
  | nil => exact fun _ h => h
  | cons y l ih => exact fun m h => ih _ (Mem.wf_puts _ _ _ h)
theorem keeps_bceComplete (s : State) (b : Nat) (target : Option (Nat × Nat))
    (h : Keeps sc s0 s) (hclk : sc.clk = true) (hmem : sc.mem = true) (hregs : sc.regs = true) (hout : sc.out = true) (hdma :
        sc.dma = true) : Keeps sc s0 (State.bceComplete s b target) := by
  unfold State.bceComplete
  repeat' first
    | (with_reducible first
        | assumption | apply keeps_runTo | apply keeps_freeLine | apply keeps_bceEnd | apply keeps_ev | apply keeps_wr64
        | apply keeps_decodeError | refine keeps_ite ?_ ?_)
    | split
    | (with_reducible apply keeps_upd; with_reducible first | assumption | apply keeps_runTo)
    | (with_reducible first
        | exact Held.refl _ | exact TimeStep.refl _ | exact ImgStep.refl _ | exact UnitStep.refl _ _)
    | exact MemStep.write hmem (BceOp.wf_writeLines _ _ _ _)
    | dsimp only

theorem keeps_execBceComplete (b : Nat) (target : Option (Nat × Nat)) (s : State) (h : Keeps sc s0 s) (hclk : sc.clk = true)
    (hmem : sc.mem = true) (hregs : sc.regs = true) (hout : sc.out = true) (hdma : sc.dma = true) : KeepsO sc s0
    (execBceComplete b target s) := by
  unfold execBceComplete
  repeat' (with_reducible first | assumption | apply keeps_bceComplete | apply keepsO_next)

/-! ### Check -/

theorem keeps_setChk (s : State) (u : Nat) (x : CheckUnit) (h : Keeps sc s0 s) (hdma : sc.dma = true) : Keeps sc s0
    (State.setChk s u x) := by
  unfold State.setChk
  exact keeps_put_dma hdma h

theorem keeps_aliveCheck (s : State) (u : Nat) (h : Keeps sc s0 s) (hregs : sc.regs = true) (hout : sc.out = true) (hdma :
    sc.dma = true) : Keeps sc s0 (State.aliveCheck s u) := by
  unfold State.aliveCheck
  repeat' first
      | (with_reducible first
          | assumption
          | apply keeps_ev
          | apply keeps_setChk
          | apply keeps_setFld
          | refine keeps_ite ?_ ?_
          | apply keeps_foldl
          | intro _)
      | split
      | dsimp only

theorem keeps_chkEnd (s : State) (u : Nat) (h : Keeps sc s0 s) (hregs : sc.regs = true) (hout : sc.out = true) (hdma : sc.dma =
    true) : Keeps sc s0 (State.chkEnd s u) := by
  unfold State.chkEnd
  repeat' (with_reducible first | assumption | apply keeps_aliveCheck | apply keeps_setChk)

theorem keeps_chkByte (s : State) (u : Nat) (b : Byte) (h : Keeps sc s0 s) (hregs : sc.regs = true) (hout : sc.out = true)
    (hdma : sc.dma = true) : Keeps sc s0 (State.chkByte s u b) := by
  unfold State.chkByte
  repeat' (with_reducible first | assumption | apply keeps_setChk | apply keeps_chkEnd | refine keeps_ite ?_ ?_)

theorem keeps_chkBytes (s : State) (u : Nat) (b : Bytes) (h : Keeps sc s0 s) (hregs : sc.regs = true) (hout : sc.out = true)
    (hdma : sc.dma = true) : Keeps sc s0 (State.chkBytes s u b) := by
  unfold State.chkBytes
  repeat' first
      | (with_reducible first
          | assumption
          | apply keeps_chkByte
          | refine keeps_ite ?_ ?_
          | apply keeps_foldl
          | intro _)
      | split
      | dsimp only

theorem keeps_chkRestart (s : State) (u : Nat) (h : Keeps sc s0 s) (hdma : sc.dma = true) : Keeps sc s0 (State.chkRestart s u)
    := by
  unfold State.chkRestart
  repeat' (with_reducible first | assumption | apply keeps_setChk)

theorem keeps_chkWrite (s : State) (u : Nat) (k : State → State) (hk : ∀ s, Keeps sc s0 s → Keeps sc s0 (k s)) (h : Keeps sc s0
    s) : Keeps sc s0 (State.chkWrite s u k) := by
  unfold State.chkWrite
  repeat' (with_reducible first | assumption | apply hk | refine keeps_ite ?_ ?_)

theorem keeps_chkDataW (s : State) (u : Nat) (w : Word) (h : Keeps sc s0 s) (hregs : sc.regs = true) (hout : sc.out = true)
    (hdma : sc.dma = true) : Keeps sc s0 (State.chkDataW s u w) := by
  unfold State.chkDataW
  repeat' first
      | (with_reducible first
          | assumption
          | apply keeps_chkWrite
          | apply keeps_chkBytes
          | refine keeps_ite ?_ ?_
          | apply keeps_foldl
          | intro _)
      | split
      | dsimp only

theorem keeps_chkDataB (s : State) (u : Nat) (w : Word) (h : Keeps sc s0 s) (hregs : sc.regs = true) (hout : sc.out = true)
    (hdma : sc.dma = true) : Keeps sc s0 (State.chkDataB s u w) := by
  unfold State.chkDataB
  repeat' first
      | (with_reducible first
          | assumption
          | apply keeps_chkWrite
          | apply keeps_chkByte
          | refine keeps_ite ?_ ?_
          | apply keeps_foldl
          | intro _)
      | split
      | dsimp only

theorem keeps_chkMsgEnd (s : State) (u : Nat) (h : Keeps sc s0 s) (hregs : sc.regs = true) (hout : sc.out = true) (hdma :
    sc.dma = true) : Keeps sc s0 (State.chkMsgEnd s u) := by
  unfold State.chkMsgEnd
  repeat' first
      | (with_reducible first
          | assumption
          | apply keeps_chkWrite
          | apply keeps_chkEnd
          | refine keeps_ite ?_ ?_
          | apply keeps_foldl
          | intro _)
      | split
      | dsimp only

theorem keeps_chkDoRestart (s : State) (u : Nat) (h : Keeps sc s0 s) (hdma : sc.dma = true) : Keeps sc s0 (State.chkDoRestart s
    u) := by
  unfold State.chkDoRestart
  repeat' first
      | (with_reducible first
          | assumption
          | apply keeps_chkWrite
          | apply keeps_chkRestart
          | refine keeps_ite ?_ ?_
          | apply keeps_foldl
          | intro _)
      | split
      | dsimp only

theorem keeps_chkRun (s : State) (u : Nat) (hi : Bool) (w : Word) (h : Keeps sc s0 s) (hdma : sc.dma = true) : Keeps sc s0
    (State.chkRun s u hi w) := by
  unfold State.chkRun
  repeat' first
      | (with_reducible first
          | assumption
          | apply keeps_chkWrite
          | apply keeps_setChk
          | refine keeps_ite ?_ ?_
          | apply keeps_foldl
          | intro _)
      | split
      | dsimp only

theorem keeps_chkAliveCfg (s : State) (u : Nat) (w : Word) (h : Keeps sc s0 s) (hregs : sc.regs = true) (hdma : sc.dma = true)
    : Keeps sc s0 (State.chkAliveCfg s u w) := by
  unfold State.chkAliveCfg
  repeat' first
      | (with_reducible first
          | assumption
          | apply keeps_chkWrite
          | apply keeps_setChk
          | apply keeps_wrn
          | refine keeps_ite ?_ ?_
          | apply keeps_foldl
          | intro _)
      | split
      | dsimp only

theorem keeps_chkCfg (s : State) (u : Nat) (w : Word) (h : Keeps sc s0 s) (hregs : sc.regs = true) : Keeps sc s0 (State.chkCfg
    s u w) := by
  unfold State.chkCfg
  repeat' first
      | (with_reducible first
          | assumption
          | apply keeps_chkWrite
          | apply keeps_wrn
          | refine keeps_ite ?_ ?_
          | apply keeps_foldl
          | intro _)
      | split
      | dsimp only

theorem keeps_chkOwner (s : State) (u : Nat) (w : Word) (h : Keeps sc s0 s) (hdma : sc.dma = true) : Keeps sc s0
    (State.chkOwner s u w) := by
  unfold State.chkOwner
  repeat' first
      | (with_reducible first
          | assumption
          | apply keeps_chkWrite
          | apply keeps_setChk
          | refine keeps_ite ?_ ?_
          | apply keeps_foldl
          | intro _)
      | split
      | dsimp only

theorem keeps_chkReset (s : State) (u : Nat) (h : Keeps sc s0 s) (hdma : sc.dma = true) : Keeps sc s0 (State.chkReset s u) := by
  unfold State.chkReset
  repeat' (with_reducible first | assumption | apply keeps_setChk)

theorem keeps_execChkDataW (u : Nat) (w : Word) (s : State) (h : Keeps sc s0 s) (hregs : sc.regs = true) (hout : sc.out = true)
    (hdma : sc.dma = true) : KeepsO sc s0 (execChkDataW u w s) := by
  unfold execChkDataW
  repeat' (with_reducible first | assumption | apply keeps_chkDataW | apply keepsO_next)

theorem keeps_execChkDataB (u : Nat) (w : Word) (s : State) (h : Keeps sc s0 s) (hregs : sc.regs = true) (hout : sc.out = true)
    (hdma : sc.dma = true) : KeepsO sc s0 (execChkDataB u w s) := by
  unfold execChkDataB
  repeat' (with_reducible first | assumption | apply keeps_chkDataB | apply keepsO_next)

theorem keeps_execChkMsgEnd (u : Nat) (s : State) (h : Keeps sc s0 s) (hregs : sc.regs = true) (hout : sc.out = true) (hdma :
    sc.dma = true) : KeepsO sc s0 (execChkMsgEnd u s) := by
  unfold execChkMsgEnd
  repeat' (with_reducible first | assumption | apply keeps_chkMsgEnd | apply keepsO_next)

theorem keeps_execChkRestart (u : Nat) (s : State) (h : Keeps sc s0 s) (hdma : sc.dma = true) : KeepsO sc s0 (execChkRestart u
    s) := by
  unfold execChkRestart
  repeat' (with_reducible first | assumption | apply keeps_chkDoRestart | apply keepsO_next)

theorem keeps_execChkRunWrite (u : Nat) (hi : Bool) (w : Word) (s : State) (h : Keeps sc s0 s) (hdma : sc.dma = true) : KeepsO
    sc s0 (execChkRunWrite u hi w s) := by
  unfold execChkRunWrite
  repeat' (with_reducible first | assumption | apply keeps_chkRun | apply keepsO_next)

theorem keeps_execChkAliveCfgWrite (u : Nat) (w : Word) (s : State) (h : Keeps sc s0 s) (hregs : sc.regs = true) (hdma : sc.dma
    = true) : KeepsO sc s0 (execChkAliveCfgWrite u w s) := by
  unfold execChkAliveCfgWrite
  repeat' (with_reducible first | assumption | apply keeps_chkAliveCfg | apply keepsO_next)

theorem keeps_execChkOwnerWrite (u : Nat) (w : Word) (s : State) (h : Keeps sc s0 s) (hdma : sc.dma = true) : KeepsO sc s0
    (execChkOwnerWrite u w s) := by
  unfold execChkOwnerWrite
  repeat' (with_reducible first | assumption | apply keeps_chkOwner | apply keepsO_next)

theorem keeps_chkPort (s : State) (master : Nat) (u : Nat) (f : Nat) (b : Bytes) (h : Keeps sc s0 s) (hregs : sc.regs = true)
    (hout : sc.out = true) (hdma : sc.dma = true) : Keeps sc s0 (State.chkPort s master u f b) := by
  unfold State.chkPort
  repeat' (with_reducible first | assumption | apply keeps_decodeError | apply keeps_chkBytes | refine keeps_ite ?_ ?_)

theorem keeps_execChkPortWrite (u : Nat) (f : Nat) (b : Bytes) (s : State) (h : Keeps sc s0 s) (hregs : sc.regs = true) (hout :
    sc.out = true) (hdma : sc.dma = true) : KeepsO sc s0 (execChkPortWrite u f b s) := by
  unfold execChkPortWrite
  repeat' (with_reducible first | assumption | apply keeps_chkPort | apply keepsO_next)

/-! ### Bands -/

theorem keeps_updBuf (s : State) (k : Nat) (f : Buffer → Buffer) (h : Keeps sc s0 s) (hcourses : sc.courses = true) : Keeps sc
    s0 (State.updBuf s k f) := by
  unfold State.updBuf
  exact keeps_put_courses hcourses h

/-! ### Pace -/

theorem keeps_setStage (s : State) (x : Stage) (r : StageRun) (h : Keeps sc s0 s) (hcourses : sc.courses = true) : Keeps sc s0
    (State.setStage s x r) := by
  unfold State.setStage
  exact keeps_put_courses hcourses h

theorem keeps_paceDom (s : State) (d : Nat) (h : Keeps sc s0 s) (hweir : sc.weir = true) : Keeps sc s0 (State.paceDom s d) := by
  unfold State.paceDom
  repeat' (with_reducible first | assumption | apply keeps_setDom | refine keeps_ite ?_ ?_)

theorem keeps_pace (s : State) (h : Keeps sc s0 s) (hweir : sc.weir = true) : Keeps sc s0 (State.pace s) := by
  unfold State.pace
  repeat' first
      | (with_reducible first
          | assumption
          | apply keeps_paceDom
          | refine keeps_ite ?_ ?_
          | apply keeps_foldl
          | intro _)
      | split
      | dsimp only

/-! ### Mere -/

theorem keeps_setLayer (s : State) (c : Nat) (l : Nat) (y : Layer) (h : Keeps sc s0 s) (hcourses : sc.courses = true) : Keeps
    sc s0 (State.setLayer s c l y) := by
  unfold State.setLayer
  exact keeps_put_courses hcourses h

theorem keeps_evMere (s : State) (c : Nat) (code : Nat) (detail : Nat) (h : Keeps sc s0 s) (hout : sc.out = true) : Keeps sc s0
    (State.evMere s c code detail) := by
  unfold State.evMere
  repeat' (with_reducible first | assumption | apply keeps_evC)

theorem keeps_mereStart (s : State) (c : Nat) (h : Keeps sc s0 s) (hcourses : sc.courses = true) : Keeps sc s0 (State.mereStart
    s c) := by
  unfold State.mereStart
  repeat' (with_reducible first | assumption | apply keeps_setStage | refine keeps_ite ?_ ?_)

theorem keeps_cascadeStart (s : State) (c : Nat) (k : Nat) (h : Keeps sc s0 s) (hclk : sc.clk = true) (hcourses : sc.courses =
    true) : Keeps sc s0 (State.cascadeStart s c k) := by
  unfold State.cascadeStart
  repeat' (with_reducible first | assumption | apply keeps_runTo | apply keeps_setStage | refine keeps_ite ?_ ?_)

theorem keeps_surfaceFaults (s : State) (c : Nat) (faults : List (Nat × Nat)) (last : Bool) (h : Keeps sc s0 s) (hregs :
    sc.regs = true) (hout : sc.out = true) (hcourses : sc.courses = true) : Keeps sc s0 (State.surfaceFaults s c faults last)
    := by
  unfold State.surfaceFaults
  repeat' first
      | (with_reducible first
          | assumption
          | apply keeps_inc
          | apply keeps_setLayer
          | apply keeps_evMere
          | refine keeps_ite ?_ ?_
          | apply keeps_foldl
          | intro _)
      | split
      | dsimp only

theorem keeps_mereBandDone (s : State) (c : Nat) (faults : List Nat) (h : Keeps sc s0 s) (hclk : sc.clk = true) (hregs
    : sc.regs = true) (hout : sc.out = true) (hweir : sc.weir = true) (hcourses : sc.courses = true) : Keeps sc s0
    (State.mereBandDone s c faults) := by
  unfold State.mereBandDone
  repeat' (with_reducible first
      | assumption
      | apply keeps_runTo
      | apply keeps_updBuf
      | apply keeps_setStage
      | apply keeps_pace
      | apply keeps_surfaceFaults
      | refine keeps_ite ?_ ?_)

theorem keeps_cascadeBandDone (s : State) (c : Nat) (g : Nat) (h : Keeps sc s0 s) (hclk : sc.clk = true) (hweir : sc.weir =
    true) (hcourses : sc.courses = true) : Keeps sc s0 (State.cascadeBandDone s c g) := by
  unfold State.cascadeBandDone
  repeat' first
      | (with_reducible first
          | assumption
          | apply keeps_runTo
          | apply keeps_pace
          | apply keeps_updBuf
          | refine keeps_ite ?_ ?_
          | apply keeps_foldl
          | intro _)
      | split
      | dsimp only

theorem keeps_freezePicture (s : State) (buf : Nat) (src : Nat) (c : Nat) (bands : List Nat) (h : Keeps sc s0 s) (hout : sc.out
    = true) (hcourses : sc.courses = true) : Keeps sc s0 (State.freezePicture s buf src c bands) := by
  unfold State.freezePicture
  repeat' (with_reducible first | assumption | apply keeps_evC | apply keeps_updBuf | refine keeps_ite ?_ ?_)

theorem keeps_freezeMere (s : State) (c : Nat) (h : Keeps sc s0 s) (hout : sc.out = true) (hcourses : sc.courses = true) :
    Keeps sc s0 (State.freezeMere s c) := by
  unfold State.freezeMere
  repeat' (with_reducible first | assumption | apply keeps_freezePicture | apply keeps_setStage | refine keeps_ite ?_ ?_)

theorem keeps_freezeCascade (s : State) (c : Nat) (k : Nat) (h : Keeps sc s0 s) (hout : sc.out = true) (hcourses : sc.courses =
    true) : Keeps sc s0 (State.freezeCascade s c k) := by
  unfold State.freezeCascade
  repeat' first
      | (with_reducible first
          | assumption
          | apply keeps_freezePicture
          | apply keeps_setStage
          | refine keeps_ite ?_ ?_
          | apply keeps_foldl
          | intro _)
      | split
      | dsimp only

theorem keeps_latchLayer (s : State) (r : LayerRec) (limit : Nat) (h : Keeps sc s0 s) (hregs : sc.regs = true) (hout : sc.out =
    true) (hcourses : sc.courses = true) : Keeps sc s0 (State.latchLayer s r limit) := by
  unfold State.latchLayer
  repeat' first
      | (with_reducible first
          | assumption
          | apply keeps_setLayer
          | apply keeps_evMere
          | apply keeps_limitedBy
          | apply keeps_inc
          | refine keeps_ite ?_ ?_
          | apply keeps_foldl
          | intro _)
      | split
      | dsimp only

theorem keeps_latchLayers (s : State) (c : Nat) (limit : Nat) (h : Keeps sc s0 s) (hregs : sc.regs = true) (hout : sc.out =
    true) (hcourses : sc.courses = true) : Keeps sc s0 (State.latchLayers s c limit) := by
  unfold State.latchLayers
  repeat' first
      | (with_reducible first
          | assumption
          | apply keeps_latchLayer
          | refine keeps_ite ?_ ?_
          | apply keeps_foldl
          | intro _)
      | split
      | dsimp only

theorem keeps_openPictures (s : State) (c : Nat) (h : Keeps sc s0 s) (hcourses : sc.courses = true) : Keeps sc s0
    (State.openPictures s c) := by
  unfold State.openPictures
  repeat' first
      | (with_reducible first
          | assumption
          | apply keeps_updBuf
          | apply keeps_setStage
          | refine keeps_ite ?_ ?_
          | apply keeps_foldl)
      | split
      | (with_reducible apply keeps_put_courses hcourses; (with_reducible first
          | assumption
          | apply keeps_updBuf
          | apply keeps_setStage
          | apply keeps_foldl
          | split))
      | intro _
      | dsimp only

theorem keeps_hinPost (s : State) (c : Nat) (k : Nat) (w : Word) (h : Keeps sc s0 s) (hregs : sc.regs = true) (hcourses :
    sc.courses = true) : Keeps sc s0 (State.hinPost s c k w) := by
  unfold State.hinPost
  repeat' first
      | (with_reducible first
          | assumption
          | apply keeps_updBuf
          | apply keeps_inc
          | refine keeps_ite ?_ ?_
          | apply keeps_foldl)
      | split
      | (with_reducible apply keeps_put_courses hcourses; (with_reducible first
          | assumption
          | apply keeps_updBuf
          | apply keeps_inc
          | apply keeps_foldl
          | split))
      | intro _
      | dsimp only

theorem keeps_execHinPost (c : Nat) (k : Nat) (w : Word) (s : State) (h : Keeps sc s0 s) (hregs : sc.regs = true) (hweir :
    sc.weir = true) (hcourses : sc.courses = true) : KeepsO sc s0 (execHinPost c k w s) := by
  unfold execHinPost
  repeat' (with_reducible first | assumption | apply keeps_pace | apply keeps_hinPost | apply keepsO_next)

theorem keeps_hinRefresh (s : State) (c : Nat) (h : Keeps sc s0 s) (hcourses : sc.courses = true) : Keeps sc s0
    (State.hinRefresh s c) := by
  unfold State.hinRefresh
  repeat' first
      | (with_reducible first
          | assumption
          | refine keeps_ite ?_ ?_
          | apply keeps_foldl)
      | split
      | (with_reducible apply keeps_put_courses hcourses; (with_reducible first
          | assumption
          | apply keeps_foldl
          | split))
      | intro _
      | dsimp only

theorem keeps_setLut (s : State) (c : Nat) (l : Nat) (u : Lut) (h : Keeps sc s0 s) (hcourses : sc.courses = true) : Keeps sc s0
    (State.setLut s c l u) := by
  unfold State.setLut
  repeat' first
      | (with_reducible first
          | assumption
          | apply keeps_setLayer
          | refine keeps_ite ?_ ?_
          | apply keeps_foldl)
      | split
      | (with_reducible apply keeps_put_courses hcourses; (with_reducible first
          | assumption
          | apply keeps_setLayer
          | apply keeps_foldl
          | split))
      | intro _
      | dsimp only

theorem keeps_lutLoad (s : State) (c : Nat) (l : Nat) (w : Word) (h : Keeps sc s0 s) (hout : sc.out = true) (hcourses :
    sc.courses = true) : Keeps sc s0 (State.lutLoad s c l w) := by
  unfold State.lutLoad
  repeat' (with_reducible first | assumption | apply keeps_evMere | apply keeps_setLut | refine keeps_ite ?_ ?_)

theorem keeps_execLutLoad (c : Nat) (l : Nat) (w : Word) (s : State) (h : Keeps sc s0 s) (hout : sc.out = true) (hcourses :
    sc.courses = true) : KeepsO sc s0 (execLutLoad c l w s) := by
  unfold execLutLoad
  repeat' (with_reducible first | assumption | apply keeps_lutLoad | apply keepsO_next)

theorem keeps_execLutFetchDone (c : Nat) (l : Nat) (s : State) (h : Keeps sc s0 s) (hregs : sc.regs = true) (hout : sc.out =
    true) (hcourses : sc.courses = true) : KeepsO sc s0 (execLutFetchDone c l s) := by
  unfold execLutFetchDone
  repeat' first
      | (with_reducible first
          | assumption
          | apply keeps_setLut
          | apply keeps_evMere
          | apply keeps_decodeError
          | apply keepsO_next
          | refine keeps_ite ?_ ?_
          | apply keeps_foldl
          | intro _)
      | split
      | dsimp only

theorem keeps_lutsMap (s : State) (c : Nat) (f : Lut → Lut) (h : Keeps sc s0 s) (hcourses : sc.courses = true) : Keeps sc s0
    (State.lutsMap s c f) := by
  unfold State.lutsMap
  repeat' first
      | (with_reducible first
          | assumption
          | apply keeps_setLayer
          | refine keeps_ite ?_ ?_
          | apply keeps_foldl)
      | split
      | (with_reducible apply keeps_put_courses hcourses; (with_reducible first
          | assumption
          | apply keeps_setLayer
          | apply keeps_foldl
          | split))
      | intro _
      | dsimp only

theorem keeps_setProt (s : State) (c : Nat) (p : Prot) (h : Keeps sc s0 s) (hcourses : sc.courses = true) : Keeps sc s0
    (State.setProt s c p) := by
  unfold State.setProt
  exact keeps_put_courses hcourses h

theorem keeps_protFail (s : State) (c : Nat) (value : Nat) (h : Keeps sc s0 s) (hout : sc.out = true) (hcourses : sc.courses =
    true) : Keeps sc s0 (State.protFail s c value) := by
  unfold State.protFail
  repeat' (with_reducible first | assumption | apply keeps_setProt | apply keeps_evMere | refine keeps_ite ?_ ?_)

theorem keeps_execProtCheckDone (c : Nat) (s : State) (h : Keeps sc s0 s) (hout : sc.out = true) (hcourses : sc.courses = true)
    (hdma : sc.dma = true) : KeepsO sc s0 (execProtCheckDone c s) := by
  unfold execProtCheckDone
  repeat' (with_reducible first
      | assumption
      | apply keeps_setChk
      | apply keeps_setProt
      | apply keeps_protFail
      | apply keepsO_next
      | refine keeps_ite ?_ ?_)

theorem keeps_protDeadline (s : State) (c : Nat) (h : Keeps sc s0 s) (hout : sc.out = true) (hcourses : sc.courses = true) :
    Keeps sc s0 (State.protDeadline s c) := by
  unfold State.protDeadline
  repeat' (with_reducible first | assumption | apply keeps_protFail | refine keeps_ite ?_ ?_)

theorem keeps_protOpen (s : State) (c : Nat) (h : Keeps sc s0 s) (hout : sc.out = true) (hcourses : sc.courses = true) : Keeps
    sc s0 (State.protOpen s c) := by
  unfold State.protOpen
  repeat' (with_reducible first | assumption | apply keeps_setProt | apply keeps_evMere | refine keeps_ite ?_ ?_)

theorem keeps_protWrite (s : State) (f : Nat) (n : Nat) (c : Nat) (o : Nat) (w : Word) (h : Keeps sc s0 s) (hregs : sc.regs =
    true) (hout : sc.out = true) : Keeps sc s0 (State.protWrite s f n c o w) := by
  unfold State.protWrite
  repeat' first
      | (with_reducible first
          | assumption
          | apply keeps_evC
          | apply keeps_weirWrite
          | apply keeps_wr
          | apply keeps_wrn
          | refine keeps_ite ?_ ?_
          | apply keeps_foldl
          | intro _)
      | split
      | dsimp only

theorem keeps_execProtRegWrite (f : Nat) (n : Nat) (c : Nat) (o : Nat) (w : Word) (s : State) (h : Keeps sc s0 s) (hregs :
    sc.regs = true) (hout : sc.out = true) : KeepsO sc s0 (execProtRegWrite f n c o w s) := by
  unfold execProtRegWrite
  repeat' (with_reducible first | assumption | apply keeps_protWrite | apply keepsO_next)

theorem keeps_protReset (s : State) (c : Nat) (h : Keeps sc s0 s) (hregs : sc.regs = true) (hcourses : sc.courses = true) (hdma
    : sc.dma = true) : Keeps sc s0 (State.protReset s c) := by
  unfold State.protReset
  repeat' first
      | (with_reducible first
          | assumption
          | apply keeps_wr64
          | apply keeps_wrn
          | apply keeps_setProt
          | apply keeps_setChk
          | refine keeps_ite ?_ ?_
          | apply keeps_foldl)
      | split
      | (with_reducible apply keeps_put_courses hcourses; (with_reducible first
          | assumption
          | apply keeps_wr64
          | apply keeps_wrn
          | apply keeps_setProt
          | apply keeps_setChk
          | apply keeps_foldl
          | split))
      | intro _
      | dsimp only

theorem keeps_layerIdentity (s : State) (c : Nat) (l : Nat) (h : Keeps sc s0 s) (hregs : sc.regs = true) : Keeps sc s0
    (State.layerIdentity s c l) := by
  unfold State.layerIdentity
  repeat' first
      | (with_reducible first
          | assumption
          | apply keeps_wrBoth
          | refine keeps_ite ?_ ?_
          | apply keeps_foldl
          | intro _)
      | split
      | dsimp only

/-! ### Headwater -/

theorem keeps_setHead (s : State) (c : Nat) (h_ : CourseHw) (h : Keeps sc s0 s) (hcourses : sc.courses = true) : Keeps sc s0
    (State.setHead s c h_) := by
  unfold State.setHead
  exact keeps_put_courses hcourses h

theorem keeps_hwRestart (s : State) (c : Nat) (cause : Nat) (h : Keeps sc s0 s) (hregs : sc.regs = true) (hout : sc.out = true)
    (hcourses : sc.courses = true) : Keeps sc s0 (State.hwRestart s c cause) := by
  unfold State.hwRestart
  repeat' (with_reducible first | assumption | apply keeps_inc | apply keeps_setHead | apply keeps_evC)

theorem keeps_hwPictureEnd (s : State) (c : Nat) (h : Keeps sc s0 s) (hcourses : sc.courses = true) : Keeps sc s0
    (State.hwPictureEnd s c) := by
  unfold State.hwPictureEnd
  repeat' (with_reducible first | assumption | apply keeps_setHead | refine keeps_ite ?_ ?_)

theorem keeps_hwShareEnd (s : State) (c : Nat) (u : Nat) (h : Keeps sc s0 s) (hout : sc.out = true) (hcourses : sc.courses =
    true) : Keeps sc s0 (State.hwShareEnd s c u) := by
  unfold State.hwShareEnd
  repeat' (with_reducible first | assumption | apply keeps_setHead | apply keeps_evC | refine keeps_ite ?_ ?_)

theorem keeps_headwaterStart (s : State) (c : Nat) (u : Nat) (h : Keeps sc s0 s) (hcourses : sc.courses = true) : Keeps sc s0
    (State.headwaterStart s c u) := by
  unfold State.headwaterStart
  repeat' (with_reducible first | assumption | apply keeps_setStage | refine keeps_ite ?_ ?_)

theorem keeps_hwCut (s : State) (c : Nat) (u : Nat) (scene : Nat) (h : Keeps sc s0 s) (hregs : sc.regs = true) (hout : sc.out =
    true) (hcourses : sc.courses = true) : Keeps sc s0 (State.hwCut s c u scene) := by
  unfold State.hwCut
  repeat' (with_reducible first | assumption | apply keeps_setHead | apply keeps_inc | apply keeps_evC | refine keeps_ite ?_ ?_)

theorem keeps_hwWriteBand (s : State) (c : Nat) (u : Nat) (band : Nat) (h : Keeps sc s0 s) (hregs :
    sc.regs = true) (hcourses : sc.courses = true) : Keeps sc s0 (State.hwWriteBand s c u band) := by
  unfold State.hwWriteBand
  repeat' (with_reducible first | assumption | apply keeps_inc | apply keeps_setHead | apply keeps_updBuf)

theorem keeps_freezeHeadwater (s : State) (c : Nat) (u : Nat) (h : Keeps sc s0 s) (hout : sc.out = true) (hcourses : sc.courses
    = true) : Keeps sc s0 (State.freezeHeadwater s c u) := by
  unfold State.freezeHeadwater
  repeat' (with_reducible first
      | assumption
      | apply keeps_freezePicture
      | apply keeps_setStage
      | apply keeps_hwPictureEnd
      | apply keeps_hwShareEnd
      | refine keeps_ite ?_ ?_)

theorem keeps_hwOpen (s : State) (c : Nat) (h : Keeps sc s0 s) (hcourses : sc.courses = true) : Keeps sc s0 (State.hwOpen s c)
    := by
  unfold State.hwOpen
  repeat' (with_reducible first | assumption | apply keeps_setHead)

/-! ### Ras -/

theorem keeps_rasPins (s : State) (t : State) (h : Keeps sc s0 t) (hout : sc.out = true) : Keeps sc s0 (s.rasPins t) := by
  unfold State.rasPins
  repeat' first | with_reducible assumption | with_reducible apply keeps_emit | split | dsimp only

theorem keeps_alert (s : State) (b : Nat) (h : Keeps sc s0 s) (hregs : sc.regs = true) (hout : sc.out = true) : Keeps sc s0
    (State.alert s b) := by
  unfold State.alert
  repeat' (with_reducible first | assumption | apply keeps_rasPins | apply keeps_wrn)

theorem keeps_replace (s : State) (b : Nat) (inj : Bool) (h : Keeps sc s0 s) (hregs : sc.regs = true) (hout : sc.out = true) :
    Keeps sc s0 (State.replace s b inj) := by
  unfold State.replace
  repeat' (with_reducible first
      | assumption
      | apply keeps_wr64
      | apply keeps_ev
      | apply keeps_rasPins
      | apply keeps_alert
      | refine keeps_ite ?_ ?_)

theorem keeps_setRend (s : State) (r : Nat) (x : Rend) (h : Keeps sc s0 s) (hcoders : sc.coders = true) : Keeps sc s0
    (State.setRend s r x) := by
  unfold State.setRend
  exact keeps_put_coders hcoders h

theorem keeps_prospective (s : State) (h : Keeps sc s0 s) (hcoders : sc.coders = true) : Keeps sc s0 (State.prospective s) := by
  unfold State.prospective
  exact keeps_put_coders hcoders h

theorem keeps_admissionRerun (s : State) (h : Keeps sc s0 s) (hout : sc.out = true) (hcoders : sc.coders = true) : Keeps sc s0
    (State.admissionRerun s) := by
  unfold State.admissionRerun
  repeat' (with_reducible first | assumption | apply keeps_prospective | apply keeps_ev | refine keeps_ite ?_ ?_)

/-! ### Sluice -/

theorem keeps_setSlc (s : State) (g : Nat) (x : SluiceChan) (h : Keeps sc s0 s) (hdma : sc.dma = true) : Keeps sc s0
    (State.setSlc s g x) := by
  unfold State.setSlc
  exact keeps_put_dma hdma h

theorem keeps_sluiceWrite (s : State) (f : Nat) (a : Nat) (b : Bytes) (h : Keeps sc s0 s) (hmem : sc.mem = true) (hregs :
    sc.regs = true) (hout : sc.out = true) : Keeps sc s0 (State.sluiceWrite s f a b) := by
  unfold State.sluiceWrite
  repeat' first
      | (with_reducible first
          | assumption
          | apply keeps_hostWr
          | apply keeps_decodeError
          | refine keeps_ite ?_ ?_
          | apply keeps_foldl)
      | split
      | (with_reducible apply keeps_upd; (with_reducible first
          | assumption
          | apply keeps_hostWr
          | apply keeps_decodeError
          | apply keeps_foldl
          | split))
      | (with_reducible first
          | exact Held.refl _
          | exact TimeStep.refl _
          | exact ImgStep.refl _
          | exact UnitStep.refl _ _
          | exact MemStep.refl _
          | exact Held.write hregs
          | exact Held.write hout)
      | (with_reducible refine MemStep.write hmem (Mem.wf_puts _ _ _))
      | (with_reducible refine MemStep.write hmem (Mem.wf_putEnabled _ _ _))
      | intro _
      | dsimp only

theorem keeps_sluiceMissed (s : State) (g : Nat) (h : Keeps sc s0 s) (hregs : sc.regs = true) (hout : sc.out = true) : Keeps sc
    s0 (State.sluiceMissed s g) := by
  unfold State.sluiceMissed
  repeat' first
      | (with_reducible first
          | assumption
          | apply keeps_limited
          | apply keeps_inc
          | apply keeps_ev
          | refine keeps_ite ?_ ?_
          | apply keeps_foldl
          | intro _)
      | split
      | dsimp only

theorem keeps_sluicePost (s : State) (g : Nat) (r : SluiceRec) (h : Keeps sc s0 s) (hmem : sc.mem = true) (hregs : sc.regs =
    true) (hout : sc.out = true) (hdma : sc.dma = true) : Keeps sc s0 (State.sluicePost s g r) := by
  unfold State.sluicePost
  repeat' first
      | (with_reducible first
          | assumption
          | apply keeps_sluiceWrite
          | apply keeps_setSlc
          | apply keeps_ev
          | apply keeps_irq
          | refine keeps_ite ?_ ?_
          | apply keeps_foldl
          | intro _)
      | split
      | dsimp only

theorem keeps_sluiceTrigger (s : State) (g : Nat) (h : Keeps sc s0 s) (hmem : sc.mem = true) (hregs : sc.regs = true) (hout :
    sc.out = true) (hdma : sc.dma = true) : Keeps sc s0 (State.sluiceTrigger s g) := by
  unfold State.sluiceTrigger
  repeat' first
      | (with_reducible first
          | assumption
          | apply keeps_sluiceMissed
          | apply keeps_sluicePost
          | apply keeps_setSlc
          | refine keeps_ite ?_ ?_
          | apply keeps_foldl)
      | split
      | (with_reducible apply keeps_put_dma hdma; (with_reducible first
          | assumption
          | apply keeps_sluiceMissed
          | apply keeps_sluicePost
          | apply keeps_setSlc
          | apply keeps_foldl
          | split))
      | intro _
      | dsimp only

theorem keeps_sluiceTriggerAll (s : State) (p : Nat → Nat → Bool) (h : Keeps sc s0 s) (hmem : sc.mem = true) (hregs : sc.regs =
    true) (hout : sc.out = true) (hdma : sc.dma = true) : Keeps sc s0 (State.sluiceTriggerAll s p) := by
  unfold State.sluiceTriggerAll
  repeat' first
      | (with_reducible first
          | assumption
          | apply keeps_sluiceTrigger
          | refine keeps_ite ?_ ?_
          | apply keeps_foldl
          | intro _)
      | split
      | dsimp only

theorem keeps_sluiceCompare (s : State) (m : Nat) (h : Keeps sc s0 s) (hmem : sc.mem = true) (hregs : sc.regs = true) (hout :
    sc.out = true) (hdma : sc.dma = true) : Keeps sc s0 (State.sluiceCompare s m) := by
  unfold State.sluiceCompare
  repeat' (with_reducible first | assumption | apply keeps_sluiceTriggerAll | refine keeps_ite ?_ ?_)

theorem keeps_sluiceChain (s : State) (f : Nat) (i : Nat) (h : Keeps sc s0 s) (hmem : sc.mem = true) (hregs : sc.regs = true)
    (hout : sc.out = true) (hdma : sc.dma = true) : Keeps sc s0 (State.sluiceChain s f i) := by
  unfold State.sluiceChain
  repeat' first
      | (with_reducible first
          | assumption
          | apply keeps_sluiceTrigger
          | refine keeps_ite ?_ ?_
          | apply keeps_foldl
          | intro _)
      | split
      | dsimp only

theorem keeps_sluiceTimer (s : State) (g : Nat) (h : Keeps sc s0 s) (hclk : sc.clk = true) (hmem : sc.mem = true) (hregs :
    sc.regs = true) (hout : sc.out = true) (hdma : sc.dma = true) : Keeps sc s0 (State.sluiceTimer s g) := by
  unfold State.sluiceTimer
  repeat' (with_reducible first
      | assumption
      | apply keeps_runTo
      | apply keeps_sluiceTrigger
      | apply keeps_setSlc
      | refine keeps_ite ?_ ?_)

theorem keeps_execSluiceTimerTrigger (g : Nat) (s : State) (h : Keeps sc s0 s) (hclk : sc.clk = true) (hmem : sc.mem = true)
    (hregs : sc.regs = true) (hout : sc.out = true) (hdma : sc.dma = true) : KeepsO sc s0 (execSluiceTimerTrigger g s) := by
  unfold execSluiceTimerTrigger
  repeat' (with_reducible first | assumption | apply keeps_sluiceTimer | apply keepsO_next)

theorem keeps_slotGrant (s : State) (slot : Nat) (h : Keeps sc s0 s) (hdma : sc.dma = true) : Keeps sc s0 (State.slotGrant s
    slot) := by
  unfold State.slotGrant
  repeat' first
      | (with_reducible first
          | assumption
          | apply keeps_setSlc
          | refine keeps_ite ?_ ?_
          | apply keeps_foldl
          | intro _)
      | split
      | dsimp only

theorem keeps_execSluiceSlotGrant (slot : Nat) (s : State) (h : Keeps sc s0 s) (hdma : sc.dma = true) : KeepsO sc s0
    (execSluiceSlotGrant slot s) := by
  unfold execSluiceSlotGrant
  repeat' (with_reducible first | assumption | apply keeps_slotGrant | apply keepsO_next)

theorem keeps_statusPost (s : State) (g : Nat) (h : Keeps sc s0 s) (hmem : sc.mem = true) (hregs : sc.regs = true) (hout :
    sc.out = true) (hdma : sc.dma = true) : Keeps sc s0 (State.statusPost s g) := by
  unfold State.statusPost
  repeat' first
      | (with_reducible first
          | assumption
          | apply keeps_setSlc
          | apply keeps_sluicePost
          | apply keeps_sluiceChain
          | refine keeps_ite ?_ ?_
          | apply keeps_foldl
          | intro _)
      | split
      | dsimp only

theorem keeps_execSluiceStatusPost (g : Nat) (s : State) (h : Keeps sc s0 s) (hmem : sc.mem = true) (hregs : sc.regs = true)
    (hout : sc.out = true) (hdma : sc.dma = true) : KeepsO sc s0 (execSluiceStatusPost g s) := by
  unfold execSluiceStatusPost
  repeat' (with_reducible first | assumption | apply keeps_statusPost | apply keepsO_next)

theorem keeps_errorEnd (s : State) (g : Nat) (h : Keeps sc s0 s) (hmem : sc.mem = true) (hregs : sc.regs = true) (hout : sc.out
    = true) (hdma : sc.dma = true) : Keeps sc s0 (State.errorEnd s g) := by
  unfold State.errorEnd
  repeat' first
      | (with_reducible first
          | assumption
          | apply keeps_sluicePost
          | apply keeps_setSlc
          | refine keeps_ite ?_ ?_
          | apply keeps_foldl
          | intro _)
      | split
      | dsimp only

theorem keeps_execSluiceErrorEnd (g : Nat) (s : State) (h : Keeps sc s0 s) (hmem : sc.mem = true) (hregs : sc.regs = true)
    (hout : sc.out = true) (hdma : sc.dma = true) : KeepsO sc s0 (execSluiceErrorEnd g s) := by
  unfold execSluiceErrorEnd
  repeat' (with_reducible first | assumption | apply keeps_errorEnd | apply keepsO_next)

theorem keeps_sluiceDisable (s : State) (g : Nat) (h : Keeps sc s0 s) (hout : sc.out = true) (hmemsys : sc.memsys = true) (hdma
    : sc.dma = true) : Keeps sc s0 (State.sluiceDisable s g) := by
  unfold State.sluiceDisable
  repeat' (with_reducible first | assumption | apply keeps_drawFree | apply keeps_masterReset | apply keeps_setSlc)

theorem keeps_execSluiceDisable (f : Nat) (i : Nat) (s : State) (h : Keeps sc s0 s) (hout : sc.out = true) (hmemsys : sc.memsys
    = true) (hdma : sc.dma = true) : KeepsO sc s0 (execSluiceDisable f i s) := by
  unfold execSluiceDisable
  repeat' first
      | (with_reducible first
          | assumption
          | apply keeps_sluiceDisable
          | apply keepsO_next
          | refine keeps_ite ?_ ?_
          | apply keeps_foldl
          | intro _)
      | split
      | dsimp only

theorem keeps_sluiceStart (s : State) (g : Nat) (h : Keeps sc s0 s) (hmem : sc.mem = true) (hregs : sc.regs = true) (hout :
    sc.out = true) (hdma : sc.dma = true) : Keeps sc s0 (State.sluiceStart s g) := by
  unfold State.sluiceStart
  repeat' (with_reducible first | assumption | apply keeps_sluiceTrigger | refine keeps_ite ?_ ?_)

theorem keeps_execSluiceStart (f : Nat) (i : Nat) (s : State) (h : Keeps sc s0 s) (hmem : sc.mem = true) (hregs : sc.regs =
    true) (hout : sc.out = true) (hdma : sc.dma = true) : KeepsO sc s0 (execSluiceStart f i s) := by
  unfold execSluiceStart
  repeat' first
      | (with_reducible first
          | assumption
          | apply keeps_sluiceStart
          | apply keepsO_next
          | refine keeps_ite ?_ ?_
          | apply keeps_foldl
          | intro _)
      | split
      | dsimp only

theorem keeps_sluiceKill (s : State) (d : Nat) (h : Keeps sc s0 s) (hdma : sc.dma = true) : Keeps sc s0 (State.sluiceKill s d)
    := by
  unfold State.sluiceKill
  exact keeps_put_dma hdma h

theorem keeps_sluiceCut (s : State) (d : Nat) (h : Keeps sc s0 s) (hout : sc.out = true) (hmemsys : sc.memsys = true) (hdma :
    sc.dma = true) : Keeps sc s0 (State.sluiceCut s d) := by
  unfold State.sluiceCut
  repeat' first
      | (with_reducible first
          | assumption
          | apply keeps_ev
          | apply keeps_setSlc
          | apply keeps_sluiceDisable
          | refine keeps_ite ?_ ?_
          | apply keeps_foldl
          | intro _)
      | split
      | dsimp only

theorem keeps_abortRefused (s : State) (g : Nat) (h : Keeps sc s0 s) (hmem : sc.mem = true) (hregs : sc.regs = true) (hout :
    sc.out = true) (hdma : sc.dma = true) : Keeps sc s0 (State.abortRefused s g) := by
  unfold State.abortRefused
  repeat' (with_reducible first | assumption | apply keeps_drawFree | apply keeps_sluicePost | apply keeps_setSlc)

theorem keeps_sluiceAbort (s : State) (g : Nat) (residue : Nat) (h : Keeps sc s0 s) (hmem : sc.mem = true) (hregs : sc.regs =
    true) (hout : sc.out = true) (hdma : sc.dma = true) : Keeps sc s0 (State.sluiceAbort s g residue) := by
  unfold State.sluiceAbort
  repeat' first
      | (with_reducible first
          | assumption
          | apply keeps_abortRefused
          | apply keeps_setSlc
          | refine keeps_ite ?_ ?_
          | apply keeps_foldl
          | intro _)
      | split
      | dsimp only

theorem keeps_descResidue (s : State) (g : Nat) (h : Keeps sc s0 s) (hout : sc.out = true) : Keeps sc s0 (State.descResidue s
    g).2 := by
  unfold State.descResidue
  repeat' first
      | (with_reducible first
          | assumption
          | apply keeps_drawFree
          | refine keeps_ite ?_ ?_
          | apply keeps_foldl
          | intro _)
      | split
      | dsimp only

theorem keeps_sluiceReg_ (s : State) (g : Nat) (o : Nat) (w : Word) (h : Keeps sc s0 s) (hregs : sc.regs = true) (hdma : sc.dma
    = true) : Keeps sc s0 (State.sluiceReg_ s g o w) := by
  unfold State.sluiceReg_
  repeat' (with_reducible first | assumption | apply keeps_wrn | apply keeps_setSlc | refine keeps_ite ?_ ?_)

/-! ### Time -/

theorem keeps_updTime (s : State) (f : TimeUnit → TimeUnit) (h : Keeps sc s0 s) (htime : sc.time = true)
    (hf : ∀ t, t.inRange → (f t).inRange) (hp : ∀ t, (f t).phc = t.phc) : Keeps sc s0 (s.updTime f) :=
  keeps_put_time (TimeStep.of_ops htime (hp _) (hf _)) h

theorem keeps_timeBlocked (s : State) (off : Nat) (h : Keeps sc s0 s) (hout : sc.out = true) : Keeps sc s0 (State.timeBlocked s
    off) := by
  unfold State.timeBlocked
  repeat' (with_reducible first | assumption | apply keeps_ev)

theorem keeps_setLock (s : State) (lock : Nat) (detail : Nat) (h : Keeps sc s0 s) (htime : sc.time = true) (hout : sc.out =
    true) (hcourses : sc.courses = true) : Keeps sc s0 (State.setLock s lock detail) := by
  unfold State.setLock
  repeat' first
      | (with_reducible first
          | assumption
          | apply keeps_updTime
          | apply keeps_ev
          | refine keeps_ite ?_ ?_
          | apply keeps_foldl)
      | split
      | (with_reducible apply keeps_upd; (with_reducible first
          | assumption
          | apply keeps_updTime
          | apply keeps_ev
          | apply keeps_foldl
          | split))
      | (with_reducible first
          | exact Held.refl _
          | exact TimeStep.refl _
          | exact ImgStep.refl _
          | exact UnitStep.refl _ _
          | exact MemStep.refl _
          | exact Held.write hout
          | exact Held.write hcourses)
      | exact TimeStep.of htime rfl rfl
      | exact fun _ => rfl
      | exact fun _ t => TimeUnit.inRange_of rfl rfl t
      | intro _
      | dsimp only

theorem State.loadOp_inRange (s : State) : s.loadOp.inRange := by
  unfold State.loadOp TimeOp.inRange timeInRange
  have h : s.rdn (timeReg 0x028) < 2 ^ 32 := (s.rd (timeReg 0x028)).isLt
  omega
theorem TimeUnit.inRange_ops {x y : TimeUnit} (hp : y.phc = x.phc) (ho : ∀ o ∈ y.ops, o ∈ x.ops ∨ o.inRange) (h : x.inRange) :
    y.inRange := by
  unfold TimeUnit.inRange at *
  rw [hp]
  exact ⟨h.1, fun o m => (ho o m).elim (h.2 o) id⟩
theorem keeps_timeCtrlWrite (s : State) (w : Word) (h : Keeps sc s0 s) (htime : sc.time = true) (hregs : sc.regs = true) (hout
    : sc.out = true) (hcourses : sc.courses = true) : Keeps sc s0 (State.timeCtrlWrite s w) := by
  have hl : ∀ o ∈ (if bit w.toNat 0 then [s.loadOp] else []) ++ (if bit w.toNat 1 then [s.stepOp] else []), o.inRange := by
    intro o m
    rcases List.mem_append.mp m with m | m
    · split at m <;> simp at m
      rw [m]; exact s.loadOp_inRange
    · split at m <;> simp at m
      rw [m]; exact trivial
  unfold State.timeCtrlWrite
  dsimp only
  have hk := keeps_wrn s (timeReg 0x000) (bits w.toNat 7 5 * 2 ^ 5) h hregs
  have ht := State.wrn_time s (timeReg 0x000) (bits w.toNat 7 5 * 2 ^ 5)
  revert hk ht hl
  generalize s.wrn (timeReg 0x000) (bits w.toNat 7 5 * 2 ^ 5) = s1
  generalize (if bit w.toNat 0 then [s.loadOp] else []) ++ (if bit w.toNat 1 then [s.stepOp] else []) = l
  intro hl hk ht
  have hk1 : Keeps sc s0 { s1 with time := { s.time with ops := if s.hostMode = true then s.time.ops ++ l else s.time.ops } }
      := by
    refine keeps_put_time (ht ▸ TimeStep.of_ops htime rfl (TimeUnit.inRange_ops rfl ?_)) hk
    dsimp only
    intro o m
    split at m
    · exact (List.mem_append.mp m).imp id (hl o)
    · exact .inl m
  have hk2 := keeps_ite (c := (!s.hostMode && l != []) = true) (keeps_timeBlocked _ 0x000 hk1 hout) hk1
  exact keeps_ite (keeps_setLock _ _ _ hk2 htime hout hcourses) hk2

theorem keeps_execTimeLoad (w : Word) (s : State) (h : Keeps sc s0 s) (htime : sc.time = true) (hregs : sc.regs = true) (hout :
    sc.out = true) (hcourses : sc.courses = true) : KeepsO sc s0 (execTimeLoad w s) := by
  unfold execTimeLoad
  repeat' (with_reducible first | assumption | apply keeps_timeCtrlWrite | apply keepsO_next)

theorem keeps_execTimeStep (w : Word) (s : State) (h : Keeps sc s0 s) (htime : sc.time = true) (hregs : sc.regs = true) (hout :
    sc.out = true) (hcourses : sc.courses = true) : KeepsO sc s0 (execTimeStep w s) := by
  unfold execTimeStep
  repeat' (with_reducible first | assumption | apply keeps_timeCtrlWrite | apply keepsO_next)

theorem keeps_execTimeServoSelect (w : Word) (s : State) (h : Keeps sc s0 s) (htime : sc.time = true) (hregs : sc.regs = true)
    (hout : sc.out = true) (hcourses : sc.courses = true) : KeepsO sc s0 (execTimeServoSelect w s) := by
  unfold execTimeServoSelect
  repeat' (with_reducible first | assumption | apply keeps_timeCtrlWrite | apply keepsO_next)

theorem keeps_execHostLockSet (w : Word) (s : State) (h : Keeps sc s0 s) (htime : sc.time = true) (hregs : sc.regs = true)
    (hout : sc.out = true) (hcourses : sc.courses = true) : KeepsO sc s0 (execHostLockSet w s) := by
  unfold execHostLockSet
  repeat' (with_reducible first | assumption | apply keeps_timeCtrlWrite | apply keepsO_next)

theorem keeps_raisePins (s : State) (ks : List Nat) (h : Keeps sc s0 s) (htime : sc.time = true) (hout : sc.out = true) : Keeps
    sc s0 (State.raisePins s ks) := by
  unfold State.raisePins
  repeat' first
      | (with_reducible first
          | assumption
          | refine keeps_ite ?_ ?_
          | apply keeps_foldl)
      | split
      | (with_reducible apply keeps_upd; (with_reducible first
          | assumption
          | apply keeps_foldl
          | split))
      | (with_reducible first
          | exact Held.refl _
          | exact TimeStep.refl _
          | exact ImgStep.refl _
          | exact UnitStep.refl _ _
          | exact MemStep.refl _
          | exact Held.write hout)
      | exact TimeStep.of htime rfl rfl
      | exact fun _ => rfl
      | exact fun _ t => TimeUnit.inRange_of rfl rfl t
      | intro _
      | dsimp only

theorem keeps_fireCmp (s : State) (m : Nat) (h : Keeps sc s0 s) (htime : sc.time = true) (hout : sc.out = true) : Keeps sc s0
    (State.fireCmp s m) := by
  unfold State.fireCmp
  repeat' first
      | (with_reducible first
          | assumption
          | apply keeps_raisePins
          | apply keeps_updTime
          | apply keeps_ev
          | refine keeps_ite ?_ ?_
          | apply keeps_foldl)
      | split
      | (with_reducible apply keeps_upd; (with_reducible first
          | assumption
          | apply keeps_raisePins
          | apply keeps_updTime
          | apply keeps_ev
          | apply keeps_foldl
          | split))
      | (with_reducible first
          | exact Held.refl _
          | exact TimeStep.refl _
          | exact ImgStep.refl _
          | exact UnitStep.refl _ _
          | exact MemStep.refl _
          | exact Held.write hout)
      | exact TimeStep.of htime rfl rfl
      | exact fun _ => rfl
      | exact fun _ t => TimeUnit.inRange_of rfl rfl t
      | intro _
      | dsimp only

theorem keeps_execCompareFire (m : Nat) (s : State) (h : Keeps sc s0 s) (hclk : sc.clk = true) (htime : sc.time = true) (hmem :
    sc.mem = true) (hregs : sc.regs = true) (hout : sc.out = true) (hdma : sc.dma = true) : KeepsO sc s0 (execCompareFire m s)
    := by
  unfold execCompareFire
  repeat' (with_reducible first
      | assumption
      | apply keeps_sluiceCompare
      | apply keeps_fireCmp
      | apply keeps_cycles
      | apply keepsO_next
      | refine keeps_ite ?_ ?_)

theorem keeps_cmpTgtLo (s : State) (m : Nat) (w : Word) (h : Keeps sc s0 s) (htime : sc.time = true) : Keeps sc s0
    (State.cmpTgtLo s m w) := by
  unfold State.cmpTgtLo
  repeat' first
      | (with_reducible first
          | assumption
          | apply keeps_updTime
          | refine keeps_ite ?_ ?_
          | apply keeps_foldl)
      | split
      | (with_reducible apply keeps_upd; (with_reducible first
          | assumption
          | apply keeps_updTime
          | apply keeps_foldl
          | split))
      | (with_reducible first
          | exact Held.refl _
          | exact TimeStep.refl _
          | exact ImgStep.refl _
          | exact UnitStep.refl _ _
          | exact MemStep.refl _)
      | exact TimeStep.of htime rfl rfl
      | exact fun _ => rfl
      | exact fun _ t => TimeUnit.inRange_of rfl rfl t
      | intro _
      | dsimp only

theorem keeps_execCmpTgtLoWrite (m : Nat) (w : Word) (s : State) (h : Keeps sc s0 s) (htime : sc.time = true) : KeepsO sc s0
    (execCmpTgtLoWrite m w s) := by
  unfold execCmpTgtLoWrite
  repeat' (with_reducible first | assumption | apply keeps_cmpTgtLo | apply keepsO_next)

theorem keeps_cmpTgtHi (s : State) (m : Nat) (w : Word) (h : Keeps sc s0 s) (htime : sc.time = true) : Keeps sc s0
    (State.cmpTgtHi s m w) := by
  unfold State.cmpTgtHi
  repeat' first
      | (with_reducible first
          | assumption
          | apply keeps_updTime
          | refine keeps_ite ?_ ?_
          | apply keeps_foldl)
      | split
      | (with_reducible apply keeps_upd; (with_reducible first
          | assumption
          | apply keeps_updTime
          | apply keeps_foldl
          | split))
      | (with_reducible first
          | exact Held.refl _
          | exact TimeStep.refl _
          | exact ImgStep.refl _
          | exact UnitStep.refl _ _
          | exact MemStep.refl _)
      | exact TimeStep.of htime rfl rfl
      | exact fun _ => rfl
      | exact fun _ t => TimeUnit.inRange_of rfl rfl t
      | intro _
      | dsimp only

theorem keeps_execCmpTgtHiWrite (m : Nat) (w : Word) (s : State) (h : Keeps sc s0 s) (htime : sc.time = true) : KeepsO sc s0
    (execCmpTgtHiWrite m w s) := by
  unfold execCmpTgtHiWrite
  repeat' (with_reducible first | assumption | apply keeps_cmpTgtHi | apply keepsO_next)

theorem keeps_cmpCtrl (s : State) (m : Nat) (w : Word) (h : Keeps sc s0 s) (htime : sc.time = true) : Keeps sc s0
    (State.cmpCtrl s m w) := by
  unfold State.cmpCtrl
  repeat' first
      | (with_reducible first
          | assumption
          | apply keeps_updTime
          | refine keeps_ite ?_ ?_
          | apply keeps_foldl)
      | split
      | (with_reducible apply keeps_upd; (with_reducible first
          | assumption
          | apply keeps_updTime
          | apply keeps_foldl
          | split))
      | (with_reducible first
          | exact Held.refl _
          | exact TimeStep.refl _
          | exact ImgStep.refl _
          | exact UnitStep.refl _ _
          | exact MemStep.refl _)
      | exact TimeStep.of htime rfl rfl
      | exact fun _ => rfl
      | exact fun _ t => TimeUnit.inRange_of rfl rfl t
      | intro _
      | dsimp only

theorem keeps_execCmpArmedWrite (m : Nat) (w : Word) (s : State) (h : Keeps sc s0 s) (htime : sc.time = true) : KeepsO sc s0
    (execCmpArmedWrite m w s) := by
  unfold execCmpArmedWrite
  repeat' (with_reducible first | assumption | apply keeps_cmpCtrl | apply keepsO_next)

theorem keeps_pinDown {s1 : State} (k : Nat) (ps : Tab TimePin) (h : Keeps sc s0 s1) (htime : sc.time = true) (hout : sc.out =
    true) :
    Keeps sc s0 (State.emit { s1 with time := { s1.time with pins := ps } } (.pin (.timeOut k) false s1.now)) :=
  keeps_emit _ _ (keeps_put_time (TimeStep.of htime rfl rfl) h) hout
theorem keeps_execOutputPulseEnd (k : Nat) (s : State) (h : Keeps sc s0 s) (hclk : sc.clk = true) (htime : sc.time = true)
    (hout : sc.out = true) : KeepsO sc s0 (execOutputPulseEnd k s) := by
  unfold execOutputPulseEnd
  apply keepsO_next
  split
  · have hr := keeps_runTo s (s.time.pins.get k).fall h hclk
    generalize s.runTo (s.time.pins.get k).fall = s1 at *
    exact keeps_pinDown k _ hr htime hout
  · exact h

theorem keeps_applyLoad (s : State) (sec ns : Nat) (h : Keeps sc s0 s) (hclk : sc.clk = true)
    (hr : s0.time.inRange → timeInRange sec ns) : Keeps sc s0 (State.applyLoad s sec ns) := by
  unfold State.applyLoad State.updTime
  exact keeps_phc (n := s.now) hclk (Nat.le_refl _) hr h

theorem keeps_applyStep (s : State) (adj : Int) (h : Keeps sc s0 s) (hclk : sc.clk = true) (hout : sc.out = true) :
    Keeps sc s0 (State.applyStep s adj) := by
  unfold State.applyStep State.updTime
  exact keeps_ev _ _ _ _ (keeps_phc (n := s.now) hclk (Nat.le_refl _) (fun _ => phcOf_inRange _ _) h) hout

theorem keeps_firePassed (s : State) (h : Keeps sc s0 s) (htime : sc.time = true) (hout : sc.out = true) : Keeps sc s0
    (State.firePassed s) := by
  unfold State.firePassed
  repeat' first
      | (with_reducible first
          | assumption
          | apply keeps_fireCmp
          | refine keeps_ite ?_ ?_
          | apply keeps_foldl
          | intro _)
      | split
      | dsimp only

theorem State.ops_of_clock (s : State) (n : Nat) (p : PhcTime) :
    ({ s with now := n, time := { s.time with phc := p } } : State).time.ops = s.time.ops := rfl
theorem State.runTo_ops (s : State) (c : Nat) : (s.runTo c).time.ops = s.time.ops := State.ops_of_clock s _ _
theorem mem_settleOps {o : TimeOp} {l : List TimeOp} (h : o ∈ settleOps l) : o ∈ l := by
  unfold settleOps at h
  split at h
  · exact (List.mem_filter.mp h).1
  · exact h
theorem keeps_execTimeOpEffect (s : State) (h : Keeps sc s0 s) (hclk : sc.clk = true) (htime : sc.time = true) (hout : sc.out =
    true) : KeepsO sc s0 (execTimeOpEffect s) := by
  unfold execTimeOpEffect
  apply keepsO_next
  dsimp only
  split
  · exact h
  · rename_i o rest e
    have hm : ∀ x ∈ o :: rest, x ∈ s.time.ops := fun x m => mem_settleOps (e ▸ m)
    have hr := keeps_runTo s o.due h hclk
    have ho := State.runTo_ops s o.due
    revert hr ho
    generalize s.runTo o.due = s1
    intro hr ho
    have h1 : Keeps sc s0 (s1.updTime (fun t => { t with ops := rest })) := by
      refine keeps_put_time (TimeStep.of_ops htime rfl (TimeUnit.inRange_ops rfl fun x m => .inl ?_)) hr
      exact ho ▸ hm x (List.mem_cons_of_mem _ m)
    revert h1
    generalize s1.updTime (fun t => { t with ops := rest }) = s2
    intro h1
    refine keeps_firePassed _ ?_ htime hout
    have h2 := keeps_ite (c := (settleOps s.time.ops != s.time.ops) = true) (keeps_ev s2 0x0104 0x4000 0 h1 hout) h1
    cases o with
    | load d sec ns =>
      exact keeps_applyLoad _ _ _ h2 hclk (fun t => (h.range t).2 _ (hm _ List.mem_cons_self))
    | step d adj => exact keeps_applyStep _ _ h2 hclk hout

theorem keeps_addendWrite (s : State) (w : Word) (h : Keeps sc s0 s) (hregs : sc.regs = true) (hout : sc.out = true) : Keeps sc
    s0 (State.addendWrite s w) := by
  unfold State.addendWrite
  repeat' (with_reducible first | assumption | apply keeps_wrn | apply keeps_timeBlocked | refine keeps_ite ?_ ?_)

theorem keeps_execTimeAddendWrite (w : Word) (s : State) (h : Keeps sc s0 s) (hregs : sc.regs = true) (hout : sc.out = true) :
    KeepsO sc s0 (execTimeAddendWrite w s) := by
  unfold execTimeAddendWrite
  repeat' (with_reducible first | assumption | apply keeps_addendWrite | apply keepsO_next)

theorem keeps_utcCfgWrite (s : State) (w : Word) (h : Keeps sc s0 s) (hregs : sc.regs = true) (hout : sc.out = true) : Keeps sc
    s0 (State.utcCfgWrite s w) := by
  unfold State.utcCfgWrite
  repeat' (with_reducible first | assumption | apply keeps_wrn | apply keeps_timeBlocked | refine keeps_ite ?_ ?_)

theorem keeps_execUtcCfgWrite (w : Word) (s : State) (h : Keeps sc s0 s) (hregs : sc.regs = true) (hout : sc.out = true) :
    KeepsO sc s0 (execUtcCfgWrite w s) := by
  unfold execUtcCfgWrite
  repeat' (with_reducible first | assumption | apply keeps_utcCfgWrite | apply keepsO_next)

theorem keeps_nowNs (s : State) (h : Keeps sc s0 s) (hregs : sc.regs = true) : Keeps sc s0 (State.nowNs s).2 := by
  unfold State.nowNs
  repeat' (with_reducible first | assumption | apply keeps_wrn)

theorem keeps_execNowNsRead (s : State) (h : Keeps sc s0 s) (hregs : sc.regs = true) (hout : sc.out = true) : KeepsO sc s0
    (execNowNsRead s) := by
  unfold execNowNsRead
  repeat' (with_reducible first | assumption | apply keeps_emit | apply keeps_nowNs | apply keepsO_next)

theorem keeps_captureTx (s : State) (port : Nat) (e : TxTs) (h : Keeps sc s0 s) (htime : sc.time = true) (hregs : sc.regs =
    true) (hout : sc.out = true) : Keeps sc s0 (State.captureTx s port e) := by
  unfold State.captureTx
  repeat' first
      | (with_reducible first
          | assumption
          | apply keeps_updTime
          | apply keeps_setFld
          | apply keeps_inc
          | apply keeps_ev
          | refine keeps_ite ?_ ?_
          | apply keeps_foldl)
      | split
      | (with_reducible apply keeps_upd; (with_reducible first
          | assumption
          | apply keeps_updTime
          | apply keeps_setFld
          | apply keeps_inc
          | apply keeps_ev
          | apply keeps_foldl
          | split))
      | (with_reducible first
          | exact Held.refl _
          | exact TimeStep.refl _
          | exact ImgStep.refl _
          | exact UnitStep.refl _ _
          | exact MemStep.refl _
          | exact Held.write hregs
          | exact Held.write hout)
      | exact TimeStep.of htime rfl rfl
      | exact fun _ => rfl
      | exact fun _ t => TimeUnit.inRange_of rfl rfl t
      | intro _
      | dsimp only

theorem keeps_popTx (s : State) (port : Nat) (h : Keeps sc s0 s) (htime : sc.time = true) (hregs : sc.regs = true) : Keeps sc
    s0 (State.popTx s port).2 := by
  unfold State.popTx
  repeat' first
      | (with_reducible first
          | assumption
          | apply keeps_wrn
          | refine keeps_ite ?_ ?_
          | apply keeps_foldl)
      | split
      | (with_reducible apply keeps_upd; (with_reducible first
          | assumption
          | apply keeps_wrn
          | apply keeps_foldl
          | split))
      | (with_reducible first
          | exact Held.refl _
          | exact TimeStep.refl _
          | exact ImgStep.refl _
          | exact UnitStep.refl _ _
          | exact MemStep.refl _
          | exact Held.write hregs)
      | exact TimeStep.of htime rfl rfl
      | exact fun _ => rfl
      | exact fun _ t => TimeUnit.inRange_of rfl rfl t
      | intro _
      | dsimp only

theorem keeps_execTxtsPop (port : Nat) (s : State) (h : Keeps sc s0 s) (htime : sc.time = true) (hregs : sc.regs = true) (hout
    : sc.out = true) : KeepsO sc s0 (execTxtsPop port s) := by
  unfold execTxtsPop
  repeat' (with_reducible first | assumption | apply keeps_emit | apply keeps_popTx | apply keepsO_next)

theorem keeps_execPpsInEdge (s : State) (h : Keeps sc s0 s) (htime : sc.time = true) (hregs : sc.regs = true) : KeepsO sc s0
    (execPpsInEdge s) := by
  unfold execPpsInEdge
  repeat' first
      | (with_reducible first
          | assumption
          | apply keeps_wrn
          | apply keepsO_next
          | refine keeps_ite ?_ ?_
          | apply keeps_foldl)
      | split
      | (with_reducible apply keeps_upd; (with_reducible first
          | assumption
          | apply keeps_wrn
          | apply keepsO_next
          | apply keeps_foldl
          | split))
      | (with_reducible first
          | exact Held.refl _
          | exact TimeStep.refl _
          | exact ImgStep.refl _
          | exact UnitStep.refl _ _
          | exact MemStep.refl _
          | exact Held.write hregs)
      | exact TimeStep.of htime rfl rfl
      | exact fun _ => rfl
      | exact fun _ t => TimeUnit.inRange_of rfl rfl t
      | intro _
      | dsimp only

theorem keeps_execPpsInTimeout (s : State) (h : Keeps sc s0 s) (hclk : sc.clk = true) (htime : sc.time = true) (hout : sc.out =
    true) : KeepsO sc s0 (execPpsInTimeout s) := by
  unfold execPpsInTimeout
  apply keepsO_next
  split
  · exact keeps_ev _ _ _ _ (keeps_updTime _ _ (keeps_runTo _ _ h hclk) htime (fun _ t => TimeUnit.inRange_of rfl rfl t) (fun _
      => rfl)) hout
  · exact h

theorem keeps_execFreq10mCountDone (cycles : Nat) (s : State) (h : Keeps sc s0 s) (hregs : sc.regs = true) (hout : sc.out =
    true) : KeepsO sc s0 (execFreq10mCountDone cycles s) := by
  unfold execFreq10mCountDone
  repeat' (with_reducible first | assumption | apply keeps_wrn | apply keeps_ev | apply keepsO_next | refine keeps_ite ?_ ?_)

theorem keeps_holdAddend (s : State) (h : Keeps sc s0 s) (hregs : sc.regs = true) : Keeps sc s0 (State.holdAddend s) := by
  unfold State.holdAddend
  repeat' (with_reducible first | assumption | apply keeps_wrn | refine keeps_ite ?_ ?_)

theorem keeps_enterHoldover (s : State) (detail : Nat) (h : Keeps sc s0 s) (htime : sc.time = true) (hregs : sc.regs = true)
    (hout : sc.out = true) (hcourses : sc.courses = true) : Keeps sc s0 (State.enterHoldover s detail) := by
  unfold State.enterHoldover
  repeat' first
      | (with_reducible first
          | assumption
          | apply keeps_setLock
          | apply keeps_holdAddend
          | apply keeps_updTime
          | refine keeps_ite ?_ ?_
          | apply keeps_foldl)
      | split
      | (with_reducible apply keeps_upd; (with_reducible first
          | assumption
          | apply keeps_setLock
          | apply keeps_holdAddend
          | apply keeps_updTime
          | apply keeps_foldl
          | split))
      | (with_reducible first
          | exact Held.refl _
          | exact TimeStep.refl _
          | exact ImgStep.refl _
          | exact UnitStep.refl _ _
          | exact MemStep.refl _
          | exact Held.write hregs
          | exact Held.write hout
          | exact Held.write hcourses)
      | exact TimeStep.of htime rfl rfl
      | exact fun _ => rfl
      | exact fun _ t => TimeUnit.inRange_of rfl rfl t
      | intro _
      | dsimp only

theorem keeps_execPtpSyncReceived (offset : Int) (s : State) (h : Keeps sc s0 s) (htime : sc.time = true) (hregs : sc.regs =
    true) (hout : sc.out = true) (hcourses : sc.courses = true) : KeepsO sc s0 (execPtpSyncReceived offset s) := by
  have hk : ∀ (a f g l : Nat) (q : Int) (ad : List Nat) (b : Bool) (x : Int), Keeps sc s0 { s.wrn (timeReg 0x020) a with
      free := f
      time := { s.time with syncSeen := g, lastOffset := q, goodSyncs := l, addends := ad
                            ops := if b then s.time.ops ++ [.step (s.now + 2) x] else s.time.ops } } := by
    intro a f g l q ad b x
    have ht := State.wrn_time s (timeReg 0x020) a
    have hw := keeps_wrn s (timeReg 0x020) a h hregs
    revert ht hw
    generalize s.wrn (timeReg 0x020) a = s1
    intro ht hw
    refine keeps_upd hw (ht ▸ TimeStep.of_ops htime rfl (TimeUnit.inRange_ops rfl ?_)) (ImgStep.refl _) (UnitStep.refl _ _)
        (MemStep.refl _)
      (Held.refl _) (Held.write hout) (Held.refl _) (Held.refl _) (Held.refl _) (Held.refl _) (Held.refl _) (Held.refl _)
      (Held.refl _) (Held.refl _) (Held.refl _) (Held.refl _) (Held.refl _) (Held.refl _)
    dsimp only
    intro o m
    split at m
    · rcases List.mem_append.mp m with m | m
      · exact .inl m
      · rw [List.mem_singleton.mp m]; exact .inr trivial
    · exact .inl m
  unfold execPtpSyncReceived
  apply keepsO_next
  exact keeps_ite h (keeps_ite (keeps_ite (keeps_enterHoldover _ _ (hk ..) htime hregs hout hcourses) (hk ..))
    (keeps_ite (keeps_setLock _ _ _ (hk ..) htime hout hcourses) (hk ..)))

theorem keeps_execPtpAnnounceReceived (best : Option Nat) (utcOffset : Option Nat) (s : State) (h : Keeps sc s0 s) (htime :
    sc.time = true) (hout : sc.out = true) : KeepsO sc s0 (execPtpAnnounceReceived best utcOffset s) := by
  unfold execPtpAnnounceReceived
  repeat' first
      | (with_reducible first
          | assumption
          | apply keeps_updTime
          | apply keeps_ev
          | apply keepsO_next
          | refine keeps_ite ?_ ?_
          | apply keeps_foldl)
      | split
      | (with_reducible apply keeps_upd; (with_reducible first
          | assumption
          | apply keeps_updTime
          | apply keeps_ev
          | apply keepsO_next
          | apply keeps_foldl
          | split))
      | (with_reducible first
          | exact Held.refl _
          | exact TimeStep.refl _
          | exact ImgStep.refl _
          | exact UnitStep.refl _ _
          | exact MemStep.refl _
          | exact Held.write hout)
      | exact TimeStep.of htime rfl rfl
      | exact fun _ => rfl
      | exact fun _ t => TimeUnit.inRange_of rfl rfl t
      | intro _
      | dsimp only

theorem keeps_execSyncTimeout (s : State) (h : Keeps sc s0 s) (htime : sc.time = true) (hregs : sc.regs = true) (hout : sc.out
    = true) (hcourses : sc.courses = true) : KeepsO sc s0 (execSyncTimeout s) := by
  unfold execSyncTimeout
  repeat' (with_reducible first | assumption | apply keeps_enterHoldover | apply keepsO_next | refine keeps_ite ?_ ?_)

end Sys2Proof.Machine
end

