-- ==== Sys2Proof/Laws/Keeps02.lean ====
section
/-! SUPPORT. Keeps02.lean: what every operation keeps (Keeps.lean), one lemma an operation: RateControl, Tarn, Emission, Inlet, Outflow, Fount. -/

namespace Sys2Proof.Machine

set_option linter.unusedVariables false
set_option linter.unusedTactic false
set_option linter.unreachableTactic false

variable {{sc : Scope}} {{s0 : State}}

/-! ### RateControl -/

theorem keeps_evRd (s : State) (r : Nat) (code : Nat) (detail : Nat) (h : Keeps sc s0 s) (hout : sc.out = true) : Keeps sc s0
    (State.evRd s r code detail) := by
  unfold State.evRd
  repeat' (with_reducible first | assumption | apply keeps_evR)

theorem keeps_rendLoad (s : State) (r : Nat) (h : Keeps sc s0 s) (hcoders : sc.coders = true) : Keeps sc s0 (State.rendLoad s
    r) := by
  unfold State.rendLoad
  repeat' (with_reducible first | assumption | apply keeps_setRend)

theorem keeps_rendFresh (s : State) (r : Nat) (h : Keeps sc s0 s) (hcoders : sc.coders = true) : Keeps sc s0 (State.rendFresh s
    r) := by
  unfold State.rendFresh
  repeat' (with_reducible first | assumption | apply keeps_setRend)

theorem keeps_rateSet (s : State) (r : Nat) (cq : Option Nat) (effort : Option Nat) (rate : Option Nat) (buf : Option Nat) (h :
    Keeps sc s0 s) (hout : sc.out = true) (hcoders : sc.coders = true) : Keeps sc s0 (State.rateSet s r cq effort rate buf) :=
    by
  unfold State.rateSet
  repeat' first
      | (with_reducible first
          | assumption
          | apply keeps_setRend
          | apply keeps_evRd
          | refine keeps_ite ?_ ?_
          | apply keeps_foldl)
      | split
      | (with_reducible apply keeps_put_coders hcoders; (with_reducible first
          | assumption
          | apply keeps_setRend
          | apply keeps_evRd
          | apply keeps_foldl
          | split))
      | intro _
      | dsimp only

theorem keeps_beginCoding (s : State) (r : Nat) (e : PlanPic) (pos : Nat) (h : Keeps sc s0 s) (hregs : sc.regs = true) (hout :
    sc.out = true) (hcoders : sc.coders = true) : Keeps sc s0 (State.beginCoding s r e pos) := by
  unfold State.beginCoding
  repeat' (with_reducible first
      | assumption
      | apply keeps_evRd
      | apply keeps_setRend
      | apply keeps_inc
      | refine keeps_ite ?_ ?_)

theorem keeps_keyTake (s : State) (c : Nat) (p : Nat) (h : Keeps sc s0 s) (hout : sc.out = true) (hcoders : sc.coders = true) :
    Keeps sc s0 (State.keyTake s c p) := by
  unfold State.keyTake
  repeat' first
      | (with_reducible first
          | assumption
          | apply keeps_evC
          | refine keeps_ite ?_ ?_
          | apply keeps_foldl)
      | split
      | (with_reducible apply keeps_put_coders hcoders; (with_reducible first
          | assumption
          | apply keeps_evC
          | apply keeps_foldl
          | split))
      | intro _
      | dsimp only

theorem keeps_keyDefer (s : State) (c : Nat) (h : Keeps sc s0 s) (hregs : sc.regs = true) (hout : sc.out = true) (hcoders :
    sc.coders = true) : Keeps sc s0 (State.keyDefer s c) := by
  unfold State.keyDefer
  repeat' first
      | (with_reducible first
          | assumption
          | apply keeps_inc
          | apply keeps_raiseTo
          | apply keeps_evC
          | refine keeps_ite ?_ ?_
          | apply keeps_foldl)
      | split
      | (with_reducible apply keeps_upd; (with_reducible first
          | assumption
          | apply keeps_inc
          | apply keeps_raiseTo
          | apply keeps_evC
          | apply keeps_foldl
          | split))
      | (with_reducible first
          | exact Held.refl _
          | exact TimeStep.refl _
          | exact ImgStep.refl _
          | exact UnitStep.refl _ _
          | exact MemStep.refl _
          | exact Held.write hregs
          | exact Held.write hout
          | exact Held.write hcoders)
      | intro _
      | dsimp only

/-! ### Tarn -/

theorem keeps_updTarn (s : State) (n : Nat) (f : Tarn → Tarn) (h : Keeps sc s0 s) (hcoders : sc.coders = true) : Keeps sc s0
    (State.updTarn s n f) := by
  unfold State.updTarn
  exact keeps_put_coders hcoders h

theorem keeps_updCoding (s : State) (r : Nat) (f : Coding → Coding) (h : Keeps sc s0 s) (hcoders : sc.coders = true) : Keeps sc
    s0 (State.updCoding s r f) := by
  unfold State.updCoding
  exact keeps_put_coders hcoders h

theorem keeps_commitRow (s : State) (r : Nat) (g : Nat) (row : Nat) (bits : Nat) (spill : Bool) (h : Keeps sc s0 s) (hregs :
    sc.regs = true) (hout : sc.out = true) (hcoders : sc.coders = true) : Keeps sc s0 (State.commitRow s r g row bits spill) :=
    by
  unfold State.commitRow
  repeat' (with_reducible first
      | assumption
      | apply keeps_updCoding
      | apply keeps_inc
      | apply keeps_evR
      | refine keeps_ite ?_ ?_)

theorem keeps_pictureCoded (s : State) (r : Nat) (h : Keeps sc s0 s) (hregs : sc.regs = true) (hout : sc.out = true) (hcoders :
    sc.coders = true) : Keeps sc s0 (State.pictureCoded s r) := by
  unfold State.pictureCoded
  repeat' (with_reducible first | assumption | apply keeps_setRend | apply keeps_inc | apply keeps_evR | refine keeps_ite ?_ ?_)

theorem keeps_spillRows (s : State) (r : Nat) (g : Nat) (rows : List Nat) (time : Bool) (h : Keeps sc s0 s) (hcoders :
    sc.coders = true) : Keeps sc s0 (State.spillRows s r g rows time) := by
  unfold State.spillRows
  repeat' first
      | (with_reducible first
          | assumption
          | apply keeps_updCoding
          | apply keeps_updTarn
          | refine keeps_ite ?_ ?_
          | apply keeps_foldl)
      | split
      | (with_reducible apply keeps_put_coders hcoders; (with_reducible first
          | assumption
          | apply keeps_updCoding
          | apply keeps_updTarn
          | apply keeps_foldl
          | split))
      | intro _
      | dsimp only

theorem keeps_spillRest (s : State) (r : Nat) (g : Nat) (time : Bool) (h : Keeps sc s0 s) (hcoders : sc.coders = true) : Keeps
    sc s0 (State.spillRest s r g time) := by
  unfold State.spillRest
  repeat' (with_reducible first | assumption | apply keeps_spillRows)

theorem keeps_tarnStart (s : State) (r : Nat) (g : Nat) (h : Keeps sc s0 s) (hregs : sc.regs = true) (hout : sc.out = true)
    (hcoders : sc.coders = true) : Keeps sc s0 (State.tarnStart s r g) := by
  unfold State.tarnStart
  repeat' (with_reducible first
      | assumption
      | apply keeps_pictureCoded
      | apply keeps_spillRest
      | apply keeps_updCoding
      | apply keeps_updTarn
      | refine keeps_ite ?_ ?_)

theorem keeps_healBand (s : State) (r : Nat) (b : Nat) (last : Bool) (h : Keeps sc s0 s) (hregs : sc.regs = true) (hout :
    sc.out = true) (hcoders : sc.coders = true) : Keeps sc s0 (State.healBand s r b last) := by
  unfold State.healBand
  repeat' (with_reducible first
      | assumption
      | apply keeps_inc64
      | apply keeps_updCoding
      | apply keeps_emit
      | refine keeps_ite ?_ ?_)

theorem keeps_healNext (s : State) (r : Nat) (h : Keeps sc s0 s) (hregs : sc.regs = true) (hout :
    sc.out = true) (hcoders : sc.coders = true) : Keeps sc s0 (State.healNext s r) := by
  unfold State.healNext
  repeat' first
      | (with_reducible first
          | assumption
          | apply keeps_updCoding
          | apply keeps_healBand
          | refine keeps_ite ?_ ?_
          | apply keeps_foldl
          | intro _)
      | split
      | dsimp only

theorem keeps_healLast (s : State) (r : Nat) (h : Keeps sc s0 s) (hregs : sc.regs = true) (hout : sc.out = true) (hcoders :
    sc.coders = true) (hpair : sc.pair = true) : Keeps sc s0 (State.healLast s r) := by
  unfold State.healLast
  repeat' first
      | (with_reducible first
          | assumption
          | apply keeps_healBand
          | refine keeps_ite ?_ ?_
          | apply keeps_foldl)
      | split
      | (with_reducible apply keeps_put_pair hpair; (with_reducible first
          | assumption
          | apply keeps_healBand
          | apply keeps_foldl
          | split))
      | intro _
      | dsimp only

theorem keeps_healOpen (s : State) (r : Nat) (h : Keeps sc s0 s) (hpair : sc.pair = true) : Keeps sc s0 (State.healOpen s r) :=
    by
  unfold State.healOpen
  repeat' first
      | (with_reducible first
          | assumption
          | refine keeps_ite ?_ ?_
          | apply keeps_foldl)
      | split
      | (with_reducible apply keeps_put_pair hpair; (with_reducible first
          | assumption
          | apply keeps_foldl
          | split))
      | intro _
      | dsimp only

theorem keeps_ctuLeaves (s : State) (r : Nat) (g : Nat) (bits : Nat) (blocks : List FinalBlock) (h : Keeps sc s0 s) (hregs :
    sc.regs = true) (hout : sc.out = true) (hcoders : sc.coders = true) : Keeps sc s0 (State.ctuLeaves s r g bits blocks) := by
  unfold State.ctuLeaves
  repeat' (with_reducible first
      | assumption
      | apply keeps_updTarn
      | apply keeps_updCoding
      | apply keeps_healNext
      | apply keeps_pictureCoded
      | apply keeps_spillRest
      | apply keeps_commitRow
      | refine keeps_ite ?_ ?_)

theorem keeps_spillTarn (s : State) (n : Nat) (h : Keeps sc s0 s) (hregs : sc.regs = true) (hout : sc.out = true) (hcoders :
    sc.coders = true) : Keeps sc s0 (State.spillTarn s n) := by
  unfold State.spillTarn
  repeat' first
      | (with_reducible first
          | assumption
          | apply keeps_pictureCoded
          | apply keeps_spillRest
          | refine keeps_ite ?_ ?_
          | apply keeps_foldl
          | intro _)
      | split
      | dsimp only

theorem keeps_retire {s t : State} (l : List Nat) (h : Keeps sc s0 s) (ht : Keeps sc s0 t)
    (hunits : sc.units = true) : Keeps sc s0 { t with retired := s.retired ++ l } := by
  have f := ht.frame
  refine ⟨⟨f.clk, f.time, f.img, f.slots, Held.write hunits, fun e => ⟨fun u m => ?_, (f.reset e).2⟩, f.mem, f.regs, f.out,
      f.weir,
    f.host, f.st, f.courses, f.coders, f.emit, f.memsys, f.dma, f.pair, f.lanes, f.boot, f.ras⟩,
    ht.wf, ht.key, ht.range, ht.pending, ht.now⟩
  exact List.mem_append_left _ ((h.frame.reset e).1 u m)
theorem keeps_retireTarn (s : State) (n cause : Nat) (inj : Bool) (h : Keeps sc s0 s) (hunits : sc.units = true) (hregs :
    sc.regs = true) (hout : sc.out = true) (hcoders : sc.coders = true) (hmemsys : sc.memsys = true) :
    Keeps sc s0 (State.retireTarn s n cause inj) := by
  have h1 := keeps_retire [0x1000 + n] h (keeps_unitBurst _ (0x1000 + n) (keeps_spillTarn s n h hregs hout hcoders) hmemsys)
      hunits
  unfold State.retireTarn
  dsimp only
  repeat' (with_reducible first
    | assumption | apply keeps_admissionRerun | apply keeps_replace | apply keeps_ev | apply keeps_wrn | apply keeps_updTarn
    | refine keeps_ite ?_ ?_)

theorem keeps_retryRate (s : State) (src : Nat) (times : List Nat) (due : Bool) (h : Keeps sc s0 s) (hregs : sc.regs = true)
    (hout : sc.out = true) : Keeps sc s0 (State.retryRate s src times due).2 := by
  unfold State.retryRate
  repeat' first
      | (with_reducible first
          | assumption
          | apply keeps_ev
          | apply keeps_alert
          | refine keeps_ite ?_ ?_
          | apply keeps_foldl
          | intro _)
      | split
      | dsimp only

theorem keeps_residue (s : State) (n : Nat) (stage : Nat) (k : Nat) (inj : Bool) (h : Keeps sc s0 s) (hunits : sc.units = true)
    (hregs : sc.regs = true) (hout : sc.out = true) (hcoders : sc.coders = true) (hmemsys : sc.memsys = true) : Keeps sc s0
    (State.residue s n stage k inj) := by
  unfold State.residue
  repeat' first
      | (with_reducible first
          | assumption
          | apply keeps_wrn
          | apply keeps_retireTarn
          | apply keeps_updCoding
          | apply keeps_inc
          | apply keeps_evR
          | apply keeps_retryRate
          | apply keeps_updTarn
          | refine keeps_ite ?_ ?_
          | apply keeps_foldl
          | intro _)
      | split
      | dsimp only

theorem keeps_injected {s t : State} {a : Nat} {l : List Nat} {i : Injection} (h : Keeps sc s0 s) (hout : sc.out = true) (hras
    : sc.ras = true)
    (e : s.injected a l = some (i, t)) :
    Keeps sc s0 t := by
  unfold State.injected at e
  split at e
  · cases e
  · injection e with e
    injection e with _ e
    rw [← e]
    exact keeps_ev _ _ _ _ (keeps_put_ras hras h) hout
theorem keeps_execCtuCommit (r g bits : Nat) (blocks : List FinalBlock) (s : State) (h : Keeps sc s0 s) (hunits : sc.units =
    true) (hregs : sc.regs = true) (hout : sc.out = true) (hweir : sc.weir = true) (hcoders : sc.coders = true) (hmemsys :
    sc.memsys = true) (hras : sc.ras = true) :
    KeepsO sc s0 (execCtuCommit r g bits blocks s) := by
  unfold execCtuCommit
  apply keepsO_next
  refine keeps_ite h ?_
  split
  · have := keeps_injected h hout hras ‹_›
    repeat' first
        | (with_reducible first
            | assumption
            | apply keeps_residue
            | refine keeps_ite ?_ ?_
            | apply keeps_foldl)
        | split
        | (with_reducible apply keeps_put_out hout; (with_reducible first
            | assumption
            | apply keeps_residue
            | apply keeps_foldl
            | split))
        | intro _
        | dsimp only
  · repeat' first
      | (with_reducible first
          | assumption
          | apply keeps_pace
          | apply keeps_ctuLeaves
          | refine keeps_ite ?_ ?_
          | apply keeps_foldl)
      | split
      | (with_reducible apply keeps_put_out hout; (with_reducible first
          | assumption
          | apply keeps_pace
          | apply keeps_ctuLeaves
          | apply keeps_foldl
          | split))
      | intro _
      | dsimp only

theorem keeps_execResidueMismatch (n : Nat) (stage : Nat) (k : Nat) (s : State) (h : Keeps sc s0 s) (hunits : sc.units = true)
    (hregs : sc.regs = true) (hout : sc.out = true) (hcoders : sc.coders = true) (hmemsys : sc.memsys = true) : KeepsO sc s0
    (execResidueMismatch n stage k s) := by
  unfold execResidueMismatch
  repeat' (with_reducible first | assumption | apply keeps_residue | apply keepsO_next | refine keeps_ite ?_ ?_)

theorem keeps_execTarnWatchdog (n : Nat) (s : State) (h : Keeps sc s0 s) (hunits : sc.units = true) (hregs : sc.regs = true)
    (hout : sc.out = true) (hcoders : sc.coders = true) (hmemsys : sc.memsys = true) : KeepsO sc s0 (execTarnWatchdog n s) := by
  unfold execTarnWatchdog
  repeat' (with_reducible first | assumption | apply keeps_retireTarn | apply keepsO_next | refine keeps_ite ?_ ?_)

theorem keeps_fetchFault (s : State) (r : Nat) (g : Nat) (ctu : Nat) (kind : Nat) (h : Keeps sc s0 s) (hregs : sc.regs = true)
    (hout : sc.out = true) (hcoders : sc.coders = true) : Keeps sc s0 (State.fetchFault s r g ctu kind) := by
  unfold State.fetchFault
  repeat' (with_reducible first
      | assumption
      | apply keeps_updCoding
      | apply keeps_inc
      | apply keeps_evR
      | apply keeps_pictureCoded
      | apply keeps_spillRows
      | refine keeps_ite ?_ ?_)

theorem keeps_execFetchFault (r : Nat) (g : Nat) (ctu : Nat) (kind : Nat) (s : State) (h : Keeps sc s0 s) (hregs : sc.regs =
    true) (hout : sc.out = true) (hcoders : sc.coders = true) : KeepsO sc s0 (execFetchFault r g ctu kind s) := by
  unfold execFetchFault
  repeat' (with_reducible first | assumption | apply keeps_fetchFault | apply keepsO_next)

theorem keeps_spillStep (s : State) (k : Nat) (bits : Nat) (blocks : List FinalBlock) (h : Keeps sc s0 s) (hclk : sc.clk =
    true) (hregs : sc.regs = true) (hout : sc.out = true) (hcoders : sc.coders = true) : Keeps sc s0 (State.spillStep s k bits
    blocks) := by
  unfold State.spillStep
  repeat' first
      | (with_reducible first
          | assumption
          | apply keeps_runTo
          | apply keeps_updCoding
          | apply keeps_healNext
          | apply keeps_pictureCoded
          | apply keeps_inc
          | apply keeps_commitRow
          | refine keeps_ite ?_ ?_
          | apply keeps_foldl)
      | split
      | (with_reducible apply keeps_put_coders hcoders; (with_reducible first
          | assumption
          | apply keeps_runTo
          | apply keeps_updCoding
          | apply keeps_healNext
          | apply keeps_pictureCoded
          | apply keeps_inc
          | apply keeps_commitRow
          | apply keeps_foldl
          | split))
      | intro _
      | dsimp only

theorem keeps_seamHandoff (s : State) (r : Nat) (g : Nat) (h : Keeps sc s0 s) (hout : sc.out = true) (hcoders : sc.coders =
    true) : Keeps sc s0 (State.seamHandoff s r g) := by
  unfold State.seamHandoff
  repeat' first
      | (with_reducible first
          | assumption
          | apply keeps_updCoding
          | apply keeps_evR
          | refine keeps_ite ?_ ?_
          | apply keeps_foldl)
      | split
      | (with_reducible apply keeps_put_coders hcoders; (with_reducible first
          | assumption
          | apply keeps_updCoding
          | apply keeps_evR
          | apply keeps_foldl
          | split))
      | intro _
      | dsimp only

theorem keeps_tarnDeadline (s : State) (d : Nat) (h : Keeps sc s0 s) (hregs : sc.regs = true) (hout : sc.out = true) (hcoders :
    sc.coders = true) : Keeps sc s0 (State.tarnDeadline s d) := by
  unfold State.tarnDeadline
  repeat' first
      | (with_reducible first
          | assumption
          | apply keeps_seamHandoff
          | apply keeps_pictureCoded
          | apply keeps_spillRest
          | refine keeps_ite ?_ ?_
          | apply keeps_foldl
          | intro _)
      | split
      | dsimp only

theorem keeps_tarnsOpen (s : State) (d : Nat) (h : Keeps sc s0 s) (hregs : sc.regs = true) (hcoders : sc.coders = true) : Keeps
    sc s0 (State.tarnsOpen s d) := by
  unfold State.tarnsOpen
  repeat' first
      | (with_reducible first
          | assumption
          | apply keeps_wrn
          | apply keeps_updTarn
          | refine keeps_ite ?_ ?_
          | apply keeps_foldl
          | intro _)
      | split
      | dsimp only

theorem keeps_spillHeld (s : State) (r : Nat) (h : Keeps sc s0 s) (hregs : sc.regs = true) (hout : sc.out = true) (hcoders :
    sc.coders = true) : Keeps sc s0 (State.spillHeld s r) := by
  unfold State.spillHeld
  repeat' first
      | (with_reducible first
          | assumption
          | apply keeps_pictureCoded
          | apply keeps_spillRest
          | refine keeps_ite ?_ ?_
          | apply keeps_foldl
          | intro _)
      | split
      | dsimp only

theorem keeps_codeRend (s : State) (c : Nat) (take : Bool) (q : RendRec) (h : Keeps sc s0 s) (hregs : sc.regs = true) (hout :
    sc.out = true) (hcoders : sc.coders = true) (hpair : sc.pair = true) : Keeps sc s0 (State.codeRend s c take q) := by
  unfold State.codeRend
  repeat' first
      | (with_reducible first
          | assumption
          | apply keeps_setRend
          | apply keeps_spillHeld
          | apply keeps_healOpen
          | apply keeps_beginCoding
          | refine keeps_ite ?_ ?_
          | apply keeps_foldl
          | intro _)
      | split
      | dsimp only

theorem keeps_keysOpen (s : State) (c : Nat) (h : Keeps sc s0 s) (hregs : sc.regs = true) (hout : sc.out = true) (hcoders :
    sc.coders = true) (hpair : sc.pair = true) : Keeps sc s0 (State.keysOpen s c) := by
  unfold State.keysOpen
  repeat' first
      | (with_reducible first
          | assumption
          | apply keeps_keyTake
          | apply keeps_keyDefer
          | apply keeps_codeRend
          | refine keeps_ite ?_ ?_
          | apply keeps_foldl)
      | split
      | (with_reducible apply keeps_put_coders hcoders; (with_reducible first
          | assumption
          | apply keeps_keyTake
          | apply keeps_keyDefer
          | apply keeps_codeRend
          | apply keeps_foldl
          | split))
      | intro _
      | dsimp only

theorem keeps_recodeRend (s : State) (c : Nat) (q : RendRec) (h : Keeps sc s0 s) (hregs : sc.regs = true) (hout : sc.out =
    true) (hcoders : sc.coders = true) (hpair : sc.pair = true) : Keeps sc s0 (State.recodeRend s c q) := by
  unfold State.recodeRend
  repeat' first
      | (with_reducible first
          | assumption
          | apply keeps_setRend
          | apply keeps_spillHeld
          | apply keeps_healOpen
          | apply keeps_beginCoding
          | refine keeps_ite ?_ ?_
          | apply keeps_foldl
          | intro _)
      | split
      | dsimp only

theorem keeps_keysCut (s : State) (c : Nat) (h : Keeps sc s0 s) (hregs : sc.regs = true) (hout : sc.out = true) (hcoders :
    sc.coders = true) (hpair : sc.pair = true) : Keeps sc s0 (State.keysCut s c) := by
  unfold State.keysCut
  repeat' first
      | (with_reducible first
          | assumption
          | apply keeps_evC
          | apply keeps_recodeRend
          | apply keeps_keyTake
          | apply keeps_keyDefer
          | refine keeps_ite ?_ ?_
          | apply keeps_foldl)
      | split
      | (with_reducible apply keeps_put_coders hcoders; (with_reducible first
          | assumption
          | apply keeps_evC
          | apply keeps_recodeRend
          | apply keeps_keyTake
          | apply keeps_keyDefer
          | apply keeps_foldl
          | split))
      | intro _
      | dsimp only

theorem keeps_hwBandDone (s : State) (c : Nat) (u : Nat) (h : Keeps sc s0 s) (hclk : sc.clk = true)
    (hregs : sc.regs = true) (hout : sc.out = true) (hweir : sc.weir = true) (hcourses : sc.courses = true) (hcoders :
    sc.coders = true) (hpair : sc.pair = true) : Keeps sc s0 (State.hwBandDone s c u) := by
  unfold State.hwBandDone
  repeat' (with_reducible first
      | assumption
      | apply keeps_hwWriteBand
      | apply keeps_runTo
      | apply keeps_hwCut
      | apply keeps_keysCut
      | apply keeps_setStage
      | apply keeps_hwShareEnd
      | apply keeps_pace
      | apply keeps_hwPictureEnd
      | refine keeps_ite ?_ ?_)

theorem keeps_execBandReadStart (x : Stage) (s : State) (h : Keeps sc s0 s) (hclk : sc.clk = true) (hregs : sc.regs = true)
    (hout : sc.out = true) (hcourses : sc.courses = true) (hcoders : sc.coders = true) : KeepsO sc s0 (execBandReadStart x s)
    := by
  unfold execBandReadStart
  repeat' first
      | (with_reducible first
          | assumption
          | apply keeps_mereStart
          | apply keeps_cascadeStart
          | apply keeps_headwaterStart
          | apply keeps_tarnStart
          | apply keepsO_next
          | refine keeps_ite ?_ ?_
          | apply keeps_foldl)
      | split
      | (with_reducible apply keeps_upd; (with_reducible first
          | assumption
          | apply keeps_mereStart
          | apply keeps_cascadeStart
          | apply keeps_headwaterStart
          | apply keeps_tarnStart
          | apply keepsO_next
          | apply keeps_foldl
          | split))
      | (with_reducible first
          | exact Held.refl _
          | exact TimeStep.refl _
          | exact ImgStep.refl _
          | exact UnitStep.refl _ _
          | exact MemStep.refl _
          | exact Held.write hregs
          | exact Held.write hout
          | exact Held.write hcourses
          | exact Held.write hcoders)
      | intro _
      | dsimp only

/-! ### Emission -/

theorem keeps_setRing (s : State) (r : Nat) (x : Ring) (h : Keeps sc s0 s) (hemit : sc.emit = true) : Keeps sc s0
    (State.setRing s r x) := by
  unfold State.setRing
  exact keeps_put_emit hemit h

theorem keeps_ringPut (s : State) (r : Nat) (e : Entry) (h : Keeps sc s0 s) (hmem : sc.mem = true) (hregs : sc.regs = true)
    (hemit : sc.emit = true) : Keeps sc s0 (State.ringPut s r e) := by
  unfold State.ringPut
  repeat' first
      | (with_reducible first
          | assumption
          | apply keeps_inc64
          | apply keeps_setRing
          | refine keeps_ite ?_ ?_
          | apply keeps_foldl)
      | split
      | (with_reducible apply keeps_upd; (with_reducible first
          | assumption
          | apply keeps_inc64
          | apply keeps_setRing
          | apply keeps_foldl
          | split))
      | (with_reducible first
          | exact Held.refl _
          | exact TimeStep.refl _
          | exact ImgStep.refl _
          | exact UnitStep.refl _ _
          | exact MemStep.refl _
          | exact Held.write hregs
          | exact Held.write hemit)
      | (with_reducible refine MemStep.write hmem (Mem.wf_puts _ _ _))
      | (with_reducible refine MemStep.write hmem (Mem.wf_putEnabled _ _ _))
      | intro _
      | dsimp only

theorem keeps_ringPuts (s : State) (r : Nat) (e : Entry) (packets : List Bytes) (first : Bool) (last : Bool) (key : Bool) (h :
    Keeps sc s0 s) (hmem : sc.mem = true) (hregs : sc.regs = true) (hemit : sc.emit = true) : Keeps sc s0 (State.ringPuts s r e
    packets first last key) := by
  unfold State.ringPuts
  repeat' first
      | (with_reducible first
          | assumption
          | apply keeps_ringPut
          | refine keeps_ite ?_ ?_
          | apply keeps_foldl
          | intro _)
      | split
      | dsimp only

theorem keeps_putRtp (s : State) (r : Nat) (e : Entry) (ts : Nat) (payloads : List Bytes) (first : Bool) (last : Bool) (key :
    Bool) (h : Keeps sc s0 s) (hmem : sc.mem = true) (hregs : sc.regs = true) (hemit : sc.emit = true) : Keeps sc s0
    (State.putRtp s r e ts payloads first last key) := by
  unfold State.putRtp
  repeat' (with_reducible first | assumption | apply keeps_ringPuts | apply keeps_setRing)

theorem keeps_putTs (s : State) (r : Nat) (e : Entry) (packets : List Bytes) (first : Bool) (last : Bool) (key : Bool) (h :
    Keeps sc s0 s) (hmem : sc.mem = true) (hregs : sc.regs = true) (hemit : sc.emit = true) : Keeps sc s0 (State.putTs s r e
    packets first last key) := by
  unfold State.putTs
  repeat' (with_reducible first | assumption | apply keeps_ringPuts | apply keeps_setRing | refine keeps_ite ?_ ?_)

theorem keeps_tsRelease (s : State) (r : Nat) (e : Entry) (bytes : Bytes) (first : Bool) (last : Bool) (key : Bool) (h : Keeps
    sc s0 s) (hmem : sc.mem = true) (hregs : sc.regs = true) (hemit : sc.emit = true) : Keeps sc s0 (State.tsRelease s r e
    bytes first last key) := by
  unfold State.tsRelease
  repeat' (with_reducible first | assumption | apply keeps_putTs | apply keeps_setRing | refine keeps_ite ?_ ?_)

theorem keeps_takeItems (s : State) (r : Nat) (p : Coding) (i : PicItems) (h : Keeps sc s0 s) (hregs : sc.regs = true) (hout :
    sc.out = true) (hcoders : sc.coders = true) : Keeps sc s0 (State.takeItems s r p i).2 := by
  unfold State.takeItems
  repeat' first
      | (with_reducible first
          | assumption
          | apply keeps_evRd
          | apply keeps_inc
          | apply keeps_updCoding
          | refine keeps_ite ?_ ?_
          | apply keeps_foldl
          | intro _)
      | split
      | dsimp only

theorem keeps_pictureFinished (s : State) (r : Nat) (h : Keeps sc s0 s) (hcoders : sc.coders = true) : Keeps sc s0
    (State.pictureFinished s r) := by
  unfold State.pictureFinished
  repeat' (with_reducible first | assumption | apply keeps_setRend | apply keeps_updCoding | refine keeps_ite ?_ ?_)

theorem keeps_ringKey (s : State) (r : Nat) (h : Keeps sc s0 s) (hemit : sc.emit = true) : Keeps sc s0 (State.ringKey s r) := by
  unfold State.ringKey
  repeat' (with_reducible first | assumption | apply keeps_setRing)

theorem keeps_emitOrdered (s : State) (r : Nat) (p : Coding) (e : Entry) (rtp : Bool) (items : List Bytes) (nals : List Bytes)
    (first : Bool) (last : Bool) (idx : Nat) (h : Keeps sc s0 s) (hmem : sc.mem = true) (hregs : sc.regs = true) (hemit :
    sc.emit = true) : Keeps sc s0 (State.emitOrdered s r p e rtp items nals first last idx) := by
  unfold State.emitOrdered
  repeat' (with_reducible first
      | assumption
      | apply keeps_putRtp
      | apply keeps_tsRelease
      | apply keeps_ringPuts
      | refine keeps_ite ?_ ?_)

theorem keeps_emitAhead (s : State) (r : Nat) (p : Coding) (e : Entry) (items : List Bytes) (nals : List Bytes) (first : Bool)
    (last : Bool) (idx : Nat) (h : Keeps sc s0 s) (hmem : sc.mem = true) (hregs : sc.regs = true) (hemit : sc.emit = true) :
    Keeps sc s0 (State.emitAhead s r p e items nals first last idx) := by
  unfold State.emitAhead
  repeat' (with_reducible first | assumption | apply keeps_putRtp)

theorem keeps_emitUnit (s : State) (r : Nat) (g : Nat) (row : Nat) (nals : List Bytes) (items : PicItems) (h : Keeps sc s0 s)
    (hmem : sc.mem = true) (hregs : sc.regs = true) (hout : sc.out = true) (hcoders : sc.coders = true) (hemit : sc.emit =
    true) : Keeps sc s0 (State.emitUnit s r g row nals items) := by
  unfold State.emitUnit
  repeat' first
      | (with_reducible first
          | assumption
          | apply keeps_ringKey
          | apply keeps_takeItems
          | apply keeps_wrn
          | apply keeps_emitAhead
          | apply keeps_updCoding
          | apply keeps_emitOrdered
          | apply keeps_setRing
          | apply keeps_pictureFinished
          | refine keeps_ite ?_ ?_
          | apply keeps_foldl
          | intro _)
      | split
      | dsimp only

theorem keeps_emitShow (s : State) (r : Nat) (nals : List Bytes) (items : PicItems) (h : Keeps sc s0 s) (hmem : sc.mem = true)
    (hregs : sc.regs = true) (hcoders : sc.coders = true) (hemit : sc.emit = true) : Keeps sc s0 (State.emitShow s r nals
    items) := by
  unfold State.emitShow
  repeat' first
      | (with_reducible first
          | assumption
          | apply keeps_emitOrdered
          | apply keeps_updCoding
          | apply keeps_setRend
          | refine keeps_ite ?_ ?_
          | apply keeps_foldl
          | intro _)
      | split
      | dsimp only

theorem keeps_execEmitUnit (r : Nat) (g : Nat) (row : Nat) (nals : List Bytes) (items : PicItems) (s : State) (h : Keeps sc s0
    s) (hmem : sc.mem = true) (hregs : sc.regs = true) (hout : sc.out = true) (hweir : sc.weir = true) (hcoders : sc.coders =
    true) (hemit : sc.emit = true) (hpair : sc.pair = true) : KeepsO sc s0 (execEmitUnit r g row nals items s) := by
  unfold execEmitUnit
  repeat' (with_reducible first
      | assumption
      | apply keeps_pace
      | apply keeps_healLast
      | apply keeps_emitShow
      | apply keeps_emitUnit
      | apply keepsO_next
      | refine keeps_ite ?_ ?_)

theorem keeps_execSliceReleaseTime (r : Nat) (s : State) (h : Keeps sc s0 s) (hclk : sc.clk = true) : KeepsO sc s0
    (execSliceReleaseTime r s) := by
  unfold execSliceReleaseTime
  repeat' first
      | (with_reducible first
          | assumption
          | apply keeps_cycles
          | apply keepsO_next
          | refine keeps_ite ?_ ?_
          | apply keeps_foldl
          | intro _)
      | split
      | dsimp only

theorem keeps_execTsPcrKeepalive (r : Nat) (s : State) (h : Keeps sc s0 s) (hclk : sc.clk = true) (hmem : sc.mem = true) (hregs
    : sc.regs = true) (hemit : sc.emit = true) : KeepsO sc s0 (execTsPcrKeepalive r s) := by
  unfold execTsPcrKeepalive
  repeat' first
      | (with_reducible first
          | assumption
          | apply keeps_cycles
          | apply keeps_putTs
          | apply keepsO_next
          | refine keeps_ite ?_ ?_
          | apply keeps_foldl
          | intro _)
      | split
      | dsimp only

theorem keeps_execTsTableRepeat (r : Nat) (s : State) (h : Keeps sc s0 s) (hclk : sc.clk = true) (hmem : sc.mem = true) (hregs
    : sc.regs = true) (hemit : sc.emit = true) : KeepsO sc s0 (execTsTableRepeat r s) := by
  unfold execTsTableRepeat
  repeat' first
      | (with_reducible first
          | assumption
          | apply keeps_cycles
          | apply keeps_putTs
          | apply keeps_setRing
          | apply keepsO_next
          | refine keeps_ite ?_ ?_
          | apply keeps_foldl
          | intro _)
      | split
      | dsimp only

theorem keeps_setChunk (s : State) (r : Nat) (x : HostRing) (h : Keeps sc s0 s) (hemit : sc.emit = true) : Keeps sc s0
    (State.setChunk s r x) := by
  unfold State.setChunk
  exact keeps_put_emit hemit h

theorem keeps_execChunkRecordWrite (r : Nat) (s : State) (h : Keeps sc s0 s) (hclk : sc.clk = true) (hregs : sc.regs = true)
    (hout : sc.out = true) (hemit : sc.emit = true) : KeepsO sc s0 (execChunkRecordWrite r s) := by
  unfold execChunkRecordWrite
  repeat' first
      | (with_reducible first
          | assumption
          | apply keeps_cycles
          | apply keeps_setRing
          | apply keeps_limited
          | apply keeps_inc
          | apply keeps_evRd
          | apply keeps_hostWr
          | apply keeps_irq
          | apply keeps_setChunk
          | apply keepsO_next
          | refine keeps_ite ?_ ?_
          | apply keeps_foldl
          | intro _)
      | split
      | dsimp only

theorem keeps_chunkHead (s : State) (c : Nat) (k : Nat) (w : Word) (h : Keeps sc s0 s) (hemit : sc.emit = true) : Keeps sc s0
    (State.chunkHead s c k w) := by
  unfold State.chunkHead
  repeat' (with_reducible first | assumption | apply keeps_setChunk | refine keeps_ite ?_ ?_)

theorem keeps_execChunkHeadWrite (c : Nat) (k : Nat) (w : Word) (s : State) (h : Keeps sc s0 s) (hemit : sc.emit = true) :
    KeepsO sc s0 (execChunkHeadWrite c k w s) := by
  unfold execChunkHeadWrite
  repeat' (with_reducible first | assumption | apply keeps_chunkHead | apply keepsO_next)

theorem keeps_chunkCfg (s : State) (c : Nat) (k : Nat) (w : Word) (h : Keeps sc s0 s) (hemit : sc.emit = true) : Keeps sc s0
    (State.chunkCfg s c k w) := by
  unfold State.chunkCfg
  repeat' (with_reducible first | assumption | apply keeps_setChunk | refine keeps_ite ?_ ?_)

theorem keeps_execChunkRingEnable (c : Nat) (k : Nat) (w : Word) (s : State) (h : Keeps sc s0 s) (hemit : sc.emit = true) :
    KeepsO sc s0 (execChunkRingEnable c k w s) := by
  unfold execChunkRingEnable
  repeat' (with_reducible first | assumption | apply keeps_chunkCfg | apply keepsO_next)

theorem keeps_captionCfg (s : State) (c : Nat) (w : Word) (h : Keeps sc s0 s) (hregs : sc.regs = true) : Keeps sc s0
    (State.captionCfg s c w) := by
  unfold State.captionCfg
  repeat' (with_reducible first | assumption | apply keeps_wrn | refine keeps_ite ?_ ?_)

theorem keeps_execCaptionRingEnable (c : Nat) (w : Word) (s : State) (h : Keeps sc s0 s) (hregs : sc.regs = true) : KeepsO sc
    s0 (execCaptionRingEnable c w s) := by
  unfold execCaptionRingEnable
  repeat' (with_reducible first | assumption | apply keeps_captionCfg | apply keepsO_next)

theorem keeps_captionTake (s : State) (c : Nat) (p : Nat) (b : Bytes) (h : Keeps sc s0 s) (hemit : sc.emit = true) : Keeps sc
    s0 (State.captionTake s c p b) := by
  unfold State.captionTake
  repeat' first
      | (with_reducible first
          | assumption
          | apply keeps_setRing
          | refine keeps_ite ?_ ?_
          | apply keeps_foldl
          | intro _)
      | split
      | dsimp only

theorem keeps_captionDrop (s : State) (c : Nat) (pic : Nat) (h : Keeps sc s0 s) (hregs : sc.regs = true) (hout : sc.out = true)
    : Keeps sc s0 (State.captionDrop s c pic) := by
  unfold State.captionDrop
  repeat' first
      | (with_reducible first
          | assumption
          | apply keeps_evRd
          | apply keeps_inc
          | refine keeps_ite ?_ ?_
          | apply keeps_foldl
          | intro _)
      | split
      | dsimp only

theorem keeps_captionLoop (c p fuel : Nat) (hregs : sc.regs = true) (hout : sc.out = true) (hemit : sc.emit = true) : ∀ (s :
    State) (n : Nat), Keeps sc s0 s → Keeps sc s0 (State.captionLoop s c p fuel n) := by
  induction fuel with
  | zero => exact fun _ _ h => h
  | succ fuel ih =>
    intro s n h
    unfold State.captionLoop
    repeat' (with_reducible first
        | assumption
        | apply keeps_wrn
        | apply keeps_captionDrop
        | apply keeps_captionTake
        | apply ih
        | refine keeps_ite ?_ ?_)

theorem keeps_captionRead (s : State) (c : Nat) (h : Keeps sc s0 s) (hregs : sc.regs = true) (hout : sc.out = true) (hemit :
    sc.emit = true) : Keeps sc s0 (State.captionRead s c) := by
  unfold State.captionRead
  repeat' (with_reducible first | assumption | apply keeps_captionLoop | refine keeps_ite ?_ ?_)

theorem keeps_joinRequest (s : State) (r : Nat) (h : Keeps sc s0 s) (hcoders : sc.coders = true) : Keeps sc s0
    (State.joinRequest s r) := by
  unfold State.joinRequest
  repeat' first
      | (with_reducible first
          | assumption
          | apply keeps_setRend
          | refine keeps_ite ?_ ?_
          | apply keeps_foldl)
      | split
      | (with_reducible apply keeps_upd; (with_reducible first
          | assumption
          | apply keeps_setRend
          | apply keeps_foldl
          | split))
      | (with_reducible first
          | exact Held.refl _
          | exact TimeStep.refl _
          | exact ImgStep.refl _
          | exact UnitStep.refl _ _
          | exact MemStep.refl _
          | exact Held.write hcoders)
      | intro _
      | dsimp only

/-! ### Inlet -/

theorem keeps_updInl (s : State) (f : Inlet → Inlet) (h : Keeps sc s0 s) (hcourses : sc.courses = true) : Keeps sc s0
    (State.updInl s f) := by
  unfold State.updInl
  exact keeps_put_courses hcourses h

theorem keeps_flowEvent (s : State) (code : Nat) (flow : Nat) (mark : Nat) (h : Keeps sc s0 s) (hout : sc.out = true) : Keeps
    sc s0 (State.flowEvent s code flow mark) := by
  unfold State.flowEvent
  repeat' first
      | (with_reducible first
          | assumption
          | apply keeps_limited
          | apply keeps_evTo
          | refine keeps_ite ?_ ?_
          | apply keeps_foldl
          | intro _)
      | split
      | dsimp only

theorem keeps_flowDrop (s : State) (flow : Nat) (counter : Nat) (code : Nat) (h : Keeps sc s0 s) (hregs : sc.regs = true) (hout
    : sc.out = true) : Keeps sc s0 (State.flowDrop s flow counter code) := by
  unfold State.flowDrop
  repeat' (with_reducible first | assumption | apply keeps_inc | apply keeps_flowEvent | refine keeps_ite ?_ ?_)

theorem keeps_legFrame (s : State) (f : InflowRec) (h : Keeps sc s0 s) (hout : sc.out = true) (hcourses : sc.courses = true) :
    Keeps sc s0 (State.legFrame s f) := by
  unfold State.legFrame
  repeat' (with_reducible first | assumption | apply keeps_updInl | apply keeps_evTo | refine keeps_ite ?_ ?_)

theorem keeps_excRxDrop (s : State) (fn : Nat) (h : Keeps sc s0 s) (hregs : sc.regs = true) (hout : sc.out = true) : Keeps sc
    s0 (State.excRxDrop s fn) := by
  unfold State.excRxDrop
  repeat' first
      | (with_reducible first
          | assumption
          | apply keeps_limited
          | apply keeps_inc
          | apply keeps_ev
          | refine keeps_ite ?_ ?_
          | apply keeps_foldl
          | intro _)
      | split
      | dsimp only

theorem keeps_excDeliver (s : State) (fn : Nat) (frame : Bytes) (desc : Bytes) (flow : Nat) (port : Nat) (kind : Nat) (t :
    PhcTime) (h : Keeps sc s0 s) (hregs : sc.regs = true) (hout : sc.out = true) (hcourses : sc.courses = true) : Keeps sc s0
    (State.excDeliver s fn frame desc flow port kind t) := by
  unfold State.excDeliver
  repeat' (with_reducible first
      | assumption
      | apply keeps_excRxDrop
      | apply keeps_hostWr
      | apply keeps_updInl
      | apply keeps_irq
      | refine keeps_ite ?_ ?_)

theorem keeps_membership (s : State) (leave : Bool) (f : InflowRec) (h : Keeps sc s0 s) (hout : sc.out = true) : Keeps sc s0
    (State.membership s leave f) := by
  unfold State.membership
  repeat' (with_reducible first | assumption | apply keeps_emit)

theorem keeps_inflowCreated (s : State) (f : InflowRec) (h : Keeps sc s0 s) (hout : sc.out = true) (hcourses : sc.courses =
    true) : Keeps sc s0 (State.inflowCreated s f) := by
  unfold State.inflowCreated
  repeat' (with_reducible first | assumption | apply keeps_updInl | apply keeps_membership | refine keeps_ite ?_ ?_)

theorem keeps_inflowDeleted (s : State) (f : InflowRec) (h : Keeps sc s0 s) (hout : sc.out = true) (hcourses : sc.courses =
    true) : Keeps sc s0 (State.inflowDeleted s f) := by
  unfold State.inflowDeleted
  repeat' (with_reducible first | assumption | apply keeps_updInl | apply keeps_membership | refine keeps_ite ?_ ?_)

theorem keeps_execMembershipReportTimer (i : Nat) (s : State) (h : Keeps sc s0 s) (hclk : sc.clk = true) (hout : sc.out = true)
    (hcourses : sc.courses = true) : KeepsO sc s0 (execMembershipReportTimer i s) := by
  unfold execMembershipReportTimer
  repeat' first
      | (with_reducible first
          | assumption
          | apply keeps_updInl
          | apply keeps_runTo
          | apply keeps_membership
          | apply keepsO_next
          | refine keeps_ite ?_ ?_
          | apply keeps_foldl
          | intro _)
      | split
      | dsimp only

theorem keeps_answerQuery (s : State) (port : Nat) (vlan : Nat) (h : Keeps sc s0 s) (hout : sc.out = true) : Keeps sc s0
    (State.answerQuery s port vlan) := by
  unfold State.answerQuery
  repeat' first
      | (with_reducible first
          | assumption
          | apply keeps_membership
          | refine keeps_ite ?_ ?_
          | apply keeps_foldl
          | intro _)
      | split
      | dsimp only

theorem keeps_closeBands (s : State) (k : Nat) (bands : List Nat) (h : Keeps sc s0 s) (hcourses : sc.courses = true) : Keeps sc
    s0 (State.closeBands s k bands) := by
  unfold State.closeBands
  repeat' (with_reducible first | assumption | apply keeps_updBuf)

theorem keeps_endPicture (s : State) (i : InputRec) (h : Keeps sc s0 s) (hout : sc.out = true) (hcourses : sc.courses = true) :
    Keeps sc s0 (State.endPicture s i) := by
  unfold State.endPicture
  repeat' (with_reducible first
      | assumption
      | apply keeps_closeBands
      | apply keeps_updInl
      | apply keeps_evC
      | refine keeps_ite ?_ ?_)

theorem keeps_beginPicture (s : State) (i : InputRec) (ts : Nat) (t : PhcTime) (h : Keeps sc s0 s) (hout : sc.out = true)
    (hcourses : sc.courses = true) : Keeps sc s0 (State.beginPicture s i ts t) := by
  unfold State.beginPicture
  repeat' (with_reducible first
      | assumption
      | apply keeps_updInl
      | apply keeps_evC
      | apply keeps_updBuf
      | refine keeps_ite ?_ ?_)

theorem keeps_videoRun (s : State) (i : InputRec) (h_ : Srd) (h : Keeps sc s0 s) (hcourses : sc.courses = true) : Keeps sc s0
    (State.videoRun s i h_) := by
  unfold State.videoRun
  repeat' (with_reducible first
      | assumption
      | apply keeps_closeBands
      | apply keeps_updInl
      | apply keeps_updBuf
      | refine keeps_ite ?_ ?_)

theorem keeps_videoPacket (s : State) (f : InflowRec) (i : InputRec) (rtp : Rtp) (hs : List Srd) (t : PhcTime) (h : Keeps sc s0
    s) (hregs : sc.regs = true) (hout : sc.out = true) (hcourses : sc.courses = true) : Keeps sc s0 (State.videoPacket s f i
    rtp hs t) := by
  unfold State.videoPacket
  repeat' first
      | (with_reducible first
          | assumption
          | apply keeps_flowDrop
          | apply keeps_beginPicture
          | apply keeps_endPicture
          | apply keeps_videoRun
          | refine keeps_ite ?_ ?_
          | apply keeps_foldl
          | intro _)
      | split
      | dsimp only

theorem keeps_jitterRecord (s : State) (f : InflowRec) (k : Nat) (payload : Bytes) (t : PhcTime) (h : Keeps sc s0 s) (hregs :
    sc.regs = true) (hout : sc.out = true) (hcourses : sc.courses = true) : Keeps sc s0 (State.jitterRecord s f k payload t) :=
    by
  unfold State.jitterRecord
  repeat' first
      | (with_reducible first
          | assumption
          | apply keeps_flowDrop
          | refine keeps_ite ?_ ?_
          | apply keeps_foldl)
      | split
      | (with_reducible apply keeps_put_courses hcourses; (with_reducible first
          | assumption
          | apply keeps_flowDrop
          | apply keeps_foldl
          | split))
      | intro _
      | dsimp only

theorem keeps_passPacket (s : State) (f : InflowRec) (payload : Bytes) (h : Keeps sc s0 s) (hregs : sc.regs = true) (hout :
    sc.out = true) (hemit : sc.emit = true) : Keeps sc s0 (State.passPacket s f payload) := by
  unfold State.passPacket
  repeat' first
      | (with_reducible first
          | assumption
          | apply keeps_flowDrop
          | refine keeps_ite ?_ ?_
          | apply keeps_foldl)
      | split
      | (with_reducible apply keeps_put_emit hemit; (with_reducible first
          | assumption
          | apply keeps_flowDrop
          | apply keeps_foldl
          | split))
      | intro _
      | dsimp only

theorem keeps_deliverFlow (s : State) (f : InflowRec) (p : Pkt) (frame : Bytes) (desc : Bytes) (t : PhcTime) (h : Keeps sc s0
    s) (hregs : sc.regs = true) (hout : sc.out = true) (hcourses : sc.courses = true) (hemit : sc.emit = true) : Keeps sc s0
    (State.deliverFlow s f p frame desc t) := by
  unfold State.deliverFlow
  repeat' first
      | (with_reducible first
          | assumption
          | apply keeps_flowDrop
          | apply keeps_inc64
          | apply keeps_videoPacket
          | apply keeps_passPacket
          | apply keeps_jitterRecord
          | apply keeps_excDeliver
          | refine keeps_ite ?_ ?_
          | apply keeps_foldl
          | intro _)
      | split
      | dsimp only

theorem keeps_mergeFlow (s : State) (f : InflowRec) (p : Pkt) (frame : Bytes) (desc : Bytes) (t : PhcTime) (h : Keeps sc s0 s)
    (hregs : sc.regs = true) (hout : sc.out = true) (hcourses : sc.courses = true) (hemit : sc.emit = true) : Keeps sc s0
    (State.mergeFlow s f p frame desc t) := by
  unfold State.mergeFlow
  repeat' first
      | (with_reducible first
          | assumption
          | apply keeps_flowDrop
          | apply keeps_deliverFlow
          | apply keeps_inc
          | apply keeps_updInl
          | refine keeps_ite ?_ ?_
          | apply keeps_foldl
          | intro _)
      | split
      | dsimp only

theorem keeps_defaultPath (s : State) (port : Nat) (p : Pkt) (frame : Bytes) (desc : Bytes) (t : PhcTime) (h : Keeps sc s0 s)
    (hregs : sc.regs = true) (hout : sc.out = true) (hcourses : sc.courses = true) : Keeps sc s0 (State.defaultPath s port p
    frame desc t) := by
  unfold State.defaultPath
  repeat' (with_reducible first
      | assumption
      | apply keeps_answerQuery
      | apply keeps_inc
      | apply keeps_updInl
      | apply keeps_excDeliver
      | refine keeps_ite ?_ ?_)

theorem keeps_frameAccepted (s : State) (port : Nat) (p : Pkt) (frame : Bytes) (desc : Bytes) (h : Keeps sc s0 s) (hregs :
    sc.regs = true) (hout : sc.out = true) (hcourses : sc.courses = true) (hemit : sc.emit = true) : Keeps sc s0
    (State.frameAccepted s port p frame desc) := by
  unfold State.frameAccepted
  repeat' first
      | (with_reducible first
          | assumption
          | apply keeps_defaultPath
          | apply keeps_legFrame
          | apply keeps_updInl
          | apply keeps_flowEvent
          | apply keeps_inc
          | apply keeps_mergeFlow
          | refine keeps_ite ?_ ?_
          | apply keeps_foldl
          | intro _)
      | split
      | dsimp only

theorem keeps_execFrameReceived (port : Nat) (x : RxFrame) (desc : Bytes) (s : State) (h : Keeps sc s0 s) (hregs : sc.regs =
    true) (hout : sc.out = true) (hweir : sc.weir = true) (hcourses : sc.courses = true) (hemit : sc.emit = true) : KeepsO sc
    s0 (execFrameReceived port x desc s) := by
  unfold execFrameReceived
  repeat' (with_reducible first
      | assumption
      | apply keeps_inc
      | apply keeps_pace
      | apply keeps_frameAccepted
      | apply keeps_inc64
      | apply keepsO_next
      | refine keeps_ite ?_ ?_)

theorem keeps_execPortUp (n : Nat) (s : State) (h : Keeps sc s0 s) (hout : sc.out = true) (hcourses : sc.courses = true) :
    KeepsO sc s0 (execPortUp n s) := by
  unfold execPortUp
  repeat' (with_reducible first
      | assumption
      | apply keeps_ev
      | apply keeps_emit
      | apply keeps_updInl
      | apply keepsO_next
      | refine keeps_ite ?_ ?_)

theorem keeps_portDown (s : State) (n : Nat) (cause : Nat) (h : Keeps sc s0 s) (hout : sc.out = true) (hcourses : sc.courses =
    true) : Keeps sc s0 (State.portDown s n cause) := by
  unfold State.portDown
  repeat' (with_reducible first | assumption | apply keeps_ev | apply keeps_emit | apply keeps_updInl | refine keeps_ite ?_ ?_)

theorem keeps_execPortDown (n : Nat) (s : State) (h : Keeps sc s0 s) (hout : sc.out = true) (hcourses : sc.courses = true) :
    KeepsO sc s0 (execPortDown n s) := by
  unfold execPortDown
  repeat' (with_reducible first | assumption | apply keeps_portDown | apply keepsO_next)

theorem keeps_portFormedLat (s : State) (n : Nat) (h : Keeps sc s0 s) (hregs : sc.regs = true) (hout : sc.out = true) : Keeps
    sc s0 (State.portFormedLat s n) := by
  unfold State.portFormedLat
  repeat' (with_reducible first | assumption | apply keeps_drawFree | apply keeps_wr)

theorem keeps_execMergeLegTimeout (i : Nat) (s : State) (h : Keeps sc s0 s) (hclk : sc.clk = true) (hout : sc.out = true)
    (hcourses : sc.courses = true) : KeepsO sc s0 (execMergeLegTimeout i s) := by
  unfold execMergeLegTimeout
  repeat' (with_reducible first
      | assumption
      | apply keeps_runTo
      | apply keeps_evTo
      | apply keeps_updInl
      | apply keepsO_next
      | refine keeps_ite ?_ ?_)

theorem keeps_excCfgWrite (s : State) (f : Nat) (tx : Bool) (w : Word) (h : Keeps sc s0 s) (hcourses : sc.courses = true) :
    Keeps sc s0 (State.excCfgWrite s f tx w) := by
  unfold State.excCfgWrite
  repeat' (with_reducible first | assumption | apply keeps_updInl | refine keeps_ite ?_ ?_)

theorem keeps_execExcRingEnable (f : Nat) (tx : Bool) (w : Word) (s : State) (h : Keeps sc s0 s) (hcourses : sc.courses = true)
    : KeepsO sc s0 (execExcRingEnable f tx w s) := by
  unfold execExcRingEnable
  repeat' (with_reducible first | assumption | apply keeps_excCfgWrite | apply keepsO_next)

theorem keeps_excRxDoorbell (s : State) (f : Nat) (v : Nat) (h : Keeps sc s0 s) (hout : sc.out = true) (hcourses : sc.courses =
    true) : Keeps sc s0 (State.excRxDoorbell s f v) := by
  unfold State.excRxDoorbell
  repeat' (with_reducible first | assumption | apply keeps_updInl | apply keeps_doorbellInvalid | refine keeps_ite ?_ ?_)

theorem keeps_execExcRxTailDoorbell (f : Nat) (v : Nat) (s : State) (h : Keeps sc s0 s) (hout : sc.out = true) (hcourses :
    sc.courses = true) : KeepsO sc s0 (execExcRxTailDoorbell f v s) := by
  unfold execExcRxTailDoorbell
  repeat' (with_reducible first | assumption | apply keeps_excRxDoorbell | apply keepsO_next)

theorem keeps_excTxDoorbell (s : State) (f : Nat) (v : Nat) (h : Keeps sc s0 s) (hout : sc.out = true) (hcourses : sc.courses =
    true) : Keeps sc s0 (State.excTxDoorbell s f v) := by
  unfold State.excTxDoorbell
  repeat' (with_reducible first | assumption | apply keeps_updInl | apply keeps_doorbellInvalid | refine keeps_ite ?_ ?_)

theorem keeps_execExcTxTailDoorbell (f : Nat) (v : Nat) (s : State) (h : Keeps sc s0 s) (hout : sc.out = true) (hcourses :
    sc.courses = true) : KeepsO sc s0 (execExcTxTailDoorbell f v s) := by
  unfold execExcTxTailDoorbell
  repeat' (with_reducible first | assumption | apply keeps_excTxDoorbell | apply keepsO_next)

theorem keeps_occupy (s : State) (n : Nat) (len : Nat) (sent : Bool) (h : Keeps sc s0 s) (hemit : sc.emit = true) : Keeps sc s0
    (State.occupy s n len sent) := by
  unfold State.occupy
  exact keeps_put_emit hemit h

theorem keeps_execExcTxSend (f : Nat) (desc : Bytes) (frame : Bytes) (s : State) (h : Keeps sc s0 s) (hclk : sc.clk = true)
    (htime : sc.time = true) (hregs : sc.regs = true) (hout : sc.out = true) (hcourses : sc.courses = true) (hemit : sc.emit =
    true) : KeepsO sc s0 (execExcTxSend f desc frame s) := by
  unfold execExcTxSend
  repeat' first
      | (with_reducible first
          | assumption
          | apply keeps_irq
          | apply keeps_updInl
          | apply keeps_hostWr
          | apply keeps_ev
          | apply keeps_runTo
          | apply keeps_occupy
          | apply keeps_emit
          | apply keeps_captureTx
          | apply keepsO_next
          | refine keeps_ite ?_ ?_
          | apply keeps_foldl)
      | split
      | (with_reducible apply keeps_upd; (with_reducible first
          | assumption
          | apply keeps_irq
          | apply keeps_updInl
          | apply keeps_hostWr
          | apply keeps_ev
          | apply keeps_runTo
          | apply keeps_occupy
          | apply keeps_emit
          | apply keeps_captureTx
          | apply keepsO_next
          | apply keeps_foldl
          | split))
      | (with_reducible first
          | exact Held.refl _
          | exact TimeStep.refl _
          | exact ImgStep.refl _
          | exact UnitStep.refl _ _
          | exact MemStep.refl _
          | exact Held.write hregs
          | exact Held.write hout
          | exact Held.write hcourses
          | exact Held.write hemit)
      | exact TimeStep.of htime rfl rfl
      | exact fun _ => rfl
      | exact fun _ t => TimeUnit.inRange_of rfl rfl t
      | intro _
      | dsimp only

/-! ### Outflow -/

theorem keeps_updOut (s : State) (f : Outflow → Outflow) (h : Keeps sc s0 s) (hemit : sc.emit = true) : Keeps sc s0
    (State.updOut s f) := by
  unfold State.updOut
  exact keeps_put_emit hemit h

theorem keeps_setOport (s : State) (n : Nat) (x : OutPort) (h : Keeps sc s0 s) (hemit : sc.emit = true) : Keeps sc s0
    (State.setOport s n x) := by
  unfold State.setOport
  repeat' (with_reducible first | assumption | apply keeps_updOut)

theorem keeps_setOsvc (s : State) (v : Nat) (x : Node) (h : Keeps sc s0 s) (hemit : sc.emit = true) : Keeps sc s0
    (State.setOsvc s v x) := by
  unfold State.setOsvc
  repeat' (with_reducible first | assumption | apply keeps_updOut)

theorem keeps_setOsub (s : State) (u : Nat) (x : OutSub) (h : Keeps sc s0 s) (hemit : sc.emit = true) : Keeps sc s0
    (State.setOsub s u x) := by
  unfold State.setOsub
  repeat' (with_reducible first | assumption | apply keeps_updOut)

theorem keeps_subEvent (s : State) (code : Nat) (u : Nat) (detail : Nat) (h : Keeps sc s0 s) (hout : sc.out = true) : Keeps sc
    s0 (State.subEvent s code u detail) := by
  unfold State.subEvent
  repeat' (with_reducible first | assumption | apply keeps_raiseTo)

theorem keeps_subStart (s : State) (u : Nat) (h : Keeps sc s0 s) (hemit : sc.emit = true) : Keeps sc s0 (State.subStart s u) :=
    by
  unfold State.subStart
  repeat' (with_reducible first | assumption | apply keeps_setOsub)

theorem keeps_subMake (s : State) (u : Nat) (h : Keeps sc s0 s) (hemit : sc.emit = true) : Keeps sc s0 (State.subMake s u) := by
  unfold State.subMake
  repeat' (with_reducible first | assumption | apply keeps_subStart | apply keeps_setOsub)

theorem keeps_svcMake (s : State) (v : Nat) (h : Keeps sc s0 s) (hemit : sc.emit = true) : Keeps sc s0 (State.svcMake s v) := by
  unfold State.svcMake
  repeat' (with_reducible first | assumption | apply keeps_setOsvc)

theorem keeps_portMake (s : State) (n : Nat) (h : Keeps sc s0 s) (hemit : sc.emit = true) : Keeps sc s0 (State.portMake s n) :=
    by
  unfold State.portMake
  repeat' (with_reducible first | assumption | apply keeps_setOport)

theorem keeps_readRing (u fuel : Nat) (hregs : sc.regs = true) (hout : sc.out = true) (hemit : sc.emit = true) : ∀ s : State,
    Keeps sc s0 s → Keeps sc s0 (State.readRing s u fuel) := by
  induction fuel with
  | zero => exact fun _ h => h
  | succ fuel ih =>
    intro s h
    unfold State.readRing
    repeat' first
        | (with_reducible first
            | assumption
            | apply keeps_setOsub
            | apply keeps_subEvent
            | apply keeps_limitedBy
            | apply keeps_inc
            | apply ih
            | refine keeps_ite ?_ ?_
            | apply keeps_foldl
            | intro _)
        | split
        | dsimp only

theorem keeps_refreshSub (s : State) (u : Nat) (h : Keeps sc s0 s) (hregs : sc.regs = true) (hout : sc.out = true) (hemit :
    sc.emit = true) : Keeps sc s0 (State.refreshSub s u) := by
  unfold State.refreshSub
  repeat' (with_reducible first | assumption | apply keeps_readRing | apply keeps_setOsub | refine keeps_ite ?_ ?_)

theorem keeps_refreshSvc (s : State) (v : Nat) (h : Keeps sc s0 s) (hregs : sc.regs = true) (hout : sc.out = true) (hemit :
    sc.emit = true) : Keeps sc s0 (State.refreshSvc s v) := by
  unfold State.refreshSvc
  repeat' first
      | (with_reducible first
          | assumption
          | apply keeps_refreshSub
          | apply keeps_setOsvc
          | refine keeps_ite ?_ ?_
          | apply keeps_foldl
          | intro _)
      | split
      | dsimp only

theorem keeps_overcommitPort (s : State) (n : Nat) (h : Keeps sc s0 s) (hout : sc.out = true) : Keeps sc s0
    (State.overcommitPort s n) := by
  unfold State.overcommitPort
  repeat' (with_reducible first | assumption | apply keeps_ev | refine keeps_ite ?_ ?_)

theorem keeps_overcommitSvc (s : State) (v : Nat) (h : Keeps sc s0 s) (hout : sc.out = true) : Keeps sc s0 (State.overcommitSvc
    s v) := by
  unfold State.overcommitSvc
  repeat' (with_reducible first | assumption | apply keeps_evTo | refine keeps_ite ?_ ?_)

theorem keeps_portApply (s : State) (n : Nat) (at_ : Nat) (h : Keeps sc s0 s) (hout : sc.out = true) (hemit : sc.emit = true) :
    Keeps sc s0 (State.portApply s n at_) := by
  unfold State.portApply
  repeat' (with_reducible first | assumption | apply keeps_overcommitPort | apply keeps_setOport)

theorem keeps_portSettle (s : State) (n : Nat) (h : Keeps sc s0 s) (hout : sc.out = true) (hemit : sc.emit = true) : Keeps sc
    s0 (State.portSettle s n) := by
  unfold State.portSettle
  repeat' (with_reducible first | assumption | apply keeps_portApply | refine keeps_ite ?_ ?_)

theorem keeps_portCfgWrite (s : State) (n : Nat) (w : Word) (h : Keeps sc s0 s) (hregs : sc.regs = true) (hout : sc.out = true)
    (hemit : sc.emit = true) : Keeps sc s0 (State.portCfgWrite s n w) := by
  unfold State.portCfgWrite
  repeat' (with_reducible first
      | assumption
      | apply keeps_wrn
      | apply keeps_portSettle
      | apply keeps_portApply
      | apply keeps_setOport
      | refine keeps_ite ?_ ?_)

theorem keeps_execPortBucketApply (n : Nat) (w : Word) (s : State) (h : Keeps sc s0 s) (hregs : sc.regs = true) (hout : sc.out
    = true) (hemit : sc.emit = true) : KeepsO sc s0 (execPortBucketApply n w s) := by
  unfold execPortBucketApply
  repeat' (with_reducible first | assumption | apply keeps_portCfgWrite | apply keepsO_next)

theorem keeps_sendFrame (s : State) (n : Nat) (u : Nat) (b : Bytes) (first : Bool) (h : Keeps sc s0 s) (hregs : sc.regs = true)
    (hout : sc.out = true) (hemit : sc.emit = true) : Keeps sc s0 (State.sendFrame s n u b first) := by
  unfold State.sendFrame
  repeat' (with_reducible first
      | assumption
      | apply keeps_inc
      | apply keeps_occupy
      | apply keeps_emit
      | apply keeps_inc64
      | refine keeps_ite ?_ ?_)

theorem keeps_offerCopy (s : State) (u : Nat) (ident : Nat) (packet : Bytes) (h : Keeps sc s0 s) (hregs : sc.regs = true) (hout
    : sc.out = true) (hemit : sc.emit = true) : Keeps sc s0 (State.offerCopy s u ident packet) := by
  unfold State.offerCopy
  repeat' first
      | (with_reducible first
          | assumption
          | apply keeps_limited
          | apply keeps_inc
          | apply keeps_ev
          | apply keeps_setOport
          | refine keeps_ite ?_ ?_
          | apply keeps_foldl
          | intro _)
      | split
      | dsimp only

theorem keeps_takePacket (s : State) (u : Nat) (h : Keeps sc s0 s) (hemit : sc.emit = true) : Keeps sc s0 (State.takePacket s
    u) := by
  unfold State.takePacket
  repeat' (with_reducible first | assumption | apply keeps_setOsub | refine keeps_ite ?_ ?_)

theorem keeps_sendSelected (s : State) (n : Nat) (v : Nat) (u : Nat) (packet : Bytes) (h : Keeps sc s0 s) (hregs : sc.regs =
    true) (hout : sc.out = true) (hemit : sc.emit = true) : Keeps sc s0 (State.sendSelected s n v u packet) := by
  unfold State.sendSelected
  repeat' first
      | (with_reducible first
          | assumption
          | apply keeps_takePacket
          | apply keeps_limited
          | apply keeps_inc
          | apply keeps_subEvent
          | apply keeps_setOsub
          | apply keeps_setOsvc
          | apply keeps_setOport
          | apply keeps_offerCopy
          | apply keeps_sendFrame
          | refine keeps_ite ?_ ?_
          | apply keeps_foldl
          | intro _)
      | split
      | dsimp only

theorem keeps_execOutflowSelect (n : Nat) (s : State) (h : Keeps sc s0 s) (hclk : sc.clk = true) (hregs : sc.regs = true) (hout
    : sc.out = true) (hemit : sc.emit = true) : KeepsO sc s0 (execOutflowSelect n s) := by
  unfold execOutflowSelect
  repeat' first
      | (with_reducible first
          | assumption
          | apply keeps_portSettle
          | apply keeps_runTo
          | apply keeps_setOport
          | apply keeps_sendFrame
          | apply keeps_refreshSvc
          | apply keeps_sendSelected
          | apply keepsO_next
          | refine keeps_ite ?_ ?_
          | apply keeps_foldl
          | intro _)
      | split
      | dsimp only

theorem keeps_gateOpen (s : State) (h : Keeps sc s0 s) (hout : sc.out = true) (hemit : sc.emit = true) : Keeps sc s0
    (State.gateOpen s) := by
  unfold State.gateOpen
  repeat' (with_reducible first | assumption | apply keeps_ev | apply keeps_updOut | refine keeps_ite ?_ ?_)

theorem keeps_gateClose (s : State) (drain : Bool) (h : Keeps sc s0 s) (hregs : sc.regs = true) (hemit : sc.emit = true) :
    Keeps sc s0 (State.gateClose s drain) := by
  unfold State.gateClose
  repeat' (with_reducible first | assumption | apply keeps_inc | apply keeps_updOut | refine keeps_ite ?_ ?_)

theorem keeps_drainEnd (s : State) (h : Keeps sc s0 s) (hclk : sc.clk = true) (hout : sc.out = true) (hemit : sc.emit = true) :
    Keeps sc s0 (State.drainEnd s) := by
  unfold State.drainEnd
  repeat' first
      | (with_reducible first
          | assumption
          | apply keeps_runTo
          | apply keeps_ev
          | apply keeps_updOut
          | refine keeps_ite ?_ ?_
          | apply keeps_foldl)
      | split
      | (with_reducible apply keeps_upd; (with_reducible first
          | assumption
          | apply keeps_runTo
          | apply keeps_ev
          | apply keeps_updOut
          | apply keeps_foldl
          | split))
      | (with_reducible first
          | exact Held.refl _
          | exact TimeStep.refl _
          | exact ImgStep.refl _
          | exact UnitStep.refl _ _
          | exact MemStep.refl _
          | exact Held.write hout
          | exact Held.write hemit)
      | intro _
      | dsimp only

/-! ### Fount -/

theorem keeps_setStream (s : State) (i : InputRec) (x : FountStream) (h : Keeps sc s0 s) (hcourses : sc.courses = true) : Keeps
    sc s0 (State.setStream s i x) := by
  unfold State.setStream
  exact keeps_put_courses hcourses h

theorem keeps_evFt (s : State) (i : InputRec) (code : Nat) (detail : Nat) (h : Keeps sc s0 s) (hout : sc.out = true) : Keeps sc
    s0 (State.evFt s i code detail) := by
  unfold State.evFt
  repeat' (with_reducible first | assumption | apply keeps_evC)

theorem keeps_evFtCount (s : State) (i : InputRec) (code : Nat) (h : Keeps sc s0 s) (hout : sc.out = true) : Keeps sc s0
    (State.evFtCount s i code) := by
  unfold State.evFtCount
  repeat' first
      | (with_reducible first
          | assumption
          | apply keeps_limited
          | apply keeps_evFt
          | refine keeps_ite ?_ ?_
          | apply keeps_foldl
          | intro _)
      | split
      | dsimp only

theorem keeps_ftBindWrite (s : State) (f : Nat) (c : Nat) (k : Nat) (w : Word) (h : Keeps sc s0 s) (hregs : sc.regs = true)
    (hout : sc.out = true) : Keeps sc s0 (State.ftBindWrite s f c k w) := by
  unfold State.ftBindWrite
  repeat' (with_reducible first | assumption | apply keeps_evFt | apply keeps_wrn | refine keeps_ite ?_ ?_)

theorem keeps_execFtBindWrite (f : Nat) (c : Nat) (k : Nat) (w : Word) (s : State) (h : Keeps sc s0 s) (hregs : sc.regs = true)
    (hout : sc.out = true) : KeepsO sc s0 (execFtBindWrite f c k w s) := by
  unfold execFtBindWrite
  repeat' first
      | (with_reducible first
          | assumption
          | apply keeps_weirWrite
          | apply keeps_ftBindWrite
          | apply keepsO_next
          | refine keeps_ite ?_ ?_
          | apply keeps_foldl
          | intro _)
      | split
      | dsimp only

theorem keeps_ftWptrWrite (s : State) (c : Nat) (k : Nat) (w : Word) (h : Keeps sc s0 s) (hcourses : sc.courses = true) : Keeps
    sc s0 (State.ftWptrWrite s c k w) := by
  unfold State.ftWptrWrite
  repeat' first
      | (with_reducible first
          | assumption
          | refine keeps_ite ?_ ?_
          | apply keeps_foldl)
      | split
      | (with_reducible apply keeps_put_courses hcourses; (with_reducible first
          | assumption
          | apply keeps_foldl
          | split))
      | intro _
      | dsimp only

theorem keeps_execFtWptrWrite (c : Nat) (k : Nat) (w : Word) (s : State) (h : Keeps sc s0 s) (hcourses : sc.courses = true) :
    KeepsO sc s0 (execFtWptrWrite c k w s) := by
  unfold execFtWptrWrite
  repeat' (with_reducible first | assumption | apply keeps_ftWptrWrite | apply keepsO_next)

theorem keeps_streamRestart (s : State) (i : InputRec) (x : FountStream) (h : Keeps sc s0 s) (hout : sc.out = true) (hcourses :
    sc.courses = true) : Keeps sc s0 (State.streamRestart s i x) := by
  unfold State.streamRestart
  repeat' (with_reducible first | assumption | apply keeps_setStream | apply keeps_evFt | refine keeps_ite ?_ ?_)

theorem keeps_bindApply (s : State) (i : InputRec) (h : Keeps sc s0 s) (hout : sc.out = true) (hcourses : sc.courses = true) :
    Keeps sc s0 (State.bindApply s i) := by
  unfold State.bindApply
  repeat' (with_reducible first
      | assumption
      | apply keeps_evFt
      | apply keeps_setStream
      | apply keeps_streamRestart
      | refine keeps_ite ?_ ?_)

theorem keeps_streamLost (s : State) (i : InputRec) (cause : Nat) (h : Keeps sc s0 s) (hout : sc.out = true) (hcourses :
    sc.courses = true) : Keeps sc s0 (State.streamLost s i cause) := by
  unfold State.streamLost
  repeat' (with_reducible first | assumption | apply keeps_streamRestart | apply keeps_evFt)

theorem keeps_execFtStreamLossTimeout (c : Nat) (k : Nat) (s : State) (h : Keeps sc s0 s) (hclk : sc.clk = true) (hout : sc.out
    = true) (hcourses : sc.courses = true) : KeepsO sc s0 (execFtStreamLossTimeout c k s) := by
  unfold execFtStreamLossTimeout
  repeat' (with_reducible first
      | assumption
      | apply keeps_streamLost
      | apply keeps_runTo
      | apply keeps_setStream
      | apply keepsO_next
      | refine keeps_ite ?_ ?_)

theorem keeps_auDiscard (s : State) (i : InputRec) (a : AccessUnit) (h : Keeps sc s0 s) (hregs : sc.regs = true) (hcourses :
    sc.courses = true) : Keeps sc s0 (State.auDiscard s i a) := by
  unfold State.auDiscard
  repeat' (with_reducible first | assumption | apply keeps_inc | apply keeps_setStream)

theorem keeps_auTake (s : State) (i : InputRec) (a : AccessUnit) (h : Keeps sc s0 s) (hregs : sc.regs = true) (hout : sc.out =
    true) (hcourses : sc.courses = true) : Keeps sc s0 (State.auTake s i a) := by
  unfold State.auTake
  repeat' (with_reducible first
      | assumption
      | apply keeps_updBuf
      | apply keeps_setStream
      | apply keeps_evFt
      | apply keeps_inc
      | refine keeps_ite ?_ ?_)

theorem keeps_underrun (s : State) (i : InputRec) (h : Keeps sc s0 s) (hregs : sc.regs = true) (hout : sc.out = true) : Keeps
    sc s0 (State.underrun s i) := by
  unfold State.underrun
  repeat' (with_reducible first | assumption | apply keeps_evFtCount | apply keeps_inc)

theorem keeps_auChoose (i : InputRec) (d : Domain) (l : List AccessUnit) (hregs : sc.regs = true) (hout : sc.out = true)
    (hcourses : sc.courses = true) :
    ∀ s : State, Keeps sc s0 s → Keeps sc s0 (State.auChoose s i d l) := by
  induction l with
  | nil =>
    intro s h
    unfold State.auChoose
    repeat' (with_reducible first | assumption | apply keeps_underrun | refine keeps_ite ?_ ?_)
  | cons a rest ih =>
    intro s h
    unfold State.auChoose
    repeat' (with_reducible first
        | assumption
        | apply keeps_underrun
        | apply keeps_inc
        | apply keeps_streamLost
        | apply keeps_setStream
        | apply keeps_evFt
        | apply keeps_auDiscard
        | apply keeps_auTake
        | apply ih
        | refine keeps_ite ?_ ?_)

theorem keeps_auSkip (s : State) (i : InputRec) (d : Domain) (aus : List AccessUnit) (h : Keeps sc s0 s) (hregs : sc.regs =
    true) (hout : sc.out = true) (hcourses : sc.courses = true) : Keeps sc s0 (State.auSkip s i d aus).1 := by
  unfold State.auSkip
  repeat' first
      | (with_reducible first
          | assumption
          | apply keeps_evFtCount
          | apply keeps_inc
          | apply keeps_setStream
          | refine keeps_ite ?_ ?_
          | apply keeps_foldl
          | intro _)
      | split
      | dsimp only

theorem keeps_fountOpen (s : State) (i : InputRec) (d : Domain) (aus : List AccessUnit) (h : Keeps sc s0 s) (hregs : sc.regs =
    true) (hout : sc.out = true) (hcourses : sc.courses = true) : Keeps sc s0 (State.fountOpen s i d aus) := by
  unfold State.fountOpen
  repeat' (with_reducible first
      | assumption
      | apply keeps_setStream
      | apply keeps_auSkip
      | apply keeps_auChoose
      | refine keeps_ite ?_ ?_)

theorem keeps_auEnd (s : State) (i : InputRec) (a : AccessUnit) (h : Keeps sc s0 s) (hregs : sc.regs = true) (hout : sc.out =
    true) (hcourses : sc.courses = true) : Keeps sc s0 (State.auEnd s i a) := by
  unfold State.auEnd
  repeat' (with_reducible first
      | assumption
      | apply keeps_inc64
      | apply keeps_setStream
      | apply keeps_updBuf
      | apply keeps_evFt
      | refine keeps_ite ?_ ?_)

theorem keeps_fountBandDone (s : State) (c : Nat) (k : Nat) (r : BandDecode) (h : Keeps sc s0 s) (hclk : sc.clk = true) (hregs
    : sc.regs = true) (hout : sc.out = true) (hweir : sc.weir = true) (hcourses : sc.courses = true) : Keeps sc s0
    (State.fountBandDone s c k r) := by
  unfold State.fountBandDone
  repeat' first
      | (with_reducible first
          | assumption
          | apply keeps_runTo
          | apply keeps_updBuf
          | apply keeps_inc
          | apply keeps_wrn
          | apply keeps_setStream
          | apply keeps_pace
          | apply keeps_auEnd
          | refine keeps_ite ?_ ?_
          | apply keeps_foldl)
      | split
      | (with_reducible apply keeps_put_courses hcourses; (with_reducible first
          | assumption
          | apply keeps_runTo
          | apply keeps_updBuf
          | apply keeps_inc
          | apply keeps_wrn
          | apply keeps_setStream
          | apply keeps_pace
          | apply keeps_auEnd
          | apply keeps_foldl
          | split))
      | intro _
      | dsimp only

theorem keeps_fountFreeze (s : State) (i : InputRec) (h : Keeps sc s0 s) (hcourses : sc.courses = true) : Keeps sc s0
    (State.fountFreeze s i).2 := by
  unfold State.fountFreeze
  repeat' first
      | (with_reducible first
          | assumption
          | apply keeps_updBuf
          | apply keeps_setStream
          | refine keeps_ite ?_ ?_
          | apply keeps_foldl)
      | split
      | (with_reducible apply keeps_upd; (with_reducible first
          | assumption
          | apply keeps_updBuf
          | apply keeps_setStream
          | apply keeps_foldl
          | split))
      | (with_reducible first
          | exact Held.refl _
          | exact TimeStep.refl _
          | exact ImgStep.refl _
          | exact UnitStep.refl _ _
          | exact MemStep.refl _
          | exact Held.write hcourses)
      | intro _
      | dsimp only

end Sys2Proof.Machine
end

