-- ==== Sys2Proof/Laws/Keeps03.lean ====
section
/-! SUPPORT. Keeps03.lean: what every operation keeps (Keeps.lean), one lemma an operation: Pairing, Reliability, Course, Reservoir, Host. -/

namespace Sys2Proof.Machine

set_option linter.unusedVariables false
set_option linter.unusedTactic false
set_option linter.unreachableTactic false

variable {{sc : Scope}} {{s0 : State}}

/-! ### Pairing -/

theorem keeps_updPair (s : State) (f : Pair → Pair) (h : Keeps sc s0 s) (hpair : sc.pair = true) : Keeps sc s0 (State.updPair s
    f) := by
  unfold State.updPair
  exact keeps_put_pair hpair h

theorem keeps_setRole (s : State) (r : Nat) (h : Keeps sc s0 s) (hout : sc.out = true) (hpair : sc.pair = true) : Keeps sc s0
    (State.setRole s r) := by
  unfold State.setRole
  repeat' (with_reducible first | assumption | apply keeps_ev | apply keeps_updPair | refine keeps_ite ?_ ?_)

theorem keeps_setActOut (s : State) (b : Bool) (h : Keeps sc s0 s) (hout : sc.out = true) (hpair : sc.pair = true) : Keeps sc
    s0 (State.setActOut s b) := by
  unfold State.setActOut
  repeat' (with_reducible first | assumption | apply keeps_emit | apply keeps_updPair | refine keeps_ite ?_ ?_)

theorem keeps_pairSettle (s : State) (h : Keeps sc s0 s) (hpair : sc.pair = true) : Keeps sc s0 (State.pairSettle s) := by
  unfold State.pairSettle
  repeat' (with_reducible first | assumption | apply keeps_updPair)

theorem keeps_withdraw (s : State) (h : Keeps sc s0 s) (hregs : sc.regs = true) (hout : sc.out = true) (hemit : sc.emit = true)
    (hpair : sc.pair = true) : Keeps sc s0 (State.withdraw s) := by
  unfold State.withdraw
  repeat' first
      | (with_reducible first
          | assumption
          | apply keeps_pairSettle
          | apply keeps_setRole
          | apply keeps_setActOut
          | apply keeps_gateClose
          | refine keeps_ite ?_ ?_
          | apply keeps_foldl
          | intro _)
      | split
      | dsimp only

theorem keeps_fatal (s : State) (cause : Nat) (inj : Bool) (h : Keeps sc s0 s) (hmem : sc.mem = true) (hregs : sc.regs = true)
    (hout : sc.out = true) (hemit : sc.emit = true) (hmemsys : sc.memsys = true) (hdma : sc.dma = true) (hpair : sc.pair =
    true) (hras : sc.ras = true) : Keeps sc s0 (State.fatal s cause inj) := by
  unfold State.fatal
  repeat' first
      | (with_reducible first
          | assumption
          | apply keeps_replace
          | apply keeps_alert
          | apply keeps_ev
          | apply keeps_withdraw
          | apply keeps_updPair
          | apply keeps_sluiceDisable
          | apply keeps_bceDrop
          | refine keeps_ite ?_ ?_
          | apply keeps_foldl)
      | split
      | (with_reducible apply keeps_upd; (with_reducible first
          | assumption
          | apply keeps_replace
          | apply keeps_alert
          | apply keeps_ev
          | apply keeps_withdraw
          | apply keeps_updPair
          | apply keeps_sluiceDisable
          | apply keeps_bceDrop
          | apply keeps_foldl
          | split))
      | (with_reducible first
          | exact Held.refl _
          | exact TimeStep.refl _
          | exact ImgStep.refl _
          | exact UnitStep.refl _ _
          | exact MemStep.refl _
          | exact Held.write hregs
          | exact Held.write hout
          | exact Held.write hemit
          | exact Held.write hmemsys
          | exact Held.write hdma
          | exact Held.write hpair
          | exact Held.write hras)
      | (with_reducible refine MemStep.write hmem (Mem.wf_puts _ _ _))
      | (with_reducible refine MemStep.write hmem (Mem.wf_putEnabled _ _ _))
      | intro _
      | dsimp only

/-! ### Reliability -/

theorem keeps_freezeUnit (s : State) (src : Nat) (h : Keeps sc s0 s) (hout : sc.out = true) (hcourses : sc.courses = true) :
    Keeps sc s0 (State.freezeUnit s src) := by
  unfold State.freezeUnit
  repeat' first
      | (with_reducible first
          | assumption
          | apply keeps_freezeHeadwater
          | apply keeps_fountFreeze
          | apply keeps_freezeMere
          | apply keeps_freezeCascade
          | refine keeps_ite ?_ ?_
          | apply keeps_foldl
          | intro _)
      | split
      | dsimp only

theorem keeps_retireUnit (s : State) (src cause : Nat) (inj : Bool) (h : Keeps sc s0 s) (hunits : sc.units = true) (hregs :
    sc.regs = true) (hout : sc.out = true) (hcourses : sc.courses = true) (hcoders : sc.coders = true) (hmemsys : sc.memsys =
    true) :
    Keeps sc s0 (State.retireUnit s src cause inj) := by
  have h1 := keeps_retire [src] h (keeps_unitBurst _ src (keeps_freezeUnit s src h hout hcourses) hmemsys) hunits
  unfold State.retireUnit
  dsimp only
  repeat' (with_reducible first
    | assumption | apply keeps_retireTarn | apply keeps_admissionRerun | apply keeps_replace | apply keeps_ev
    | refine keeps_ite ?_ ?_)

theorem keeps_unitResidue (s : State) (src : Nat) (k : Nat) (inj : Bool) (h : Keeps sc s0 s) (hunits : sc.units = true) (hregs
    : sc.regs = true) (hout : sc.out = true) (hcourses : sc.courses = true) (hcoders : sc.coders = true) (hmemsys : sc.memsys =
    true) (hras : sc.ras = true) : Keeps sc s0 (State.unitResidue s src k inj) := by
  unfold State.unitResidue
  repeat' first
      | (with_reducible first
          | assumption
          | apply keeps_retireUnit
          | apply keeps_ev
          | apply keeps_retryRate
          | refine keeps_ite ?_ ?_
          | apply keeps_foldl)
      | split
      | (with_reducible apply keeps_put_ras hras; (with_reducible first
          | assumption
          | apply keeps_retireUnit
          | apply keeps_ev
          | apply keeps_retryRate
          | apply keeps_foldl
          | split))
      | intro _
      | dsimp only

theorem keeps_execUnitResidueMismatch (src : Nat) (k : Nat) (s : State) (h : Keeps sc s0 s) (hunits : sc.units = true) (hregs :
    sc.regs = true) (hout : sc.out = true) (hcourses : sc.courses = true) (hcoders : sc.coders = true) (hmemsys : sc.memsys =
    true) (hras : sc.ras = true) : KeepsO sc s0 (execUnitResidueMismatch src k s) := by
  unfold execUnitResidueMismatch
  repeat' (with_reducible first | assumption | apply keeps_unitResidue | apply keepsO_next | refine keeps_ite ?_ ?_)

theorem keeps_unitUse (s : State) (src : Nat) (h : Keeps sc s0 s) (hunits : sc.units = true) (hregs : sc.regs = true) (hout :
    sc.out = true) (hcourses : sc.courses = true) (hcoders : sc.coders = true) (hmemsys : sc.memsys = true) (hras : sc.ras =
    true) : Keeps sc s0 (State.unitUse s src) := by
  unfold State.unitUse
  split
  · exact h
  · have := keeps_injected h hout hras ‹_›
    repeat' first
        | (with_reducible first
            | assumption
            | apply keeps_unitResidue
            | refine keeps_ite ?_ ?_
            | apply keeps_foldl)
        | split
        | (with_reducible apply keeps_put_out hout; (with_reducible first
            | assumption
            | apply keeps_unitResidue
            | apply keeps_foldl
            | split))
        | intro _
        | dsimp only

theorem keeps_execMereBandDone (c : Nat) (faults : List Nat) (s : State) (h : Keeps sc s0 s) (hclk : sc.clk = true)
    (hunits : sc.units = true) (hregs : sc.regs = true) (hout : sc.out = true) (hweir : sc.weir = true) (hcourses : sc.courses
    = true) (hcoders : sc.coders = true) (hmemsys : sc.memsys = true) (hras : sc.ras = true) : KeepsO sc s0 (execMereBandDone c
    faults s) := by
  unfold execMereBandDone
  repeat' (with_reducible first | assumption | apply keeps_mereBandDone | apply keeps_unitUse | apply keepsO_next)

theorem keeps_execCascadeBandDone (c : Nat) (g : Nat) (s : State) (h : Keeps sc s0 s) (hclk : sc.clk = true) (hunits : sc.units
    = true) (hregs : sc.regs = true) (hout : sc.out = true) (hweir : sc.weir = true) (hcourses : sc.courses = true) (hcoders :
    sc.coders = true) (hmemsys : sc.memsys = true) (hras : sc.ras = true) : KeepsO sc s0 (execCascadeBandDone c g s) := by
  unfold execCascadeBandDone
  repeat' (with_reducible first | assumption | apply keeps_cascadeBandDone | apply keeps_unitUse | apply keepsO_next)

theorem keeps_execHwBandDone (c : Nat) (u : Nat) (s : State) (h : Keeps sc s0 s) (hclk : sc.clk =
    true) (hunits : sc.units = true) (hregs : sc.regs = true) (hout : sc.out = true) (hweir : sc.weir = true) (hcourses :
    sc.courses = true) (hcoders : sc.coders = true) (hmemsys : sc.memsys = true) (hpair : sc.pair = true) (hras : sc.ras =
    true) : KeepsO sc s0 (execHwBandDone c u s) := by
  unfold execHwBandDone
  repeat' (with_reducible first | assumption | apply keeps_hwBandDone | apply keeps_unitUse | apply keepsO_next)

theorem keeps_execFountBandDone (c : Nat) (k : Nat) (r : BandDecode) (s : State) (h : Keeps sc s0 s) (hclk : sc.clk = true)
    (hunits : sc.units = true) (hregs : sc.regs = true) (hout : sc.out = true) (hweir : sc.weir = true) (hcourses : sc.courses
    = true) (hcoders : sc.coders = true) (hmemsys : sc.memsys = true) (hras : sc.ras = true) : KeepsO sc s0 (execFountBandDone
    c k r s) := by
  unfold execFountBandDone
  repeat' (with_reducible first | assumption | apply keeps_fountBandDone | apply keeps_unitUse | apply keepsO_next)

theorem keeps_spillMismatch (s : State) (k : Nat) (inj : Bool) (h : Keeps sc s0 s) (hclk : sc.clk = true) (hmem : sc.mem =
    true) (hregs : sc.regs = true) (hout : sc.out = true) (hcoders : sc.coders = true) (hemit : sc.emit = true) (hmemsys :
    sc.memsys = true) (hdma : sc.dma = true) (hpair : sc.pair = true) (hras : sc.ras = true) : Keeps sc s0 (State.spillMismatch
    s k inj) := by
  unfold State.spillMismatch
  repeat' first
      | (with_reducible first
          | assumption
          | apply keeps_fatal
          | apply keeps_runTo
          | apply keeps_ev
          | refine keeps_ite ?_ ?_
          | apply keeps_foldl)
      | split
      | (with_reducible apply keeps_upd; (with_reducible first
          | assumption
          | apply keeps_fatal
          | apply keeps_runTo
          | apply keeps_ev
          | apply keeps_foldl
          | split))
      | (with_reducible first
          | exact Held.refl _
          | exact TimeStep.refl _
          | exact ImgStep.refl _
          | exact UnitStep.refl _ _
          | exact MemStep.refl _
          | exact Held.write hregs
          | exact Held.write hout
          | exact Held.write hcoders
          | exact Held.write hemit
          | exact Held.write hmemsys
          | exact Held.write hdma
          | exact Held.write hpair
          | exact Held.write hras)
      | (with_reducible refine MemStep.write hmem (Mem.wf_puts _ _ _))
      | (with_reducible refine MemStep.write hmem (Mem.wf_putEnabled _ _ _))
      | intro _
      | dsimp only

theorem keeps_execSpillwayCompareMismatch (k : Nat) (s : State) (h : Keeps sc s0 s) (hclk : sc.clk = true) (hmem : sc.mem =
    true) (hregs : sc.regs = true) (hout : sc.out = true) (hcoders : sc.coders = true) (hemit : sc.emit = true) (hmemsys :
    sc.memsys = true) (hdma : sc.dma = true) (hpair : sc.pair = true) (hras : sc.ras = true) : KeepsO sc s0
    (execSpillwayCompareMismatch k s) := by
  unfold execSpillwayCompareMismatch
  repeat' (with_reducible first | assumption | apply keeps_spillMismatch | apply keepsO_next)

theorem keeps_execSpillCtuDone (k bits : Nat) (blocks : List FinalBlock) (s : State) (h : Keeps sc s0 s) (hclk : sc.clk = true)
    (hmem : sc.mem = true) (hregs : sc.regs = true) (hout : sc.out = true) (hweir : sc.weir = true) (hcoders : sc.coders =
    true) (hemit : sc.emit = true) (hmemsys : sc.memsys = true) (hdma : sc.dma = true) (hpair : sc.pair = true) (hras : sc.ras
    = true) :
    KeepsO sc s0 (execSpillCtuDone k bits blocks s) := by
  unfold execSpillCtuDone
  apply keepsO_next
  split
  · have := keeps_injected h hout hras ‹_›
    repeat' (with_reducible first | assumption | apply keeps_spillMismatch | refine keeps_ite ?_ ?_)
  · repeat' (with_reducible first | assumption | apply keeps_pace | apply keeps_spillStep | refine keeps_ite ?_ ?_)

theorem keeps_sramCorrected (s : State) (src : Nat) (index : Nat) (inj : Bool) (h : Keeps sc s0 s) (hregs : sc.regs = true)
    (hout : sc.out = true) (hras : sc.ras = true) : Keeps sc s0 (State.sramCorrected s src index inj) := by
  unfold State.sramCorrected
  repeat' first
      | (with_reducible first
          | assumption
          | apply keeps_limited
          | apply keeps_inc
          | apply keeps_ev
          | apply keeps_replace
          | apply keeps_alert
          | refine keeps_ite ?_ ?_
          | apply keeps_foldl)
      | split
      | (with_reducible apply keeps_put_ras hras; (with_reducible first
          | assumption
          | apply keeps_limited
          | apply keeps_inc
          | apply keeps_ev
          | apply keeps_replace
          | apply keeps_alert
          | apply keeps_foldl
          | split))
      | intro _
      | dsimp only

theorem keeps_freezeNext (s : State) (x : Stage) (h : Keeps sc s0 s) (hout : sc.out = true) (hcourses : sc.courses = true) :
    Keeps sc s0 (State.freezeNext s x) := by
  unfold State.freezeNext
  repeat' first
      | (with_reducible first
          | assumption
          | apply keeps_setStage
          | apply keeps_freezePicture
          | apply keeps_hwPictureEnd
          | refine keeps_ite ?_ ?_
          | apply keeps_foldl
          | intro _)
      | split
      | dsimp only

theorem keeps_freezeFountBand (s : State) (c : Nat) (k : Nat) (h : Keeps sc s0 s) (hregs : sc.regs = true) (hout : sc.out =
    true) (hcourses : sc.courses = true) : Keeps sc s0 (State.freezeFountBand s c k) := by
  unfold State.freezeFountBand
  repeat' first
      | (with_reducible first
          | assumption
          | apply keeps_updBuf
          | apply keeps_setStream
          | apply keeps_auEnd
          | refine keeps_ite ?_ ?_
          | apply keeps_foldl
          | intro _)
      | split
      | dsimp only

theorem keeps_failTxn (s : State) (id : Nat) (h : Keeps sc s0 s) (hmemsys : sc.memsys = true) : Keeps sc s0 (State.failTxn s
    id) := by
  unfold State.failTxn
  exact keeps_put_memsys hmemsys h

theorem keeps_arrayFault (s : State) (src : Nat) (a : ArrayOwner) (inj : Bool) (h : Keeps sc s0 s) (hunits : sc.units = true)
    (hmem : sc.mem = true) (hregs : sc.regs = true) (hout : sc.out = true) (hcourses : sc.courses = true) (hcoders : sc.coders
    = true) (hemit : sc.emit = true) (hmemsys : sc.memsys = true) (hdma : sc.dma = true) (hpair : sc.pair = true) (hras :
    sc.ras = true) : Keeps sc s0 (State.arrayFault s src a inj) := by
  unfold State.arrayFault
  repeat' first
      | (with_reducible first
          | assumption
          | apply keeps_fetchFault
          | apply keeps_freezeNext
          | apply keeps_freezeFountBand
          | apply keeps_retireUnit
          | apply keeps_errorEnd
          | apply keeps_setSlc
          | apply keeps_inc
          | apply keeps_setOsub
          | apply keeps_setOport
          | apply keeps_failTxn
          | apply keeps_fatal
          | refine keeps_ite ?_ ?_
          | apply keeps_foldl
          | intro _)
      | split
      | dsimp only

theorem keeps_sramError (s : State) (src index kind : Nat) (a : ArrayOwner) (h : Keeps sc s0 s) (hunits : sc.units = true)
    (hmem : sc.mem = true) (hregs : sc.regs = true) (hout : sc.out = true) (hcourses : sc.courses = true) (hcoders : sc.coders
    = true) (hemit : sc.emit = true) (hmemsys : sc.memsys = true) (hdma : sc.dma = true) (hpair : sc.pair = true) (hras :
    sc.ras = true) :
    Keeps sc s0 (State.sramError s src index kind a) := by
  unfold State.sramError
  split
  rename_i e
  split at e
  · have := keeps_injected h hout hras ‹_›
    injection e with _ e
    injection e with _ e
    subst e
    repeat' (with_reducible first
        | assumption
        | apply keeps_wrn
        | apply keeps_sramCorrected
        | apply keeps_inc
        | apply keeps_ev
        | apply keeps_arrayFault
        | refine keeps_ite ?_ ?_)
  · injection e with _ e
    injection e with _ e
    subst e
    repeat' (with_reducible first
        | assumption
        | apply keeps_wrn
        | apply keeps_sramCorrected
        | apply keeps_inc
        | apply keeps_ev
        | apply keeps_arrayFault
        | refine keeps_ite ?_ ?_)

theorem keeps_execSramError (src : Nat) (index : Nat) (kind : Nat) (a : ArrayOwner) (s : State) (h : Keeps sc s0 s) (hunits :
    sc.units = true) (hmem : sc.mem = true) (hregs : sc.regs = true) (hout : sc.out = true) (hcourses : sc.courses = true)
    (hcoders : sc.coders = true) (hemit : sc.emit = true) (hmemsys : sc.memsys = true) (hdma : sc.dma = true) (hpair : sc.pair
    = true) (hras : sc.ras = true) : KeepsO sc s0 (execSramError src index kind a s) := by
  unfold execSramError
  repeat' (with_reducible first | assumption | apply keeps_sramError | apply keepsO_next)

theorem keeps_execFatalCondition (cause : Nat) (s : State) (h : Keeps sc s0 s) (hmem : sc.mem = true) (hregs : sc.regs = true)
    (hout : sc.out = true) (hemit : sc.emit = true) (hmemsys : sc.memsys = true) (hdma : sc.dma = true) (hpair : sc.pair =
    true) (hras : sc.ras = true) : KeepsO sc s0 (execFatalCondition cause s) := by
  unfold execFatalCondition
  repeat' (with_reducible first | assumption | apply keeps_fatal | apply keepsO_next | refine keeps_ite ?_ ?_)

theorem keeps_excursion (s : State) (inj : Bool) (h : Keeps sc s0 s) (hregs : sc.regs = true) (hout : sc.out = true) (hras :
    sc.ras = true) : Keeps sc s0 (State.excursion s inj) := by
  unfold State.excursion
  repeat' first
      | (with_reducible first
          | assumption
          | apply keeps_inc
          | apply keeps_replace
          | refine keeps_ite ?_ ?_
          | apply keeps_foldl)
      | split
      | (with_reducible apply keeps_put_ras hras; (with_reducible first
          | assumption
          | apply keeps_inc
          | apply keeps_replace
          | apply keeps_foldl
          | split))
      | intro _
      | dsimp only

theorem keeps_thermTrip (s : State) (raw : Int) (inj : Bool) (h : Keeps sc s0 s) (hmem : sc.mem = true) (hregs : sc.regs =
    true) (hout : sc.out = true) (hemit : sc.emit = true) (hmemsys : sc.memsys = true) (hdma : sc.dma = true) (hpair : sc.pair
    = true) (hras : sc.ras = true) : Keeps sc s0 (State.thermTrip s raw inj) := by
  unfold State.thermTrip
  repeat' first
      | (with_reducible first
          | assumption
          | apply keeps_emit
          | apply keeps_replace
          | apply keeps_fatal
          | refine keeps_ite ?_ ?_
          | apply keeps_foldl)
      | split
      | (with_reducible apply keeps_put_ras hras; (with_reducible first
          | assumption
          | apply keeps_emit
          | apply keeps_replace
          | apply keeps_fatal
          | apply keeps_foldl
          | split))
      | intro _
      | dsimp only

theorem keeps_thermalSample (s : State) (die : Int) (hbm : Int) (h : Keeps sc s0 s) (hmem : sc.mem = true) (hregs : sc.regs =
    true) (hout : sc.out = true) (hemit : sc.emit = true) (hmemsys : sc.memsys = true) (hdma : sc.dma = true) (hpair : sc.pair
    = true) (hras : sc.ras = true) : Keeps sc s0 (State.thermalSample s die hbm) := by
  unfold State.thermalSample
  repeat' first
      | (with_reducible first
          | assumption
          | apply keeps_wrn
          | apply keeps_ev
          | apply keeps_alert
          | apply keeps_excursion
          | apply keeps_thermTrip
          | refine keeps_ite ?_ ?_
          | apply keeps_foldl)
      | split
      | (with_reducible apply keeps_put_ras hras; (with_reducible first
          | assumption
          | apply keeps_wrn
          | apply keeps_ev
          | apply keeps_alert
          | apply keeps_excursion
          | apply keeps_thermTrip
          | apply keeps_foldl
          | split))
      | intro _
      | dsimp only

theorem keeps_execThermalSample (die : Int) (hbm : Int) (s : State) (h : Keeps sc s0 s) (hmem : sc.mem = true) (hregs : sc.regs
    = true) (hout : sc.out = true) (hemit : sc.emit = true) (hmemsys : sc.memsys = true) (hdma : sc.dma = true) (hpair :
    sc.pair = true) (hras : sc.ras = true) : KeepsO sc s0 (execThermalSample die hbm s) := by
  unfold execThermalSample
  repeat' (with_reducible first | assumption | apply keeps_thermalSample | apply keepsO_next)

theorem keeps_execThermStepReleaseTimer (k : Nat) (s : State) (h : Keeps sc s0 s) (hclk : sc.clk = true) (hras : sc.ras = true)
    : KeepsO sc s0 (execThermStepReleaseTimer k s) := by
  unfold execThermStepReleaseTimer
  repeat' first
      | (with_reducible first
          | assumption
          | apply keeps_runTo
          | apply keepsO_next
          | refine keeps_ite ?_ ?_
          | apply keeps_foldl)
      | split
      | (with_reducible apply keeps_put_ras hras; (with_reducible first
          | assumption
          | apply keeps_runTo
          | apply keepsO_next
          | apply keeps_foldl
          | split))
      | intro _
      | dsimp only

theorem keeps_thermApply (s : State) (d : Nat) (h : Keeps sc s0 s) (hregs : sc.regs = true) (hout : sc.out = true) (hweir :
    sc.weir = true) (hpair : sc.pair = true) (hras : sc.ras = true) : Keeps sc s0 (State.thermApply s d) := by
  unfold State.thermApply
  repeat' first
      | (with_reducible first
          | assumption
          | apply keeps_updDom
          | apply keeps_updPair
          | apply keeps_ev
          | apply keeps_alert
          | apply keeps_wrn
          | refine keeps_ite ?_ ?_
          | apply keeps_foldl)
      | split
      | (with_reducible apply keeps_upd; (with_reducible first
          | assumption
          | apply keeps_updDom
          | apply keeps_updPair
          | apply keeps_ev
          | apply keeps_alert
          | apply keeps_wrn
          | apply keeps_foldl
          | split))
      | (with_reducible first
          | exact Held.refl _
          | exact TimeStep.refl _
          | exact ImgStep.refl _
          | exact UnitStep.refl _ _
          | exact MemStep.refl _
          | exact Held.write hregs
          | exact Held.write hout
          | exact Held.write hweir
          | exact Held.write hpair
          | exact Held.write hras)
      | intro _
      | dsimp only

/-! ### Course -/

theorem keeps_blacken (s : State) (k : Nat) (slots : Nat) (bands : Nat) (h : Keeps sc s0 s) (hcourses : sc.courses = true) :
    Keeps sc s0 (State.blacken s k slots bands) := by
  unfold State.blacken
  exact keeps_put_courses hcourses h

theorem keeps_blackInput (s : State) (i : InputRec) (h : Keeps sc s0 s) (hcourses : sc.courses = true) : Keeps sc s0
    (State.blackInput s i) := by
  unfold State.blackInput
  repeat' (with_reducible first | assumption | apply keeps_blacken)

theorem keeps_blackRung (s : State) (g : RungRec) (h : Keeps sc s0 s) (hcourses : sc.courses = true) : Keeps sc s0
    (State.blackRung s g) := by
  unfold State.blackRung
  repeat' (with_reducible first | assumption | apply keeps_blacken)

theorem keeps_blackProg (s : State) (c : Nat) (h : Keeps sc s0 s) (hcourses : sc.courses = true) : Keeps sc s0 (State.blackProg
    s c) := by
  unfold State.blackProg
  repeat' (with_reducible first | assumption | apply keeps_blacken)

theorem keeps_freshInput (s : State) (i : InputRec) (h : Keeps sc s0 s) (hregs : sc.regs = true) (hcourses : sc.courses = true)
    : Keeps sc s0 (State.freshInput s i) := by
  unfold State.freshInput
  repeat' first
      | (with_reducible first
          | assumption
          | apply keeps_blackInput
          | apply keeps_updInl
          | apply keeps_setStream
          | apply keeps_wrBoth
          | refine keeps_ite ?_ ?_
          | apply keeps_foldl)
      | split
      | (with_reducible apply keeps_put_courses hcourses; (with_reducible first
          | assumption
          | apply keeps_blackInput
          | apply keeps_updInl
          | apply keeps_setStream
          | apply keeps_wrBoth
          | apply keeps_foldl
          | split))
      | intro _
      | dsimp only

theorem keeps_freshLayers (s : State) (c : Nat) (h : Keeps sc s0 s) (hregs : sc.regs = true) (hcourses : sc.courses = true)
    (hdma : sc.dma = true) : Keeps sc s0 (State.freshLayers s c) := by
  unfold State.freshLayers
  repeat' first
      | (with_reducible first
          | assumption
          | apply keeps_layerIdentity
          | apply keeps_setLayer
          | apply keeps_protReset
          | refine keeps_ite ?_ ?_
          | apply keeps_foldl)
      | split
      | (with_reducible apply keeps_put_courses hcourses; (with_reducible first
          | assumption
          | apply keeps_layerIdentity
          | apply keeps_setLayer
          | apply keeps_protReset
          | apply keeps_foldl
          | split))
      | intro _
      | dsimp only

theorem keeps_unsync (s : State) (r : Nat) (cause : Nat) (picture : Nat) (h : Keeps sc s0 s) (hout : sc.out = true) (hcoders :
    sc.coders = true) : Keeps sc s0 (State.unsync s r cause picture) := by
  unfold State.unsync
  repeat' (with_reducible first | assumption | apply keeps_setRend | apply keeps_evRd | refine keeps_ite ?_ ?_)

theorem keeps_courseBlank (s : State) (c : Nat) (h : Keeps sc s0 s) (hregs : sc.regs = true) (hcourses : sc.courses = true)
    (hdma : sc.dma = true) : Keeps sc s0 (State.courseBlank s c) := by
  unfold State.courseBlank
  repeat' first
      | (with_reducible first
          | assumption
          | apply keeps_blackProg
          | apply keeps_blackRung
          | apply keeps_freshInput
          | apply keeps_freshLayers
          | apply keeps_setHead
          | refine keeps_ite ?_ ?_
          | apply keeps_foldl
          | intro _)
      | split
      | dsimp only

theorem keeps_courseFresh (s : State) (c : Nat) (h : Keeps sc s0 s) (hregs : sc.regs = true) (hout : sc.out = true) (hcourses :
    sc.courses = true) (hcoders : sc.coders = true) (hdma : sc.dma = true) : Keeps sc s0 (State.courseFresh s c) := by
  unfold State.courseFresh
  repeat' first
      | (with_reducible first
          | assumption
          | apply keeps_hwRestart
          | apply keeps_courseBlank
          | apply keeps_rendFresh
          | apply keeps_unsync
          | refine keeps_ite ?_ ?_
          | apply keeps_foldl)
      | split
      | (with_reducible apply keeps_put_coders hcoders; (with_reducible first
          | assumption
          | apply keeps_hwRestart
          | apply keeps_courseBlank
          | apply keeps_rendFresh
          | apply keeps_unsync
          | apply keeps_foldl
          | split))
      | intro _
      | dsimp only

theorem keeps_courseLoad (s : State) (c : Nat) (h : Keeps sc s0 s) (hcourses : sc.courses = true) (hcoders : sc.coders = true)
    : Keeps sc s0 (State.courseLoad s c) := by
  unfold State.courseLoad
  repeat' first
      | (with_reducible first
          | assumption
          | apply keeps_setLayer
          | apply keeps_rendLoad
          | refine keeps_ite ?_ ?_
          | apply keeps_foldl
          | intro _)
      | split
      | dsimp only

theorem keeps_courseBegin (s : State) (c : Nat) (h : Keeps sc s0 s) (hregs : sc.regs = true) (hout : sc.out = true) (hcourses :
    sc.courses = true) (hcoders : sc.coders = true) (hdma : sc.dma = true) : Keeps sc s0 (State.courseBegin s c) := by
  unfold State.courseBegin
  repeat' first
      | (with_reducible first
          | assumption
          | apply keeps_courseFresh
          | refine keeps_ite ?_ ?_
          | apply keeps_foldl)
      | split
      | (with_reducible apply keeps_put_courses hcourses; (with_reducible first
          | assumption
          | apply keeps_courseFresh
          | apply keeps_foldl
          | split))
      | intro _
      | dsimp only

theorem keeps_courseStart (s : State) (c : Nat) (h : Keeps sc s0 s) (hregs : sc.regs = true) (hout : sc.out = true) (hcourses :
    sc.courses = true) (hcoders : sc.coders = true) (hdma : sc.dma = true) : Keeps sc s0 (State.courseStart s c) := by
  unfold State.courseStart
  repeat' first
      | (with_reducible first
          | assumption
          | apply keeps_ev
          | apply keeps_courseBegin
          | refine keeps_ite ?_ ?_
          | apply keeps_foldl)
      | split
      | (with_reducible apply keeps_put_courses hcourses; (with_reducible first
          | assumption
          | apply keeps_ev
          | apply keeps_courseBegin
          | apply keeps_foldl
          | split))
      | intro _
      | dsimp only

theorem keeps_courseStop (s : State) (c : Nat) (h : Keeps sc s0 s) (hcourses : sc.courses = true) (hcoders : sc.coders = true)
    : Keeps sc s0 (State.courseStop s c) := by
  unfold State.courseStop
  repeat' first
      | (with_reducible first
          | assumption
          | apply keeps_setStage
          | apply keeps_setRend
          | refine keeps_ite ?_ ?_
          | apply keeps_foldl)
      | split
      | (with_reducible apply keeps_put_courses hcourses; (with_reducible first
          | assumption
          | apply keeps_setStage
          | apply keeps_setRend
          | apply keeps_foldl
          | split))
      | intro _
      | dsimp only

theorem keeps_heldStart (s : State) (d : Nat) (h : Keeps sc s0 s) (hregs : sc.regs = true) (hout : sc.out = true) (hcourses :
    sc.courses = true) (hcoders : sc.coders = true) (hdma : sc.dma = true) : Keeps sc s0 (State.heldStart s d) := by
  unfold State.heldStart
  repeat' first
      | (with_reducible first
          | assumption
          | apply keeps_courseBegin
          | refine keeps_ite ?_ ?_
          | apply keeps_foldl
          | intro _)
      | split
      | dsimp only

theorem keeps_courseSet (s : State) (c : Nat) (field : Nat) (v : Nat) (h : Keeps sc s0 s) (hst : sc.st = true) : Keeps sc s0
    (State.courseSet s c field v) := by
  unfold State.courseSet
  exact keeps_put_st hst h

theorem keeps_rcSet (s : State) (r : Nat) (p : RcSet) (h : Keeps sc s0 s) (hout : sc.out = true) (hcoders : sc.coders = true) :
    Keeps sc s0 (State.rcSet s r p) := by
  unfold State.rcSet
  repeat' (with_reducible first | assumption | apply keeps_rateSet)

theorem keeps_layerSet (s : State) (c : Nat) (l : Nat) (p : LayerSet) (h : Keeps sc s0 s) (hcourses : sc.courses = true) :
    Keeps sc s0 (State.layerSet s c l p) := by
  unfold State.layerSet
  repeat' (with_reducible first | assumption | apply keeps_setLayer)

theorem keeps_layerFlip (s : State) (c : Nat) (l : Nat) (surface : Nat) (pitch : Nat) (h : Keeps sc s0 s) (hcourses :
    sc.courses = true) : Keeps sc s0 (State.layerFlip s c l surface pitch) := by
  unfold State.layerFlip
  repeat' (with_reducible first | assumption | apply keeps_setLayer)

theorem keeps_keyNow (s : State) (c : Nat) (h : Keeps sc s0 s) (hcoders : sc.coders = true) : Keeps sc s0 (State.keyNow s c) :=
    by
  unfold State.keyNow
  exact keeps_put_coders hcoders h

theorem keeps_applyW (s : State) (a2 : WCmd) (h : Keeps sc s0 s) (hunits : sc.units = true) (hregs : sc.regs = true) (hout :
    sc.out = true) (hst : sc.st = true) (hcourses : sc.courses = true) (hcoders : sc.coders = true) (hmemsys : sc.memsys =
    true) (hdma : sc.dma = true) : Keeps sc s0 (State.applyW s a2) := by
  unfold State.applyW
  repeat' first
      | (with_reducible first
          | assumption
          | apply keeps_courseStart
          | apply keeps_courseStop
          | apply keeps_courseSet
          | apply keeps_keyNow
          | apply keeps_rcSet
          | apply keeps_layerSet
          | apply keeps_layerFlip
          | apply keeps_retireUnit
          | apply keeps_joinRequest
          | refine keeps_ite ?_ ?_
          | apply keeps_foldl
          | intro _)
      | split
      | dsimp only

theorem keeps_finishW (s : State) (x : Latched) (later : List Latched) (tick : Nat) (h : Keeps sc s0 s) (hout : sc.out = true)
    : Keeps sc s0 (State.finishW s x later tick) := by
  unfold State.finishW
  repeat' first
      | (with_reducible first
          | assumption
          | apply keeps_complete
          | apply keeps_raiseTo
          | refine keeps_ite ?_ ?_
          | apply keeps_foldl
          | intro _)
      | split
      | dsimp only

theorem keeps_applyEach (l : List Latched) (hclk : sc.clk = true) (hunits : sc.units = true) (hregs : sc.regs = true) (hout :
    sc.out = true) (hst : sc.st = true) (hcourses : sc.courses = true) (hcoders : sc.coders = true) (hmemsys : sc.memsys =
    true) (hdma : sc.dma = true) : ∀ s : State, Keeps sc s0 s → Keeps sc s0 (State.applyEach s l) := by
  induction l with
  | nil => exact fun _ h => h
  | cons a l ih =>
    intro s h
    unfold State.applyEach
    repeat' (with_reducible first | assumption | apply keeps_cycles | apply keeps_applyW | apply ih | refine keeps_ite ?_ ?_)

theorem keeps_finishEach (tick : Nat) (l : List Latched) (hout : sc.out = true) : ∀ s : State, Keeps sc s0 s → Keeps sc s0
    (State.finishEach s tick l) := by
  induction l with
  | nil => exact fun _ h => h
  | cons a l ih =>
    intro s h
    unfold State.finishEach
    repeat' (with_reducible first | assumption | apply keeps_finishW | apply ih)

theorem keeps_journal (s : State) (d : Nat) (l : List Journal) (h : Keeps sc s0 s) (hpair : sc.pair = true) : Keeps sc s0
    (State.journal s d l) := by
  unfold State.journal
  repeat' (with_reducible first | assumption | apply keeps_updPair | refine keeps_ite ?_ ?_)

theorem keeps_applyLatched (s : State) (d : Nat) (tick : Nat) (l : List Latched) (h : Keeps sc s0 s) (hclk : sc.clk = true)
    (hunits : sc.units = true) (hregs : sc.regs = true) (hout : sc.out = true) (hst : sc.st = true) (hcourses : sc.courses =
    true) (hcoders : sc.coders = true) (hmemsys : sc.memsys = true) (hdma : sc.dma = true) (hpair : sc.pair = true) : Keeps sc
    s0 (State.applyLatched s d tick l) := by
  unfold State.applyLatched
  repeat' (with_reducible first | assumption | apply keeps_journal | apply keeps_finishEach | apply keeps_applyEach)

theorem keeps_latchW (s : State) (d : Nat) (o : Origin) (c : WCmd) (h : Keeps sc s0 s) (hunits : sc.units = true) (hregs :
    sc.regs = true) (hout : sc.out = true) (hweir : sc.weir = true) (hst : sc.st = true) (hcourses : sc.courses = true)
    (hcoders : sc.coders = true) (hmemsys : sc.memsys = true) (hdma : sc.dma = true) (hpair : sc.pair = true) : Keeps sc s0
    (State.latchW s d o c) := by
  unfold State.latchW
  repeat' first
      | (with_reducible first
          | assumption
          | apply keeps_pace
          | apply keeps_journal
          | apply keeps_complete
          | apply keeps_applyW
          | apply keeps_updDom
          | refine keeps_ite ?_ ?_
          | apply keeps_foldl)
      | split
      | (with_reducible apply keeps_upd; (with_reducible first
          | assumption
          | apply keeps_pace
          | apply keeps_journal
          | apply keeps_complete
          | apply keeps_applyW
          | apply keeps_updDom
          | apply keeps_foldl
          | split))
      | (with_reducible first
          | exact Held.refl _
          | exact TimeStep.refl _
          | exact ImgStep.refl _
          | exact UnitStep.refl _ _
          | exact MemStep.refl _
          | exact Held.write hregs
          | exact Held.write hout
          | exact Held.write hweir
          | exact Held.write hst
          | exact Held.write hcourses
          | exact Held.write hcoders
          | exact Held.write hmemsys
          | exact Held.write hdma
          | exact Held.write hpair)
      | intro _
      | dsimp only

/-! ### Reservoir -/

theorem keeps_setChan (s : State) (n : Nat) (x : Chan) (h : Keeps sc s0 s) (hmemsys : sc.memsys = true) : Keeps sc s0
    (State.setChan s n x) := by
  unfold State.setChan
  exact keeps_put_memsys hmemsys h

theorem keeps_updChan (s : State) (n : Nat) (f : Chan → Chan) (h : Keeps sc s0 s) (hmemsys : sc.memsys = true) : Keeps sc s0
    (State.updChan s n f) := by
  unfold State.updChan
  repeat' (with_reducible first | assumption | apply keeps_setChan)

theorem keeps_refreshDue (s : State) (n : Nat) (b : Nat) (h : Keeps sc s0 s) (hclk : sc.clk = true) (hregs : sc.regs = true)
    (hout : sc.out = true) (hmemsys : sc.memsys = true) : Keeps sc s0 (State.refreshDue s n b) := by
  unfold State.refreshDue
  repeat' first
      | (with_reducible first
          | assumption
          | apply keeps_runTo
          | apply keeps_setChan
          | apply keeps_wrn
          | apply keeps_ev
          | apply keeps_inc
          | refine keeps_ite ?_ ?_
          | apply keeps_foldl
          | intro _)
      | split
      | dsimp only

theorem keeps_execRefreshDue (n : Nat) (b : Nat) (s : State) (h : Keeps sc s0 s) (hclk : sc.clk = true) (hregs : sc.regs =
    true) (hout : sc.out = true) (hmemsys : sc.memsys = true) : KeepsO sc s0 (execRefreshDue n b s) := by
  unfold execRefreshDue
  repeat' (with_reducible first | assumption | apply keeps_refreshDue | apply keepsO_next)

theorem keeps_activate (s : State) (n : Nat) (line : Nat) (h : Keeps sc s0 s) (hregs : sc.regs = true) (hmemsys : sc.memsys =
    true) : Keeps sc s0 (State.activate s n line) := by
  unfold State.activate
  repeat' (with_reducible first | assumption | apply keeps_setChan | apply keeps_inc | refine keeps_ite ?_ ?_)

theorem keeps_memInjected (s : State) (n : Nat) (dev : Nat) (r : CodeRead) (h : Keeps sc s0 s) (hout : sc.out = true) (hras :
    sc.ras = true) : Keeps sc s0 (State.memInjected s n dev r).2 := by
  unfold State.memInjected
  repeat' first
      | (with_reducible first
          | assumption
          | apply keeps_ev
          | refine keeps_ite ?_ ?_
          | apply keeps_foldl)
      | split
      | (with_reducible apply keeps_put_ras hras; (with_reducible first
          | assumption
          | apply keeps_ev
          | apply keeps_foldl
          | split))
      | intro _
      | dsimp only

theorem keeps_memCorrected (s : State) (n : Nat) (local_ : Nat) (dev : Nat) (sym : Nat) (scrub : Bool) (h : Keeps sc s0 s)
    (hregs : sc.regs = true) (hout : sc.out = true) (hmemsys : sc.memsys = true) : Keeps sc s0 (State.memCorrected s n local_
    dev sym scrub) := by
  unfold State.memCorrected
  repeat' first
      | (with_reducible first
          | assumption
          | apply keeps_setChan
          | apply keeps_wrn
          | apply keeps_inc
          | apply keeps_limited
          | apply keeps_ev
          | apply keeps_replace
          | refine keeps_ite ?_ ?_
          | apply keeps_foldl
          | intro _)
      | split
      | dsimp only

theorem keeps_memBad (s : State) (n : Nat) (local_ : Nat) (poisoned : Bool) (scrub : Bool) (h : Keeps sc s0 s) (hregs : sc.regs
    = true) (hout : sc.out = true) (hmemsys : sc.memsys = true) : Keeps sc s0 (State.memBad s n local_ poisoned scrub) := by
  unfold State.memBad
  repeat' (with_reducible first | assumption | apply keeps_updChan | apply keeps_wrn | apply keeps_inc | apply keeps_ev)

theorem keeps_decodeWord (s : State) (n : Nat) (local_ : Nat) (dev : Nat) (r : CodeRead) (scrub : Bool) (h : Keeps sc s0 s)
    (hregs : sc.regs = true) (hout : sc.out = true) (hmemsys : sc.memsys = true) (hras : sc.ras = true) : Keeps sc s0
    (State.decodeWord s n local_ dev r scrub).2 := by
  unfold State.decodeWord
  repeat' first
      | (with_reducible first
          | assumption
          | apply keeps_memInjected
          | apply keeps_memBad
          | apply keeps_memCorrected
          | refine keeps_ite ?_ ?_
          | apply keeps_foldl
          | intro _)
      | split
      | dsimp only

theorem keeps_writeWord (s : State) (n : Nat) (local_ : Nat) (dev : Nat) (d : List (Option Byte)) (r : CodeRead) (h : Keeps sc
    s0 s) (hregs : sc.regs = true) (hout : sc.out = true) (hmemsys : sc.memsys = true) (hras : sc.ras = true) : Keeps sc s0
    (State.writeWord s n local_ dev d r) := by
  unfold State.writeWord
  repeat' first
      | (with_reducible first
          | assumption
          | apply keeps_decodeWord
          | apply keeps_updChan
          | refine keeps_ite ?_ ?_
          | apply keeps_foldl
          | intro _)
      | split
      | dsimp only

theorem keeps_lineRead (s : State) (r : MemReq) (bad : Bool) (h : Keeps sc s0 s) (hout : sc.out = true) (hmemsys : sc.memsys =
    true) : Keeps sc s0 (State.lineRead s r bad) := by
  unfold State.lineRead
  repeat' first
      | (with_reducible first
          | assumption
          | apply keeps_updFab
          | apply keeps_respond
          | refine keeps_ite ?_ ?_
          | apply keeps_foldl
          | intro _)
      | split
      | dsimp only

theorem keeps_issue (s : State) (n : Nat) (r : MemReq) (a : CodeRead) (b : CodeRead) (h : Keeps sc s0 s) (hregs : sc.regs =
    true) (hout : sc.out = true) (hmemsys : sc.memsys = true) (hras : sc.ras = true) : Keeps sc s0 (State.issue s n r a b) := by
  unfold State.issue
  repeat' (with_reducible first
      | assumption
      | apply keeps_activate
      | apply keeps_updChan
      | apply keeps_inc64
      | apply keeps_writeWord
      | apply keeps_decodeWord
      | apply keeps_lineRead
      | refine keeps_ite ?_ ?_)

theorem keeps_memServe (s : State) (w : AtArbiter) (cyc : Nat) (h : Keeps sc s0 s) (hmem : sc.mem = true) (hregs : sc.regs =
    true) (hout : sc.out = true) (hmemsys : sc.memsys = true) (hras : sc.ras = true) : Keeps sc s0 (State.memServe s w cyc) :=
    by
  unfold State.memServe
  dsimp only
  split
  · exact keeps_injectTimeout _ _ _ _ h hout hmemsys hras _ ‹_›
  · repeat' first
      | (with_reducible first
          | assumption
          | apply keeps_setChan
          | apply keeps_inc
          | apply keeps_updFab
          | apply keeps_respond
          | refine keeps_ite ?_ ?_
          | apply keeps_foldl)
      | split
      | (with_reducible apply keeps_upd; (with_reducible first
          | assumption
          | apply keeps_setChan
          | apply keeps_inc
          | apply keeps_updFab
          | apply keeps_respond
          | apply keeps_foldl
          | split))
      | (with_reducible first
          | exact Held.refl _
          | exact TimeStep.refl _
          | exact ImgStep.refl _
          | exact UnitStep.refl _ _
          | exact MemStep.refl _
          | exact Held.write hregs
          | exact Held.write hout
          | exact Held.write hmemsys
          | exact Held.write hras)
      | (with_reducible refine MemStep.write hmem (Mem.wf_puts _ _ _))
      | (with_reducible refine MemStep.write hmem (Mem.wf_putEnabled _ _ _))
      | intro _
      | dsimp only

theorem keeps_memGrants (s : State) (n : Nat) (h : Keeps sc s0 s) (hmem : sc.mem = true) (hregs : sc.regs = true) (hout :
    sc.out = true) (hmemsys : sc.memsys = true) (hras : sc.ras = true) : Keeps sc s0 (State.memGrants s n) := by
  unfold State.memGrants
  repeat' first
      | (with_reducible first
          | assumption
          | apply keeps_grants
          | apply keeps_memServe
          | refine keeps_ite ?_ ?_
          | apply keeps_foldl
          | intro _)
      | split
      | dsimp only

theorem keeps_srAbandon (s : State) (n : Nat) (h : Keeps sc s0 s) (hmemsys : sc.memsys = true) : Keeps sc s0 (State.srAbandon s
    n) := by
  unfold State.srAbandon
  repeat' (with_reducible first | assumption | apply keeps_setChan | refine keeps_ite ?_ ?_)

theorem keeps_memRequest (s : State) (n : Nat) (pc : Nat) (a : CodeRead) (b : CodeRead) (h : Keeps sc s0 s) (hclk : sc.clk =
    true) (hmem : sc.mem = true) (hregs : sc.regs = true) (hout : sc.out = true) (hmemsys : sc.memsys = true) (hras : sc.ras =
    true) : Keeps sc s0 (State.memRequest s n pc a b) := by
  unfold State.memRequest
  repeat' first
      | (with_reducible first
          | assumption
          | apply keeps_memGrants
          | apply keeps_runTo
          | apply keeps_setChan
          | apply keeps_srAbandon
          | apply keeps_issue
          | refine keeps_ite ?_ ?_
          | apply keeps_foldl
          | intro _)
      | split
      | dsimp only

theorem keeps_execMemRequest (n : Nat) (pc : Nat) (a : CodeRead) (b : CodeRead) (s : State) (h : Keeps sc s0 s) (hclk : sc.clk
    = true) (hmem : sc.mem = true) (hregs : sc.regs = true) (hout : sc.out = true) (hweir : sc.weir = true) (hmemsys :
    sc.memsys = true) (hras : sc.ras = true) : KeepsO sc s0 (execMemRequest n pc a b s) := by
  unfold execMemRequest
  repeat' (with_reducible first | assumption | apply keeps_pace | apply keeps_memRequest | apply keepsO_next)

theorem keeps_scrubRead (s : State) (n : Nat) (a : CodeRead) (b : CodeRead) (h : Keeps sc s0 s) (hclk : sc.clk = true) (hregs :
    sc.regs = true) (hout : sc.out = true) (hmemsys : sc.memsys = true) (hras : sc.ras = true) : Keeps sc s0 (State.scrubRead s
    n a b) := by
  unfold State.scrubRead
  repeat' first
      | (with_reducible first
          | assumption
          | apply keeps_runTo
          | apply keeps_decodeWord
          | apply keeps_updChan
          | apply keeps_setChan
          | apply keeps_ev
          | refine keeps_ite ?_ ?_
          | apply keeps_foldl
          | intro _)
      | split
      | dsimp only

theorem keeps_execScrubRead (n : Nat) (a : CodeRead) (b : CodeRead) (s : State) (h : Keeps sc s0 s) (hclk : sc.clk = true)
    (hregs : sc.regs = true) (hout : sc.out = true) (hmemsys : sc.memsys = true) (hras : sc.ras = true) : KeepsO sc s0
    (execScrubRead n a b s) := by
  unfold execScrubRead
  repeat' (with_reducible first | assumption | apply keeps_scrubRead | apply keepsO_next)

theorem keeps_laneRetrain (s : State) (n : Nat) (found : Option (Nat × Nat × Nat × Nat)) (h : Keeps sc s0 s) (hclk : sc.clk =
    true) (hout : sc.out = true) (hmemsys : sc.memsys = true) : Keeps sc s0 (State.laneRetrain s n found) := by
  unfold State.laneRetrain
  repeat' first
      | (with_reducible first
          | assumption
          | apply keeps_runTo
          | apply keeps_setChan
          | apply keeps_updChan
          | apply keeps_ev
          | refine keeps_ite ?_ ?_
          | apply keeps_foldl
          | intro _)
      | split
      | dsimp only

theorem keeps_execLaneRetrain (n : Nat) (found : Option (Nat × Nat × Nat × Nat)) (s : State) (h : Keeps sc s0 s) (hclk : sc.clk
    = true) (hout : sc.out = true) (hmemsys : sc.memsys = true) : KeepsO sc s0 (execLaneRetrain n found s) := by
  unfold execLaneRetrain
  repeat' (with_reducible first | assumption | apply keeps_laneRetrain | apply keepsO_next)

theorem keeps_excluded {s : State} (n : Nat) (h : Keeps sc s0 s) (hunits : sc.units = true) :
    Keeps sc s0 { s with excluded := if s.excluded.contains n then s.excluded else s.excluded ++ [n] } := by
  refine keeps_upd h (TimeStep.refl _) (ImgStep.refl _) (UnitStep.grow hunits (fun _ m => m) ?_) (MemStep.refl _) ?_ ?_ ?_ ?_
      ?_ ?_
    ?_ ?_ ?_ ?_ ?_ ?_ ?_ ?_ <;> try exact Held.refl _
  intro u m
  split
  · exact m
  · exact List.mem_append_left _ m
theorem keeps_excludeChan (s : State) (n lane reason : Nat) (h : Keeps sc s0 s) (hunits : sc.units = true) (hregs : sc.regs =
    true) (hout : sc.out = true) (hmemsys : sc.memsys = true) :
    Keeps sc s0 (State.excludeChan s n lane reason) := by
  unfold State.excludeChan
  dsimp only
  repeat' (with_reducible first
    | assumption | apply keeps_replace | apply keeps_ev | apply keeps_wrn | apply keeps_excluded | apply keeps_updChan)

theorem keeps_trainChan (s : State) (t : ChanTraining) (h : Keeps sc s0 s) (hunits : sc.units = true) (hregs : sc.regs = true)
    (hout : sc.out = true) (hmemsys : sc.memsys = true) : Keeps sc s0 (State.trainChan s t) := by
  unfold State.trainChan
  repeat' first
      | (with_reducible first
          | assumption
          | apply keeps_updChan
          | apply keeps_ev
          | apply keeps_excludeChan
          | apply keeps_wrn
          | refine keeps_ite ?_ ?_
          | apply keeps_foldl
          | intro _)
      | split
      | dsimp only

theorem keeps_execMemTempChange (stack : Nat) (hot : Bool) (s : State) (h : Keeps sc s0 s) (hout : sc.out = true) (hmemsys :
    sc.memsys = true) : KeepsO sc s0 (execMemTempChange stack hot s) := by
  unfold execMemTempChange
  repeat' first
      | (with_reducible first
          | assumption
          | apply keeps_ev
          | apply keeps_updChan
          | apply keepsO_next
          | refine keeps_ite ?_ ?_
          | apply keeps_foldl
          | intro _)
      | split
      | dsimp only

theorem keeps_srSet (s : State) (n : Nat) (h : Keeps sc s0 s) (hmem : sc.mem = true) (hregs : sc.regs = true) (hout : sc.out =
    true) (hmemsys : sc.memsys = true) (hras : sc.ras = true) : Keeps sc s0 (State.srSet s n) := by
  unfold State.srSet
  repeat' (with_reducible first
      | assumption
      | apply keeps_memGrants
      | apply keeps_ev
      | apply keeps_setFld
      | apply keeps_updChan
      | refine keeps_ite ?_ ?_)

theorem keeps_execSrReqSet (n : Nat) (s : State) (h : Keeps sc s0 s) (hmem : sc.mem = true) (hregs : sc.regs = true) (hout :
    sc.out = true) (hmemsys : sc.memsys = true) (hras : sc.ras = true) : KeepsO sc s0 (execSrReqSet n s) := by
  unfold execSrReqSet
  repeat' (with_reducible first | assumption | apply keeps_srSet | apply keepsO_next)

theorem keeps_stackEntered (s : State) (h : Keeps sc s0 s) (hregs : sc.regs = true) (hout : sc.out = true) (hboot : sc.boot =
    true) : Keeps sc s0 (State.stackEntered s) := by
  unfold State.stackEntered
  repeat' first
      | (with_reducible first
          | assumption
          | apply keeps_ev
          | apply keeps_wrn
          | refine keeps_ite ?_ ?_
          | apply keeps_foldl)
      | split
      | (with_reducible apply keeps_put_boot hboot; (with_reducible first
          | assumption
          | apply keeps_ev
          | apply keeps_wrn
          | apply keeps_foldl
          | split))
      | intro _
      | dsimp only

theorem keeps_srEntered (s : State) (n : Nat) (h : Keeps sc s0 s) (hclk : sc.clk = true) (hregs : sc.regs = true) (hout :
    sc.out = true) (hmemsys : sc.memsys = true) (hboot : sc.boot = true) : Keeps sc s0 (State.srEntered s n) := by
  unfold State.srEntered
  repeat' first
      | (with_reducible first
          | assumption
          | apply keeps_runTo
          | apply keeps_setChan
          | apply keeps_stackEntered
          | apply keeps_ev
          | refine keeps_ite ?_ ?_
          | apply keeps_foldl)
      | split
      | (with_reducible apply keeps_put_memsys hmemsys; (with_reducible first
          | assumption
          | apply keeps_runTo
          | apply keeps_setChan
          | apply keeps_stackEntered
          | apply keeps_ev
          | apply keeps_foldl
          | split))
      | intro _
      | dsimp only

theorem keeps_execSrEntryDone (n : Nat) (s : State) (h : Keeps sc s0 s) (hclk : sc.clk = true) (hregs : sc.regs = true) (hout :
    sc.out = true) (hmemsys : sc.memsys = true) (hboot : sc.boot = true) : KeepsO sc s0 (execSrEntryDone n s) := by
  unfold execSrEntryDone
  repeat' (with_reducible first | assumption | apply keeps_srEntered | apply keepsO_next)

theorem keeps_srClear (s : State) (n : Nat) (h : Keeps sc s0 s) (hregs : sc.regs = true) (hout : sc.out = true) (hmemsys :
    sc.memsys = true) : Keeps sc s0 (State.srClear s n) := by
  unfold State.srClear
  repeat' first
      | (with_reducible first
          | assumption
          | apply keeps_setFld
          | apply keeps_ev
          | apply keeps_updChan
          | apply keeps_srAbandon
          | refine keeps_ite ?_ ?_
          | apply keeps_foldl)
      | split
      | (with_reducible apply keeps_put_memsys hmemsys; (with_reducible first
          | assumption
          | apply keeps_setFld
          | apply keeps_ev
          | apply keeps_updChan
          | apply keeps_srAbandon
          | apply keeps_foldl
          | split))
      | intro _
      | dsimp only

theorem keeps_execSrReqClear (n : Nat) (s : State) (h : Keeps sc s0 s) (hregs : sc.regs = true) (hout : sc.out = true) (hmemsys
    : sc.memsys = true) : KeepsO sc s0 (execSrReqClear n s) := by
  unfold execSrReqClear
  repeat' (with_reducible first | assumption | apply keeps_srClear | apply keepsO_next)

theorem keeps_resCtrl (s : State) (n : Nat) (w : Word) (h : Keeps sc s0 s) (hmem : sc.mem = true) (hregs : sc.regs = true)
    (hout : sc.out = true) (hmemsys : sc.memsys = true) (hras : sc.ras = true) : Keeps sc s0 (State.resCtrl s n w) := by
  unfold State.resCtrl
  repeat' first
      | (with_reducible first
          | assumption
          | apply keeps_setFld
          | apply keeps_srSet
          | apply keeps_srClear
          | refine keeps_ite ?_ ?_
          | apply keeps_foldl)
      | split
      | (with_reducible apply keeps_upd; (with_reducible first
          | assumption
          | apply keeps_setFld
          | apply keeps_srSet
          | apply keeps_srClear
          | apply keeps_foldl
          | split))
      | (with_reducible first
          | exact Held.refl _
          | exact TimeStep.refl _
          | exact ImgStep.refl _
          | exact UnitStep.refl _ _
          | exact MemStep.refl _
          | exact Held.write hregs
          | exact Held.write hout
          | exact Held.write hmemsys
          | exact Held.write hras)
      | (with_reducible refine MemStep.write hmem (Mem.wf_puts _ _ _))
      | (with_reducible refine MemStep.write hmem (Mem.wf_putEnabled _ _ _))
      | intro _
      | dsimp only

/-! ### Host -/

theorem keeps_setSq (s : State) (f : Nat) (q : Nat) (x : SqPair) (h : Keeps sc s0 s) (hout : sc.out = true) : Keeps sc s0
    (State.setSq s f q x) := by
  unfold State.setSq
  repeat' (with_reducible first | assumption | apply keeps_updFunc)

theorem keeps_maintStep (s : State) (f : Nat) (g : Func → Func) (h : Keeps sc s0 s) (hout : sc.out = true) : Keeps sc s0
    (State.maintStep s f g) := by
  unfold State.maintStep
  repeat' (with_reducible first | assumption | apply keeps_updFunc | apply keeps_ev | refine keeps_ite ?_ ?_)

theorem keeps_setDevMaint (s : State) (on : Bool) (h : Keeps sc s0 s) (hout : sc.out = true) (hhost : sc.host = true) : Keeps
    sc s0 (State.setDevMaint s on) := by
  unfold State.setDevMaint
  repeat' first
      | (with_reducible first
          | assumption
          | apply keeps_ev
          | refine keeps_ite ?_ ?_
          | apply keeps_foldl)
      | split
      | (with_reducible apply keeps_put_host hhost; (with_reducible first
          | assumption
          | apply keeps_ev
          | apply keeps_foldl
          | split))
      | intro _
      | dsimp only

theorem keeps_mapOrigins (s : State) (g : Origin → Origin) (h : Keeps sc s0 s) (himg : sc.img = true) (hweir : sc.weir = true)
    (hhost : sc.host = true) (hpair : sc.pair = true) : Keeps sc s0 (State.mapOrigins s g) := by
  unfold State.mapOrigins
  repeat' first
      | (with_reducible first
          | assumption
          | refine keeps_ite ?_ ?_
          | apply keeps_foldl)
      | split
      | (with_reducible apply keeps_upd; (with_reducible first
          | assumption
          | apply keeps_foldl
          | split))
      | (with_reducible first
          | exact Held.refl _
          | exact TimeStep.refl _
          | exact ImgStep.refl _
          | exact UnitStep.refl _ _
          | exact MemStep.refl _
          | exact Held.write hweir
          | exact Held.write hhost
          | exact Held.write hpair)
      | exact ImgStep.of_slots himg rfl
      | intro _
      | dsimp only

theorem keeps_queueDisable (s : State) (f : Nat) (q : Nat) (h : Keeps sc s0 s) (himg : sc.img = true) (hout : sc.out = true)
    (hweir : sc.weir = true) (hhost : sc.host = true) (hpair : sc.pair = true) : Keeps sc s0 (State.queueDisable s f q) := by
  unfold State.queueDisable
  repeat' (with_reducible first | assumption | apply keeps_setSq | apply keeps_mapOrigins)

theorem keeps_queueCfg (s : State) (f : Nat) (q : Nat) (w : Word) (h : Keeps sc s0 s) (himg : sc.img = true) (hout : sc.out =
    true) (hweir : sc.weir = true) (hhost : sc.host = true) (hpair : sc.pair = true) : Keeps sc s0 (State.queueCfg s f q w) :=
    by
  unfold State.queueCfg
  repeat' (with_reducible first
      | assumption
      | apply keeps_setSq
      | apply keeps_queueDisable
      | apply keeps_maintStep
      | refine keeps_ite ?_ ?_)

theorem keeps_execQueueEnable (f : Nat) (q : Nat) (w : Word) (s : State) (h : Keeps sc s0 s) (himg : sc.img = true) (hout :
    sc.out = true) (hweir : sc.weir = true) (hhost : sc.host = true) (hpair : sc.pair = true) : KeepsO sc s0 (execQueueEnable f
    q w s) := by
  unfold execQueueEnable
  repeat' (with_reducible first | assumption | apply keeps_queueCfg | apply keepsO_next)

theorem keeps_sqTail (s : State) (f : Nat) (q : Nat) (v : Nat) (whole : Bool) (h : Keeps sc s0 s) (hout : sc.out = true) :
    Keeps sc s0 (State.sqTail s f q v whole) := by
  unfold State.sqTail
  repeat' (with_reducible first | assumption | apply keeps_setSq | apply keeps_doorbellInvalid | refine keeps_ite ?_ ?_)

theorem keeps_execSqTailDoorbell (f : Nat) (q : Nat) (v : Nat) (whole : Bool) (s : State) (h : Keeps sc s0 s) (hout : sc.out =
    true) : KeepsO sc s0 (execSqTailDoorbell f q v whole s) := by
  unfold execSqTailDoorbell
  repeat' (with_reducible first | assumption | apply keeps_sqTail | apply keepsO_next)

theorem keeps_cqHead (s : State) (f : Nat) (q : Nat) (v : Nat) (whole : Bool) (h : Keeps sc s0 s) (hout : sc.out = true) :
    Keeps sc s0 (State.cqHead s f q v whole) := by
  unfold State.cqHead
  repeat' (with_reducible first | assumption | apply keeps_setSq | apply keeps_doorbellInvalid | refine keeps_ite ?_ ?_)

theorem keeps_execCqHeadDoorbell (f : Nat) (q : Nat) (v : Nat) (whole : Bool) (s : State) (h : Keeps sc s0 s) (hout : sc.out =
    true) : KeepsO sc s0 (execCqHeadDoorbell f q v whole s) := by
  unfold execCqHeadDoorbell
  repeat' (with_reducible first | assumption | apply keeps_cqHead | apply keepsO_next)

theorem keeps_evqCtrl (s : State) (f : Nat) (w : Word) (h : Keeps sc s0 s) (hout : sc.out = true) : Keeps sc s0 (State.evqCtrl
    s f w) := by
  unfold State.evqCtrl
  repeat' (with_reducible first | assumption | apply keeps_updFunc | refine keeps_ite ?_ ?_)

theorem keeps_execEvqEnable (f : Nat) (w : Word) (s : State) (h : Keeps sc s0 s) (hout : sc.out = true) : KeepsO sc s0
    (execEvqEnable f w s) := by
  unfold execEvqEnable
  repeat' (with_reducible first | assumption | apply keeps_evqCtrl | apply keepsO_next)

theorem keeps_evqHead (s : State) (f : Nat) (w : Word) (h : Keeps sc s0 s) (hout : sc.out = true) : Keeps sc s0 (State.evqHead
    s f w) := by
  unfold State.evqHead
  repeat' first
      | (with_reducible first
          | assumption
          | refine keeps_ite ?_ ?_
          | apply keeps_foldl)
      | split
      | (with_reducible apply keeps_put_out hout; (with_reducible first
          | assumption
          | apply keeps_foldl
          | split))
      | intro _
      | dsimp only

theorem keeps_execEvqHeadWrite (f : Nat) (w : Word) (s : State) (h : Keeps sc s0 s) (hout : sc.out = true) : KeepsO sc s0
    (execEvqHeadWrite f w s) := by
  unfold execEvqHeadWrite
  repeat' (with_reducible first | assumption | apply keeps_evqHead | apply keepsO_next)

theorem keeps_abandonLoad (s : State) (h : Keeps sc s0 s) (himg : sc.img = true) (hout : sc.out = true) : Keeps sc s0
    (State.abandonLoad s) := by
  unfold State.abandonLoad
  repeat' first
      | (with_reducible first
          | assumption
          | apply keeps_ev
          | refine keeps_ite ?_ ?_
          | apply keeps_foldl)
      | split
      | (with_reducible apply keeps_upd; (with_reducible first
          | assumption
          | apply keeps_ev
          | apply keeps_foldl
          | split))
      | (with_reducible first
          | exact Held.refl _
          | exact TimeStep.refl _
          | exact ImgStep.refl _
          | exact UnitStep.refl _ _
          | exact MemStep.refl _
          | exact Held.write hout)
      | exact ImgStep.of_slots himg rfl
      | intro _
      | dsimp only

theorem keeps_withdrawAll (s : State) (f : Nat) (h : Keeps sc s0 s) (hweir : sc.weir = true) (hhost : sc.host = true) : Keeps
    sc s0 (State.withdrawAll s f) := by
  unfold State.withdrawAll
  repeat' first
      | (with_reducible first
          | assumption
          | refine keeps_ite ?_ ?_
          | apply keeps_foldl)
      | split
      | (with_reducible apply keeps_upd; (with_reducible first
          | assumption
          | apply keeps_foldl
          | split))
      | (with_reducible first
          | exact Held.refl _
          | exact TimeStep.refl _
          | exact ImgStep.refl _
          | exact UnitStep.refl _ _
          | exact MemStep.refl _
          | exact Held.write hweir
          | exact Held.write hhost)
      | intro _
      | dsimp only

theorem keeps_endMaint (s : State) (f : Nat) (h : Keeps sc s0 s) (hout : sc.out = true) (hhost : sc.host = true) : Keeps sc s0
    (State.endMaint s f) := by
  unfold State.endMaint
  repeat' first
      | (with_reducible first
          | assumption
          | apply keeps_maintStep
          | apply keeps_setDevMaint
          | refine keeps_ite ?_ ?_
          | apply keeps_foldl)
      | split
      | (with_reducible apply keeps_put_host hhost; (with_reducible first
          | assumption
          | apply keeps_maintStep
          | apply keeps_setDevMaint
          | apply keeps_foldl
          | split))
      | intro _
      | dsimp only

theorem keeps_flrOne (s : State) (f : Nat) (h : Keeps sc s0 s) (himg : sc.img = true) (hmem : sc.mem = true) (hregs : sc.regs =
    true) (hout : sc.out = true) (hweir : sc.weir = true) (hhost : sc.host = true) (hcourses : sc.courses = true) (hmemsys :
    sc.memsys = true) (hdma : sc.dma = true) (hpair : sc.pair = true) : Keeps sc s0 (State.flrOne s f) := by
  unfold State.flrOne
  repeat' first
      | (with_reducible first
          | assumption
          | apply keeps_mapOrigins
          | apply keeps_withdrawAll
          | apply keeps_abandonLoad
          | apply keeps_sluiceDisable
          | apply keeps_bceDrop
          | apply keeps_endMaint
          | apply keeps_masterReset
          | apply keeps_ev
          | refine keeps_ite ?_ ?_
          | apply keeps_foldl)
      | split
      | (with_reducible apply keeps_upd; (with_reducible first
          | assumption
          | apply keeps_mapOrigins
          | apply keeps_withdrawAll
          | apply keeps_abandonLoad
          | apply keeps_sluiceDisable
          | apply keeps_bceDrop
          | apply keeps_endMaint
          | apply keeps_masterReset
          | apply keeps_ev
          | apply keeps_foldl
          | split))
      | (with_reducible first
          | exact Held.refl _
          | exact TimeStep.refl _
          | exact ImgStep.refl _
          | exact UnitStep.refl _ _
          | exact MemStep.refl _
          | exact Held.write hregs
          | exact Held.write hout
          | exact Held.write hweir
          | exact Held.write hhost
          | exact Held.write hcourses
          | exact Held.write hmemsys
          | exact Held.write hdma
          | exact Held.write hpair)
      | exact ImgStep.of_slots himg rfl
      | (with_reducible refine MemStep.write hmem (Mem.wf_puts _ _ _))
      | (with_reducible refine MemStep.write hmem (Mem.wf_putEnabled _ _ _))
      | intro _
      | dsimp only

theorem keeps_setVfs (s : State) (n : Nat) (h : Keeps sc s0 s) (himg : sc.img = true) (hmem : sc.mem = true) (hregs : sc.regs =
    true) (hout : sc.out = true) (hweir : sc.weir = true) (hhost : sc.host = true) (hcourses : sc.courses = true) (hmemsys :
    sc.memsys = true) (hdma : sc.dma = true) (hpair : sc.pair = true) : Keeps sc s0 (State.setVfs s n) := by
  unfold State.setVfs
  repeat' first
      | (with_reducible first
          | assumption
          | apply keeps_ev
          | apply keeps_flrOne
          | refine keeps_ite ?_ ?_
          | apply keeps_foldl)
      | split
      | (with_reducible apply keeps_put_host hhost; (with_reducible first
          | assumption
          | apply keeps_ev
          | apply keeps_flrOne
          | apply keeps_foldl
          | split))
      | intro _
      | dsimp only

theorem keeps_flr (s : State) (f : Nat) (h : Keeps sc s0 s) (himg : sc.img = true) (hmem : sc.mem = true) (hregs : sc.regs =
    true) (hout : sc.out = true) (hweir : sc.weir = true) (hhost : sc.host = true) (hcourses : sc.courses = true) (hmemsys :
    sc.memsys = true) (hdma : sc.dma = true) (hpair : sc.pair = true) : Keeps sc s0 (State.flr s f) := by
  unfold State.flr
  repeat' (with_reducible first | assumption | apply keeps_flrOne | apply keeps_setVfs | refine keeps_ite ?_ ?_)

theorem keeps_execFunctionLevelReset (f : Nat) (s : State) (h : Keeps sc s0 s) (himg : sc.img = true) (hmem : sc.mem = true)
    (hregs : sc.regs = true) (hout : sc.out = true) (hweir : sc.weir = true) (hhost : sc.host = true) (hcourses : sc.courses =
    true) (hmemsys : sc.memsys = true) (hdma : sc.dma = true) (hpair : sc.pair = true) : KeepsO sc s0 (execFunctionLevelReset f
    s) := by
  unfold execFunctionLevelReset
  repeat' (with_reducible first | assumption | apply keeps_flr | apply keepsO_next | refine keeps_ite ?_ ?_)

theorem keeps_execVfEnableChanged (n : Nat) (s : State) (h : Keeps sc s0 s) (himg : sc.img = true) (hmem : sc.mem = true)
    (hregs : sc.regs = true) (hout : sc.out = true) (hweir : sc.weir = true) (hhost : sc.host = true) (hcourses : sc.courses =
    true) (hmemsys : sc.memsys = true) (hdma : sc.dma = true) (hpair : sc.pair = true) : KeepsO sc s0 (execVfEnableChanged n s)
    := by
  unfold execVfEnableChanged
  repeat' (with_reducible first | assumption | apply keeps_setVfs | apply keepsO_next)

theorem keeps_execLinkUp (rate : Nat) (width : Nat) (s : State) (h : Keeps sc s0 s) (hout : sc.out = true) (hhost : sc.host =
    true) : KeepsO sc s0 (execLinkUp rate width s) := by
  unfold execLinkUp
  repeat' first
      | (with_reducible first
          | assumption
          | apply keeps_ev
          | apply keepsO_next
          | refine keeps_ite ?_ ?_
          | apply keeps_foldl)
      | split
      | (with_reducible apply keeps_put_host hhost; (with_reducible first
          | assumption
          | apply keeps_ev
          | apply keepsO_next
          | apply keeps_foldl
          | split))
      | intro _
      | dsimp only

theorem keeps_linkDown (s : State) (ltssm : Nat) (h : Keeps sc s0 s) (hout : sc.out = true) (hhost : sc.host = true) : Keeps sc
    s0 (State.linkDown s ltssm) := by
  unfold State.linkDown
  repeat' first
      | (with_reducible first
          | assumption
          | apply keeps_ev
          | refine keeps_ite ?_ ?_
          | apply keeps_foldl)
      | split
      | (with_reducible apply keeps_put_host hhost; (with_reducible first
          | assumption
          | apply keeps_ev
          | apply keeps_foldl
          | split))
      | intro _
      | dsimp only

theorem keeps_execLinkDown (ltssm : Nat) (s : State) (h : Keeps sc s0 s) (hout : sc.out = true) (hhost : sc.host = true) :
    KeepsO sc s0 (execLinkDown ltssm s) := by
  unfold execLinkDown
  repeat' (with_reducible first | assumption | apply keeps_linkDown | apply keepsO_next)

theorem keeps_wake (s : State) (f : Nat) (h : Keeps sc s0 s) (hout : sc.out = true) : Keeps sc s0 (State.wake s f) := by
  unfold State.wake
  repeat' first
      | (with_reducible first
          | assumption
          | apply keeps_ev
          | refine keeps_ite ?_ ?_
          | apply keeps_foldl)
      | split
      | (with_reducible apply keeps_put_out hout; (with_reducible first
          | assumption
          | apply keeps_ev
          | apply keeps_foldl
          | split))
      | intro _
      | dsimp only

theorem keeps_execFunctionPowerState (f : Nat) (d3 : Bool) (s : State) (h : Keeps sc s0 s) (hout : sc.out = true) : KeepsO sc
    s0 (execFunctionPowerState f d3 s) := by
  unfold execFunctionPowerState
  repeat' first
      | (with_reducible first
          | assumption
          | apply keeps_updFunc
          | apply keeps_wake
          | apply keepsO_next
          | refine keeps_ite ?_ ?_
          | apply keeps_foldl)
      | split
      | (with_reducible apply keeps_upd; (with_reducible first
          | assumption
          | apply keeps_updFunc
          | apply keeps_wake
          | apply keepsO_next
          | apply keeps_foldl
          | split))
      | (with_reducible first
          | exact Held.refl _
          | exact TimeStep.refl _
          | exact ImgStep.refl _
          | exact UnitStep.refl _ _
          | exact MemStep.refl _
          | exact Held.write hout)
      | intro _
      | dsimp only

end Sys2Proof.Machine
end

