-- ==== Sys2Proof/Laws/Keeps04.lean ====
section
/-! SUPPORT. Keeps04.lean: what every operation keeps (Keeps.lean), one lemma an operation: Command, Healing, Placement, Swap, Lanes, Power. -/

namespace Sys2Proof.Machine

set_option linter.unusedVariables false
set_option linter.unusedTactic false
set_option linter.unreachableTactic false

variable {{sc : Scope}} {{s0 : State}}

/-! ### Command -/

theorem keeps_bufferLost (s : State) (o : Origin) (h : Keeps sc s0 s) (hout : sc.out = true) : Keeps sc s0 (State.bufferLost s
    o) := by
  unfold State.bufferLost
  repeat' (with_reducible first | assumption | apply keeps_complete)

theorem keeps_latchC (s : State) (c : Nat) (o : Origin) (x : WCmd) (h : Keeps sc s0 s) (hunits : sc.units = true) (hregs :
    sc.regs = true) (hout : sc.out = true) (hweir : sc.weir = true) (hst : sc.st = true) (hcourses : sc.courses = true)
    (hcoders : sc.coders = true) (hmemsys : sc.memsys = true) (hdma : sc.dma = true) (hpair : sc.pair = true) : Keeps sc s0
    (State.latchC s c o x) := by
  unfold State.latchC
  repeat' (with_reducible first | assumption | apply keeps_latchW)

theorem keeps_execCourseStart (o : Origin) (c : Nat) (s : State) (h : Keeps sc s0 s) (hunits : sc.units = true) (hregs :
    sc.regs = true) (hout : sc.out = true) (hweir : sc.weir = true) (hst : sc.st = true) (hcourses : sc.courses = true)
    (hcoders : sc.coders = true) (hmemsys : sc.memsys = true) (hdma : sc.dma = true) (hpair : sc.pair = true) : KeepsO sc s0
    (execCourseStart o c s) := by
  unfold execCourseStart
  repeat' first
      | (with_reducible first
          | assumption
          | apply keeps_checked
          | apply keeps_latchC
          | apply keepsO_next
          | refine keeps_ite ?_ ?_
          | apply keeps_foldl
          | intro _)
      | split
      | dsimp only

theorem keeps_execCourseStop (o : Origin) (c : Nat) (s : State) (h : Keeps sc s0 s) (hunits : sc.units = true) (hregs : sc.regs
    = true) (hout : sc.out = true) (hweir : sc.weir = true) (hst : sc.st = true) (hcourses : sc.courses = true) (hcoders :
    sc.coders = true) (hmemsys : sc.memsys = true) (hdma : sc.dma = true) (hpair : sc.pair = true) : KeepsO sc s0
    (execCourseStop o c s) := by
  unfold execCourseStop
  repeat' first
      | (with_reducible first
          | assumption
          | apply keeps_checked
          | apply keeps_latchC
          | apply keepsO_next
          | refine keeps_ite ?_ ?_
          | apply keeps_foldl
          | intro _)
      | split
      | dsimp only

theorem keeps_keyNowCmd (s : State) (o : Origin) (c : Nat) (h : Keeps sc s0 s) (hunits : sc.units = true) (hregs : sc.regs =
    true) (hout : sc.out = true) (hweir : sc.weir = true) (hst : sc.st = true) (hcourses : sc.courses = true) (hcoders :
    sc.coders = true) (hmemsys : sc.memsys = true) (hdma : sc.dma = true) (hpair : sc.pair = true) : Keeps sc s0
    (State.keyNowCmd s o c) := by
  unfold State.keyNowCmd
  repeat' first
      | (with_reducible first
          | assumption
          | apply keeps_checked
          | apply keeps_latchC
          | refine keeps_ite ?_ ?_
          | apply keeps_foldl
          | intro _)
      | split
      | dsimp only

theorem keeps_execKeyNow (o : Origin) (c : Nat) (s : State) (h : Keeps sc s0 s) (hunits : sc.units = true) (hregs : sc.regs =
    true) (hout : sc.out = true) (hweir : sc.weir = true) (hst : sc.st = true) (hcourses : sc.courses = true) (hcoders :
    sc.coders = true) (hmemsys : sc.memsys = true) (hdma : sc.dma = true) (hpair : sc.pair = true) : KeepsO sc s0 (execKeyNow o
    c s) := by
  unfold execKeyNow
  repeat' (with_reducible first | assumption | apply keeps_keyNowCmd | apply keepsO_next)

theorem keeps_admitLatch (s : State) (d : Nat) (o : Origin) (x : WCmd) (adm : Bool) (h : Keeps sc s0 s) (hunits : sc.units =
    true) (hregs : sc.regs = true) (hout : sc.out = true) (hweir : sc.weir = true) (hst : sc.st = true) (hcourses : sc.courses
    = true) (hcoders : sc.coders = true) (hmemsys : sc.memsys = true) (hdma : sc.dma = true) (hpair : sc.pair = true) : Keeps
    sc s0 (State.admitLatch s d o x adm) := by
  unfold State.admitLatch
  repeat' first
      | (with_reducible first
          | assumption
          | apply keeps_complete
          | apply keeps_latchW
          | refine keeps_ite ?_ ?_
          | apply keeps_foldl
          | intro _)
      | split
      | dsimp only

theorem keeps_execCourseSet (o : Origin) (c : Nat) (field : Nat) (v : Nat) (s : State) (h : Keeps sc s0 s) (hunits : sc.units =
    true) (hregs : sc.regs = true) (hout : sc.out = true) (hweir : sc.weir = true) (hst : sc.st = true) (hcourses : sc.courses
    = true) (hcoders : sc.coders = true) (hmemsys : sc.memsys = true) (hdma : sc.dma = true) (hpair : sc.pair = true) : KeepsO
    sc s0 (execCourseSet o c field v s) := by
  unfold execCourseSet
  repeat' first
      | (with_reducible first
          | assumption
          | apply keeps_checked
          | apply keeps_admitLatch
          | apply keepsO_next
          | refine keeps_ite ?_ ?_
          | apply keeps_foldl
          | intro _)
      | split
      | dsimp only

theorem keeps_execRcSet (o : Origin) (r : Nat) (p : RcSet) (s : State) (h : Keeps sc s0 s) (hunits : sc.units = true) (hregs :
    sc.regs = true) (hout : sc.out = true) (hweir : sc.weir = true) (hst : sc.st = true) (hcourses : sc.courses = true)
    (hcoders : sc.coders = true) (hmemsys : sc.memsys = true) (hdma : sc.dma = true) (hpair : sc.pair = true) : KeepsO sc s0
    (execRcSet o r p s) := by
  unfold execRcSet
  repeat' first
      | (with_reducible first
          | assumption
          | apply keeps_checked
          | apply keeps_admitLatch
          | apply keepsO_next
          | refine keeps_ite ?_ ?_
          | apply keeps_foldl
          | intro _)
      | split
      | dsimp only

theorem keeps_execLayerSet (o : Origin) (c : Nat) (l : Nat) (p : LayerSet) (s : State) (h : Keeps sc s0 s) (hunits : sc.units =
    true) (hregs : sc.regs = true) (hout : sc.out = true) (hweir : sc.weir = true) (hst : sc.st = true) (hcourses : sc.courses
    = true) (hcoders : sc.coders = true) (hmemsys : sc.memsys = true) (hdma : sc.dma = true) (hpair : sc.pair = true) : KeepsO
    sc s0 (execLayerSet o c l p s) := by
  unfold execLayerSet
  repeat' first
      | (with_reducible first
          | assumption
          | apply keeps_checked
          | apply keeps_latchC
          | apply keepsO_next
          | refine keeps_ite ?_ ?_
          | apply keeps_foldl
          | intro _)
      | split
      | dsimp only

theorem keeps_execLayerFlip (o : Origin) (c : Nat) (l : Nat) (surface : Nat) (pitch : Nat) (s : State) (h : Keeps sc s0 s)
    (hunits : sc.units = true) (hregs : sc.regs = true) (hout : sc.out = true) (hweir : sc.weir = true) (hst : sc.st = true)
    (hcourses : sc.courses = true) (hcoders : sc.coders = true) (hmemsys : sc.memsys = true) (hdma : sc.dma = true) (hpair :
    sc.pair = true) : KeepsO sc s0 (execLayerFlip o c l surface pitch s) := by
  unfold execLayerFlip
  repeat' first
      | (with_reducible first
          | assumption
          | apply keeps_checked
          | apply keeps_latchC
          | apply keepsO_next
          | refine keeps_ite ?_ ?_
          | apply keeps_foldl
          | intro _)
      | split
      | dsimp only

theorem keeps_await (s : State) (o : Origin) (c : PCmd) (h : Keeps sc s0 s) (hhost : sc.host = true) : Keeps sc s0 (State.await
    s o c) := by
  unfold State.await
  exact keeps_put_host hhost h

theorem keeps_subAdd (s : State) (o : Origin) (b : Bytes) (h : Keeps sc s0 s) (hout : sc.out = true) (hhost : sc.host = true) :
    Keeps sc s0 (State.subAdd s o b) := by
  unfold State.subAdd
  repeat' first
      | (with_reducible first
          | assumption
          | apply keeps_checked
          | apply keeps_await
          | apply keeps_complete
          | refine keeps_ite ?_ ?_
          | apply keeps_foldl
          | intro _)
      | split
      | dsimp only

theorem keeps_execSubAdd (o : Origin) (b : Option Bytes) (s : State) (h : Keeps sc s0 s) (hout : sc.out = true) (hhost :
    sc.host = true) : KeepsO sc s0 (execSubAdd o b s) := by
  unfold execSubAdd
  repeat' first
      | (with_reducible first
          | assumption
          | apply keeps_subAdd
          | apply keeps_bufferLost
          | apply keepsO_next
          | refine keeps_ite ?_ ?_
          | apply keeps_foldl
          | intro _)
      | split
      | dsimp only

theorem keeps_execSubDel (o : Origin) (n : Nat) (s : State) (h : Keeps sc s0 s) (hout : sc.out = true) (hhost : sc.host = true)
    : KeepsO sc s0 (execSubDel o n s) := by
  unfold execSubDel
  repeat' first
      | (with_reducible first
          | assumption
          | apply keeps_checked
          | apply keeps_await
          | apply keepsO_next
          | refine keeps_ite ?_ ?_
          | apply keeps_foldl
          | intro _)
      | split
      | dsimp only

theorem keeps_execSubSet (o : Origin) (n : Nat) (p : SubSet) (s : State) (h : Keeps sc s0 s) (hout : sc.out = true) (hhost :
    sc.host = true) : KeepsO sc s0 (execSubSet o n p s) := by
  unfold execSubSet
  repeat' first
      | (with_reducible first
          | assumption
          | apply keeps_checked
          | apply keeps_await
          | apply keepsO_next
          | refine keeps_ite ?_ ?_
          | apply keeps_foldl
          | intro _)
      | split
      | dsimp only

theorem keeps_serviceAdd (s : State) (o : Origin) (target : Nat) (resetTo : Nat) (b : Bytes) (h : Keeps sc s0 s) (hout : sc.out
    = true) (hhost : sc.host = true) : Keeps sc s0 (State.serviceAdd s o target resetTo b) := by
  unfold State.serviceAdd
  repeat' first
      | (with_reducible first
          | assumption
          | apply keeps_checked
          | apply keeps_await
          | apply keeps_complete
          | refine keeps_ite ?_ ?_
          | apply keeps_foldl
          | intro _)
      | split
      | dsimp only

theorem keeps_execServiceSetAdd (o : Origin) (target : Nat) (resetTo : Nat) (b : Option Bytes) (s : State) (h : Keeps sc s0 s)
    (hout : sc.out = true) (hhost : sc.host = true) : KeepsO sc s0 (execServiceSetAdd o target resetTo b s) := by
  unfold execServiceSetAdd
  repeat' first
      | (with_reducible first
          | assumption
          | apply keeps_serviceAdd
          | apply keeps_bufferLost
          | apply keepsO_next
          | refine keeps_ite ?_ ?_
          | apply keeps_foldl
          | intro _)
      | split
      | dsimp only

theorem keeps_serviceReplace (s : State) (o : Origin) (target : Nat) (resetTo : Nat) (b : Bytes) (h : Keeps sc s0 s) (hout :
    sc.out = true) (hhost : sc.host = true) : Keeps sc s0 (State.serviceReplace s o target resetTo b) := by
  unfold State.serviceReplace
  repeat' first
      | (with_reducible first
          | assumption
          | apply keeps_checked
          | apply keeps_await
          | apply keeps_complete
          | refine keeps_ite ?_ ?_
          | apply keeps_foldl
          | intro _)
      | split
      | dsimp only

theorem keeps_execServiceSetReplace (o : Origin) (target : Nat) (resetTo : Nat) (b : Option Bytes) (s : State) (h : Keeps sc s0
    s) (hout : sc.out = true) (hhost : sc.host = true) : KeepsO sc s0 (execServiceSetReplace o target resetTo b s) := by
  unfold execServiceSetReplace
  repeat' first
      | (with_reducible first
          | assumption
          | apply keeps_serviceReplace
          | apply keeps_bufferLost
          | apply keepsO_next
          | refine keeps_ite ?_ ?_
          | apply keeps_foldl
          | intro _)
      | split
      | dsimp only

theorem keeps_execServiceSetRemove (o : Origin) (n : Nat) (s : State) (h : Keeps sc s0 s) (hout : sc.out = true) (hhost :
    sc.host = true) : KeepsO sc s0 (execServiceSetRemove o n s) := by
  unfold execServiceSetRemove
  repeat' first
      | (with_reducible first
          | assumption
          | apply keeps_checked
          | apply keeps_await
          | apply keepsO_next
          | refine keeps_ite ?_ ?_
          | apply keeps_foldl
          | intro _)
      | split
      | dsimp only

theorem keeps_inflowAdd (s : State) (o : Origin) (b : Bytes) (h : Keeps sc s0 s) (hout : sc.out = true) (hhost : sc.host =
    true) : Keeps sc s0 (State.inflowAdd s o b) := by
  unfold State.inflowAdd
  repeat' first
      | (with_reducible first
          | assumption
          | apply keeps_checked
          | apply keeps_await
          | apply keeps_complete
          | refine keeps_ite ?_ ?_
          | apply keeps_foldl
          | intro _)
      | split
      | dsimp only

theorem keeps_execInflowAdd (o : Origin) (b : Option Bytes) (s : State) (h : Keeps sc s0 s) (hout : sc.out = true) (hhost :
    sc.host = true) : KeepsO sc s0 (execInflowAdd o b s) := by
  unfold execInflowAdd
  repeat' first
      | (with_reducible first
          | assumption
          | apply keeps_inflowAdd
          | apply keeps_bufferLost
          | apply keepsO_next
          | refine keeps_ite ?_ ?_
          | apply keeps_foldl
          | intro _)
      | split
      | dsimp only

theorem keeps_execInflowDel (o : Origin) (n : Nat) (s : State) (h : Keeps sc s0 s) (hout : sc.out = true) (hhost : sc.host =
    true) : KeepsO sc s0 (execInflowDel o n s) := by
  unfold execInflowDel
  repeat' first
      | (with_reducible first
          | assumption
          | apply keeps_checked
          | apply keeps_await
          | apply keepsO_next
          | refine keeps_ite ?_ ?_
          | apply keeps_foldl
          | intro _)
      | split
      | dsimp only

theorem keeps_clearRegs (s : State) (a : Nat) (b : Nat) (h : Keeps sc s0 s) (hregs : sc.regs = true) : Keeps sc s0
    (State.clearRegs s a b) := by
  unfold State.clearRegs
  exact keeps_put_regs hregs h

theorem keeps_joinLatch (s : State) (u : Nat) (h : Keeps sc s0 s) (hunits : sc.units = true) (hregs : sc.regs = true) (hout :
    sc.out = true) (hweir : sc.weir = true) (hst : sc.st = true) (hcourses : sc.courses = true) (hcoders : sc.coders = true)
    (hmemsys : sc.memsys = true) (hdma : sc.dma = true) (hpair : sc.pair = true) : Keeps sc s0 (State.joinLatch s u) := by
  unfold State.joinLatch
  repeat' first
      | (with_reducible first
          | assumption
          | apply keeps_latchW
          | refine keeps_ite ?_ ?_
          | apply keeps_foldl
          | intro _)
      | split
      | dsimp only

theorem keeps_subCreate (s : State) (u : Nat) (h : Keeps sc s0 s) (hunits : sc.units = true) (hregs : sc.regs = true) (hout :
    sc.out = true) (hweir : sc.weir = true) (hst : sc.st = true) (hcourses : sc.courses = true) (hcoders : sc.coders = true)
    (hemit : sc.emit = true) (hmemsys : sc.memsys = true) (hdma : sc.dma = true) (hpair : sc.pair = true) : Keeps sc s0
    (State.subCreate s u) := by
  unfold State.subCreate
  repeat' (with_reducible first | assumption | apply keeps_joinLatch | apply keeps_subMake | apply keeps_clearRegs)

theorem keeps_svcCreate (s : State) (v : Nat) (resetTo : Nat) (h : Keeps sc s0 s) (hregs : sc.regs = true) (hemit : sc.emit =
    true) : Keeps sc s0 (State.svcCreate s v resetTo) := by
  unfold State.svcCreate
  repeat' (with_reducible first | assumption | apply keeps_svcMake | apply keeps_clearRegs | apply keeps_setOsvc)

theorem keeps_subSetDone (s : State) (n : Nat) (p : SubSet) (old : SubRec) (h : Keeps sc s0 s) (hunits : sc.units = true)
    (hregs : sc.regs = true) (hout : sc.out = true) (hweir : sc.weir = true) (hst : sc.st = true) (hcourses : sc.courses =
    true) (hcoders : sc.coders = true) (hemit : sc.emit = true) (hmemsys : sc.memsys = true) (hdma : sc.dma = true) (hpair :
    sc.pair = true) : Keeps sc s0 (State.subSetDone s n p old) := by
  unfold State.subSetDone
  repeat' (with_reducible first
      | assumption
      | apply keeps_overcommitSvc
      | apply keeps_setOsub
      | apply keeps_joinLatch
      | apply keeps_subStart
      | refine keeps_ite ?_ ?_)

theorem keeps_applyP (s : State) (c : PCmd) (h : Keeps sc s0 s) (hunits : sc.units = true) (hregs : sc.regs = true) (hout :
    sc.out = true) (hweir : sc.weir = true) (hst : sc.st = true) (hcourses : sc.courses = true) (hcoders : sc.coders = true)
    (hemit : sc.emit = true) (hmemsys : sc.memsys = true) (hdma : sc.dma = true) (hpair : sc.pair = true) : Keeps sc s0
    (State.applyP s c) := by
  unfold State.applyP
  repeat' first
      | (with_reducible first
          | assumption
          | apply keeps_subCreate
          | apply keeps_updOut
          | apply keeps_subSetDone
          | apply keeps_overcommitPort
          | apply keeps_svcCreate
          | apply keeps_setOsvc
          | apply keeps_overcommitSvc
          | apply keeps_inflowCreated
          | apply keeps_inflowDeleted
          | refine keeps_ite ?_ ?_
          | apply keeps_foldl)
      | split
      | (with_reducible apply keeps_put_st hst; (with_reducible first
          | assumption
          | apply keeps_subCreate
          | apply keeps_updOut
          | apply keeps_subSetDone
          | apply keeps_overcommitPort
          | apply keeps_svcCreate
          | apply keeps_setOsvc
          | apply keeps_overcommitSvc
          | apply keeps_inflowCreated
          | apply keeps_inflowDeleted
          | apply keeps_foldl
          | split))
      | intro _
      | dsimp only

theorem keeps_imageApplied (s : State) (p : Partial) (h : Keeps sc s0 s) (himg : sc.img = true) (hout : sc.out = true) : Keeps
    sc s0 (State.imageApplied s p) := by
  unfold State.imageApplied
  repeat' first
      | (with_reducible first
          | assumption
          | apply keeps_ev
          | refine keeps_ite ?_ ?_
          | apply keeps_foldl)
      | split
      | (with_reducible apply keeps_upd; (with_reducible first
          | assumption
          | apply keeps_ev
          | apply keeps_foldl
          | split))
      | (with_reducible first
          | exact Held.refl _
          | exact TimeStep.refl _
          | exact ImgStep.refl _
          | exact UnitStep.refl _ _
          | exact MemStep.refl _
          | exact Held.write hout)
      | exact ImgStep.of_slots himg rfl
      | intro _
      | dsimp only

theorem keeps_imageSettle (s : State) (h : Keeps sc s0 s) (himg : sc.img = true) (hout : sc.out = true) : Keeps sc s0
    (State.imageSettle s) := by
  unfold State.imageSettle
  repeat' first
      | (with_reducible first
          | assumption
          | apply keeps_imageApplied
          | refine keeps_ite ?_ ?_
          | apply keeps_foldl
          | intro _)
      | split
      | dsimp only

theorem keeps_pApply (s : State) (k : Nat) (h : Keeps sc s0 s) (hclk : sc.clk = true) (himg : sc.img = true) (hunits : sc.units
    = true) (hregs : sc.regs = true) (hout : sc.out = true) (hweir : sc.weir = true) (hhost : sc.host = true) (hst : sc.st =
    true) (hcourses : sc.courses = true) (hcoders : sc.coders = true) (hemit : sc.emit = true) (hmemsys : sc.memsys = true)
    (hdma : sc.dma = true) (hpair : sc.pair = true) : Keeps sc s0 (State.pApply s k) := by
  unfold State.pApply
  repeat' first
      | (with_reducible first
          | assumption
          | apply keeps_portSettle
          | apply keeps_runTo
          | apply keeps_imageSettle
          | apply keeps_complete
          | apply keeps_applyP
          | apply keeps_journal
          | refine keeps_ite ?_ ?_
          | apply keeps_foldl)
      | split
      | (with_reducible apply keeps_put_host hhost; (with_reducible first
          | assumption
          | apply keeps_portSettle
          | apply keeps_runTo
          | apply keeps_imageSettle
          | apply keeps_complete
          | apply keeps_applyP
          | apply keeps_journal
          | apply keeps_foldl
          | split))
      | intro _
      | dsimp only

theorem keeps_execPCommandApply (k : Nat) (s : State) (h : Keeps sc s0 s) (hclk : sc.clk = true) (himg : sc.img = true) (hunits
    : sc.units = true) (hregs : sc.regs = true) (hout : sc.out = true) (hweir : sc.weir = true) (hhost : sc.host = true) (hst :
    sc.st = true) (hcourses : sc.courses = true) (hcoders : sc.coders = true) (hemit : sc.emit = true) (hmemsys : sc.memsys =
    true) (hdma : sc.dma = true) (hpair : sc.pair = true) : KeepsO sc s0 (execPCommandApply k s) := by
  unfold execPCommandApply
  repeat' (with_reducible first | assumption | apply keeps_pApply | apply keepsO_next)

theorem keeps_unitStop (s : State) (src : Nat) (h : Keeps sc s0 s) (hmem : sc.mem = true) (hregs : sc.regs = true) (hout :
    sc.out = true) (hcourses : sc.courses = true) (hcoders : sc.coders = true) (hmemsys : sc.memsys = true) (hdma : sc.dma =
    true) : Keeps sc s0 (State.unitStop s src) := by
  unfold State.unitStop
  repeat' first
      | (with_reducible first
          | assumption
          | apply keeps_updTarn
          | apply keeps_spillTarn
          | apply keeps_sluiceDisable
          | apply keeps_bceDrop
          | apply keeps_chkReset
          | apply keeps_portFormedLat
          | apply keeps_portDown
          | apply keeps_freezeUnit
          | refine keeps_ite ?_ ?_
          | apply keeps_foldl
          | intro _)
      | split
      | dsimp only

theorem keeps_execUnitReset (o : Origin) (src : Nat) (s : State) (h : Keeps sc s0 s) (hmem : sc.mem = true) (hregs : sc.regs =
    true) (hout : sc.out = true) (hhost : sc.host = true) (hcourses : sc.courses = true) (hcoders : sc.coders = true) (hmemsys
    : sc.memsys = true) (hdma : sc.dma = true) : KeepsO sc s0 (execUnitReset o src s) := by
  unfold execUnitReset
  repeat' first
      | (with_reducible first
          | assumption
          | apply keeps_checked
          | apply keeps_unitBurst
          | apply keeps_unitStop
          | apply keepsO_next
          | refine keeps_ite ?_ ?_
          | apply keeps_foldl)
      | split
      | (with_reducible apply keeps_put_host hhost; (with_reducible first
          | assumption
          | apply keeps_checked
          | apply keeps_unitBurst
          | apply keeps_unitStop
          | apply keepsO_next
          | apply keeps_foldl
          | split))
      | intro _
      | dsimp only

theorem keeps_execUnitResetDone (src : Nat) (cycles : Nat) (s : State) (h : Keeps sc s0 s) (hclk : sc.clk = true) (hout :
    sc.out = true) (hhost : sc.host = true) : KeepsO sc s0 (execUnitResetDone src cycles s) := by
  unfold execUnitResetDone
  repeat' first
      | (with_reducible first
          | assumption
          | apply keeps_runTo
          | apply keeps_ev
          | apply keeps_complete
          | apply keepsO_next
          | refine keeps_ite ?_ ?_
          | apply keeps_foldl)
      | split
      | (with_reducible apply keeps_put_host hhost; (with_reducible first
          | assumption
          | apply keeps_runTo
          | apply keeps_ev
          | apply keeps_complete
          | apply keepsO_next
          | apply keeps_foldl
          | split))
      | intro _
      | dsimp only

theorem keeps_execUnitRetire (o : Origin) (src : Nat) (s : State) (h : Keeps sc s0 s) (hunits : sc.units = true) (hregs :
    sc.regs = true) (hout : sc.out = true) (hweir : sc.weir = true) (hst : sc.st = true) (hcourses : sc.courses = true)
    (hcoders : sc.coders = true) (hmemsys : sc.memsys = true) (hdma : sc.dma = true) (hpair : sc.pair = true) : KeepsO sc s0
    (execUnitRetire o src s) := by
  unfold execUnitRetire
  repeat' first
      | (with_reducible first
          | assumption
          | apply keeps_checked
          | apply keeps_latchW
          | apply keeps_complete
          | apply keeps_retireUnit
          | apply keepsO_next
          | refine keeps_ite ?_ ?_
          | apply keeps_foldl
          | intro _)
      | split
      | dsimp only

theorem keeps_execTestCtlEnterMaint (o : Origin) (target : Nat) (scope : Nat) (s : State) (h : Keeps sc s0 s) (hout : sc.out =
    true) (hhost : sc.host = true) : KeepsO sc s0 (execTestCtlEnterMaint o target scope s) := by
  unfold execTestCtlEnterMaint
  repeat' first
      | (with_reducible first
          | assumption
          | apply keeps_checked
          | apply keeps_setDevMaint
          | apply keeps_maintStep
          | apply keeps_complete
          | apply keepsO_next
          | refine keeps_ite ?_ ?_
          | apply keeps_foldl)
      | split
      | (with_reducible apply keeps_put_host hhost; (with_reducible first
          | assumption
          | apply keeps_checked
          | apply keeps_setDevMaint
          | apply keeps_maintStep
          | apply keeps_complete
          | apply keepsO_next
          | apply keeps_foldl
          | split))
      | intro _
      | dsimp only

theorem keeps_execTestCtlLeaveMaint (o : Origin) (target : Nat) (scope : Nat) (s : State) (h : Keeps sc s0 s) (hout : sc.out =
    true) (hhost : sc.host = true) : KeepsO sc s0 (execTestCtlLeaveMaint o target scope s) := by
  unfold execTestCtlLeaveMaint
  repeat' first
      | (with_reducible first
          | assumption
          | apply keeps_checked
          | apply keeps_setDevMaint
          | apply keeps_maintStep
          | apply keeps_complete
          | apply keepsO_next
          | refine keeps_ite ?_ ?_
          | apply keeps_foldl)
      | split
      | (with_reducible apply keeps_put_host hhost; (with_reducible first
          | assumption
          | apply keeps_checked
          | apply keeps_setDevMaint
          | apply keeps_maintStep
          | apply keeps_complete
          | apply keepsO_next
          | apply keeps_foldl
          | split))
      | intro _
      | dsimp only

theorem keeps_execTestCtlInject (o : Origin) (scope : Nat) (target : Nat) (kind : Nat) (addr : Nat) (arg : Nat) (s : State) (h
    : Keeps sc s0 s) (hmem : sc.mem = true) (hregs : sc.regs = true) (hout : sc.out = true) (hemit : sc.emit = true) (hmemsys :
    sc.memsys = true) (hdma : sc.dma = true) (hpair : sc.pair = true) (hras : sc.ras = true) : KeepsO sc s0 (execTestCtlInject
    o scope target kind addr arg s) := by
  unfold execTestCtlInject
  repeat' first
      | (with_reducible first
          | assumption
          | apply keeps_checked
          | apply keeps_fatal
          | apply keeps_ev
          | apply keeps_complete
          | apply keepsO_next
          | refine keeps_ite ?_ ?_
          | apply keeps_foldl)
      | split
      | (with_reducible apply keeps_upd; (with_reducible first
          | assumption
          | apply keeps_checked
          | apply keeps_fatal
          | apply keeps_ev
          | apply keeps_complete
          | apply keepsO_next
          | apply keeps_foldl
          | split))
      | (with_reducible first
          | exact Held.refl _
          | exact TimeStep.refl _
          | exact ImgStep.refl _
          | exact UnitStep.refl _ _
          | exact MemStep.refl _
          | exact Held.write hregs
          | exact Held.write hout
          | exact Held.write hemit
          | exact Held.write hmemsys
          | exact Held.write hdma
          | exact Held.write hpair
          | exact Held.write hras)
      | (with_reducible refine MemStep.write hmem (Mem.wf_puts _ _ _))
      | (with_reducible refine MemStep.write hmem (Mem.wf_putEnabled _ _ _))
      | intro _
      | dsimp only

/-! ### Healing -/

theorem keeps_healStart (s : State) (r : Nat) (h : Keeps sc s0 s) (hpair : sc.pair = true) : Keeps sc s0 (State.healStart s r)
    := by
  unfold State.healStart
  repeat' first
      | (with_reducible first
          | assumption
          | refine keeps_ite ?_ ?_
          | apply keeps_foldl)
      | split
      | (with_reducible apply keeps_put_pair hpair; (with_reducible first
          | assumption
          | apply keeps_foldl
          | split))
      | intro _
      | dsimp only

theorem keeps_execHealListReceived (rends : List Nat) (s : State) (h : Keeps sc s0 s) (hpair : sc.pair = true) : KeepsO sc s0
    (execHealListReceived rends s) := by
  unfold execHealListReceived
  repeat' first
      | (with_reducible first
          | assumption
          | apply keeps_healStart
          | apply keepsO_next
          | refine keeps_ite ?_ ?_
          | apply keeps_foldl
          | intro _)
      | split
      | dsimp only

theorem keeps_dropCoding (s : State) (r : Nat) (h : Keeps sc s0 s) (hcoders : sc.coders = true) : Keeps sc s0 (State.dropCoding
    s r) := by
  unfold State.dropCoding
  exact keeps_put_coders hcoders h

theorem keeps_healReceived (s : State) (m : HealMsg) (h : Keeps sc s0 s) (hregs : sc.regs = true) (hcoders : sc.coders = true)
    (hpair : sc.pair = true) : Keeps sc s0 (State.healReceived s m) := by
  unfold State.healReceived
  repeat' first
      | (with_reducible first
          | assumption
          | apply keeps_setRend
          | apply keeps_dropCoding
          | apply keeps_inc64
          | refine keeps_ite ?_ ?_
          | apply keeps_foldl)
      | split
      | (with_reducible apply keeps_put_pair hpair; (with_reducible first
          | assumption
          | apply keeps_setRend
          | apply keeps_dropCoding
          | apply keeps_inc64
          | apply keeps_foldl
          | split))
      | intro _
      | dsimp only

theorem keeps_execHealReceived (m : HealMsg) (s : State) (h : Keeps sc s0 s) (hregs : sc.regs = true) (hweir : sc.weir = true)
    (hcoders : sc.coders = true) (hpair : sc.pair = true) : KeepsO sc s0 (execHealReceived m s) := by
  unfold execHealReceived
  repeat' (with_reducible first | assumption | apply keeps_pace | apply keeps_healReceived | apply keepsO_next)

theorem keeps_healResume (s : State) (q : RendRec) (h : Keeps sc s0 s) (hout : sc.out = true) (hcourses : sc.courses = true)
    (hcoders : sc.coders = true) (hpair : sc.pair = true) : Keeps sc s0 (State.healResume s q) := by
  unfold State.healResume
  repeat' first
      | (with_reducible first
          | assumption
          | apply keeps_setRend
          | apply keeps_evRd
          | apply keeps_setHead
          | refine keeps_ite ?_ ?_
          | apply keeps_foldl)
      | split
      | (with_reducible apply keeps_upd; (with_reducible first
          | assumption
          | apply keeps_setRend
          | apply keeps_evRd
          | apply keeps_setHead
          | apply keeps_foldl
          | split))
      | (with_reducible first
          | exact Held.refl _
          | exact TimeStep.refl _
          | exact ImgStep.refl _
          | exact UnitStep.refl _ _
          | exact MemStep.refl _
          | exact Held.write hout
          | exact Held.write hcourses
          | exact Held.write hcoders
          | exact Held.write hpair)
      | intro _
      | dsimp only

/-! ### Placement -/

theorem keeps_putSegs (s : State) (r : Nat) (l : List SegRec) (h : Keeps sc s0 s) (hcoders : sc.coders = true) : Keeps sc s0
    (State.putSegs s r l) := by
  unfold State.putSegs
  exact keeps_put_coders hcoders h

theorem keeps_updDegraded (s : State) (r : Nat) (f : Degraded → Degraded) (h : Keeps sc s0 s) (hcoders : sc.coders = true) :
    Keeps sc s0 (State.updDegraded s r f) := by
  unfold State.updDegraded
  exact keeps_put_coders hcoders h

theorem keeps_tellPlaced (s : State) (r : Nat) (step : Nat) (l : List SegRec) (h : Keeps sc s0 s) (hout : sc.out = true) :
    Keeps sc s0 (State.tellPlaced s r step l) := by
  unfold State.tellPlaced
  repeat' first
      | (with_reducible first
          | assumption
          | apply keeps_evR
          | refine keeps_ite ?_ ?_
          | apply keeps_foldl
          | intro _)
      | split
      | dsimp only

theorem some_of_ites {α : Type} {c d : Prop} [Decidable c] [Decidable d] {x t : α}
    (e : (if c then none else if d then some x else none) = some t) : x = t := by
  by_cases hc : c
  · rw [if_pos hc] at e; cases e
  · rw [if_neg hc] at e
    by_cases hd : d
    · rw [if_pos hd] at e; exact Option.some.inj e
    · rw [if_neg hd] at e; cases e
theorem keeps_resplit (s : State) (r : Nat) (h : Keeps sc s0 s) (hcoders : sc.coders = true) : ∀ t, State.resplit s r = some t
    → Keeps sc s0 t := by
  intro t e
  unfold State.resplit at e
  exact some_of_ites e ▸ keeps_updDegraded _ _ _ (keeps_putSegs _ _ _ h hcoders) hcoders

theorem keeps_moveSeg (s : State) (r : Nat) (g : SegRec) (h : Keeps sc s0 s) (hcoders : sc.coders = true) : ∀ t, State.moveSeg
    s r g = some t → Keeps sc s0 t := by
  intro t e
  unfold State.moveSeg at e
  obtain ⟨n, -, e⟩ := List.exists_of_findSome?_eq_some e
  dsimp only at e
  split at e
  · injection e with e
    subst e
    exact keeps_put_coders hcoders h
  · cases e

theorem keeps_moveAll (s : State) (r : Nat) (h : Keeps sc s0 s) (hcoders : sc.coders = true) : ∀ t, State.moveAll s r = some t
    → Keeps sc s0 t := by
  intro t e
  unfold State.moveAll at e
  obtain ⟨u, e1, e⟩ := Option.bind_eq_some_iff.mp e
  have key : ∀ (l : List SegRec) (a : Option State), (∀ x, a = some x → Keeps sc s0 x) → ∀ x,
      l.foldl (fun a g => match a with | some s => s.moveSeg r g | none => none) a = some x → Keeps sc s0 x := by
    intro l
    induction l with
    | nil => exact fun a ha x hx => ha x hx
    | cons g l ih =>
      intro a ha x hx
      refine ih _ ?_ x hx
      intro y hy
      cases a with
      | none => cases hy
      | some z => exact keeps_moveSeg z r g (ha z rfl) hcoders y hy
  have hu := key _ _ (fun x hx => by injection hx with hx; subst hx; exact keeps_updDegraded _ _ _ h hcoders) u e1
  split at e
  · injection e with e
    subst e
    exact hu
  · cases e

theorem keeps_placeOnce (s : State) (r : Nat) (step : Option Nat) (h : Keeps sc s0 s) (hout : sc.out = true) (hcoders :
    sc.coders = true) : ∀ t, State.placeOnce s r step = some t → Keeps sc s0 t := by
  intro t e
  unfold State.placeOnce at e
  repeat' split at e
  · injection e with e
    subst e
    have := keeps_resplit _ _ h hcoders _ ‹_›
    repeat' (with_reducible first | assumption | apply keeps_tellPlaced)
  · injection e with e
    subst e
    have := keeps_moveAll _ _ h hcoders _ ‹_›
    repeat' (with_reducible first | assumption | apply keeps_tellPlaced)
  · cases e

theorem keeps_fastCourse (s : State) (c : Nat) (h : Keeps sc s0 s) (hcoders : sc.coders = true) : Keeps sc s0 (State.fastCourse
    s c) := by
  unfold State.fastCourse
  repeat' first
      | (with_reducible first
          | assumption
          | apply keeps_updDegraded
          | refine keeps_ite ?_ ?_
          | apply keeps_foldl
          | intro _)
      | split
      | dsimp only

theorem keeps_makeSpillOnly (s : State) (q : RendRec) (h : Keeps sc s0 s) (hout : sc.out = true) (hcoders : sc.coders = true) :
    Keeps sc s0 (State.makeSpillOnly s q) := by
  unfold State.makeSpillOnly
  repeat' (with_reducible first | assumption | apply keeps_evR | apply keeps_updDegraded)

theorem keeps_placeLast (r fuel : Nat) (hout : sc.out = true) (hcoders : sc.coders = true) : ∀ s : State, Keeps sc s0 s → Keeps
    sc s0 (State.placeLast s r fuel) := by
  induction fuel with
  | zero => exact fun _ h => h
  | succ fuel ih =>
    intro s h
    unfold State.placeLast
    split
    · exact h
    · dsimp only
      have h1 := keeps_makeSpillOnly s ‹_› h hout hcoders
      refine keeps_ite h1 ?_
      split
      · exact keeps_placeOnce _ _ _ h1 hout hcoders _ ‹_›
      · exact ih _ h1

theorem keeps_placeOrphans (s : State) (r : Nat) (h : Keeps sc s0 s) (hout : sc.out = true) (hcoders : sc.coders = true) :
    Keeps sc s0 (State.placeOrphans s r) := by
  unfold State.placeOrphans
  refine keeps_ite h ?_
  split
  · exact keeps_placeOnce _ _ _ h hout hcoders _ ‹_›
  · dsimp only
    have h1 := keeps_fastCourse s (s.st.courseOfRend r) h hcoders
    split
    · exact keeps_placeOnce _ _ _ h1 hout hcoders _ ‹_›
    · exact keeps_placeLast _ _ hout hcoders _ h1

theorem keeps_swapTarn (s : State) (d : Nat) (n : Nat) (h : Keeps sc s0 s) (hout : sc.out = true) (hcoders : sc.coders = true)
    : Keeps sc s0 (State.swapTarn s d n).1 := by
  unfold State.swapTarn
  repeat' first
      | (with_reducible first
          | assumption
          | apply keeps_updTarn
          | apply keeps_ev
          | refine keeps_ite ?_ ?_
          | apply keeps_foldl)
      | split
      | (with_reducible apply keeps_put_coders hcoders; (with_reducible first
          | assumption
          | apply keeps_updTarn
          | apply keeps_ev
          | apply keeps_foldl
          | split))
      | intro _
      | dsimp only

theorem keeps_swapTarns (d : Nat) (l : List Nat) (hout : sc.out = true) (hcoders : sc.coders = true) : ∀ (s : State) (m : List
    Nat), Keeps sc s0 s → Keeps sc s0 (swapTarns d l s m).1 := by
  induction l with
  | nil => exact fun _ _ h => h
  | cons n l ih =>
    intro s m h
    unfold swapTarns
    repeat' (with_reducible first | assumption | apply keeps_swapTarn | apply ih)

theorem keeps_restoreRend (s : State) (d : Nat) (q : RendRec) (h : Keeps sc s0 s) (hout : sc.out = true) (hcoders : sc.coders =
    true) : Keeps sc s0 (State.restoreRend s d q) := by
  unfold State.restoreRend
  dsimp only
  split
  · repeat' first
      | (with_reducible first
          | assumption
          | apply keeps_evR
          | apply keeps_putSegs
          | refine keeps_ite ?_ ?_
          | apply keeps_foldl)
      | split
      | (with_reducible apply keeps_put_coders hcoders; (with_reducible first
          | assumption
          | apply keeps_evR
          | apply keeps_putSegs
          | apply keeps_foldl
          | split))
      | intro _
      | dsimp only
  · have h1 := keeps_updDegraded s q.rendition (fun x => { x with spillOnly := false }) h hcoders
    split
    · have := keeps_placeOnce _ _ _ h1 hout hcoders _ ‹_›
      repeat' first
          | (with_reducible first
              | assumption
              | apply keeps_evR
              | refine keeps_ite ?_ ?_
              | apply keeps_foldl)
          | split
          | (with_reducible apply keeps_put_coders hcoders; (with_reducible first
              | assumption
              | apply keeps_evR
              | apply keeps_foldl
              | split))
          | intro _
          | dsimp only
    · split
      · have := keeps_placeOnce _ _ _ (keeps_fastCourse _ _ h1 hcoders) hout hcoders _ ‹_›
        repeat' first
            | (with_reducible first
                | assumption
                | apply keeps_evR
                | refine keeps_ite ?_ ?_
                | apply keeps_foldl)
            | split
            | (with_reducible apply keeps_put_coders hcoders; (with_reducible first
                | assumption
                | apply keeps_evR
                | apply keeps_foldl
                | split))
            | intro _
            | dsimp only
      · exact h

theorem keeps_restore (s : State) (d : Nat) (applied : Bool) (h : Keeps sc s0 s) (hout : sc.out = true) (hcoders : sc.coders =
    true) : Keeps sc s0 (State.restore s d applied) := by
  unfold State.restore
  repeat' first
      | (with_reducible first
          | assumption
          | apply keeps_restoreRend
          | refine keeps_ite ?_ ?_
          | apply keeps_foldl
          | intro _)
      | split
      | dsimp only

theorem keeps_retireDue (s : State) (d : Nat) (h : Keeps sc s0 s) (hunits : sc.units = true) (hregs : sc.regs = true) (hout :
    sc.out = true) (hcourses : sc.courses = true) (hcoders : sc.coders = true) (hmemsys : sc.memsys = true) (hras : sc.ras =
    true) : Keeps sc s0 (State.retireDue s d) := by
  unfold State.retireDue
  repeat' first
      | (with_reducible first
          | assumption
          | apply keeps_updTarn
          | apply keeps_retireTarn
          | apply keeps_retireUnit
          | refine keeps_ite ?_ ?_
          | apply keeps_foldl)
      | split
      | (with_reducible apply keeps_put_ras hras; (with_reducible first
          | assumption
          | apply keeps_updTarn
          | apply keeps_retireTarn
          | apply keeps_retireUnit
          | apply keeps_foldl
          | split))
      | intro _
      | dsimp only

theorem keeps_swapUnits (s : State) (d : Nat) (applied : Bool) (h : Keeps sc s0 s) (hunits : sc.units = true) (hregs : sc.regs
    = true) (hout : sc.out = true) (hcourses : sc.courses = true) (hcoders : sc.coders = true) (hmemsys : sc.memsys = true)
    (hras : sc.ras = true) : Keeps sc s0 (State.swapUnits s d applied).1 := by
  unfold State.swapUnits
  repeat' first
      | (with_reducible first
          | assumption
          | apply keeps_restore
          | apply keeps_swapTarns
          | apply keeps_placeOrphans
          | apply keeps_retireDue
          | refine keeps_ite ?_ ?_
          | apply keeps_foldl)
      | split
      | (with_reducible apply keeps_upd; (with_reducible first
          | assumption
          | apply keeps_restore
          | apply keeps_swapTarns
          | apply keeps_placeOrphans
          | apply keeps_retireDue
          | apply keeps_foldl
          | split))
      | (with_reducible first
          | exact Held.refl _
          | exact TimeStep.refl _
          | exact ImgStep.refl _
          | exact UnitStep.refl _ _
          | exact MemStep.refl _
          | exact Held.write hregs
          | exact Held.write hout
          | exact Held.write hcourses
          | exact Held.write hcoders
          | exact Held.write hmemsys
          | exact Held.write hras)
      | intro _
      | dsimp only

/-! ### Swap -/

theorem keeps_dropRend (s : State) (r : Nat) (h : Keeps sc s0 s) (hcoders : sc.coders = true) (hemit : sc.emit = true) : Keeps
    sc s0 (State.dropRend s r) := by
  unfold State.dropRend
  repeat' first
      | (with_reducible first
          | assumption
          | refine keeps_ite ?_ ?_
          | apply keeps_foldl)
      | split
      | (with_reducible apply keeps_upd; (with_reducible first
          | assumption
          | apply keeps_foldl
          | split))
      | (with_reducible first
          | exact Held.refl _
          | exact TimeStep.refl _
          | exact ImgStep.refl _
          | exact UnitStep.refl _ _
          | exact MemStep.refl _
          | exact Held.write hcoders
          | exact Held.write hemit)
      | intro _
      | dsimp only

theorem keeps_dropRun (s : State) (c : Nat) (h : Keeps sc s0 s) (hcourses : sc.courses = true) (hcoders : sc.coders = true)
    (hemit : sc.emit = true) : Keeps sc s0 (State.dropRun s c) := by
  unfold State.dropRun
  repeat' first
      | (with_reducible first
          | assumption
          | apply keeps_dropRend
          | refine keeps_ite ?_ ?_
          | apply keeps_foldl)
      | split
      | (with_reducible apply keeps_upd; (with_reducible first
          | assumption
          | apply keeps_dropRend
          | apply keeps_foldl
          | split))
      | (with_reducible first
          | exact Held.refl _
          | exact TimeStep.refl _
          | exact ImgStep.refl _
          | exact UnitStep.refl _ _
          | exact MemStep.refl _
          | exact Held.write hcourses
          | exact Held.write hcoders
          | exact Held.write hemit)
      | intro _
      | dsimp only

theorem keeps_placeCourse (s : State) (c : Nat) (h : Keeps sc s0 s) (hcoders : sc.coders = true) : Keeps sc s0
    (State.placeCourse s c) := by
  unfold State.placeCourse
  repeat' first
      | (with_reducible first
          | assumption
          | apply keeps_putSegs
          | refine keeps_ite ?_ ?_
          | apply keeps_foldl)
      | split
      | (with_reducible apply keeps_put_coders hcoders; (with_reducible first
          | assumption
          | apply keeps_putSegs
          | apply keeps_foldl
          | split))
      | intro _
      | dsimp only

theorem keeps_courseEnter (s : State) (c : Nat) (h : Keeps sc s0 s) (hregs : sc.regs = true) (hcourses : sc.courses = true)
    (hcoders : sc.coders = true) (hdma : sc.dma = true) : Keeps sc s0 (State.courseEnter s c) := by
  unfold State.courseEnter
  repeat' first
      | (with_reducible first
          | assumption
          | apply keeps_courseBlank
          | apply keeps_courseLoad
          | apply keeps_placeCourse
          | refine keeps_ite ?_ ?_
          | apply keeps_foldl)
      | split
      | (with_reducible apply keeps_put_courses hcourses; (with_reducible first
          | assumption
          | apply keeps_courseBlank
          | apply keeps_courseLoad
          | apply keeps_placeCourse
          | apply keeps_foldl
          | split))
      | intro _
      | dsimp only

theorem keeps_courseAuto (s : State) (c : Nat) (h : Keeps sc s0 s) (hregs : sc.regs = true) (hout : sc.out = true) (hcourses :
    sc.courses = true) (hcoders : sc.coders = true) (hdma : sc.dma = true) : Keeps sc s0 (State.courseAuto s c) := by
  unfold State.courseAuto
  repeat' (with_reducible first | assumption | apply keeps_courseStart | refine keeps_ite ?_ ?_)

theorem keeps_courseAdd (s : State) (d : Nat) (c : Nat) (recs : List Rec) (h : Keeps sc s0 s) (hregs : sc.regs = true) (hout :
    sc.out = true) (hst : sc.st = true) (hcourses : sc.courses = true) (hcoders : sc.coders = true) (hdma : sc.dma = true) :
    Keeps sc s0 (State.courseAdd s d c recs) := by
  unfold State.courseAdd
  repeat' first
      | (with_reducible first
          | assumption
          | apply keeps_courseEnter
          | apply keeps_courseAuto
          | apply keeps_evC
          | refine keeps_ite ?_ ?_
          | apply keeps_foldl)
      | split
      | (with_reducible apply keeps_put_st hst; (with_reducible first
          | assumption
          | apply keeps_courseEnter
          | apply keeps_courseAuto
          | apply keeps_evC
          | apply keeps_foldl
          | split))
      | intro _
      | dsimp only

theorem keeps_courseRemove (s : State) (d : Nat) (c : Nat) (recs : List Rec) (h : Keeps sc s0 s) (hout : sc.out = true) (hst :
    sc.st = true) (hcourses : sc.courses = true) (hcoders : sc.coders = true) (hemit : sc.emit = true) : Keeps sc s0
    (State.courseRemove s d c recs) := by
  unfold State.courseRemove
  repeat' first
      | (with_reducible first
          | assumption
          | apply keeps_dropRun
          | apply keeps_evC
          | apply keeps_courseStop
          | apply keeps_updOut
          | refine keeps_ite ?_ ?_
          | apply keeps_foldl)
      | split
      | (with_reducible apply keeps_put_st hst; (with_reducible first
          | assumption
          | apply keeps_dropRun
          | apply keeps_evC
          | apply keeps_courseStop
          | apply keeps_updOut
          | apply keeps_foldl
          | split))
      | intro _
      | dsimp only

theorem keeps_keepRend (s : State) (q : RendRec) (h : Keeps sc s0 s) (hout : sc.out = true) (hcoders : sc.coders = true) :
    Keeps sc s0 (State.keepRend s q) := by
  unfold State.keepRend
  repeat' (with_reducible first | assumption | apply keeps_rateSet)

theorem keeps_restartRend (s : State) (q : RendRec) (h : Keeps sc s0 s) (hout : sc.out = true) (hcoders : sc.coders = true)
    (hemit : sc.emit = true) : Keeps sc s0 (State.restartRend s q) := by
  unfold State.restartRend
  repeat' first
      | (with_reducible first
          | assumption
          | apply keeps_rendFresh
          | apply keeps_unsync
          | apply keeps_rendLoad
          | refine keeps_ite ?_ ?_
          | apply keeps_foldl)
      | split
      | (with_reducible apply keeps_upd; (with_reducible first
          | assumption
          | apply keeps_rendFresh
          | apply keeps_unsync
          | apply keeps_rendLoad
          | apply keeps_foldl
          | split))
      | (with_reducible first
          | exact Held.refl _
          | exact TimeStep.refl _
          | exact ImgStep.refl _
          | exact UnitStep.refl _ _
          | exact MemStep.refl _
          | exact Held.write hout
          | exact Held.write hcoders
          | exact Held.write hemit)
      | intro _
      | dsimp only

theorem keeps_replaceBufs (s : State) (old : Structure) (c : Nat) (h : Keeps sc s0 s) (hregs : sc.regs = true) (hout : sc.out =
    true) (hcourses : sc.courses = true) : Keeps sc s0 (State.replaceBufs s old c) := by
  unfold State.replaceBufs
  repeat' first
      | (with_reducible first
          | assumption
          | apply keeps_hwRestart
          | apply keeps_blackProg
          | apply keeps_blackRung
          | apply keeps_freshInput
          | refine keeps_ite ?_ ?_
          | apply keeps_foldl)
      | split
      | (with_reducible apply keeps_put_courses hcourses; (with_reducible first
          | assumption
          | apply keeps_hwRestart
          | apply keeps_blackProg
          | apply keeps_blackRung
          | apply keeps_freshInput
          | apply keeps_foldl
          | split))
      | intro _
      | dsimp only

theorem keeps_replaceLayers (s : State) (old : Structure) (c : Nat) (h : Keeps sc s0 s) (hregs : sc.regs = true) (hcourses :
    sc.courses = true) : Keeps sc s0 (State.replaceLayers s old c) := by
  unfold State.replaceLayers
  repeat' first
      | (with_reducible first
          | assumption
          | apply keeps_setLayer
          | apply keeps_layerIdentity
          | refine keeps_ite ?_ ?_
          | apply keeps_foldl)
      | split
      | (with_reducible apply keeps_put_courses hcourses; (with_reducible first
          | assumption
          | apply keeps_setLayer
          | apply keeps_layerIdentity
          | apply keeps_foldl
          | split))
      | intro _
      | dsimp only

theorem keeps_courseReplace (s : State) (d : Nat) (c : Nat) (recs : List Rec) (h : Keeps sc s0 s) (hregs : sc.regs = true)
    (hout : sc.out = true) (hst : sc.st = true) (hcourses : sc.courses = true) (hcoders : sc.coders = true) (hemit : sc.emit =
    true) (hdma : sc.dma = true) : Keeps sc s0 (State.courseReplace s d c recs) := by
  unfold State.courseReplace
  repeat' first
      | (with_reducible first
          | assumption
          | apply keeps_dropRun
          | apply keeps_courseStop
          | apply keeps_dropRend
          | apply keeps_courseEnter
          | apply keeps_replaceLayers
          | apply keeps_replaceBufs
          | apply keeps_placeCourse
          | apply keeps_keepRend
          | apply keeps_restartRend
          | apply keeps_protReset
          | apply keeps_evC
          | apply keeps_courseAuto
          | refine keeps_ite ?_ ?_
          | apply keeps_foldl)
      | split
      | (with_reducible apply keeps_put_st hst; (with_reducible first
          | assumption
          | apply keeps_dropRun
          | apply keeps_courseStop
          | apply keeps_dropRend
          | apply keeps_courseEnter
          | apply keeps_replaceLayers
          | apply keeps_replaceBufs
          | apply keeps_placeCourse
          | apply keeps_keepRend
          | apply keeps_restartRend
          | apply keeps_protReset
          | apply keeps_evC
          | apply keeps_courseAuto
          | apply keeps_foldl
          | split))
      | intro _
      | dsimp only

theorem keeps_swapRec (s : State) (d : Nat) (seq : Nat) (recs : List Rec) (a5 : Rec) (h : Keeps sc s0 s) (hunits : sc.units =
    true) (hregs : sc.regs = true) (hout : sc.out = true) (hweir : sc.weir = true) (hhost : sc.host = true) (hst : sc.st =
    true) (hcourses : sc.courses = true) (hcoders : sc.coders = true) (hemit : sc.emit = true) (hmemsys : sc.memsys = true)
    (hdma : sc.dma = true) (hpair : sc.pair = true) : Keeps sc s0 (State.swapRec s d seq recs a5) := by
  unfold State.swapRec
  repeat' first
      | (with_reducible first
          | assumption
          | apply keeps_courseRemove
          | apply keeps_courseReplace
          | apply keeps_courseAdd
          | apply keeps_applyP
          | apply keeps_await
          | refine keeps_ite ?_ ?_
          | apply keeps_foldl
          | intro _)
      | split
      | dsimp only

theorem keeps_swapRecs (s : State) (d : Nat) (seq : Nat) (recs : List Rec) (h : Keeps sc s0 s) (hclk : sc.clk = true) (hunits :
    sc.units = true) (hregs : sc.regs = true) (hout : sc.out = true) (hweir : sc.weir = true) (hhost : sc.host = true) (hst :
    sc.st = true) (hcourses : sc.courses = true) (hcoders : sc.coders = true) (hemit : sc.emit = true) (hmemsys : sc.memsys =
    true) (hdma : sc.dma = true) (hpair : sc.pair = true) : Keeps sc s0 (State.swapRecs s d seq recs) := by
  unfold State.swapRecs
  repeat' first
      | (with_reducible first
          | assumption
          | apply keeps_cycles
          | apply keeps_swapRec
          | refine keeps_ite ?_ ?_
          | apply keeps_foldl)
      | split
      | (with_reducible apply keeps_upd; (with_reducible first
          | assumption
          | apply keeps_cycles
          | apply keeps_swapRec
          | apply keeps_foldl
          | split))
      | (with_reducible first
          | exact Held.refl _
          | exact TimeStep.refl _
          | exact ImgStep.refl _
          | exact UnitStep.refl _ _
          | exact MemStep.refl _
          | exact Held.write hregs
          | exact Held.write hout
          | exact Held.write hweir
          | exact Held.write hhost
          | exact Held.write hst
          | exact Held.write hcourses
          | exact Held.write hcoders
          | exact Held.write hemit
          | exact Held.write hmemsys
          | exact Held.write hdma
          | exact Held.write hpair)
      | intro _
      | dsimp only

/-! ### Lanes -/

theorem keeps_setLane (s : State) (n : Nat) (x : Lane) (h : Keeps sc s0 s) (hlanes : sc.lanes = true) : Keeps sc s0
    (State.setLane s n x) := by
  unfold State.setLane
  exact keeps_put_lanes hlanes h

theorem keeps_lanePortDown (s : State) (n : Nat) (h : Keeps sc s0 s) (hout : sc.out = true) (hcourses : sc.courses = true) :
    Keeps sc s0 (State.lanePortDown s n) := by
  unfold State.lanePortDown
  repeat' first
      | (with_reducible first
          | assumption
          | apply keeps_portDown
          | refine keeps_ite ?_ ?_
          | apply keeps_foldl
          | intro _)
      | split
      | dsimp only

theorem keeps_laneFail (s : State) (n : Nat) (reason : Nat) (h : Keeps sc s0 s) (hregs : sc.regs = true) (hout : sc.out = true)
    (hlanes : sc.lanes = true) : Keeps sc s0 (State.laneFail s n reason) := by
  unfold State.laneFail
  repeat' (with_reducible first
      | assumption
      | apply keeps_setLane
      | apply keeps_ev
      | apply keeps_replace
      | refine keeps_ite ?_ ?_)

theorem keeps_laneCalibrated (s : State) (n : Nat) (ok : Bool) (h : Keeps sc s0 s) (hregs : sc.regs = true) (hout : sc.out =
    true) (hlanes : sc.lanes = true) : Keeps sc s0 (State.laneCalibrated s n ok) := by
  unfold State.laneCalibrated
  repeat' (with_reducible first | assumption | apply keeps_laneFail | apply keeps_setLane | refine keeps_ite ?_ ?_)

theorem keeps_execLaneCalibrationDone (n : Nat) (ok : Bool) (s : State) (h : Keeps sc s0 s) (hregs : sc.regs = true) (hout :
    sc.out = true) (hlanes : sc.lanes = true) : KeepsO sc s0 (execLaneCalibrationDone n ok s) := by
  unfold execLaneCalibrationDone
  repeat' (with_reducible first | assumption | apply keeps_laneCalibrated | apply keepsO_next)

theorem keeps_execLaneSignalDetect (n : Nat) (s : State) (h : Keeps sc s0 s) (hlanes : sc.lanes = true) : KeepsO sc s0
    (execLaneSignalDetect n s) := by
  unfold execLaneSignalDetect
  repeat' (with_reducible first | assumption | apply keeps_setLane | apply keepsO_next | refine keeps_ite ?_ ?_)

theorem keeps_execLanePolaritySwitch (n : Nat) (s : State) (h : Keeps sc s0 s) (hclk : sc.clk = true) (hlanes : sc.lanes =
    true) : KeepsO sc s0 (execLanePolaritySwitch n s) := by
  unfold execLanePolaritySwitch
  repeat' (with_reducible first
      | assumption
      | apply keeps_runTo
      | apply keeps_setLane
      | apply keepsO_next
      | refine keeps_ite ?_ ?_)

theorem keeps_laneAlign (s : State) (n : Nat) (logical : Nat) (own : Bool) (h : Keeps sc s0 s) (hregs : sc.regs = true) (hout :
    sc.out = true) (hlanes : sc.lanes = true) : Keeps sc s0 (State.laneAlign s n logical own) := by
  unfold State.laneAlign
  repeat' (with_reducible first
      | assumption
      | apply keeps_laneFail
      | apply keeps_setLane
      | apply keeps_ev
      | refine keeps_ite ?_ ?_)

theorem keeps_execLaneAlignmentLock (n : Nat) (logical : Nat) (own : Bool) (s : State) (h : Keeps sc s0 s) (hregs : sc.regs =
    true) (hout : sc.out = true) (hlanes : sc.lanes = true) : KeepsO sc s0 (execLaneAlignmentLock n logical own s) := by
  unfold execLaneAlignmentLock
  repeat' (with_reducible first | assumption | apply keeps_laneAlign | apply keepsO_next)

theorem keeps_execLaneAcquireTimeout (n : Nat) (s : State) (h : Keeps sc s0 s) (hclk : sc.clk = true) (hregs : sc.regs = true)
    (hout : sc.out = true) (hlanes : sc.lanes = true) : KeepsO sc s0 (execLaneAcquireTimeout n s) := by
  unfold execLaneAcquireTimeout
  repeat' (with_reducible first
      | assumption
      | apply keeps_laneFail
      | apply keeps_runTo
      | apply keepsO_next
      | refine keeps_ite ?_ ?_)

theorem keeps_execGuavoLaneTimeout (n : Nat) (s : State) (h : Keeps sc s0 s) (hclk : sc.clk = true) (hregs : sc.regs = true)
    (hout : sc.out = true) (hlanes : sc.lanes = true) : KeepsO sc s0 (execGuavoLaneTimeout n s) := by
  unfold execGuavoLaneTimeout
  repeat' (with_reducible first
      | assumption
      | apply keeps_laneFail
      | apply keeps_runTo
      | apply keepsO_next
      | refine keeps_ite ?_ ?_)

theorem keeps_execLaneRetryTimer (n : Nat) (s : State) (h : Keeps sc s0 s) (hclk : sc.clk = true) (hlanes : sc.lanes = true) :
    KeepsO sc s0 (execLaneRetryTimer n s) := by
  unfold execLaneRetryTimer
  repeat' (with_reducible first
      | assumption
      | apply keeps_runTo
      | apply keeps_setLane
      | apply keepsO_next
      | refine keeps_ite ?_ ?_)

theorem keeps_execLaneLossOfLock (n : Nat) (s : State) (h : Keeps sc s0 s) (hregs : sc.regs = true) (hout : sc.out = true)
    (hcourses : sc.courses = true) (hlanes : sc.lanes = true) : KeepsO sc s0 (execLaneLossOfLock n s) := by
  unfold execLaneLossOfLock
  repeat' (with_reducible first
      | assumption
      | apply keeps_lanePortDown
      | apply keeps_inc
      | apply keeps_setLane
      | apply keeps_ev
      | apply keepsO_next
      | refine keeps_ite ?_ ?_)

theorem keeps_laneIdleExit (s : State) (n : Nat) (h : Keeps sc s0 s) (hlanes : sc.lanes = true) : Keeps sc s0
    (State.laneIdleExit s n) := by
  unfold State.laneIdleExit
  repeat' (with_reducible first | assumption | apply keeps_setLane | refine keeps_ite ?_ ?_)

theorem keeps_execLaneIdleExit (n : Nat) (s : State) (h : Keeps sc s0 s) (hlanes : sc.lanes = true) : KeepsO sc s0
    (execLaneIdleExit n s) := by
  unfold execLaneIdleExit
  repeat' (with_reducible first | assumption | apply keeps_laneIdleExit | apply keepsO_next)

theorem keeps_execLaneIdleRelockTimeout (n : Nat) (s : State) (h : Keeps sc s0 s) (hclk : sc.clk = true) (hlanes : sc.lanes =
    true) : KeepsO sc s0 (execLaneIdleRelockTimeout n s) := by
  unfold execLaneIdleRelockTimeout
  repeat' first
      | (with_reducible first
          | assumption
          | apply keeps_runTo
          | apply keeps_setLane
          | apply keepsO_next
          | refine keeps_ite ?_ ?_
          | apply keeps_foldl
          | intro _)
      | split
      | dsimp only

theorem keeps_txFfe (s : State) (n : Nat) (second : Bool) (w : Word) (h : Keeps sc s0 s) (hregs : sc.regs = true) (hout :
    sc.out = true) : Keeps sc s0 (State.txFfe s n second w) := by
  unfold State.txFfe
  repeat' (with_reducible first | assumption | apply keeps_wrn | apply keeps_ev | refine keeps_ite ?_ ?_)

theorem keeps_execTxFfeWrite (n : Nat) (second : Bool) (w : Word) (s : State) (h : Keeps sc s0 s) (hregs : sc.regs = true)
    (hout : sc.out = true) : KeepsO sc s0 (execTxFfeWrite n second w s) := by
  unfold execTxFfeWrite
  repeat' (with_reducible first | assumption | apply keeps_txFfe | apply keepsO_next)

theorem keeps_execLtUpdate (n : Nat) (a : Word) (b : Word) (s : State) (h : Keeps sc s0 s) (hregs : sc.regs = true) : KeepsO sc
    s0 (execLtUpdate n a b s) := by
  unfold execLtUpdate
  repeat' (with_reducible first | assumption | apply keeps_wrn | apply keeps_wr | apply keepsO_next | refine keeps_ite ?_ ?_)

theorem keeps_execLtTimeout (n : Nat) (s : State) (h : Keeps sc s0 s) (hclk : sc.clk = true) (hlanes : sc.lanes = true) :
    KeepsO sc s0 (execLtTimeout n s) := by
  unfold execLtTimeout
  repeat' (with_reducible first
      | assumption
      | apply keeps_runTo
      | apply keeps_setLane
      | apply keepsO_next
      | refine keeps_ite ?_ ?_)

theorem keeps_laneTestState (s : State) (n : Nat) (h : Keeps sc s0 s) (hout : sc.out = true) (hcourses : sc.courses = true)
    (hlanes : sc.lanes = true) : Keeps sc s0 (State.laneTestState s n) := by
  unfold State.laneTestState
  repeat' (with_reducible first | assumption | apply keeps_lanePortDown | apply keeps_setLane | refine keeps_ite ?_ ?_)

theorem keeps_laneCfg (s : State) (n : Nat) (w : Word) (h : Keeps sc s0 s) (hregs : sc.regs = true) (hout : sc.out = true)
    (hcourses : sc.courses = true) (hlanes : sc.lanes = true) : Keeps sc s0 (State.laneCfg s n w) := by
  unfold State.laneCfg
  repeat' (with_reducible first
      | assumption
      | apply keeps_ev
      | apply keeps_laneTestState
      | apply keeps_wrn
      | apply keeps_lanePortDown
      | apply keeps_setLane
      | refine keeps_ite ?_ ?_)

theorem keeps_execLaneCfgWrite (n : Nat) (w : Word) (s : State) (h : Keeps sc s0 s) (hregs : sc.regs = true) (hout : sc.out =
    true) (hcourses : sc.courses = true) (hlanes : sc.lanes = true) : KeepsO sc s0 (execLaneCfgWrite n w s) := by
  unfold execLaneCfgWrite
  repeat' (with_reducible first | assumption | apply keeps_laneCfg | apply keepsO_next)

theorem keeps_lanePattern (s : State) (n : Nat) (w : Word) (h : Keeps sc s0 s) (hregs : sc.regs = true) (hout : sc.out = true)
    (hcourses : sc.courses = true) (hlanes : sc.lanes = true) : Keeps sc s0 (State.lanePattern s n w) := by
  unfold State.lanePattern
  repeat' (with_reducible first
      | assumption
      | apply keeps_ev
      | apply keeps_wrn
      | apply keeps_wr64
      | apply keeps_laneTestState
      | refine keeps_ite ?_ ?_)

theorem keeps_execPatternWrite (n : Nat) (w : Word) (s : State) (h : Keeps sc s0 s) (hregs : sc.regs = true) (hout : sc.out =
    true) (hcourses : sc.courses = true) (hlanes : sc.lanes = true) : KeepsO sc s0 (execPatternWrite n w s) := by
  unfold execPatternWrite
  repeat' (with_reducible first | assumption | apply keeps_lanePattern | apply keepsO_next)

theorem keeps_marginStart (s : State) (n : Nat) (h : Keeps sc s0 s) (hlanes : sc.lanes = true) : Keeps sc s0 (State.marginStart
    s n) := by
  unfold State.marginStart
  repeat' (with_reducible first | assumption | apply keeps_setLane | refine keeps_ite ?_ ?_)

theorem keeps_marginWrite (s : State) (n : Nat) (w : Word) (h : Keeps sc s0 s) (hregs : sc.regs = true) (hlanes : sc.lanes =
    true) : Keeps sc s0 (State.marginWrite s n w) := by
  unfold State.marginWrite
  repeat' (with_reducible first | assumption | apply keeps_setFld | apply keeps_marginStart | refine keeps_ite ?_ ?_)

theorem keeps_execMarginStart (n : Nat) (s : State) (h : Keeps sc s0 s) (hlanes : sc.lanes = true) : KeepsO sc s0
    (execMarginStart n s) := by
  unfold execMarginStart
  repeat' (with_reducible first | assumption | apply keeps_marginStart | apply keepsO_next)

theorem keeps_execMarginComplete (n : Nat) (left : Nat) (right : Nat) (vert : Nat) (s : State) (h : Keeps sc s0 s) (hregs :
    sc.regs = true) (hout : sc.out = true) (hlanes : sc.lanes = true) : KeepsO sc s0 (execMarginComplete n left right vert s)
    := by
  unfold execMarginComplete
  repeat' first
      | (with_reducible first
          | assumption
          | apply keeps_ev
          | apply keeps_wrn
          | apply keeps_setLane
          | apply keepsO_next
          | refine keeps_ite ?_ ?_
          | apply keeps_foldl)
      | split
      | (with_reducible apply keeps_upd; (with_reducible first
          | assumption
          | apply keeps_ev
          | apply keeps_wrn
          | apply keeps_setLane
          | apply keepsO_next
          | apply keeps_foldl
          | split))
      | (with_reducible first
          | exact Held.refl _
          | exact TimeStep.refl _
          | exact ImgStep.refl _
          | exact UnitStep.refl _ _
          | exact MemStep.refl _
          | exact Held.write hregs
          | exact Held.write hout
          | exact Held.write hlanes)
      | intro _
      | dsimp only

/-! ### Power -/

theorem keeps_powerDown (s : State) (b : Nat) (h : Keeps sc s0 s) (hmem : sc.mem = true) (hregs : sc.regs = true) (hout :
    sc.out = true) (hmemsys : sc.memsys = true) (hlanes : sc.lanes = true) (hboot : sc.boot = true) (hras : sc.ras = true) :
    Keeps sc s0 (State.powerDown s b) := by
  unfold State.powerDown
  repeat' first
      | (with_reducible first
          | assumption
          | apply keeps_stackEntered
          | apply keeps_srSet
          | apply keeps_setFld
          | apply keeps_setLane
          | apply keeps_ev
          | refine keeps_ite ?_ ?_
          | apply keeps_foldl)
      | split
      | (with_reducible apply keeps_put_boot hboot; (with_reducible first
          | assumption
          | apply keeps_stackEntered
          | apply keeps_srSet
          | apply keeps_setFld
          | apply keeps_setLane
          | apply keeps_ev
          | apply keeps_foldl
          | split))
      | intro _
      | dsimp only

theorem keeps_powerUp (s : State) (b : Nat) (h : Keeps sc s0 s) (hregs : sc.regs = true) (hout : sc.out = true) (hmemsys :
    sc.memsys = true) (hboot : sc.boot = true) : Keeps sc s0 (State.powerUp s b) := by
  unfold State.powerUp
  repeat' first
      | (with_reducible first
          | assumption
          | apply keeps_srClear
          | apply keeps_ev
          | apply keeps_setFld
          | refine keeps_ite ?_ ?_
          | apply keeps_foldl)
      | split
      | (with_reducible apply keeps_put_boot hboot; (with_reducible first
          | assumption
          | apply keeps_srClear
          | apply keeps_ev
          | apply keeps_setFld
          | apply keeps_foldl
          | split))
      | intro _
      | dsimp only

theorem keeps_powerRefuse (s : State) (b : Nat) (why : Nat) (h : Keeps sc s0 s) (hregs : sc.regs = true) (hout : sc.out = true)
    : Keeps sc s0 (State.powerRefuse s b why) := by
  unfold State.powerRefuse
  repeat' (with_reducible first | assumption | apply keeps_ev | apply keeps_setFld)

theorem keeps_powerChange (s : State) (b : Nat) (h : Keeps sc s0 s) (hmem : sc.mem = true) (hregs : sc.regs = true) (hout :
    sc.out = true) (hmemsys : sc.memsys = true) (hlanes : sc.lanes = true) (hboot : sc.boot = true) (hras : sc.ras = true) :
    Keeps sc s0 (State.powerChange s b).1 := by
  unfold State.powerChange
  repeat' first
      | (with_reducible first
          | assumption
          | apply keeps_powerUp
          | apply keeps_setFld
          | apply keeps_powerRefuse
          | apply keeps_ev
          | apply keeps_powerDown
          | refine keeps_ite ?_ ?_
          | apply keeps_foldl
          | intro _)
      | split
      | dsimp only

theorem keeps_powerChanges (l : List Nat) (hmem : sc.mem = true) (hregs : sc.regs = true) (hout : sc.out = true) (hmemsys :
    sc.memsys = true) (hlanes : sc.lanes = true) (hboot : sc.boot = true) (hras : sc.ras = true) : ∀ (s : State) (n : Nat),
    Keeps sc s0 s → Keeps sc s0 (powerChanges l s n).1 := by
  induction l with
  | nil => exact fun _ _ h => h
  | cons b l ih =>
    intro s n h
    unfold powerChanges
    repeat' (with_reducible first | assumption | apply keeps_powerChange | apply ih)

theorem keeps_powerWeir (s : State) (d : Nat) (h : Keeps sc s0 s) (hmem : sc.mem = true) (hregs : sc.regs = true) (hout :
    sc.out = true) (hmemsys : sc.memsys = true) (hlanes : sc.lanes = true) (hboot : sc.boot = true) (hras : sc.ras = true) :
    Keeps sc s0 (State.powerWeir s d).1 := by
  unfold State.powerWeir
  repeat' (with_reducible first | assumption | apply keeps_powerChanges)

theorem keeps_pwrReqWrite (s : State) (w : Word) (h : Keeps sc s0 s) (hmem : sc.mem = true) (hregs : sc.regs = true) (hout :
    sc.out = true) (hmemsys : sc.memsys = true) (hlanes : sc.lanes = true) (hboot : sc.boot = true) (hras : sc.ras = true) :
    Keeps sc s0 (State.pwrReqWrite s w) := by
  unfold State.pwrReqWrite
  repeat' first
      | (with_reducible first
          | assumption
          | apply keeps_wrn
          | apply keeps_powerRefuse
          | apply keeps_powerChanges
          | refine keeps_ite ?_ ?_
          | apply keeps_foldl
          | intro _)
      | split
      | dsimp only

theorem keeps_execPwrReqWrite (w : Word) (s : State) (h : Keeps sc s0 s) (hmem : sc.mem = true) (hregs : sc.regs = true) (hout
    : sc.out = true) (hmemsys : sc.memsys = true) (hlanes : sc.lanes = true) (hboot : sc.boot = true) (hras : sc.ras = true) :
    KeepsO sc s0 (execPwrReqWrite w s) := by
  unfold execPwrReqWrite
  repeat' first
      | (with_reducible first
          | assumption
          | apply keeps_pwrReqWrite
          | apply keepsO_next
          | refine keeps_ite ?_ ?_
          | apply keeps_foldl)
      | split
      | (with_reducible apply keeps_upd; (with_reducible first
          | assumption
          | apply keeps_pwrReqWrite
          | apply keepsO_next
          | apply keeps_foldl
          | split))
      | (with_reducible first
          | exact Held.refl _
          | exact TimeStep.refl _
          | exact ImgStep.refl _
          | exact UnitStep.refl _ _
          | exact MemStep.refl _
          | exact Held.write hregs
          | exact Held.write hout
          | exact Held.write hmemsys
          | exact Held.write hlanes
          | exact Held.write hboot
          | exact Held.write hras)
      | (with_reducible refine MemStep.write hmem (Mem.wf_puts _ _ _))
      | (with_reducible refine MemStep.write hmem (Mem.wf_putEnabled _ _ _))
      | intro _
      | dsimp only

end Sys2Proof.Machine
end

