-- ==== Sys2Proof/Laws/Keeps05.lean ====
section
/-! SUPPORT. Keeps05.lean: what every operation keeps (Keeps.lean), one lemma an operation: Image, WeirRegs, Snapshot, Weir, Interlock. -/

namespace Sys2Proof.Machine

set_option linter.unusedVariables false
set_option linter.unusedTactic false
set_option linter.unreachableTactic false

variable {{sc : Scope}} {{s0 : State}}

/-! ### Image -/

theorem keeps_loadTick (s : State) (d : Nat) (n : Nat) (h : Keeps sc s0 s) (htime : sc.time = true) (hweir : sc.weir = true) :
    Keeps sc s0 (State.loadTick s d n) := by
  unfold State.loadTick
  repeat' first
      | (with_reducible first
          | assumption
          | apply keeps_updTime
          | apply keeps_updDom
          | refine keeps_ite ?_ ?_
          | apply keeps_foldl)
      | split
      | (with_reducible apply keeps_upd; (with_reducible first
          | assumption
          | apply keeps_updTime
          | apply keeps_updDom
          | apply keeps_foldl
          | split))
      | (with_reducible first
          | exact Held.refl _
          | exact TimeStep.refl _
          | exact ImgStep.refl _
          | exact UnitStep.refl _ _
          | exact MemStep.refl _
          | exact Held.write hweir)
      | exact TimeStep.of htime rfl rfl
      | exact fun _ => rfl
      | exact fun _ t => TimeUnit.inRange_of rfl rfl t
      | intro _
      | dsimp only

theorem keeps_applyPartial (s : State) (d : Nat) (p : Partial) (h : Keeps sc s0 s) (hclk : sc.clk = true) (himg : sc.img =
    true) (hunits : sc.units = true) (hregs : sc.regs = true) (hout : sc.out = true) (hweir : sc.weir = true) (hhost : sc.host
    = true) (hst : sc.st = true) (hcourses : sc.courses = true) (hcoders : sc.coders = true) (hemit : sc.emit = true) (hmemsys
    : sc.memsys = true) (hdma : sc.dma = true) (hpair : sc.pair = true) : Keeps sc s0 (State.applyPartial s d p) := by
  unfold State.applyPartial
  repeat' first
      | (with_reducible first
          | assumption
          | apply keeps_swapRecs
          | refine keeps_ite ?_ ?_
          | apply keeps_foldl)
      | split
      | (with_reducible apply keeps_upd; (with_reducible first
          | assumption
          | apply keeps_swapRecs
          | apply keeps_foldl
          | split))
      | (with_reducible first
          | exact Held.refl _
          | exact TimeStep.refl _
          | exact ImgStep.refl _
          | exact UnitStep.refl _ _
          | exact MemStep.refl _
          | exact Held.write hregs
          | exact Held.write hout
          | exact Held.write hweir
          | exact Held.write hhost
          | exact Held.write hst
          | exact Held.write hcourses
          | exact Held.write hcoders
          | exact Held.write hemit
          | exact Held.write hmemsys
          | exact Held.write hdma
          | exact Held.write hpair)
      | exact ImgStep.of_slots himg rfl
      | intro _
      | dsimp only

theorem keeps_takePartial (s : State) (seq : Nat) (l : Tab (List Rec)) (ps : List Rec) (h : Keeps sc s0 s) (hclk : sc.clk =
    true) (himg : sc.img = true) (hunits : sc.units = true) (hregs : sc.regs = true) (hout : sc.out = true) (hweir : sc.weir =
    true) (hhost : sc.host = true) (hst : sc.st = true) (hcourses : sc.courses = true) (hcoders : sc.coders = true) (hemit :
    sc.emit = true) (hmemsys : sc.memsys = true) (hdma : sc.dma = true) (hpair : sc.pair = true) : Keeps sc s0
    (State.takePartial s seq l ps) := by
  unfold State.takePartial
  repeat' first
      | (with_reducible first
          | assumption
          | apply keeps_await
          | apply keeps_journal
          | apply keeps_applyPartial
          | apply keeps_pace
          | apply keeps_imageSettle
          | refine keeps_ite ?_ ?_
          | apply keeps_foldl)
      | split
      | (with_reducible apply keeps_upd; (with_reducible first
          | assumption
          | apply keeps_await
          | apply keeps_journal
          | apply keeps_applyPartial
          | apply keeps_pace
          | apply keeps_imageSettle
          | apply keeps_foldl
          | split))
      | (with_reducible first
          | exact Held.refl _
          | exact TimeStep.refl _
          | exact ImgStep.refl _
          | exact UnitStep.refl _ _
          | exact MemStep.refl _
          | exact Held.write hregs
          | exact Held.write hout
          | exact Held.write hweir
          | exact Held.write hhost
          | exact Held.write hst
          | exact Held.write hcourses
          | exact Held.write hcoders
          | exact Held.write hemit
          | exact Held.write hmemsys
          | exact Held.write hdma
          | exact Held.write hpair)
      | exact ImgStep.of_slots himg rfl
      | intro _
      | dsimp only

theorem keeps_loadDomainRegs (s : State) (d : Nat) (q : DomainRec) (defined : Bool) (h : Keeps sc s0 s) (hregs : sc.regs =
    true) : Keeps sc s0 (State.loadDomainRegs s d q defined) := by
  unfold State.loadDomainRegs
  repeat' (with_reducible first | assumption | apply keeps_wrBoth)

theorem keeps_domainMake (s : State) (q : DomainRec) (h : Keeps sc s0 s) (htime : sc.time = true) (hregs : sc.regs = true)
    (hweir : sc.weir = true) : Keeps sc s0 (State.domainMake s q) := by
  unfold State.domainMake
  repeat' (with_reducible first
      | assumption
      | apply keeps_setDom
      | apply keeps_loadDomainRegs
      | apply keeps_loadTick
      | refine keeps_ite ?_ ?_)

theorem keeps_formPorts (s : State) (old : DeviceRec) (h : Keeps sc s0 s) (hregs : sc.regs = true) (hout : sc.out = true)
    (hcourses : sc.courses = true) (hemit : sc.emit = true) (hlanes : sc.lanes = true) : Keeps sc s0 (State.formPorts s old) :=
    by
  unfold State.formPorts
  repeat' first
      | (with_reducible first
          | assumption
          | apply keeps_portDown
          | apply keeps_setLane
          | apply keeps_portMake
          | apply keeps_portFormedLat
          | refine keeps_ite ?_ ?_
          | apply keeps_foldl
          | intro _)
      | split
      | dsimp only

theorem keeps_installRole (s : State) (was : Bool) (h : Keeps sc s0 s) (hregs : sc.regs = true) (hout : sc.out = true) (hemit :
    sc.emit = true) (hpair : sc.pair = true) : Keeps sc s0 (State.installRole s was) := by
  unfold State.installRole
  repeat' (with_reducible first
      | assumption
      | apply keeps_updPair
      | apply keeps_gateClose
      | apply keeps_pairSettle
      | apply keeps_setRole
      | refine keeps_ite ?_ ?_)

theorem keeps_dropStructure (s : State) (h : Keeps sc s0 s) (himg : sc.img = true) (hout : sc.out = true) (hhost : sc.host =
    true) (hst : sc.st = true) (hcourses : sc.courses = true) (hcoders : sc.coders = true) (hemit : sc.emit = true) : Keeps sc
    s0 (State.dropStructure s) := by
  unfold State.dropStructure
  repeat' first
      | (with_reducible first
          | assumption
          | apply keeps_ev
          | apply keeps_complete
          | apply keeps_dropRun
          | apply keeps_courseStop
          | apply keeps_inflowDeleted
          | apply keeps_updOut
          | refine keeps_ite ?_ ?_
          | apply keeps_foldl)
      | split
      | (with_reducible apply keeps_upd; (with_reducible first
          | assumption
          | apply keeps_ev
          | apply keeps_complete
          | apply keeps_dropRun
          | apply keeps_courseStop
          | apply keeps_inflowDeleted
          | apply keeps_updOut
          | apply keeps_foldl
          | split))
      | (with_reducible first
          | exact Held.refl _
          | exact TimeStep.refl _
          | exact ImgStep.refl _
          | exact UnitStep.refl _ _
          | exact MemStep.refl _
          | exact Held.write hout
          | exact Held.write hhost
          | exact Held.write hst
          | exact Held.write hcourses
          | exact Held.write hcoders
          | exact Held.write hemit)
      | exact ImgStep.of_slots himg rfl
      | intro _
      | dsimp only

theorem keeps_install (s : State) (seq : Nat) (t : Structure) (h : Keeps sc s0 s) (htime : sc.time = true) (himg : sc.img =
    true) (hunits : sc.units = true) (hregs : sc.regs = true) (hout : sc.out = true) (hweir : sc.weir = true) (hhost : sc.host
    = true) (hst : sc.st = true) (hcourses : sc.courses = true) (hcoders : sc.coders = true) (hemit : sc.emit = true) (hmemsys
    : sc.memsys = true) (hdma : sc.dma = true) (hpair : sc.pair = true) (hlanes : sc.lanes = true) (hboot : sc.boot = true) :
    Keeps sc s0 (State.install s seq t) := by
  unfold State.install
  repeat' first
      | (with_reducible first
          | assumption
          | apply keeps_dropStructure
          | apply keeps_wrn
          | apply keeps_loadDomainRegs
          | apply keeps_domainMake
          | apply keeps_formPorts
          | apply keeps_courseEnter
          | apply keeps_inflowCreated
          | apply keeps_svcCreate
          | apply keeps_subCreate
          | apply keeps_powerUp
          | apply keeps_setFld
          | apply keeps_installRole
          | apply keeps_ev
          | refine keeps_ite ?_ ?_
          | apply keeps_foldl)
      | split
      | (with_reducible apply keeps_upd; (with_reducible first
          | assumption
          | apply keeps_dropStructure
          | apply keeps_wrn
          | apply keeps_loadDomainRegs
          | apply keeps_domainMake
          | apply keeps_formPorts
          | apply keeps_courseEnter
          | apply keeps_inflowCreated
          | apply keeps_svcCreate
          | apply keeps_subCreate
          | apply keeps_powerUp
          | apply keeps_setFld
          | apply keeps_installRole
          | apply keeps_ev
          | apply keeps_foldl
          | split))
      | (with_reducible first
          | exact Held.refl _
          | exact TimeStep.refl _
          | exact ImgStep.refl _
          | exact UnitStep.refl _ _
          | exact MemStep.refl _
          | exact Held.write hregs
          | exact Held.write hout
          | exact Held.write hweir
          | exact Held.write hhost
          | exact Held.write hst
          | exact Held.write hcourses
          | exact Held.write hcoders
          | exact Held.write hemit
          | exact Held.write hmemsys
          | exact Held.write hdma
          | exact Held.write hpair
          | exact Held.write hlanes
          | exact Held.write hboot)
      | exact TimeStep.of htime rfl rfl
      | exact fun _ => rfl
      | exact fun _ t => TimeUnit.inRange_of rfl rfl t
      | exact ImgStep.of_slots himg rfl
      | intro _
      | dsimp only

theorem keeps_stopDomain (s : State) (d : Nat) (h : Keeps sc s0 s) (himg : sc.img = true) (hweir : sc.weir = true) (hcourses :
    sc.courses = true) (hcoders : sc.coders = true) : Keeps sc s0 (State.stopDomain s d) := by
  unfold State.stopDomain
  repeat' first
      | (with_reducible first
          | assumption
          | apply keeps_courseStop
          | apply keeps_updDom
          | refine keeps_ite ?_ ?_
          | apply keeps_foldl)
      | split
      | (with_reducible apply keeps_upd; (with_reducible first
          | assumption
          | apply keeps_courseStop
          | apply keeps_updDom
          | apply keeps_foldl
          | split))
      | (with_reducible first
          | exact Held.refl _
          | exact TimeStep.refl _
          | exact ImgStep.refl _
          | exact UnitStep.refl _ _
          | exact MemStep.refl _
          | exact Held.write hweir
          | exact Held.write hcourses
          | exact Held.write hcoders)
      | exact ImgStep.of_slots himg rfl
      | intro _
      | dsimp only

theorem keeps_stopIdle (s : State) (d : Nat) (h : Keeps sc s0 s) (hclk : sc.clk = true) (himg : sc.img = true) (hunits :
    sc.units = true) (hregs : sc.regs = true) (hout : sc.out = true) (hweir : sc.weir = true) (hst : sc.st = true) (hcourses :
    sc.courses = true) (hcoders : sc.coders = true) (hmemsys : sc.memsys = true) (hdma : sc.dma = true) (hpair : sc.pair =
    true) : Keeps sc s0 (State.stopIdle s d) := by
  unfold State.stopIdle
  repeat' (with_reducible first | assumption | apply keeps_stopDomain | apply keeps_applyLatched | apply keeps_updDom)

theorem keeps_startReplace (s : State) (seq : Nat) (t : Structure) (h : Keeps sc s0 s) (hclk : sc.clk = true) (himg : sc.img =
    true) (hunits : sc.units = true) (hregs : sc.regs = true) (hout : sc.out = true) (hweir : sc.weir = true) (hst : sc.st =
    true) (hcourses : sc.courses = true) (hcoders : sc.coders = true) (hmemsys : sc.memsys = true) (hdma : sc.dma = true)
    (hpair : sc.pair = true) : Keeps sc s0 (State.startReplace s seq t) := by
  unfold State.startReplace
  repeat' first
      | (with_reducible first
          | assumption
          | apply keeps_stopIdle
          | refine keeps_ite ?_ ?_
          | apply keeps_foldl)
      | split
      | (with_reducible apply keeps_upd; (with_reducible first
          | assumption
          | apply keeps_stopIdle
          | apply keeps_foldl
          | split))
      | (with_reducible first
          | exact Held.refl _
          | exact TimeStep.refl _
          | exact ImgStep.refl _
          | exact UnitStep.refl _ _
          | exact MemStep.refl _
          | exact Held.write hregs
          | exact Held.write hout
          | exact Held.write hweir
          | exact Held.write hst
          | exact Held.write hcourses
          | exact Held.write hcoders
          | exact Held.write hmemsys
          | exact Held.write hdma
          | exact Held.write hpair)
      | exact ImgStep.of_slots himg rfl
      | intro _
      | dsimp only

theorem keeps_execImageInstall (s : State) (h : Keeps sc s0 s) (htime : sc.time = true) (himg : sc.img = true) (hunits :
    sc.units = true) (hregs : sc.regs = true) (hout : sc.out = true) (hweir : sc.weir = true) (hhost : sc.host = true) (hst :
    sc.st = true) (hcourses : sc.courses = true) (hcoders : sc.coders = true) (hemit : sc.emit = true) (hmemsys : sc.memsys =
    true) (hdma : sc.dma = true) (hpair : sc.pair = true) (hlanes : sc.lanes = true) (hboot : sc.boot = true) : KeepsO sc s0
    (execImageInstall s) := by
  unfold execImageInstall
  repeat' first
      | (with_reducible first
          | assumption
          | apply keeps_pace
          | apply keeps_install
          | apply keepsO_next
          | refine keeps_ite ?_ ?_
          | apply keeps_foldl
          | intro _)
      | split
      | dsimp only

theorem keeps_imageAccept (s : State) (h_ : HeaderRec) (recs : List Rec) (t : Structure) (b : Bytes) (h : Keeps sc s0 s) (hclk
    : sc.clk = true) (htime : sc.time = true) (himg : sc.img = true) (hunits : sc.units = true) (hregs : sc.regs = true) (hout
    : sc.out = true) (hweir : sc.weir = true) (hhost : sc.host = true) (hst : sc.st = true) (hcourses : sc.courses = true)
    (hcoders : sc.coders = true) (hemit : sc.emit = true) (hmemsys : sc.memsys = true) (hdma : sc.dma = true) (hpair : sc.pair
    = true) (hlanes : sc.lanes = true) (hboot : sc.boot = true) : Keeps sc s0 (State.imageAccept s h_ recs t b) := by
  unfold State.imageAccept
  repeat' first
      | (with_reducible first
          | assumption
          | apply keeps_ev
          | apply keeps_setDevMaint
          | apply keeps_emit
          | apply keeps_takePartial
          | apply keeps_startReplace
          | apply keeps_pace
          | apply keeps_install
          | refine keeps_ite ?_ ?_
          | apply keeps_foldl)
      | split
      | (with_reducible apply keeps_upd; (with_reducible first
          | assumption
          | apply keeps_ev
          | apply keeps_setDevMaint
          | apply keeps_emit
          | apply keeps_takePartial
          | apply keeps_startReplace
          | apply keeps_pace
          | apply keeps_install
          | apply keeps_foldl
          | split))
      | (with_reducible first
          | exact Held.refl _
          | exact TimeStep.refl _
          | exact ImgStep.refl _
          | exact UnitStep.refl _ _
          | exact MemStep.refl _
          | exact Held.write hregs
          | exact Held.write hout
          | exact Held.write hweir
          | exact Held.write hhost
          | exact Held.write hst
          | exact Held.write hcourses
          | exact Held.write hcoders
          | exact Held.write hemit
          | exact Held.write hmemsys
          | exact Held.write hdma
          | exact Held.write hpair
          | exact Held.write hlanes
          | exact Held.write hboot)
      | exact TimeStep.of htime rfl rfl
      | exact fun _ => rfl
      | exact fun _ t => TimeUnit.inRange_of rfl rfl t
      | exact ImgStep.of_slots himg rfl
      | intro _
      | dsimp only

theorem keeps_imageRefuse (s : State) (reason : Nat) (record : Nat) (h : Keeps sc s0 s) (himg : sc.img = true) (hout : sc.out =
    true) : Keeps sc s0 (State.imageRefuse s reason record) := by
  unfold State.imageRefuse
  repeat' first
      | (with_reducible first
          | assumption
          | apply keeps_ev
          | refine keeps_ite ?_ ?_
          | apply keeps_foldl)
      | split
      | (with_reducible apply keeps_upd; (with_reducible first
          | assumption
          | apply keeps_ev
          | apply keeps_foldl
          | split))
      | (with_reducible first
          | exact Held.refl _
          | exact TimeStep.refl _
          | exact ImgStep.refl _
          | exact UnitStep.refl _ _
          | exact MemStep.refl _
          | exact Held.write hout)
      | exact ImgStep.of_slots himg rfl
      | intro _
      | dsimp only

theorem keeps_execImageLoad (o : Origin) (addr : Nat) (len : Nat) (s : State) (h : Keeps sc s0 s) (himg : sc.img = true) (hout
    : sc.out = true) : KeepsO sc s0 (execImageLoad o addr len s) := by
  unfold execImageLoad
  repeat' first
      | (with_reducible first
          | assumption
          | apply keeps_checked
          | apply keepsO_next
          | refine keeps_ite ?_ ?_
          | apply keeps_foldl)
      | split
      | (with_reducible apply keeps_upd; (with_reducible first
          | assumption
          | apply keeps_checked
          | apply keepsO_next
          | apply keeps_foldl
          | split))
      | (with_reducible first
          | exact Held.refl _
          | exact TimeStep.refl _
          | exact ImgStep.refl _
          | exact UnitStep.refl _ _
          | exact MemStep.refl _
          | exact Held.write hout)
      | exact ImgStep.of_slots himg rfl
      | intro _
      | dsimp only

theorem keeps_imageChecked (s : State) (o : Origin) (b : Option Bytes) (h : Keeps sc s0 s) (hclk : sc.clk = true) (htime :
    sc.time = true) (himg : sc.img = true) (hunits : sc.units = true) (hregs : sc.regs = true) (hout : sc.out = true) (hweir :
    sc.weir = true) (hhost : sc.host = true) (hst : sc.st = true) (hcourses : sc.courses = true) (hcoders : sc.coders = true)
    (hemit : sc.emit = true) (hmemsys : sc.memsys = true) (hdma : sc.dma = true) (hpair : sc.pair = true) (hlanes : sc.lanes =
    true) (hboot : sc.boot = true) : Keeps sc s0 (State.imageChecked s o b) := by
  unfold State.imageChecked
  repeat' first
      | (with_reducible first
          | assumption
          | apply keeps_bufferLost
          | apply keeps_complete
          | apply keeps_imageAccept
          | apply keeps_imageRefuse
          | refine keeps_ite ?_ ?_
          | apply keeps_foldl)
      | split
      | (with_reducible apply keeps_upd; (with_reducible first
          | assumption
          | apply keeps_bufferLost
          | apply keeps_complete
          | apply keeps_imageAccept
          | apply keeps_imageRefuse
          | apply keeps_foldl
          | split))
      | (with_reducible first
          | exact Held.refl _
          | exact TimeStep.refl _
          | exact ImgStep.refl _
          | exact UnitStep.refl _ _
          | exact MemStep.refl _
          | exact Held.write hregs
          | exact Held.write hout
          | exact Held.write hweir
          | exact Held.write hhost
          | exact Held.write hst
          | exact Held.write hcourses
          | exact Held.write hcoders
          | exact Held.write hemit
          | exact Held.write hmemsys
          | exact Held.write hdma
          | exact Held.write hpair
          | exact Held.write hlanes
          | exact Held.write hboot)
      | exact TimeStep.of htime rfl rfl
      | exact fun _ => rfl
      | exact fun _ t => TimeUnit.inRange_of rfl rfl t
      | exact ImgStep.of_slots himg rfl
      | intro _
      | dsimp only

theorem keeps_execImageCheckDone (b : Option Bytes) (s : State) (h : Keeps sc s0 s) (hclk : sc.clk = true) (htime : sc.time =
    true) (himg : sc.img = true) (hunits : sc.units = true) (hregs : sc.regs = true) (hout : sc.out = true) (hweir : sc.weir =
    true) (hhost : sc.host = true) (hst : sc.st = true) (hcourses : sc.courses = true) (hcoders : sc.coders = true) (hemit :
    sc.emit = true) (hmemsys : sc.memsys = true) (hdma : sc.dma = true) (hpair : sc.pair = true) (hlanes : sc.lanes = true)
    (hboot : sc.boot = true) : KeepsO sc s0 (execImageCheckDone b s) := by
  unfold execImageCheckDone
  repeat' first
      | (with_reducible first
          | assumption
          | apply keeps_imageChecked
          | apply keepsO_next
          | refine keeps_ite ?_ ?_
          | apply keeps_foldl
          | intro _)
      | split
      | dsimp only

theorem keeps_execImageStatus (o : Origin) (addr : Nat) (wrote : Bool) (s : State) (h : Keeps sc s0 s) (hout : sc.out = true) :
    KeepsO sc s0 (execImageStatus o addr wrote s) := by
  unfold execImageStatus
  repeat' (with_reducible first
      | assumption
      | apply keeps_bufferLost
      | apply keeps_complete
      | apply keeps_hostWr
      | apply keepsO_next
      | refine keeps_ite ?_ ?_)

theorem keeps_flashBad (s : State) (copy : Nat) (a3 : Verdict) (h : Keeps sc s0 s) (hout : sc.out = true) : Keeps sc s0
    (State.flashBad s copy a3) := by
  unfold State.flashBad
  repeat' first
      | (with_reducible first
          | assumption
          | apply keeps_ev
          | refine keeps_ite ?_ ?_
          | apply keeps_foldl
          | intro _)
      | split
      | dsimp only

theorem keeps_flashSelect (s : State) (a : Bytes) (b : Bytes) (h : Keeps sc s0 s) (hclk : sc.clk = true) (htime : sc.time =
    true) (himg : sc.img = true) (hunits : sc.units = true) (hregs : sc.regs = true) (hout : sc.out = true) (hweir : sc.weir =
    true) (hhost : sc.host = true) (hst : sc.st = true) (hcourses : sc.courses = true) (hcoders : sc.coders = true) (hemit :
    sc.emit = true) (hmemsys : sc.memsys = true) (hdma : sc.dma = true) (hpair : sc.pair = true) (hlanes : sc.lanes = true)
    (hboot : sc.boot = true) : Keeps sc s0 (State.flashSelect s a b) := by
  unfold State.flashSelect
  repeat' first
      | (with_reducible first
          | assumption
          | apply keeps_flashBad
          | apply keeps_imageAccept
          | refine keeps_ite ?_ ?_
          | apply keeps_foldl)
      | split
      | (with_reducible apply keeps_put_boot hboot; (with_reducible first
          | assumption
          | apply keeps_flashBad
          | apply keeps_imageAccept
          | apply keeps_foldl
          | split))
      | intro _
      | dsimp only

theorem keeps_execFlashImageSelect (a : Bytes) (b : Bytes) (s : State) (h : Keeps sc s0 s) (hclk : sc.clk = true) (htime :
    sc.time = true) (himg : sc.img = true) (hunits : sc.units = true) (hregs : sc.regs = true) (hout : sc.out = true) (hweir :
    sc.weir = true) (hhost : sc.host = true) (hst : sc.st = true) (hcourses : sc.courses = true) (hcoders : sc.coders = true)
    (hemit : sc.emit = true) (hmemsys : sc.memsys = true) (hdma : sc.dma = true) (hpair : sc.pair = true) (hlanes : sc.lanes =
    true) (hboot : sc.boot = true) : KeepsO sc s0 (execFlashImageSelect a b s) := by
  unfold execFlashImageSelect
  repeat' (with_reducible first | assumption | apply keeps_flashSelect | apply keepsO_next | refine keeps_ite ?_ ?_)

theorem keeps_keyRefuse (s : State) (op : Nat) (slot : Nat) (h : Keeps sc s0 s) (hout : sc.out = true) : Keeps sc s0
    (State.keyRefuse s op slot) := by
  unfold State.keyRefuse
  repeat' (with_reducible first | assumption | apply keeps_ev)

theorem getD_set {l : List Bool} {k j : Nat} {v : Bool} (d : Bool) : (l.set j v).getD k d = if j = k ∧ k < l.length then v else
    l.getD k d := by
  simp only [List.getD_eq_getElem?_getD, List.getElem?_set]
  by_cases h : j = k
  · subst h
    by_cases h2 : j < l.length <;> simp [h2]
  · simp [h]
theorem ImageUnit.keyUsable_program {x : ImageUnit} (slot : Nat) (keys : Tab Bytes) (h : x.keyUsable) :
    ImageUnit.keyUsable { x with slotProgrammed := x.slotProgrammed.set slot true, slotKeys := keys } := by
  obtain ⟨k, hp, hr⟩ := h
  refine ⟨k, ?_, hr⟩
  simp only [getD_set, hp, ite_self]
theorem ImageUnit.keyUsable_revoke {x : ImageUnit} {slot k : Nat} (hne : k ≠ slot) (hp : x.slotProgrammed.getD k false = true)
    (hr : x.slotRevoked.getD k false = false) : ImageUnit.keyUsable { x with slotRevoked := x.slotRevoked.set slot true } := by
  refine ⟨k, hp, ?_⟩
  simp only [getD_set, hr]
  rw [if_neg (fun h => hne h.1.symm)]
theorem keeps_keyProgram (s : State) (slot : Nat) (h : Keeps sc s0 s) (himg : sc.img = true) (hslots : sc.slots = true) (hout :
    sc.out = true) : Keeps sc s0 (State.keyProgram s slot) := by
  unfold State.keyProgram
  dsimp only
  refine keeps_ite (keeps_keyRefuse _ _ _ h hout) ?_
  exact keeps_ev _ _ _ _ (keeps_upd h (TimeStep.refl _) ⟨ImageUnit.keyUsable_program _ _, Held.write himg, Held.write hslots⟩
      (UnitStep.refl _ _)
      (MemStep.refl _) (Held.refl _) (Held.refl _) (Held.refl _) (Held.refl _) (Held.refl _) (Held.refl _) (Held.refl _)
      (Held.refl _) (Held.refl _) (Held.refl _) (Held.refl _) (Held.refl _) (Held.refl _) (Held.refl _)) hout

theorem keeps_execKeyProgram (slot : Nat) (s : State) (h : Keeps sc s0 s) (himg : sc.img = true) (hslots : sc.slots = true)
    (hout : sc.out = true) : KeepsO sc s0 (execKeyProgram slot s) := by
  unfold execKeyProgram
  repeat' (with_reducible first | assumption | apply keeps_keyProgram | apply keepsO_next | refine keeps_ite ?_ ?_)

theorem keeps_keyRevoke (s : State) (slot : Nat) (h : Keeps sc s0 s) (himg : sc.img = true) (hslots : sc.slots = true) (hout :
    sc.out = true) : Keeps sc s0 (State.keyRevoke s slot) := by
  unfold State.keyRevoke
  dsimp only
  split
  · exact keeps_keyRefuse _ _ _ h hout
  · rename_i hc
    rw [Bool.not_eq_true, Bool.or_eq_false_iff] at hc
    obtain ⟨k, -, hg⟩ := List.any_eq_true.mp ((Bool.not_eq_false' _).mp hc.2)
    simp only [Bool.and_eq_true, bne_iff_ne, Bool.not_eq_eq_eq_not, Bool.not_true] at hg
    exact keeps_ev _ _ _ _ (keeps_upd h (TimeStep.refl _) ⟨fun _ => ImageUnit.keyUsable_revoke hg.1 hg.2.1 hg.2.2, Held.write
        himg, Held.write hslots⟩ (UnitStep.refl _ _)
      (MemStep.refl _) (Held.refl _) (Held.refl _) (Held.refl _) (Held.refl _) (Held.refl _) (Held.refl _) (Held.refl _)
      (Held.refl _) (Held.refl _) (Held.refl _) (Held.refl _) (Held.refl _) (Held.refl _) (Held.refl _)) hout

theorem keeps_execKeyRevoke (slot : Nat) (s : State) (h : Keeps sc s0 s) (himg : sc.img = true) (hslots : sc.slots = true)
    (hout : sc.out = true) : KeepsO sc s0 (execKeyRevoke slot s) := by
  unfold execKeyRevoke
  repeat' (with_reducible first | assumption | apply keeps_keyRevoke | apply keepsO_next | refine keeps_ite ?_ ?_)

theorem keeps_execFloorLock (s : State) (h : Keeps sc s0 s) (himg : sc.img = true) : KeepsO sc s0 (execFloorLock s) := by
  unfold execFloorLock
  repeat' first
      | (with_reducible first
          | assumption
          | apply keepsO_next
          | refine keeps_ite ?_ ?_
          | apply keeps_foldl)
      | split
      | (with_reducible apply keeps_upd; (with_reducible first
          | assumption
          | apply keepsO_next
          | apply keeps_foldl
          | split))
      | (with_reducible first
          | exact Held.refl _
          | exact TimeStep.refl _
          | exact ImgStep.refl _
          | exact UnitStep.refl _ _
          | exact MemStep.refl _)
      | exact ImgStep.of_slots himg rfl
      | intro _
      | dsimp only

/-! ### WeirRegs -/

theorem keeps_modeTake (s : State) (d : Nat) (m : Nat) (h : Keeps sc s0 s) (hout : sc.out = true) (hweir : sc.weir = true) :
    Keeps sc s0 (State.modeTake s d m) := by
  unfold State.modeTake
  repeat' (with_reducible first | assumption | apply keeps_ev | apply keeps_updDom | refine keeps_ite ?_ ?_)

theorem keeps_mergeReg (s : State) (d : Nat) (a : Nat) (v : Word) (h : Keeps sc s0 s) (hregs : sc.regs = true) (hout : sc.out =
    true) (hweir : sc.weir = true) (hcourses : sc.courses = true) : Keeps sc s0 (State.mergeReg s d a v) := by
  unfold State.mergeReg
  repeat' first
      | (with_reducible first
          | assumption
          | apply keeps_modeTake
          | apply keeps_updDom
          | apply keeps_bindApply
          | refine keeps_ite ?_ ?_
          | apply keeps_foldl)
      | split
      | (with_reducible apply keeps_put_regs hregs; (with_reducible first
          | assumption
          | apply keeps_modeTake
          | apply keeps_updDom
          | apply keeps_bindApply
          | apply keeps_foldl
          | split))
      | intro _
      | dsimp only

theorem keeps_stageRegs (s : State) (d : Nat) (h : Keeps sc s0 s) (hweir : sc.weir = true) : Keeps sc s0 (State.stageRegs s d)
    := by
  unfold State.stageRegs
  repeat' (with_reducible first | assumption | apply keeps_setDom)

theorem keeps_mergeRegs (s : State) (d : Nat) (h : Keeps sc s0 s) (hregs : sc.regs = true) (hout : sc.out = true) (hweir :
    sc.weir = true) (hcourses : sc.courses = true) (hpair : sc.pair = true) : Keeps sc s0 (State.mergeRegs s d) := by
  unfold State.mergeRegs
  repeat' first
      | (with_reducible first
          | assumption
          | apply keeps_mergeReg
          | apply keeps_updDom
          | apply keeps_journal
          | refine keeps_ite ?_ ?_
          | apply keeps_foldl
          | intro _)
      | split
      | dsimp only

theorem keeps_phaseWrite (s : State) (d : Nat) (w : Word) (h : Keeps sc s0 s) (hregs : sc.regs = true) (hout : sc.out = true) :
    Keeps sc s0 (State.phaseWrite s d w) := by
  unfold State.phaseWrite
  repeat' first
      | (with_reducible first
          | assumption
          | apply keeps_weirWrite
          | apply keeps_ev
          | apply keeps_wr
          | refine keeps_ite ?_ ?_
          | apply keeps_foldl
          | intro _)
      | split
      | dsimp only

theorem keeps_execWeirPhaseWrite (d : Nat) (w : Word) (s : State) (h : Keeps sc s0 s) (hregs : sc.regs = true) (hout : sc.out =
    true) : KeepsO sc s0 (execWeirPhaseWrite d w s) := by
  unfold execWeirPhaseWrite
  repeat' (with_reducible first | assumption | apply keeps_phaseWrite | apply keepsO_next)

theorem keeps_guardWrite (s : State) (d : Nat) (w : Word) (h : Keeps sc s0 s) (hregs : sc.regs = true) (hout : sc.out = true) :
    Keeps sc s0 (State.guardWrite s d w) := by
  unfold State.guardWrite
  repeat' first
      | (with_reducible first
          | assumption
          | apply keeps_weirWrite
          | apply keeps_wr
          | apply keeps_ev
          | refine keeps_ite ?_ ?_
          | apply keeps_foldl
          | intro _)
      | split
      | dsimp only

theorem keeps_execGuardNsWrite (d : Nat) (w : Word) (s : State) (h : Keeps sc s0 s) (hregs : sc.regs = true) (hout : sc.out =
    true) : KeepsO sc s0 (execGuardNsWrite d w s) := by
  unfold execGuardNsWrite
  repeat' (with_reducible first | assumption | apply keeps_guardWrite | apply keepsO_next)

theorem keeps_modeWrite (s : State) (d : Nat) (m : Nat) (h : Keeps sc s0 s) (hout : sc.out = true) (hweir : sc.weir = true)
    (hpair : sc.pair = true) : Keeps sc s0 (State.modeWrite s d m) := by
  unfold State.modeWrite
  repeat' first
      | (with_reducible first
          | assumption
          | apply keeps_weirWrite
          | apply keeps_ev
          | apply keeps_modeTake
          | apply keeps_setDom
          | apply keeps_journal
          | refine keeps_ite ?_ ?_
          | apply keeps_foldl
          | intro _)
      | split
      | dsimp only

theorem keeps_execModeReqWrite (d : Nat) (m : Nat) (s : State) (h : Keeps sc s0 s) (hout : sc.out = true) (hweir : sc.weir =
    true) (hpair : sc.pair = true) : KeepsO sc s0 (execModeReqWrite d m s) := by
  unfold execModeReqWrite
  repeat' first
      | (with_reducible first
          | assumption
          | apply keeps_modeWrite
          | apply keepsO_next
          | refine keeps_ite ?_ ?_
          | apply keeps_foldl)
      | split
      | (with_reducible apply keeps_upd; (with_reducible first
          | assumption
          | apply keeps_modeWrite
          | apply keepsO_next
          | apply keeps_foldl
          | split))
      | (with_reducible first
          | exact Held.refl _
          | exact TimeStep.refl _
          | exact ImgStep.refl _
          | exact UnitStep.refl _ _
          | exact MemStep.refl _
          | exact Held.write hout
          | exact Held.write hweir
          | exact Held.write hpair)
      | intro _
      | dsimp only

/-! ### Snapshot -/

theorem keeps_sendSnapshot (s : State) (d : Nat) (h : Keeps sc s0 s) (hout : sc.out = true) (hpair : sc.pair = true) : Keeps sc
    s0 (State.sendSnapshot s d) := by
  unfold State.sendSnapshot
  repeat' (with_reducible first | assumption | apply keeps_emit | apply keeps_updPair | refine keeps_ite ?_ ?_)

theorem keeps_setGap (s : State) (d : Nat) (tick : Nat) (lost : Nat) (h : Keeps sc s0 s) (hpair : sc.pair = true) : Keeps sc s0
    (State.setGap s d tick lost) := by
  unfold State.setGap
  repeat' (with_reducible first | assumption | apply keeps_updPair)

theorem keeps_discardSnapshot (s : State) (d : Nat) (reason : Nat) (tick : Nat) (h : Keeps sc s0 s) (hregs : sc.regs = true)
    (hout : sc.out = true) (hpair : sc.pair = true) : Keeps sc s0 (State.discardSnapshot s d reason tick) := by
  unfold State.discardSnapshot
  repeat' (with_reducible first | assumption | apply keeps_ev | apply keeps_inc | apply keeps_setGap)

theorem keeps_applyJournal (s : State) (d : Nat) (a3 : Journal) (h : Keeps sc s0 s) (hunits : sc.units = true) (hregs : sc.regs
    = true) (hout : sc.out = true) (hweir : sc.weir = true) (hhost : sc.host = true) (hst : sc.st = true) (hcourses :
    sc.courses = true) (hcoders : sc.coders = true) (hmemsys : sc.memsys = true) (hdma : sc.dma = true) (hpair : sc.pair =
    true) (hras : sc.ras = true) : Keeps sc s0 (State.applyJournal s d a3) := by
  unfold State.applyJournal
  repeat' first
      | (with_reducible first
          | assumption
          | apply keeps_applyW
          | apply keeps_await
          | apply keeps_wr
          | apply keeps_mergeReg
          | apply keeps_updDom
          | apply keeps_updPair
          | refine keeps_ite ?_ ?_
          | apply keeps_foldl)
      | split
      | (with_reducible apply keeps_put_ras hras; (with_reducible first
          | assumption
          | apply keeps_applyW
          | apply keeps_await
          | apply keeps_wr
          | apply keeps_mergeReg
          | apply keeps_updDom
          | apply keeps_updPair
          | apply keeps_foldl
          | split))
      | intro _
      | dsimp only

theorem keeps_applyJournals (d : Nat) (l : List Journal) (hclk : sc.clk = true) (hunits : sc.units = true) (hregs : sc.regs =
    true) (hout : sc.out = true) (hweir : sc.weir = true) (hhost : sc.host = true) (hst : sc.st = true) (hcourses : sc.courses
    = true) (hcoders : sc.coders = true) (hmemsys : sc.memsys = true) (hdma : sc.dma = true) (hpair : sc.pair = true) (hras :
    sc.ras = true) : ∀ s : State, Keeps sc s0 s → Keeps sc s0 (State.applyJournals s d l) := by
  induction l with
  | nil => exact fun _ h => h
  | cons j l ih =>
    intro s h
    unfold State.applyJournals
    repeat' (with_reducible first | assumption | apply keeps_applyJournal | apply keeps_cycles | apply ih)

theorem keeps_compareDigest (s : State) (e : DigestEntry) (h : Keeps sc s0 s) (hout : sc.out = true) (hcoders : sc.coders =
    true) : Keeps sc s0 (State.compareDigest s e) := by
  unfold State.compareDigest
  repeat' (with_reducible first
      | assumption
      | apply keeps_evRd
      | apply keeps_setRend
      | apply keeps_unsync
      | refine keeps_ite ?_ ?_)

theorem keeps_adoptEgress (s : State) (e : EgressEntry) (h : Keeps sc s0 s) (hregs : sc.regs = true) (hemit : sc.emit = true) :
    Keeps sc s0 (State.adoptEgress s e) := by
  unfold State.adoptEgress
  repeat' (with_reducible first | assumption | apply keeps_inc | apply keeps_setRing | refine keeps_ite ?_ ?_)

theorem keeps_adoptNode (s : State) (e : NodeEntry) (h : Keeps sc s0 s) (hemit : sc.emit = true) : Keeps sc s0 (State.adoptNode
    s e) := by
  unfold State.adoptNode
  repeat' first
      | (with_reducible first
          | assumption
          | apply keeps_setOsub
          | apply keeps_setOsvc
          | apply keeps_setOport
          | refine keeps_ite ?_ ?_
          | apply keeps_foldl
          | intro _)
      | split
      | dsimp only

theorem keeps_resyncStep (s : State) (x : Snapshot) (h : Keeps sc s0 s) (hout : sc.out = true) (hpair : sc.pair = true) : Keeps
    sc s0 (State.resyncStep s x) := by
  unfold State.resyncStep
  repeat' (with_reducible first | assumption | apply keeps_updPair | apply keeps_ev | refine keeps_ite ?_ ?_)

theorem keeps_commitSnapshot (s : State) (x : Snapshot) (h : Keeps sc s0 s) (hclk : sc.clk = true) (hunits : sc.units = true)
    (hregs : sc.regs = true) (hout : sc.out = true) (hweir : sc.weir = true) (hhost : sc.host = true) (hst : sc.st = true)
    (hcourses : sc.courses = true) (hcoders : sc.coders = true) (hemit : sc.emit = true) (hmemsys : sc.memsys = true) (hdma :
    sc.dma = true) (hpair : sc.pair = true) (hras : sc.ras = true) : Keeps sc s0 (State.commitSnapshot s x) := by
  unfold State.commitSnapshot
  repeat' first
      | (with_reducible first
          | assumption
          | apply keeps_inc
          | apply keeps_updPair
          | apply keeps_applyJournals
          | apply keeps_compareDigest
          | apply keeps_adoptEgress
          | apply keeps_adoptNode
          | apply keeps_resyncStep
          | apply keeps_setGap
          | refine keeps_ite ?_ ?_
          | apply keeps_foldl)
      | split
      | (with_reducible apply keeps_upd; (with_reducible first
          | assumption
          | apply keeps_inc
          | apply keeps_updPair
          | apply keeps_applyJournals
          | apply keeps_compareDigest
          | apply keeps_adoptEgress
          | apply keeps_adoptNode
          | apply keeps_resyncStep
          | apply keeps_setGap
          | apply keeps_foldl
          | split))
      | (with_reducible first
          | exact Held.refl _
          | exact TimeStep.refl _
          | exact ImgStep.refl _
          | exact UnitStep.refl _ _
          | exact MemStep.refl _
          | exact Held.write hregs
          | exact Held.write hout
          | exact Held.write hweir
          | exact Held.write hhost
          | exact Held.write hst
          | exact Held.write hcourses
          | exact Held.write hcoders
          | exact Held.write hemit
          | exact Held.write hmemsys
          | exact Held.write hdma
          | exact Held.write hpair
          | exact Held.write hras)
      | intro _
      | dsimp only

/-! ### Weir -/

theorem keeps_freezeFount (s : State) (i : InputRec) (h : Keeps sc s0 s) (hout : sc.out = true) (hcourses : sc.courses = true)
    : Keeps sc s0 (State.freezeFount s i) := by
  unfold State.freezeFount
  repeat' (with_reducible first | assumption | apply keeps_fountFreeze | apply keeps_evC | refine keeps_ite ?_ ?_)

theorem keeps_freezeStages (s : State) (c : Nat) (h : Keeps sc s0 s) (hout : sc.out = true) (hcourses : sc.courses = true) :
    Keeps sc s0 (State.freezeStages s c) := by
  unfold State.freezeStages
  repeat' first
      | (with_reducible first
          | assumption
          | apply keeps_freezeMere
          | apply keeps_protDeadline
          | apply keeps_freezeCascade
          | apply keeps_freezeHeadwater
          | apply keeps_freezeFount
          | refine keeps_ite ?_ ?_
          | apply keeps_foldl
          | intro _)
      | split
      | dsimp only

theorem keeps_deadline (s : State) (d : Nat) (h : Keeps sc s0 s) (hregs : sc.regs = true) (hout : sc.out = true) (hweir :
    sc.weir = true) (hcourses : sc.courses = true) (hcoders : sc.coders = true) : Keeps sc s0 (State.deadline s d) := by
  unfold State.deadline
  repeat' first
      | (with_reducible first
          | assumption
          | apply keeps_updDom
          | apply keeps_tarnDeadline
          | apply keeps_freezeStages
          | refine keeps_ite ?_ ?_
          | apply keeps_foldl
          | intro _)
      | split
      | dsimp only

theorem keeps_deadlineBefore (s : State) (d : Nat) (c : Nat) (h : Keeps sc s0 s) (hclk : sc.clk = true) (hregs : sc.regs =
    true) (hout : sc.out = true) (hweir : sc.weir = true) (hcourses : sc.courses = true) (hcoders : sc.coders = true) : Keeps
    sc s0 (State.deadlineBefore s d c) := by
  unfold State.deadlineBefore
  repeat' (with_reducible first | assumption | apply keeps_deadline | apply keeps_runTo | refine keeps_ite ?_ ?_)

theorem keeps_execWindowDeadline (d : Nat) (s : State) (h : Keeps sc s0 s) (hclk : sc.clk = true) (hregs : sc.regs = true)
    (hout : sc.out = true) (hweir : sc.weir = true) (hcourses : sc.courses = true) (hcoders : sc.coders = true) : KeepsO sc s0
    (execWindowDeadline d s) := by
  unfold execWindowDeadline
  repeat' (with_reducible first
      | assumption
      | apply keeps_pace
      | apply keeps_deadline
      | apply keeps_runTo
      | apply keepsO_next
      | refine keeps_ite ?_ ?_)

theorem keeps_kill (s : State) (d : Nat) (h : Keeps sc s0 s) (hregs : sc.regs = true) (hout : sc.out = true) (hweir : sc.weir =
    true) (hcourses : sc.courses = true) (hcoders : sc.coders = true) (hmemsys : sc.memsys = true) (hdma : sc.dma = true) :
    Keeps sc s0 (State.kill s d) := by
  unfold State.kill
  repeat' first
      | (with_reducible first
          | assumption
          | apply keeps_inc
          | apply keeps_raiseTo
          | apply keeps_deadline
          | apply keeps_sluiceKill
          | apply keeps_masterReset
          | refine keeps_ite ?_ ?_
          | apply keeps_foldl
          | intro _)
      | split
      | dsimp only

theorem keeps_firstOpens (s : State) (h : Keeps sc s0 s) (hout : sc.out = true) (hemit : sc.emit = true) (hpair : sc.pair =
    true) : Keeps sc s0 (State.firstOpens s) := by
  unfold State.firstOpens
  repeat' (with_reducible first | assumption | apply keeps_gateOpen | apply keeps_setActOut | refine keeps_ite ?_ ?_)

theorem keeps_skipped (s : State) (d : Nat) (n : Nat) (h : Keeps sc s0 s) (hregs : sc.regs = true) (hout : sc.out = true) :
    Keeps sc s0 (State.skipped s d n) := by
  unfold State.skipped
  repeat' (with_reducible first | assumption | apply keeps_ev | apply keeps_inc | refine keeps_ite ?_ ?_)

theorem keeps_weirBegin (s : State) (d : Nat) (new : Nat) (ns : Nat) (forced : Bool) (byPeriod : Bool) (h : Keeps sc s0 s)
    (htime : sc.time = true) (hregs : sc.regs = true) (hout : sc.out = true) (hweir : sc.weir = true) (hcourses : sc.courses =
    true) (hcoders : sc.coders = true) (hemit : sc.emit = true) (hmemsys : sc.memsys = true) (hdma : sc.dma = true) (hpair :
    sc.pair = true) : Keeps sc s0 (State.weirBegin s d new ns forced byPeriod) := by
  unfold State.weirBegin
  repeat' first
      | (with_reducible first
          | assumption
          | apply keeps_setDom
          | apply keeps_fireCmp
          | apply keeps_loadTick
          | apply keeps_skipped
          | apply keeps_ev
          | apply keeps_inc
          | apply keeps_firstOpens
          | apply keeps_stageRegs
          | apply keeps_lutsMap
          | apply keeps_kill
          | refine keeps_ite ?_ ?_
          | apply keeps_foldl
          | intro _)
      | split
      | dsimp only

theorem keeps_execWeirStart (d : Nat) (s : State) (h : Keeps sc s0 s) (hclk : sc.clk = true) (htime : sc.time = true) (hregs :
    sc.regs = true) (hout : sc.out = true) (hweir : sc.weir = true) (hcourses : sc.courses = true) (hcoders : sc.coders = true)
    (hemit : sc.emit = true) (hmemsys : sc.memsys = true) (hdma : sc.dma = true) (hpair : sc.pair = true) : KeepsO sc s0
    (execWeirStart d s) := by
  unfold execWeirStart
  repeat' (with_reducible first
      | assumption
      | apply keeps_runTo
      | apply keeps_deadlineBefore
      | apply keeps_weirBegin
      | apply keepsO_next
      | refine keeps_ite ?_ ?_)

theorem keeps_execForcedWeir (d : Nat) (s : State) (h : Keeps sc s0 s) (hclk : sc.clk = true) (htime : sc.time = true) (hregs :
    sc.regs = true) (hout : sc.out = true) (hweir : sc.weir = true) (hcourses : sc.courses = true) (hcoders : sc.coders = true)
    (hemit : sc.emit = true) (hmemsys : sc.memsys = true) (hdma : sc.dma = true) (hpair : sc.pair = true) : KeepsO sc s0
    (execForcedWeir d s) := by
  unfold execForcedWeir
  repeat' (with_reducible first
      | assumption
      | apply keeps_runTo
      | apply keeps_deadlineBefore
      | apply keeps_weirBegin
      | apply keepsO_next
      | refine keeps_ite ?_ ?_)

theorem keeps_execDrainPeriodExpired (d : Nat) (s : State) (h : Keeps sc s0 s) (hclk : sc.clk = true) (htime : sc.time = true)
    (hregs : sc.regs = true) (hout : sc.out = true) (hweir : sc.weir = true) (hcourses : sc.courses = true) (hcoders :
    sc.coders = true) (hemit : sc.emit = true) (hmemsys : sc.memsys = true) (hdma : sc.dma = true) (hpair : sc.pair = true) :
    KeepsO sc s0 (execDrainPeriodExpired d s) := by
  unfold execDrainPeriodExpired
  repeat' (with_reducible first
      | assumption
      | apply keeps_runTo
      | apply keeps_deadlineBefore
      | apply keeps_weirBegin
      | apply keepsO_next
      | refine keeps_ite ?_ ?_)

theorem keeps_execDrainPacedWeirDue (d : Nat) (s : State) (h : Keeps sc s0 s) (hclk : sc.clk = true) (htime : sc.time = true)
    (hregs : sc.regs = true) (hout : sc.out = true) (hweir : sc.weir = true) (hcourses : sc.courses = true) (hcoders :
    sc.coders = true) (hemit : sc.emit = true) (hmemsys : sc.memsys = true) (hdma : sc.dma = true) (hpair : sc.pair = true) :
    KeepsO sc s0 (execDrainPacedWeirDue d s) := by
  unfold execDrainPacedWeirDue
  repeat' first
      | (with_reducible first
          | assumption
          | apply keeps_runTo
          | apply keeps_deadlineBefore
          | apply keeps_weirBegin
          | apply keepsO_next
          | refine keeps_ite ?_ ?_
          | apply keeps_foldl
          | intro _)
      | split
      | dsimp only

theorem keeps_autoStart (s : State) (d : Nat) (h : Keeps sc s0 s) (hregs : sc.regs = true) (hout : sc.out = true) (hweir :
    sc.weir = true) (hcourses : sc.courses = true) (hcoders : sc.coders = true) (hdma : sc.dma = true) : Keeps sc s0
    (State.autoStart s d) := by
  unfold State.autoStart
  repeat' first
      | (with_reducible first
          | assumption
          | apply keeps_courseAuto
          | apply keeps_updDom
          | refine keeps_ite ?_ ?_
          | apply keeps_foldl
          | intro _)
      | split
      | dsimp only

theorem keeps_weirCommands (s : State) (d : Nat) (h : Keeps sc s0 s) (hclk : sc.clk = true) (hunits : sc.units = true) (hregs :
    sc.regs = true) (hout : sc.out = true) (hweir : sc.weir = true) (hst : sc.st = true) (hcourses : sc.courses = true)
    (hcoders : sc.coders = true) (hmemsys : sc.memsys = true) (hdma : sc.dma = true) (hpair : sc.pair = true) : Keeps sc s0
    (State.weirCommands s d) := by
  unfold State.weirCommands
  repeat' first
      | (with_reducible first
          | assumption
          | apply keeps_mergeRegs
          | apply keeps_lutsMap
          | apply keeps_autoStart
          | apply keeps_heldStart
          | apply keeps_applyLatched
          | apply keeps_updDom
          | refine keeps_ite ?_ ?_
          | apply keeps_foldl
          | intro _)
      | split
      | dsimp only

theorem keeps_unstage (s : State) (x : StagedImage) (h : Keeps sc s0 s) (himg : sc.img = true) (hhost : sc.host = true) (hpair
    : sc.pair = true) : Keeps sc s0 (State.unstage s x) := by
  unfold State.unstage
  repeat' first
      | (with_reducible first
          | assumption
          | apply keeps_updPair
          | apply keeps_await
          | refine keeps_ite ?_ ?_
          | apply keeps_foldl)
      | split
      | (with_reducible apply keeps_upd; (with_reducible first
          | assumption
          | apply keeps_updPair
          | apply keeps_await
          | apply keeps_foldl
          | split))
      | (with_reducible first
          | exact Held.refl _
          | exact TimeStep.refl _
          | exact ImgStep.refl _
          | exact UnitStep.refl _ _
          | exact MemStep.refl _
          | exact Held.write hhost
          | exact Held.write hpair)
      | exact ImgStep.of_slots himg rfl
      | intro _
      | dsimp only

theorem keeps_unsyncImage (s : State) (recs : List Rec) (h : Keeps sc s0 s) (hout : sc.out = true) (hcoders : sc.coders = true)
    : Keeps sc s0 (State.unsyncImage s recs) := by
  unfold State.unsyncImage
  repeat' first
      | (with_reducible first
          | assumption
          | apply keeps_unsync
          | refine keeps_ite ?_ ?_
          | apply keeps_foldl
          | intro _)
      | split
      | dsimp only

theorem keeps_applyOwed (s : State) (d : Nat) (seq : Nat) (h : Keeps sc s0 s) (hclk : sc.clk = true) (himg : sc.img = true)
    (hunits : sc.units = true) (hregs : sc.regs = true) (hout : sc.out = true) (hweir : sc.weir = true) (hhost : sc.host =
    true) (hst : sc.st = true) (hcourses : sc.courses = true) (hcoders : sc.coders = true) (hemit : sc.emit = true) (hmemsys :
    sc.memsys = true) (hdma : sc.dma = true) (hpair : sc.pair = true) : Keeps sc s0 (State.applyOwed s d seq) := by
  unfold State.applyOwed
  repeat' first
      | (with_reducible first
          | assumption
          | apply keeps_unstage
          | apply keeps_startReplace
          | apply keeps_updPair
          | apply keeps_applyPartial
          | apply keeps_unsyncImage
          | apply keeps_stopDomain
          | refine keeps_ite ?_ ?_
          | apply keeps_foldl
          | intro _)
      | split
      | dsimp only

theorem keeps_weirOwed (s : State) (d : Nat) (h : Keeps sc s0 s) (hclk : sc.clk = true) (himg : sc.img = true) (hunits :
    sc.units = true) (hregs : sc.regs = true) (hout : sc.out = true) (hweir : sc.weir = true) (hhost : sc.host = true) (hst :
    sc.st = true) (hcourses : sc.courses = true) (hcoders : sc.coders = true) (hemit : sc.emit = true) (hmemsys : sc.memsys =
    true) (hdma : sc.dma = true) (hpair : sc.pair = true) : Keeps sc s0 (State.weirOwed s d) := by
  unfold State.weirOwed
  repeat' first
      | (with_reducible first
          | assumption
          | apply keeps_applyOwed
          | apply keeps_updPair
          | refine keeps_ite ?_ ?_
          | apply keeps_foldl
          | intro _)
      | split
      | dsimp only

theorem keeps_weirPartials (s : State) (d : Nat) (h : Keeps sc s0 s) (hclk : sc.clk = true) (himg : sc.img = true) (hunits :
    sc.units = true) (hregs : sc.regs = true) (hout : sc.out = true) (hweir : sc.weir = true) (hhost : sc.host = true) (hst :
    sc.st = true) (hcourses : sc.courses = true) (hcoders : sc.coders = true) (hemit : sc.emit = true) (hmemsys : sc.memsys =
    true) (hdma : sc.dma = true) (hpair : sc.pair = true) : Keeps sc s0 (State.weirPartials s d) := by
  unfold State.weirPartials
  repeat' first
      | (with_reducible first
          | assumption
          | apply keeps_journal
          | apply keeps_applyPartial
          | refine keeps_ite ?_ ?_
          | apply keeps_foldl)
      | split
      | (with_reducible apply keeps_upd; (with_reducible first
          | assumption
          | apply keeps_journal
          | apply keeps_applyPartial
          | apply keeps_foldl
          | split))
      | (with_reducible first
          | exact Held.refl _
          | exact TimeStep.refl _
          | exact ImgStep.refl _
          | exact UnitStep.refl _ _
          | exact MemStep.refl _
          | exact Held.write hregs
          | exact Held.write hout
          | exact Held.write hweir
          | exact Held.write hhost
          | exact Held.write hst
          | exact Held.write hcourses
          | exact Held.write hcoders
          | exact Held.write hemit
          | exact Held.write hmemsys
          | exact Held.write hdma
          | exact Held.write hpair)
      | exact ImgStep.of_slots himg rfl
      | intro _
      | dsimp only

theorem keeps_weirSwap (s : State) (d : Nat) (h : Keeps sc s0 s) (hclk : sc.clk = true) (himg : sc.img = true) (hunits :
    sc.units = true) (hmem : sc.mem = true) (hregs : sc.regs = true) (hout : sc.out = true) (hweir : sc.weir = true) (hhost :
    sc.host = true) (hst : sc.st = true) (hcourses : sc.courses = true) (hcoders : sc.coders = true) (hemit : sc.emit = true)
    (hmemsys : sc.memsys = true) (hdma : sc.dma = true) (hpair : sc.pair = true) (hlanes : sc.lanes = true) (hboot : sc.boot =
    true) (hras : sc.ras = true) : Keeps sc s0 (State.weirSwap s d) := by
  unfold State.weirSwap
  repeat' first
      | (with_reducible first
          | assumption
          | apply keeps_weirOwed
          | apply keeps_weirPartials
          | apply keeps_swapUnits
          | apply keeps_imageSettle
          | apply keeps_captionRead
          | apply keeps_cycles
          | apply keeps_powerWeir
          | apply keeps_sendSnapshot
          | apply keeps_thermApply
          | apply keeps_updDom
          | refine keeps_ite ?_ ?_
          | apply keeps_foldl
          | intro _)
      | split
      | dsimp only

theorem keeps_weirApply (s : State) (d : Nat) (h : Keeps sc s0 s) (hclk : sc.clk = true) (himg : sc.img = true) (hunits :
    sc.units = true) (hmem : sc.mem = true) (hregs : sc.regs = true) (hout : sc.out = true) (hweir : sc.weir = true) (hhost :
    sc.host = true) (hst : sc.st = true) (hcourses : sc.courses = true) (hcoders : sc.coders = true) (hemit : sc.emit = true)
    (hmemsys : sc.memsys = true) (hdma : sc.dma = true) (hpair : sc.pair = true) (hlanes : sc.lanes = true) (hboot : sc.boot =
    true) (hras : sc.ras = true) : Keeps sc s0 (State.weirApply s d) := by
  unfold State.weirApply
  repeat' first
      | (with_reducible first
          | assumption
          | apply keeps_weirCommands
          | apply keeps_stopDomain
          | apply keeps_weirSwap
          | apply keeps_sendSnapshot
          | apply keeps_journal
          | refine keeps_ite ?_ ?_
          | apply keeps_foldl
          | intro _)
      | split
      | dsimp only

theorem keeps_snapDrop (s : State) (d : Nat) (reason : Nat) (h : Keeps sc s0 s) (hregs : sc.regs = true) (hout : sc.out = true)
    (hpair : sc.pair = true) : Keeps sc s0 (State.snapDrop s d reason) := by
  unfold State.snapDrop
  repeat' (with_reducible first | assumption | apply keeps_updPair | apply keeps_discardSnapshot)

theorem keeps_snapTake (s : State) (d : Nat) (x : Snapshot) (h : Keeps sc s0 s) (hclk : sc.clk = true) (himg : sc.img = true)
    (hunits : sc.units = true) (hmem : sc.mem = true) (hregs : sc.regs = true) (hout : sc.out = true) (hweir : sc.weir = true)
    (hhost : sc.host = true) (hst : sc.st = true) (hcourses : sc.courses = true) (hcoders : sc.coders = true) (hemit : sc.emit
    = true) (hmemsys : sc.memsys = true) (hdma : sc.dma = true) (hpair : sc.pair = true) (hlanes : sc.lanes = true) (hboot :
    sc.boot = true) (hras : sc.ras = true) : Keeps sc s0 (State.snapTake s d x) := by
  unfold State.snapTake
  repeat' (with_reducible first
      | assumption
      | apply keeps_updPair
      | apply keeps_discardSnapshot
      | apply keeps_snapDrop
      | apply keeps_weirApply
      | apply keeps_commitSnapshot
      | refine keeps_ite ?_ ?_)

theorem keeps_weirSnap (s : State) (d : Nat) (h : Keeps sc s0 s) (hclk : sc.clk = true) (himg : sc.img = true) (hunits :
    sc.units = true) (hmem : sc.mem = true) (hregs : sc.regs = true) (hout : sc.out = true) (hweir : sc.weir = true) (hhost :
    sc.host = true) (hst : sc.st = true) (hcourses : sc.courses = true) (hcoders : sc.coders = true) (hemit : sc.emit = true)
    (hmemsys : sc.memsys = true) (hdma : sc.dma = true) (hpair : sc.pair = true) (hlanes : sc.lanes = true) (hboot : sc.boot =
    true) (hras : sc.ras = true) : Keeps sc s0 (State.weirSnap s d) := by
  unfold State.weirSnap
  repeat' first
      | (with_reducible first
          | assumption
          | apply keeps_weirApply
          | apply keeps_updDom
          | apply keeps_snapTake
          | refine keeps_ite ?_ ?_
          | apply keeps_foldl
          | intro _)
      | split
      | dsimp only

theorem keeps_weirMiddle (s : State) (d : Nat) (h : Keeps sc s0 s) (hclk : sc.clk = true) (himg : sc.img = true) (hunits :
    sc.units = true) (hmem : sc.mem = true) (hregs : sc.regs = true) (hout : sc.out = true) (hweir : sc.weir = true) (hhost :
    sc.host = true) (hst : sc.st = true) (hcourses : sc.courses = true) (hcoders : sc.coders = true) (hemit : sc.emit = true)
    (hmemsys : sc.memsys = true) (hdma : sc.dma = true) (hpair : sc.pair = true) (hlanes : sc.lanes = true) (hboot : sc.boot =
    true) (hras : sc.ras = true) : Keeps sc s0 (State.weirMiddle s d) := by
  unfold State.weirMiddle
  repeat' (with_reducible first
      | assumption
      | apply keeps_cycles
      | apply keeps_sluiceCut
      | apply keeps_updDom
      | apply keeps_weirSnap
      | refine keeps_ite ?_ ?_)

theorem keeps_drainMax (s : State) (d : Nat) (n : Nat) (h : Keeps sc s0 s) (hregs : sc.regs = true) : Keeps sc s0
    (State.drainMax s d n) := by
  unfold State.drainMax
  repeat' (with_reducible first | assumption | apply keeps_wrn)

theorem keeps_weirDrained (s : State) (d : Nat) (h : Keeps sc s0 s) (hclk : sc.clk = true) (himg : sc.img = true) (hunits :
    sc.units = true) (hmem : sc.mem = true) (hregs : sc.regs = true) (hout : sc.out = true) (hweir : sc.weir = true) (hhost :
    sc.host = true) (hst : sc.st = true) (hcourses : sc.courses = true) (hcoders : sc.coders = true) (hemit : sc.emit = true)
    (hmemsys : sc.memsys = true) (hdma : sc.dma = true) (hpair : sc.pair = true) (hlanes : sc.lanes = true) (hboot : sc.boot =
    true) (hras : sc.ras = true) : Keeps sc s0 (State.weirDrained s d) := by
  unfold State.weirDrained
  repeat' (with_reducible first
      | assumption
      | apply keeps_runTo
      | apply keeps_drainMax
      | apply keeps_updDom
      | apply keeps_ev
      | apply keeps_weirMiddle
      | refine keeps_ite ?_ ?_)

theorem keeps_execWeirDrained (d : Nat) (s : State) (h : Keeps sc s0 s) (hclk : sc.clk = true) (himg : sc.img = true) (hunits :
    sc.units = true) (hmem : sc.mem = true) (hregs : sc.regs = true) (hout : sc.out = true) (hweir : sc.weir = true) (hhost :
    sc.host = true) (hst : sc.st = true) (hcourses : sc.courses = true) (hcoders : sc.coders = true) (hemit : sc.emit = true)
    (hmemsys : sc.memsys = true) (hdma : sc.dma = true) (hpair : sc.pair = true) (hlanes : sc.lanes = true) (hboot : sc.boot =
    true) (hras : sc.ras = true) : KeepsO sc s0 (execWeirDrained d s) := by
  unfold execWeirDrained
  repeat' (with_reducible first | assumption | apply keeps_pace | apply keeps_weirDrained | apply keepsO_next)

theorem keeps_spillDrained (s : State) (d : Nat) (h : Keeps sc s0 s) (hclk : sc.clk = true) (himg : sc.img = true) (hunits :
    sc.units = true) (hmem : sc.mem = true) (hregs : sc.regs = true) (hout : sc.out = true) (hweir : sc.weir = true) (hhost :
    sc.host = true) (hst : sc.st = true) (hcourses : sc.courses = true) (hcoders : sc.coders = true) (hemit : sc.emit = true)
    (hmemsys : sc.memsys = true) (hdma : sc.dma = true) (hpair : sc.pair = true) (hlanes : sc.lanes = true) (hboot : sc.boot =
    true) (hras : sc.ras = true) : Keeps sc s0 (State.spillDrained s d) := by
  unfold State.spillDrained
  repeat' first
      | (with_reducible first
          | assumption
          | apply keeps_drainMax
          | apply keeps_updDom
          | apply keeps_ev
          | apply keeps_inc
          | apply keeps_weirMiddle
          | refine keeps_ite ?_ ?_
          | apply keeps_foldl
          | intro _)
      | split
      | dsimp only

theorem keeps_execSpillDrainDone (d : Nat) (s : State) (h : Keeps sc s0 s) (hclk : sc.clk = true) (himg : sc.img = true)
    (hunits : sc.units = true) (hmem : sc.mem = true) (hregs : sc.regs = true) (hout : sc.out = true) (hweir : sc.weir = true)
    (hhost : sc.host = true) (hst : sc.st = true) (hcourses : sc.courses = true) (hcoders : sc.coders = true) (hemit : sc.emit
    = true) (hmemsys : sc.memsys = true) (hdma : sc.dma = true) (hpair : sc.pair = true) (hlanes : sc.lanes = true) (hboot :
    sc.boot = true) (hras : sc.ras = true) : KeepsO sc s0 (execSpillDrainDone d s) := by
  unfold execSpillDrainDone
  repeat' (with_reducible first | assumption | apply keeps_pace | apply keeps_spillDrained | apply keepsO_next)

theorem keeps_holdRelease (s : State) (d : Nat) (h : Keeps sc s0 s) (hclk : sc.clk = true) (himg : sc.img = true) (hunits :
    sc.units = true) (hmem : sc.mem = true) (hregs : sc.regs = true) (hout : sc.out = true) (hweir : sc.weir = true) (hhost :
    sc.host = true) (hst : sc.st = true) (hcourses : sc.courses = true) (hcoders : sc.coders = true) (hemit : sc.emit = true)
    (hmemsys : sc.memsys = true) (hdma : sc.dma = true) (hpair : sc.pair = true) (hlanes : sc.lanes = true) (hboot : sc.boot =
    true) (hras : sc.ras = true) : Keeps sc s0 (State.holdRelease s d) := by
  unfold State.holdRelease
  repeat' first
      | (with_reducible first
          | assumption
          | apply keeps_runTo
          | apply keeps_weirSnap
          | apply keeps_updDom
          | refine keeps_ite ?_ ?_
          | apply keeps_foldl
          | intro _)
      | split
      | dsimp only

theorem keeps_execInputHoldRelease (d : Nat) (s : State) (h : Keeps sc s0 s) (hclk : sc.clk = true) (himg : sc.img = true)
    (hunits : sc.units = true) (hmem : sc.mem = true) (hregs : sc.regs = true) (hout : sc.out = true) (hweir : sc.weir = true)
    (hhost : sc.host = true) (hst : sc.st = true) (hcourses : sc.courses = true) (hcoders : sc.coders = true) (hemit : sc.emit
    = true) (hmemsys : sc.memsys = true) (hdma : sc.dma = true) (hpair : sc.pair = true) (hlanes : sc.lanes = true) (hboot :
    sc.boot = true) (hras : sc.ras = true) : KeepsO sc s0 (execInputHoldRelease d s) := by
  unfold execInputHoldRelease
  repeat' (with_reducible first | assumption | apply keeps_pace | apply keeps_holdRelease | apply keepsO_next)

theorem keeps_openTick (s : State) (d : Nat) (h : Keeps sc s0 s) (htime : sc.time = true) (hregs : sc.regs = true) (hout :
    sc.out = true) (hweir : sc.weir = true) : Keeps sc s0 (State.openTick s d) := by
  unfold State.openTick
  repeat' (with_reducible first
      | assumption
      | apply keeps_skipped
      | apply keeps_loadTick
      | apply keeps_updDom
      | refine keeps_ite ?_ ?_)

theorem keeps_fountsOpen (s : State) (d : Nat) (aus : Tab (List AccessUnit)) (c : Nat) (h : Keeps sc s0 s) (hregs : sc.regs =
    true) (hout : sc.out = true) (hcourses : sc.courses = true) : Keeps sc s0 (State.fountsOpen s d aus c) := by
  unfold State.fountsOpen
  repeat' first
      | (with_reducible first
          | assumption
          | apply keeps_fountOpen
          | refine keeps_ite ?_ ?_
          | apply keeps_foldl
          | intro _)
      | split
      | dsimp only

theorem keeps_fountsRoll (s : State) (d : Nat) (h : Keeps sc s0 s) (hcourses : sc.courses = true) : Keeps sc s0
    (State.fountsRoll s d) := by
  unfold State.fountsRoll
  exact keeps_put_courses hcourses h

theorem keeps_windowOpen (s : State) (d : Nat) (aus : Tab (List AccessUnit)) (h : Keeps sc s0 s) (hclk : sc.clk = true) (htime
    : sc.time = true) (himg : sc.img = true) (hregs : sc.regs = true) (hout : sc.out = true) (hweir : sc.weir = true) (hcourses
    : sc.courses = true) (hcoders : sc.coders = true) (hpair : sc.pair = true) : Keeps sc s0 (State.windowOpen s d aus) := by
  unfold State.windowOpen
  repeat' first
      | (with_reducible first
          | assumption
          | apply keeps_stopDomain
          | apply keeps_runTo
          | apply keeps_setDom
          | apply keeps_openTick
          | apply keeps_protOpen
          | apply keeps_fountsOpen
          | apply keeps_fountsRoll
          | apply keeps_latchLayers
          | apply keeps_hinRefresh
          | apply keeps_hwOpen
          | apply keeps_openPictures
          | apply keeps_tarnsOpen
          | apply keeps_healResume
          | apply keeps_keysOpen
          | refine keeps_ite ?_ ?_
          | apply keeps_foldl
          | intro _)
      | split
      | dsimp only

theorem keeps_execWindowOpen (d : Nat) (aus : Tab (List AccessUnit)) (s : State) (h : Keeps sc s0 s) (hclk : sc.clk = true)
    (htime : sc.time = true) (himg : sc.img = true) (hregs : sc.regs = true) (hout : sc.out = true) (hweir : sc.weir = true)
    (hcourses : sc.courses = true) (hcoders : sc.coders = true) (hpair : sc.pair = true) : KeepsO sc s0 (execWindowOpen d aus
    s) := by
  unfold execWindowOpen
  repeat' first
      | (with_reducible first
          | assumption
          | apply keeps_pace
          | apply keeps_windowOpen
          | apply keepsO_next
          | refine keeps_ite ?_ ?_
          | apply keeps_foldl)
      | split
      | (with_reducible apply keeps_upd; (with_reducible first
          | assumption
          | apply keeps_pace
          | apply keeps_windowOpen
          | apply keepsO_next
          | apply keeps_foldl
          | split))
      | (with_reducible first
          | exact Held.refl _
          | exact TimeStep.refl _
          | exact ImgStep.refl _
          | exact UnitStep.refl _ _
          | exact MemStep.refl _
          | exact Held.write hregs
          | exact Held.write hout
          | exact Held.write hweir
          | exact Held.write hcourses
          | exact Held.write hcoders
          | exact Held.write hpair)
      | exact TimeStep.of htime rfl rfl
      | exact fun _ => rfl
      | exact fun _ t => TimeUnit.inRange_of rfl rfl t
      | exact ImgStep.of_slots himg rfl
      | intro _
      | dsimp only

/-! ### Interlock -/

theorem keeps_snapCut (s : State) (d : Nat) (h : Keeps sc s0 s) (hregs : sc.regs = true) (hout : sc.out = true) (hpair :
    sc.pair = true) : Keeps sc s0 (State.snapCut s d) := by
  unfold State.snapCut
  repeat' (with_reducible first | assumption | apply keeps_discardSnapshot | apply keeps_updPair | refine keeps_ite ?_ ?_)

theorem keeps_takeRend (s : State) (r : Nat) (h : Keeps sc s0 s) (hcoders : sc.coders = true) : Keeps sc s0 (State.takeRend s
    r) := by
  unfold State.takeRend
  repeat' (with_reducible first | assumption | apply keeps_setRend | refine keeps_ite ?_ ?_)

theorem keeps_takeStaged (s : State) (x : StagedImage) (h : Keeps sc s0 s) (hclk : sc.clk = true) (himg : sc.img = true)
    (hunits : sc.units = true) (hregs : sc.regs = true) (hout : sc.out = true) (hweir : sc.weir = true) (hhost : sc.host =
    true) (hst : sc.st = true) (hcourses : sc.courses = true) (hcoders : sc.coders = true) (hmemsys : sc.memsys = true) (hdma :
    sc.dma = true) (hpair : sc.pair = true) : Keeps sc s0 (State.takeStaged s x) := by
  unfold State.takeStaged
  repeat' (with_reducible first | assumption | apply keeps_unstage | apply keeps_startReplace | refine keeps_ite ?_ ?_)

theorem keeps_takeover (s : State) (h : Keeps sc s0 s) (hclk : sc.clk = true) (himg : sc.img = true) (hunits : sc.units = true)
    (hmem : sc.mem = true) (hregs : sc.regs = true) (hout : sc.out = true) (hweir : sc.weir = true) (hhost : sc.host = true)
    (hst : sc.st = true) (hcourses : sc.courses = true) (hcoders : sc.coders = true) (hemit : sc.emit = true) (hmemsys :
    sc.memsys = true) (hdma : sc.dma = true) (hpair : sc.pair = true) (hlanes : sc.lanes = true) (hboot : sc.boot = true) (hras
    : sc.ras = true) : Keeps sc s0 (State.takeover s) := by
  unfold State.takeover
  repeat' first
      | (with_reducible first
          | assumption
          | apply keeps_snapCut
          | apply keeps_wrn
          | apply keeps_inc
          | apply keeps_gateOpen
          | apply keeps_setRole
          | apply keeps_ev
          | apply keeps_takeRend
          | apply keeps_updPair
          | apply keeps_takeStaged
          | apply keeps_weirApply
          | refine keeps_ite ?_ ?_
          | apply keeps_foldl
          | intro _)
      | split
      | dsimp only

theorem keeps_actInChange (s : State) (level : Bool) (h : Keeps sc s0 s) (hclk : sc.clk = true) (himg : sc.img = true) (hunits
    : sc.units = true) (hmem : sc.mem = true) (hregs : sc.regs = true) (hout : sc.out = true) (hweir : sc.weir = true) (hhost :
    sc.host = true) (hst : sc.st = true) (hcourses : sc.courses = true) (hcoders : sc.coders = true) (hemit : sc.emit = true)
    (hmemsys : sc.memsys = true) (hdma : sc.dma = true) (hpair : sc.pair = true) (hlanes : sc.lanes = true) (hboot : sc.boot =
    true) (hras : sc.ras = true) : Keeps sc s0 (State.actInChange s level) := by
  unfold State.actInChange
  repeat' first
      | (with_reducible first
          | assumption
          | apply keeps_updPair
          | apply keeps_ev
          | apply keeps_withdraw
          | apply keeps_gateClose
          | apply keeps_gateOpen
          | apply keeps_takeover
          | apply keeps_pairSettle
          | refine keeps_ite ?_ ?_
          | apply keeps_foldl
          | intro _)
      | split
      | dsimp only

theorem keeps_execActInChange (level : Bool) (s : State) (h : Keeps sc s0 s) (hclk : sc.clk = true) (himg : sc.img = true)
    (hunits : sc.units = true) (hmem : sc.mem = true) (hregs : sc.regs = true) (hout : sc.out = true) (hweir : sc.weir = true)
    (hhost : sc.host = true) (hst : sc.st = true) (hcourses : sc.courses = true) (hcoders : sc.coders = true) (hemit : sc.emit
    = true) (hmemsys : sc.memsys = true) (hdma : sc.dma = true) (hpair : sc.pair = true) (hlanes : sc.lanes = true) (hboot :
    sc.boot = true) (hras : sc.ras = true) : KeepsO sc s0 (execActInChange level s) := by
  unfold execActInChange
  repeat' (with_reducible first | assumption | apply keeps_pace | apply keeps_actInChange | apply keepsO_next)

theorem keeps_execClaimHoldoffExpired (s : State) (h : Keeps sc s0 s) (hclk : sc.clk = true) (hout : sc.out = true) (hpair :
    sc.pair = true) : KeepsO sc s0 (execClaimHoldoffExpired s) := by
  unfold execClaimHoldoffExpired
  repeat' first
      | (with_reducible first
          | assumption
          | apply keeps_runTo
          | apply keeps_setRole
          | apply keeps_setActOut
          | apply keeps_updPair
          | apply keepsO_next
          | refine keeps_ite ?_ ?_
          | apply keeps_foldl
          | intro _)
      | split
      | dsimp only

theorem keeps_execClaimConfirmEnd (s : State) (h : Keeps sc s0 s) (hclk : sc.clk = true) (hregs : sc.regs = true) (hout :
    sc.out = true) (hemit : sc.emit = true) (hpair : sc.pair = true) : KeepsO sc s0 (execClaimConfirmEnd s) := by
  unfold execClaimConfirmEnd
  repeat' (with_reducible first
      | assumption
      | apply keeps_runTo
      | apply keeps_ev
      | apply keeps_withdraw
      | apply keepsO_next
      | refine keeps_ite ?_ ?_)

theorem keeps_execTakeoverGateOpen (s : State) (h : Keeps sc s0 s) (hclk : sc.clk = true) (himg : sc.img = true) (hunits :
    sc.units = true) (hmem : sc.mem = true) (hregs : sc.regs = true) (hout : sc.out = true) (hweir : sc.weir = true) (hhost :
    sc.host = true) (hst : sc.st = true) (hcourses : sc.courses = true) (hcoders : sc.coders = true) (hemit : sc.emit = true)
    (hmemsys : sc.memsys = true) (hdma : sc.dma = true) (hpair : sc.pair = true) (hlanes : sc.lanes = true) (hboot : sc.boot =
    true) (hras : sc.ras = true) : KeepsO sc s0 (execTakeoverGateOpen s) := by
  unfold execTakeoverGateOpen
  repeat' (with_reducible first
      | assumption
      | apply keeps_pace
      | apply keeps_takeover
      | apply keeps_runTo
      | apply keepsO_next
      | refine keeps_ite ?_ ?_)

theorem keeps_execNoActiveTimeout (s : State) (h : Keeps sc s0 s) (hclk : sc.clk = true) (hout : sc.out = true) : KeepsO sc s0
    (execNoActiveTimeout s) := by
  unfold execNoActiveTimeout
  repeat' first
      | (with_reducible first
          | assumption
          | apply keeps_runTo
          | apply keeps_ev
          | apply keepsO_next
          | refine keeps_ite ?_ ?_
          | apply keeps_foldl)
      | split
      | (with_reducible apply keeps_put_out hout; (with_reducible first
          | assumption
          | apply keeps_runTo
          | apply keeps_ev
          | apply keepsO_next
          | apply keeps_foldl
          | split))
      | intro _
      | dsimp only

theorem keeps_watchdog (s : State) (h : Keeps sc s0 s) (hregs : sc.regs = true) (hout : sc.out = true) (hemit : sc.emit = true)
    (hpair : sc.pair = true) (hras : sc.ras = true) : Keeps sc s0 (State.watchdog s) := by
  have h1 : Keeps sc s0 (match s.injected 0x4200 [9] with | some (_, s) => s | none => s) := by
    split
    · exact keeps_injected h hout hras ‹_›
    · exact h
  unfold State.watchdog
  exact keeps_withdraw _ (keeps_updPair _ _ (keeps_ev _ _ _ _ h1 hout) hpair) hregs hout hemit hpair

theorem keeps_execWatchdogExpiry (s : State) (h : Keeps sc s0 s) (hregs : sc.regs = true) (hout : sc.out = true) (hemit :
    sc.emit = true) (hpair : sc.pair = true) (hras : sc.ras = true) : KeepsO sc s0 (execWatchdogExpiry s) := by
  unfold execWatchdogExpiry
  repeat' (with_reducible first | assumption | apply keeps_watchdog | apply keepsO_next)

theorem keeps_drainDone (s : State) (h : Keeps sc s0 s) (hclk : sc.clk = true) (hout : sc.out = true) (hemit : sc.emit = true)
    (hpair : sc.pair = true) : Keeps sc s0 (State.drainDone s) := by
  unfold State.drainDone
  repeat' first
      | (with_reducible first
          | assumption
          | apply keeps_setActOut
          | apply keeps_drainEnd
          | apply keeps_complete
          | apply keeps_updPair
          | apply keeps_pairSettle
          | apply keeps_setRole
          | refine keeps_ite ?_ ?_
          | apply keeps_foldl
          | intro _)
      | split
      | dsimp only

theorem keeps_execEgressDrainDone (s : State) (h : Keeps sc s0 s) (hclk : sc.clk = true) (hout : sc.out = true) (hemit :
    sc.emit = true) (hpair : sc.pair = true) : KeepsO sc s0 (execEgressDrainDone s) := by
  unfold execEgressDrainDone
  repeat' (with_reducible first | assumption | apply keeps_drainDone | apply keepsO_next)

theorem keeps_execPairCtlStatus (o : Origin) (arg : Nat) (s : State) (h : Keeps sc s0 s) (hout : sc.out = true) : KeepsO sc s0
    (execPairCtlStatus o arg s) := by
  unfold execPairCtlStatus
  repeat' first
      | (with_reducible first
          | assumption
          | apply keeps_checked
          | apply keeps_complete
          | apply keepsO_next
          | refine keeps_ite ?_ ?_
          | apply keeps_foldl
          | intro _)
      | split
      | dsimp only

theorem keeps_execPairCtlHold (o : Origin) (arg : Nat) (s : State) (h : Keeps sc s0 s) (hout : sc.out = true) (hpair : sc.pair
    = true) : KeepsO sc s0 (execPairCtlHold o arg s) := by
  unfold execPairCtlHold
  repeat' first
      | (with_reducible first
          | assumption
          | apply keeps_checked
          | apply keeps_pairSettle
          | apply keeps_updPair
          | apply keeps_complete
          | apply keepsO_next
          | refine keeps_ite ?_ ?_
          | apply keeps_foldl
          | intro _)
      | split
      | dsimp only

theorem keeps_execPairCtlYield (o : Origin) (arg : Nat) (s : State) (h : Keeps sc s0 s) (hregs : sc.regs = true) (hout : sc.out
    = true) (hemit : sc.emit = true) (hpair : sc.pair = true) : KeepsO sc s0 (execPairCtlYield o arg s) := by
  unfold execPairCtlYield
  repeat' first
      | (with_reducible first
          | assumption
          | apply keeps_checked
          | apply keeps_withdraw
          | apply keeps_updPair
          | apply keepsO_next
          | refine keeps_ite ?_ ?_
          | apply keeps_foldl
          | intro _)
      | split
      | dsimp only

theorem keeps_execPairCtlHeal (o : Origin) (arg : Nat) (s : State) (h : Keeps sc s0 s) (hout : sc.out = true) (hcoders :
    sc.coders = true) : KeepsO sc s0 (execPairCtlHeal o arg s) := by
  unfold execPairCtlHeal
  repeat' first
      | (with_reducible first
          | assumption
          | apply keeps_checked
          | apply keeps_complete
          | apply keeps_unsync
          | apply keepsO_next
          | refine keeps_ite ?_ ?_
          | apply keeps_foldl)
      | split
      | (with_reducible apply keeps_upd; (with_reducible first
          | assumption
          | apply keeps_checked
          | apply keeps_complete
          | apply keeps_unsync
          | apply keepsO_next
          | apply keeps_foldl
          | split))
      | (with_reducible first
          | exact Held.refl _
          | exact TimeStep.refl _
          | exact ImgStep.refl _
          | exact UnitStep.refl _ _
          | exact MemStep.refl _
          | exact Held.write hout
          | exact Held.write hcoders)
      | intro _
      | dsimp only

end Sys2Proof.Machine
end

