-- ==== Sys2Proof/Laws/Keeps06.lean ====
section
/-! SUPPORT. Keeps06.lean: what every operation keeps (Keeps.lean), one lemma an operation: Link, Startup, Package, RegAccess, Commands, Fabric. -/

namespace Sys2Proof.Machine

set_option linter.unusedVariables false
set_option linter.unusedTactic false
set_option linter.unreachableTactic false

variable {{sc : Scope}} {{s0 : State}}

/-! ### Link -/

theorem keeps_heartbeatSend (s : State) (h : Keeps sc s0 s) (hclk : sc.clk = true) (hout : sc.out = true) (hpair : sc.pair =
    true) : Keeps sc s0 (State.heartbeatSend s) := by
  unfold State.heartbeatSend
  repeat' (with_reducible first
      | assumption
      | apply keeps_runTo
      | apply keeps_updPair
      | apply keeps_emit
      | refine keeps_ite ?_ ?_)

theorem keeps_execHeartbeatSend (s : State) (h : Keeps sc s0 s) (hclk : sc.clk = true) (hout : sc.out = true) (hpair : sc.pair
    = true) : KeepsO sc s0 (execHeartbeatSend s) := by
  unfold execHeartbeatSend
  repeat' (with_reducible first | assumption | apply keeps_heartbeatSend | apply keepsO_next)

theorem keeps_heartbeatTake (s : State) (b : Bytes) (h : Keeps sc s0 s) (hout : sc.out = true) (hpair : sc.pair = true) : Keeps
    sc s0 (State.heartbeatTake s b) := by
  unfold State.heartbeatTake
  repeat' (with_reducible first
      | assumption
      | apply keeps_updPair
      | apply keeps_ev
      | apply keeps_emits
      | refine keeps_ite ?_ ?_)

theorem keeps_heartbeatReceived (s : State) (b : Bytes) (fcs : Bool) (h : Keeps sc s0 s) (hregs : sc.regs = true) (hout :
    sc.out = true) (hpair : sc.pair = true) : Keeps sc s0 (State.heartbeatReceived s b fcs) := by
  unfold State.heartbeatReceived
  repeat' first
      | (with_reducible first
          | assumption
          | apply keeps_inc
          | apply keeps_limited
          | apply keeps_ev
          | apply keeps_heartbeatTake
          | refine keeps_ite ?_ ?_
          | apply keeps_foldl
          | intro _)
      | split
      | dsimp only

theorem keeps_execHeartbeatReceived (b : Bytes) (fcs : Bool) (s : State) (h : Keeps sc s0 s) (hregs : sc.regs = true) (hout :
    sc.out = true) (hpair : sc.pair = true) : KeepsO sc s0 (execHeartbeatReceived b fcs s) := by
  unfold execHeartbeatReceived
  repeat' (with_reducible first | assumption | apply keeps_heartbeatReceived | apply keepsO_next)

theorem keeps_heartbeatMissed (s : State) (h : Keeps sc s0 s) (hclk : sc.clk = true) (hregs : sc.regs = true) (hout : sc.out =
    true) (hpair : sc.pair = true) : Keeps sc s0 (State.heartbeatMissed s) := by
  unfold State.heartbeatMissed
  repeat' (with_reducible first
      | assumption
      | apply keeps_inc
      | apply keeps_runTo
      | apply keeps_updPair
      | apply keeps_ev
      | refine keeps_ite ?_ ?_)

theorem keeps_execHeartbeatIntervalMissed (s : State) (h : Keeps sc s0 s) (hclk : sc.clk = true) (hregs : sc.regs = true) (hout
    : sc.out = true) (hpair : sc.pair = true) : KeepsO sc s0 (execHeartbeatIntervalMissed s) := by
  unfold execHeartbeatIntervalMissed
  repeat' (with_reducible first | assumption | apply keeps_heartbeatMissed | apply keepsO_next)

theorem keeps_snapReceived (s : State) (x : Snapshot) (crcOk : Bool) (h : Keeps sc s0 s) (hclk : sc.clk = true) (himg : sc.img
    = true) (hunits : sc.units = true) (hmem : sc.mem = true) (hregs : sc.regs = true) (hout : sc.out = true) (hweir : sc.weir
    = true) (hhost : sc.host = true) (hst : sc.st = true) (hcourses : sc.courses = true) (hcoders : sc.coders = true) (hemit :
    sc.emit = true) (hmemsys : sc.memsys = true) (hdma : sc.dma = true) (hpair : sc.pair = true) (hlanes : sc.lanes = true)
    (hboot : sc.boot = true) (hras : sc.ras = true) : Keeps sc s0 (State.snapReceived s x crcOk) := by
  unfold State.snapReceived
  repeat' (with_reducible first
      | assumption
      | apply keeps_updPair
      | apply keeps_discardSnapshot
      | apply keeps_snapTake
      | refine keeps_ite ?_ ?_)

theorem keeps_execSnapshotReceived (x : Snapshot) (crcOk : Bool) (s : State) (h : Keeps sc s0 s) (hclk : sc.clk = true) (himg :
    sc.img = true) (hunits : sc.units = true) (hmem : sc.mem = true) (hregs : sc.regs = true) (hout : sc.out = true) (hweir :
    sc.weir = true) (hhost : sc.host = true) (hst : sc.st = true) (hcourses : sc.courses = true) (hcoders : sc.coders = true)
    (hemit : sc.emit = true) (hmemsys : sc.memsys = true) (hdma : sc.dma = true) (hpair : sc.pair = true) (hlanes : sc.lanes =
    true) (hboot : sc.boot = true) (hras : sc.ras = true) : KeepsO sc s0 (execSnapshotReceived x crcOk s) := by
  unfold execSnapshotReceived
  repeat' (with_reducible first | assumption | apply keeps_pace | apply keeps_snapReceived | apply keepsO_next)

theorem keeps_snapTimeout (s : State) (d : Nat) (h : Keeps sc s0 s) (hclk : sc.clk = true) (himg : sc.img = true) (hunits :
    sc.units = true) (hmem : sc.mem = true) (hregs : sc.regs = true) (hout : sc.out = true) (hweir : sc.weir = true) (hhost :
    sc.host = true) (hst : sc.st = true) (hcourses : sc.courses = true) (hcoders : sc.coders = true) (hemit : sc.emit = true)
    (hmemsys : sc.memsys = true) (hdma : sc.dma = true) (hpair : sc.pair = true) (hlanes : sc.lanes = true) (hboot : sc.boot =
    true) (hras : sc.ras = true) : Keeps sc s0 (State.snapTimeout s d) := by
  unfold State.snapTimeout
  repeat' (with_reducible first
      | assumption
      | apply keeps_runTo
      | apply keeps_discardSnapshot
      | apply keeps_weirApply
      | apply keeps_updPair
      | refine keeps_ite ?_ ?_)

theorem keeps_execSnapshotWaitTimeout (d : Nat) (s : State) (h : Keeps sc s0 s) (hclk : sc.clk = true) (himg : sc.img = true)
    (hunits : sc.units = true) (hmem : sc.mem = true) (hregs : sc.regs = true) (hout : sc.out = true) (hweir : sc.weir = true)
    (hhost : sc.host = true) (hst : sc.st = true) (hcourses : sc.courses = true) (hcoders : sc.coders = true) (hemit : sc.emit
    = true) (hmemsys : sc.memsys = true) (hdma : sc.dma = true) (hpair : sc.pair = true) (hlanes : sc.lanes = true) (hboot :
    sc.boot = true) (hras : sc.ras = true) : KeepsO sc s0 (execSnapshotWaitTimeout d s) := by
  unfold execSnapshotWaitTimeout
  repeat' (with_reducible first | assumption | apply keeps_pace | apply keeps_snapTimeout | apply keepsO_next)

theorem keeps_stage_ (s : State) (h_ : HeaderRec) (recs : List Rec) (t : Structure) (b : Bytes) (h : Keeps sc s0 s) (himg :
    sc.img = true) (hpair : sc.pair = true) : Keeps sc s0 (State.stage_ s h_ recs t b) := by
  unfold State.stage_
  repeat' first
      | (with_reducible first
          | assumption
          | apply keeps_updPair
          | refine keeps_ite ?_ ?_
          | apply keeps_foldl)
      | split
      | (with_reducible apply keeps_upd; (with_reducible first
          | assumption
          | apply keeps_updPair
          | apply keeps_foldl
          | split))
      | (with_reducible first
          | exact Held.refl _
          | exact TimeStep.refl _
          | exact ImgStep.refl _
          | exact UnitStep.refl _ _
          | exact MemStep.refl _
          | exact Held.write hpair)
      | exact ImgStep.of_slots himg rfl
      | intro _
      | dsimp only

theorem keeps_pairImage (s : State) (b : Bytes) (h : Keeps sc s0 s) (himg : sc.img = true) (hout : sc.out = true) (hpair :
    sc.pair = true) : Keeps sc s0 (State.pairImage s b) := by
  unfold State.pairImage
  repeat' first
      | (with_reducible first
          | assumption
          | apply keeps_updPair
          | apply keeps_stage_
          | apply keeps_ev
          | refine keeps_ite ?_ ?_
          | apply keeps_foldl
          | intro _)
      | split
      | dsimp only

theorem keeps_execPairImageReceived (b : Bytes) (s : State) (h : Keeps sc s0 s) (himg : sc.img = true) (hout : sc.out = true)
    (hpair : sc.pair = true) : KeepsO sc s0 (execPairImageReceived b s) := by
  unfold execPairImageReceived
  repeat' first
      | (with_reducible first
          | assumption
          | apply keeps_pairImage
          | apply keepsO_next
          | refine keeps_ite ?_ ?_
          | apply keeps_foldl)
      | split
      | (with_reducible apply keeps_upd; (with_reducible first
          | assumption
          | apply keeps_pairImage
          | apply keepsO_next
          | apply keeps_foldl
          | split))
      | (with_reducible first
          | exact Held.refl _
          | exact TimeStep.refl _
          | exact ImgStep.refl _
          | exact UnitStep.refl _ _
          | exact MemStep.refl _
          | exact Held.write hout
          | exact Held.write hpair)
      | exact ImgStep.of_slots himg rfl
      | intro _
      | dsimp only

/-! ### Startup -/

theorem keeps_updBoot (s : State) (f : Boot → Boot) (h : Keeps sc s0 s) (hboot : sc.boot = true) : Keeps sc s0 (State.updBoot s
    f) := by
  unfold State.updBoot
  exact keeps_put_boot hboot h

theorem keeps_toReset (s : State) (inReset powered : Bool) (cause : Nat) (h : Keeps sc s0 s) (hclk : sc.clk = true) (htime :
    sc.time = true) (himg : sc.img = true) (hunits : sc.units = true) (hreset : sc.reset = true) (hmem : sc.mem = true) (hregs
    : sc.regs = true) (hout : sc.out = true) (hweir : sc.weir = true) (hhost : sc.host = true) (hst : sc.st = true) (hcourses :
    sc.courses = true) (hcoders : sc.coders = true) (hemit : sc.emit = true) (hmemsys : sc.memsys = true) (hdma : sc.dma =
    true) (hpair : sc.pair = true) (hlanes : sc.lanes = true) (hboot : sc.boot = true) (hras : sc.ras = true) :
    Keeps sc s0 (State.toReset s inReset powered cause) := by
  refine keeps_upd h ⟨fun _ => ⟨⟨Nat.zero_lt_succ _, Nat.pos_of_neZero _⟩, fun o m => by cases m⟩, Held.write hclk, Held.write
      htime⟩
    (ImgStep.of_slots himg rfl) (UnitStep.write hunits hreset) (MemStep.write hmem (fun _ => Mem.wf_nil)) ?_ ?_ ?_ ?_ ?_ ?_ ?_
        ?_
    ?_ ?_ ?_ ?_ ?_ ?_ <;> apply Held.write <;> assumption

theorem keeps_resetDrain (s : State) (h : Keeps sc s0 s) (hclk : sc.clk = true) (hregs : sc.regs = true) (hout : sc.out = true)
    (hemit : sc.emit = true) (hpair : sc.pair = true) : Keeps sc s0 (State.resetDrain s) := by
  unfold State.resetDrain
  repeat' (with_reducible first
      | assumption
      | apply keeps_gateClose
      | apply keeps_setActOut
      | apply keeps_drainEnd
      | refine keeps_ite ?_ ?_)

theorem keeps_execSysResetAssert (s : State) (h : Keeps sc s0 s) (hclk : sc.clk = true) (htime : sc.time = true) (himg : sc.img
    = true) (hunits : sc.units = true) (hreset : sc.reset = true) (hmem : sc.mem = true) (hregs : sc.regs = true) (hout :
    sc.out = true) (hweir : sc.weir = true) (hhost : sc.host = true) (hst : sc.st = true) (hcourses : sc.courses = true)
    (hcoders : sc.coders = true) (hemit : sc.emit = true) (hmemsys : sc.memsys = true) (hdma : sc.dma = true) (hpair : sc.pair
    = true) (hlanes : sc.lanes = true) (hboot : sc.boot = true) (hras : sc.ras = true) : KeepsO sc s0 (execSysResetAssert s) :=
    by
  unfold execSysResetAssert
  repeat' (with_reducible first
      | assumption
      | apply keeps_toReset
      | apply keeps_resetDrain
      | apply keepsO_next
      | refine keeps_ite ?_ ?_)

theorem keeps_execSysResetDeassert (seat : Bool) (s : State) (h : Keeps sc s0 s) (hclk : sc.clk = true) (htime : sc.time =
    true) (himg : sc.img = true) (hunits : sc.units = true) (hreset : sc.reset = true) (hmem : sc.mem = true) (hregs : sc.regs
    = true) (hout : sc.out = true) (hweir : sc.weir = true) (hhost : sc.host = true) (hst : sc.st = true) (hcourses :
    sc.courses = true) (hcoders : sc.coders = true) (hemit : sc.emit = true) (hmemsys : sc.memsys = true) (hdma : sc.dma =
    true) (hpair : sc.pair = true) (hlanes : sc.lanes = true) (hboot : sc.boot = true) (hras : sc.ras = true) : KeepsO sc s0
    (execSysResetDeassert seat s) := by
  unfold execSysResetDeassert
  repeat' (with_reducible first
      | assumption
      | apply keeps_updBoot
      | apply keeps_toReset
      | apply keepsO_next
      | refine keeps_ite ?_ ?_)

theorem keeps_glbCtrl (s : State) (w : Word) (h : Keeps sc s0 s) (hclk : sc.clk = true) (htime : sc.time = true) (himg : sc.img
    = true) (hunits : sc.units = true) (hreset : sc.reset = true) (hmem : sc.mem = true) (hregs : sc.regs = true) (hout :
    sc.out = true) (hweir : sc.weir = true) (hhost : sc.host = true) (hst : sc.st = true) (hcourses : sc.courses = true)
    (hcoders : sc.coders = true) (hemit : sc.emit = true) (hmemsys : sc.memsys = true) (hdma : sc.dma = true) (hpair : sc.pair
    = true) (hlanes : sc.lanes = true) (hboot : sc.boot = true) (hras : sc.ras = true) : Keeps sc s0 (State.glbCtrl s w) := by
  unfold State.glbCtrl
  repeat' (with_reducible first | assumption | apply keeps_toReset | apply keeps_resetDrain | refine keeps_ite ?_ ?_)

theorem keeps_execDeviceReset (w : Word) (s : State) (h : Keeps sc s0 s) (hclk : sc.clk = true) (htime : sc.time = true) (himg
    : sc.img = true) (hunits : sc.units = true) (hreset : sc.reset = true) (hmem : sc.mem = true) (hregs : sc.regs = true)
    (hout : sc.out = true) (hweir : sc.weir = true) (hhost : sc.host = true) (hst : sc.st = true) (hcourses : sc.courses =
    true) (hcoders : sc.coders = true) (hemit : sc.emit = true) (hmemsys : sc.memsys = true) (hdma : sc.dma = true) (hpair :
    sc.pair = true) (hlanes : sc.lanes = true) (hboot : sc.boot = true) (hras : sc.ras = true) : KeepsO sc s0 (execDeviceReset
    w s) := by
  unfold execDeviceReset
  repeat' (with_reducible first | assumption | apply keeps_glbCtrl | apply keepsO_next)

theorem keeps_execSupplyLoss (s : State) (h : Keeps sc s0 s) (hclk : sc.clk = true) (htime : sc.time = true) (himg : sc.img =
    true) (hunits : sc.units = true) (hreset : sc.reset = true) (hmem : sc.mem = true) (hregs : sc.regs = true) (hout : sc.out
    = true) (hweir : sc.weir = true) (hhost : sc.host = true) (hst : sc.st = true) (hcourses : sc.courses = true) (hcoders :
    sc.coders = true) (hemit : sc.emit = true) (hmemsys : sc.memsys = true) (hdma : sc.dma = true) (hpair : sc.pair = true)
    (hlanes : sc.lanes = true) (hboot : sc.boot = true) (hras : sc.ras = true) : KeepsO sc s0 (execSupplyLoss s) := by
  unfold execSupplyLoss
  repeat' first
      | (with_reducible first
          | assumption
          | apply keeps_setActOut
          | apply keeps_emit
          | apply keeps_toReset
          | apply keepsO_next
          | refine keeps_ite ?_ ?_
          | apply keeps_foldl)
      | split
      | (with_reducible apply keeps_put_ras hras; (with_reducible first
          | assumption
          | apply keeps_setActOut
          | apply keeps_emit
          | apply keeps_toReset
          | apply keepsO_next
          | apply keeps_foldl
          | split))
      | intro _
      | dsimp only

theorem keeps_perstAssert (s : State) (h : Keeps sc s0 s) (himg : sc.img = true) (hmem : sc.mem = true) (hregs : sc.regs =
    true) (hout : sc.out = true) (hweir : sc.weir = true) (hhost : sc.host = true) (hcourses : sc.courses = true) (hmemsys :
    sc.memsys = true) (hdma : sc.dma = true) (hpair : sc.pair = true) (hboot : sc.boot = true) : Keeps sc s0 (State.perstAssert
    s) := by
  unfold State.perstAssert
  repeat' first
      | (with_reducible first
          | assumption
          | apply keeps_updBoot
          | apply keeps_setFld
          | apply keeps_flr
          | apply keeps_ev
          | refine keeps_ite ?_ ?_
          | apply keeps_foldl)
      | split
      | (with_reducible apply keeps_upd; (with_reducible first
          | assumption
          | apply keeps_updBoot
          | apply keeps_setFld
          | apply keeps_flr
          | apply keeps_ev
          | apply keeps_foldl
          | split))
      | (with_reducible first
          | exact Held.refl _
          | exact TimeStep.refl _
          | exact ImgStep.refl _
          | exact UnitStep.refl _ _
          | exact MemStep.refl _
          | exact Held.write hregs
          | exact Held.write hout
          | exact Held.write hweir
          | exact Held.write hhost
          | exact Held.write hcourses
          | exact Held.write hmemsys
          | exact Held.write hdma
          | exact Held.write hpair
          | exact Held.write hboot)
      | exact ImgStep.of_slots himg rfl
      | (with_reducible refine MemStep.write hmem (Mem.wf_puts _ _ _))
      | (with_reducible refine MemStep.write hmem (Mem.wf_putEnabled _ _ _))
      | intro _
      | dsimp only

theorem keeps_execPerstAssert (s : State) (h : Keeps sc s0 s) (himg : sc.img = true) (hmem : sc.mem = true) (hregs : sc.regs =
    true) (hout : sc.out = true) (hweir : sc.weir = true) (hhost : sc.host = true) (hcourses : sc.courses = true) (hmemsys :
    sc.memsys = true) (hdma : sc.dma = true) (hpair : sc.pair = true) (hboot : sc.boot = true) : KeepsO sc s0 (execPerstAssert
    s) := by
  unfold execPerstAssert
  repeat' (with_reducible first | assumption | apply keeps_perstAssert | apply keepsO_next)

theorem keeps_execPerstDeassert (s : State) (h : Keeps sc s0 s) (hboot : sc.boot = true) : KeepsO sc s0 (execPerstDeassert s)
    := by
  unfold execPerstDeassert
  repeat' (with_reducible first | assumption | apply keeps_updBoot | apply keepsO_next)

theorem keeps_execTrstAssert (s : State) (h : Keeps sc s0 s) (hboot : sc.boot = true) : KeepsO sc s0 (execTrstAssert s) := by
  unfold execTrstAssert
  repeat' (with_reducible first | assumption | apply keeps_updBoot | apply keepsO_next)

theorem keeps_fwCopyBad (s : State) (copy : Nat) (x : FwCopy) (h : Keeps sc s0 s) (hout : sc.out = true) : Keeps sc s0
    (State.fwCopyBad s copy x) := by
  unfold State.fwCopyBad
  repeat' (with_reducible first | assumption | apply keeps_ev | refine keeps_ite ?_ ?_)

theorem keeps_avsSend (s : State) (mv : Nat) (ack : Bool) (h : Keeps sc s0 s) (hregs : sc.regs = true) (hout : sc.out = true)
    (hboot : sc.boot = true) : Keeps sc s0 (State.avsSend s mv ack) := by
  unfold State.avsSend
  repeat' (with_reducible first
      | assumption
      | apply keeps_emit
      | apply keeps_updBoot
      | apply keeps_setFld
      | apply keeps_ev
      | refine keeps_ite ?_ ?_)

theorem keeps_firmwareVerify (s : State) (a : FwCopy) (b : FwCopy) (ack : Bool) (h : Keeps sc s0 s) (hregs : sc.regs = true)
    (hout : sc.out = true) (hboot : sc.boot = true) : Keeps sc s0 (State.firmwareVerify s a b ack) := by
  unfold State.firmwareVerify
  repeat' (with_reducible first
      | assumption
      | apply keeps_fwCopyBad
      | apply keeps_updBoot
      | apply keeps_avsSend
      | apply keeps_setFld
      | apply keeps_wrn
      | refine keeps_ite ?_ ?_)

theorem keeps_execFirmwareVerify (a : FwCopy) (b : FwCopy) (ack : Bool) (s : State) (h : Keeps sc s0 s) (hregs : sc.regs =
    true) (hout : sc.out = true) (hboot : sc.boot = true) : KeepsO sc s0 (execFirmwareVerify a b ack s) := by
  unfold execFirmwareVerify
  repeat' (with_reducible first | assumption | apply keeps_firmwareVerify | apply keepsO_next)

theorem keeps_trainingEnds (s : State) (h : Keeps sc s0 s) (hregs : sc.regs = true) (hboot : sc.boot = true) : Keeps sc s0
    (State.trainingEnds s) := by
  unfold State.trainingEnds
  repeat' (with_reducible first | assumption | apply keeps_setFld | apply keeps_updBoot | refine keeps_ite ?_ ?_)

theorem keeps_execHbmTraining (l : List ChanTraining) (s : State) (h : Keeps sc s0 s) (hunits : sc.units = true) (hregs :
    sc.regs = true) (hout : sc.out = true) (hmemsys : sc.memsys = true) (hboot : sc.boot = true) : KeepsO sc s0
    (execHbmTraining l s) := by
  unfold execHbmTraining
  repeat' first
      | (with_reducible first
          | assumption
          | apply keeps_trainingEnds
          | apply keeps_trainChan
          | apply keepsO_next
          | refine keeps_ite ?_ ?_
          | apply keeps_foldl
          | intro _)
      | split
      | dsimp only

theorem keeps_startupTimeout (s : State) (lanes : Bool) (h : Keeps sc s0 s) (hclk : sc.clk = true) (hunits : sc.units = true)
    (hregs : sc.regs = true) (hout : sc.out = true) (hmemsys : sc.memsys = true) (hlanes : sc.lanes = true) (hboot : sc.boot =
    true) : Keeps sc s0 (State.startupTimeout s lanes) := by
  unfold State.startupTimeout
  repeat' first
      | (with_reducible first
          | assumption
          | apply keeps_runTo
          | apply keeps_ev
          | apply keeps_laneFail
          | apply keeps_trainingEnds
          | apply keeps_excludeChan
          | refine keeps_ite ?_ ?_
          | apply keeps_foldl
          | intro _)
      | split
      | dsimp only

theorem keeps_execStartupTimeout (lanes : Bool) (s : State) (h : Keeps sc s0 s) (hclk : sc.clk = true) (hunits : sc.units =
    true) (hregs : sc.regs = true) (hout : sc.out = true) (hmemsys : sc.memsys = true) (hlanes : sc.lanes = true) (hboot :
    sc.boot = true) : KeepsO sc s0 (execStartupTimeout lanes s) := by
  unfold execStartupTimeout
  repeat' (with_reducible first | assumption | apply keeps_startupTimeout | apply keepsO_next)

theorem keeps_flashStart (s : State) (op : Nat) (h : Keeps sc s0 s) (hout : sc.out = true) (hboot : sc.boot = true) : Keeps sc
    s0 (State.flashStart s op) := by
  unfold State.flashStart
  repeat' (with_reducible first | assumption | apply keeps_updBoot | apply keeps_emit | refine keeps_ite ?_ ?_)

theorem keeps_execFlashErase (s : State) (h : Keeps sc s0 s) (hout : sc.out = true) (hboot : sc.boot = true) : KeepsO sc s0
    (execFlashErase s) := by
  unfold execFlashErase
  repeat' (with_reducible first | assumption | apply keeps_flashStart | apply keepsO_next)

theorem keeps_execFlashProgram (s : State) (h : Keeps sc s0 s) (hout : sc.out = true) (hboot : sc.boot = true) : KeepsO sc s0
    (execFlashProgram s) := by
  unfold execFlashProgram
  repeat' (with_reducible first | assumption | apply keeps_flashStart | apply keepsO_next)

theorem keeps_execFlashRead (s : State) (h : Keeps sc s0 s) (hout : sc.out = true) (hboot : sc.boot = true) : KeepsO sc s0
    (execFlashRead s) := by
  unfold execFlashRead
  repeat' (with_reducible first | assumption | apply keeps_flashStart | apply keepsO_next)

theorem keeps_execFlashOpDone (ok : Bool) (data : Bytes) (s : State) (h : Keeps sc s0 s) (hregs : sc.regs = true) (hboot :
    sc.boot = true) : KeepsO sc s0 (execFlashOpDone ok data s) := by
  unfold execFlashOpDone
  repeat' first
      | (with_reducible first
          | assumption
          | apply keeps_updBoot
          | apply keeps_wrn
          | apply keepsO_next
          | refine keeps_ite ?_ ?_
          | apply keeps_foldl)
      | split
      | (with_reducible apply keeps_upd; (with_reducible first
          | assumption
          | apply keeps_updBoot
          | apply keeps_wrn
          | apply keepsO_next
          | apply keeps_foldl
          | split))
      | (with_reducible first
          | exact Held.refl _
          | exact TimeStep.refl _
          | exact ImgStep.refl _
          | exact UnitStep.refl _ _
          | exact MemStep.refl _
          | exact Held.write hregs
          | exact Held.write hboot)
      | intro _
      | dsimp only

/-! ### Package -/

theorem keeps_avsAdjust (s : State) (mv : Nat) (ack : Bool) (h : Keeps sc s0 s) (hclk : sc.clk = true) (hregs : sc.regs = true)
    (hout : sc.out = true) (hboot : sc.boot = true) : Keeps sc s0 (State.avsAdjust s mv ack) := by
  unfold State.avsAdjust
  repeat' first
      | (with_reducible first
          | assumption
          | apply keeps_avsSend
          | apply keeps_runTo
          | refine keeps_ite ?_ ?_
          | apply keeps_foldl
          | intro _)
      | split
      | dsimp only

theorem keeps_execAvsAdjust (mv : Nat) (ack : Bool) (s : State) (h : Keeps sc s0 s) (hclk : sc.clk = true) (hregs : sc.regs =
    true) (hout : sc.out = true) (hboot : sc.boot = true) : KeepsO sc s0 (execAvsAdjust mv ack s) := by
  unfold execAvsAdjust
  repeat' (with_reducible first | assumption | apply keeps_avsAdjust | apply keepsO_next)

theorem keeps_supplyExcursion (s : State) (rail : Nat) (mv : Nat) (long : Bool) (h : Keeps sc s0 s) (hmem : sc.mem = true)
    (hregs : sc.regs = true) (hout : sc.out = true) (hemit : sc.emit = true) (hmemsys : sc.memsys = true) (hdma : sc.dma =
    true) (hpair : sc.pair = true) (hboot : sc.boot = true) (hras : sc.ras = true) : Keeps sc s0 (State.supplyExcursion s rail
    mv long) := by
  unfold State.supplyExcursion
  repeat' (with_reducible first
      | assumption
      | apply keeps_setFld
      | apply keeps_ev
      | apply keeps_updBoot
      | apply keeps_fatal
      | refine keeps_ite ?_ ?_)

theorem keeps_execSupplyExcursion (rail : Nat) (mv : Nat) (long : Bool) (s : State) (h : Keeps sc s0 s) (hmem : sc.mem = true)
    (hregs : sc.regs = true) (hout : sc.out = true) (hemit : sc.emit = true) (hmemsys : sc.memsys = true) (hdma : sc.dma =
    true) (hpair : sc.pair = true) (hboot : sc.boot = true) (hras : sc.ras = true) : KeepsO sc s0 (execSupplyExcursion rail mv
    long s) := by
  unfold execSupplyExcursion
  repeat' first
      | (with_reducible first
          | assumption
          | apply keeps_supplyExcursion
          | apply keepsO_next
          | refine keeps_ite ?_ ?_
          | apply keeps_foldl)
      | split
      | (with_reducible apply keeps_upd; (with_reducible first
          | assumption
          | apply keeps_supplyExcursion
          | apply keepsO_next
          | apply keeps_foldl
          | split))
      | (with_reducible first
          | exact Held.refl _
          | exact TimeStep.refl _
          | exact ImgStep.refl _
          | exact UnitStep.refl _ _
          | exact MemStep.refl _
          | exact Held.write hregs
          | exact Held.write hout
          | exact Held.write hemit
          | exact Held.write hmemsys
          | exact Held.write hdma
          | exact Held.write hpair
          | exact Held.write hboot
          | exact Held.write hras)
      | (with_reducible refine MemStep.write hmem (Mem.wf_puts _ _ _))
      | (with_reducible refine MemStep.write hmem (Mem.wf_putEnabled _ _ _))
      | intro _
      | dsimp only

/-! ### RegAccess -/

theorem keeps_clearRead (s : State) (a : Nat) (rc : Nat) (h : Keeps sc s0 s) (htime : sc.time = true) (hregs : sc.regs = true)
    (hout : sc.out = true) : Keeps sc s0 (State.clearRead s a rc) := by
  unfold State.clearRead
  repeat' first
      | (with_reducible first
          | assumption
          | apply keeps_wrn
          | apply keeps_updFunc
          | apply keeps_updTime
          | refine keeps_ite ?_ ?_
          | apply keeps_foldl)
      | split
      | (with_reducible apply keeps_upd; (with_reducible first
          | assumption
          | apply keeps_wrn
          | apply keeps_updFunc
          | apply keeps_updTime
          | apply keeps_foldl
          | split))
      | (with_reducible first
          | exact Held.refl _
          | exact TimeStep.refl _
          | exact ImgStep.refl _
          | exact UnitStep.refl _ _
          | exact MemStep.refl _
          | exact Held.write hregs
          | exact Held.write hout)
      | exact TimeStep.of htime rfl rfl
      | exact fun _ => rfl
      | exact fun _ t => TimeUnit.inRange_of rfl rfl t
      | intro _
      | dsimp only

theorem keeps_readReg (s : State) (a : Nat) (h : Keeps sc s0 s) (htime : sc.time = true) (hregs : sc.regs = true) (hout :
    sc.out = true) (hemit : sc.emit = true) : Keeps sc s0 (State.readReg s a).2 := by
  unfold State.readReg
  repeat' first
      | (with_reducible first
          | assumption
          | apply keeps_nowNs
          | apply keeps_popTx
          | apply keeps_alert
          | apply keeps_clearRead
          | refine keeps_ite ?_ ?_
          | apply keeps_foldl)
      | split
      | (with_reducible apply keeps_upd; (with_reducible first
          | assumption
          | apply keeps_nowNs
          | apply keeps_popTx
          | apply keeps_alert
          | apply keeps_clearRead
          | apply keeps_foldl
          | split))
      | (with_reducible first
          | exact Held.refl _
          | exact TimeStep.refl _
          | exact ImgStep.refl _
          | exact UnitStep.refl _ _
          | exact MemStep.refl _
          | exact Held.write hregs
          | exact Held.write hout
          | exact Held.write hemit)
      | exact TimeStep.of htime rfl rfl
      | exact fun _ => rfl
      | exact fun _ t => TimeUnit.inRange_of rfl rfl t
      | intro _
      | dsimp only

theorem keeps_barError (s : State) (f : Nat) (bar : Nat) (off : Nat) (write : Bool) (h : Keeps sc s0 s) (hregs : sc.regs =
    true) (hout : sc.out = true) : Keeps sc s0 (State.barError s f bar off write) := by
  unfold State.barError
  repeat' (with_reducible first | assumption | apply keeps_decodeError)

theorem keeps_answer (s : State) (v : Nat) (h : Keeps sc s0 s) (hout : sc.out = true) : Keeps sc s0 (State.answer s v) := by
  unfold State.answer
  repeat' (with_reducible first | assumption | apply keeps_emit)

theorem keeps_barRead (s : State) (f : Nat) (bar : Nat) (off : Nat) (len : Nat) (h : Keeps sc s0 s) (htime : sc.time = true)
    (hregs : sc.regs = true) (hout : sc.out = true) (hemit : sc.emit = true) : Keeps sc s0 (State.barRead s f bar off len) := by
  unfold State.barRead
  repeat' first
      | (with_reducible first
          | assumption
          | apply keeps_answer
          | apply keeps_readReg
          | apply keeps_barError
          | refine keeps_ite ?_ ?_
          | apply keeps_foldl
          | intro _)
      | split
      | dsimp only

theorem keeps_execRegisterRead (f : Nat) (bar : Nat) (off : Nat) (len : Nat) (s : State) (h : Keeps sc s0 s) (htime : sc.time =
    true) (hregs : sc.regs = true) (hout : sc.out = true) (hemit : sc.emit = true) : KeepsO sc s0 (execRegisterRead f bar off
    len s) := by
  unfold execRegisterRead
  repeat' (with_reducible first | assumption | apply keeps_barRead | apply keepsO_next)

theorem keeps_wrMask (s : State) (a : Nat) (mask : Nat) (w : Word) (h : Keeps sc s0 s) (hregs : sc.regs = true) : Keeps sc s0
    (State.wrMask s a mask w) := by
  unfold State.wrMask
  repeat' (with_reducible first | assumption | apply keeps_wrn | refine keeps_ite ?_ ?_)

theorem keeps_wrClear (s : State) (a : Nat) (mask : Nat) (w : Word) (h : Keeps sc s0 s) (hregs : sc.regs = true) : Keeps sc s0
    (State.wrClear s a mask w) := by
  unfold State.wrClear
  repeat' (with_reducible first | assumption | apply keeps_wrn)

theorem keeps_writeGlb (s : State) (o : Nat) (mask : Nat) (w : Word) (h : Keeps sc s0 s) (hclk : sc.clk = true) (htime :
    sc.time = true) (himg : sc.img = true) (hslots : sc.slots = true) (hunits : sc.units = true) (hreset : sc.reset = true)
    (hmem : sc.mem = true) (hregs : sc.regs = true) (hout : sc.out = true) (hweir : sc.weir = true) (hhost : sc.host = true)
    (hst : sc.st = true) (hcourses : sc.courses = true) (hcoders : sc.coders = true) (hemit : sc.emit = true) (hmemsys :
    sc.memsys = true) (hdma : sc.dma = true) (hpair : sc.pair = true) (hlanes : sc.lanes = true) (hboot : sc.boot = true) (hras
    : sc.ras = true) : Keeps sc s0 (State.writeGlb s o mask w) := by
  unfold State.writeGlb
  repeat' first
      | (with_reducible first
          | assumption
          | apply keeps_glbCtrl
          | apply keeps_wrMask
          | apply keeps_keyProgram
          | apply keeps_keyRevoke
          | apply keeps_pwrReqWrite
          | apply keeps_updBoot
          | apply keeps_flashStart
          | refine keeps_ite ?_ ?_
          | apply keeps_foldl)
      | split
      | (with_reducible apply keeps_upd; (with_reducible first
          | assumption
          | apply keeps_glbCtrl
          | apply keeps_wrMask
          | apply keeps_keyProgram
          | apply keeps_keyRevoke
          | apply keeps_pwrReqWrite
          | apply keeps_updBoot
          | apply keeps_flashStart
          | apply keeps_foldl
          | split))
      | (with_reducible first
          | exact Held.refl _
          | exact TimeStep.refl _
          | exact ImgStep.refl _
          | exact UnitStep.refl _ _
          | exact MemStep.refl _
          | exact Held.write hregs
          | exact Held.write hout
          | exact Held.write hweir
          | exact Held.write hhost
          | exact Held.write hst
          | exact Held.write hcourses
          | exact Held.write hcoders
          | exact Held.write hemit
          | exact Held.write hmemsys
          | exact Held.write hdma
          | exact Held.write hpair
          | exact Held.write hlanes
          | exact Held.write hboot
          | exact Held.write hras)
      | exact TimeStep.of htime rfl rfl
      | exact fun _ => rfl
      | exact fun _ t => TimeUnit.inRange_of rfl rfl t
      | exact ImgStep.of_slots himg rfl
      | (with_reducible refine MemStep.write hmem (Mem.wf_puts _ _ _))
      | (with_reducible refine MemStep.write hmem (Mem.wf_putEnabled _ _ _))
      | intro _
      | dsimp only

theorem keeps_writeFunc (s : State) (f : Nat) (n : Nat) (o : Nat) (mask : Nat) (w : Word) (h : Keeps sc s0 s) (himg : sc.img =
    true) (hregs : sc.regs = true) (hout : sc.out = true) (hweir : sc.weir = true) (hhost : sc.host = true) (hcourses :
    sc.courses = true) (hpair : sc.pair = true) : Keeps sc s0 (State.writeFunc s f n o mask w) := by
  unfold State.writeFunc
  repeat' (with_reducible first
      | assumption
      | apply keeps_queueCfg
      | apply keeps_excCfgWrite
      | apply keeps_evqCtrl
      | apply keeps_evqHead
      | apply keeps_protWrite
      | apply keeps_wrMask
      | refine keeps_ite ?_ ?_)

theorem keeps_writeTime (s : State) (o : Nat) (mask : Nat) (w : Word) (h : Keeps sc s0 s) (htime : sc.time = true) (hregs :
    sc.regs = true) (hout : sc.out = true) (hcourses : sc.courses = true) : Keeps sc s0 (State.writeTime s o mask w) := by
  unfold State.writeTime
  repeat' first
      | (with_reducible first
          | assumption
          | apply keeps_timeCtrlWrite
          | apply keeps_addendWrite
          | apply keeps_utcCfgWrite
          | apply keeps_wrMask
          | apply keeps_timeBlocked
          | refine keeps_ite ?_ ?_
          | apply keeps_foldl
          | intro _)
      | split
      | dsimp only

theorem keeps_writeTimePort (s : State) (n : Nat) (o : Nat) (mask : Nat) (w : Word) (h : Keeps sc s0 s) (hregs : sc.regs =
    true) : Keeps sc s0 (State.writeTimePort s n o mask w) := by
  unfold State.writeTimePort
  repeat' (with_reducible first | assumption | apply keeps_wrClear | apply keeps_wrMask | refine keeps_ite ?_ ?_)

theorem keeps_writeCmp (s : State) (m : Nat) (o : Nat) (w : Word) (h : Keeps sc s0 s) (htime : sc.time = true) : Keeps sc s0
    (State.writeCmp s m o w) := by
  unfold State.writeCmp
  repeat' first
      | (with_reducible first
          | assumption
          | apply keeps_cmpTgtLo
          | apply keeps_cmpTgtHi
          | apply keeps_updTime
          | apply keeps_cmpCtrl
          | refine keeps_ite ?_ ?_
          | apply keeps_foldl)
      | split
      | (with_reducible apply keeps_upd; (with_reducible first
          | assumption
          | apply keeps_cmpTgtLo
          | apply keeps_cmpTgtHi
          | apply keeps_updTime
          | apply keeps_cmpCtrl
          | apply keeps_foldl
          | split))
      | (with_reducible first
          | exact Held.refl _
          | exact TimeStep.refl _
          | exact ImgStep.refl _
          | exact UnitStep.refl _ _
          | exact MemStep.refl _)
      | exact TimeStep.of htime rfl rfl
      | exact fun _ => rfl
      | exact fun _ t => TimeUnit.inRange_of rfl rfl t
      | intro _
      | dsimp only

theorem keeps_writeWeir (s : State) (d : Nat) (o : Nat) (w : Word) (h : Keeps sc s0 s) (hregs : sc.regs = true) (hout : sc.out
    = true) (hweir : sc.weir = true) (hpair : sc.pair = true) : Keeps sc s0 (State.writeWeir s d o w) := by
  unfold State.writeWeir
  repeat' first
      | (with_reducible first
          | assumption
          | apply keeps_modeWrite
          | apply keeps_phaseWrite
          | apply keeps_guardWrite
          | refine keeps_ite ?_ ?_
          | apply keeps_foldl
          | intro _)
      | split
      | dsimp only

theorem keeps_writeChk (s : State) (f : Nat) (u : Nat) (o : Nat) (mask : Nat) (w : Word) (h : Keeps sc s0 s) (hregs : sc.regs =
    true) (hout : sc.out = true) (hdma : sc.dma = true) : Keeps sc s0 (State.writeChk s f u o mask w) := by
  unfold State.writeChk
  repeat' first
      | (with_reducible first
          | assumption
          | apply keeps_chkCfg
          | apply keeps_chkMsgEnd
          | apply keeps_chkDoRestart
          | apply keeps_chkDataW
          | apply keeps_chkDataB
          | apply keeps_chkRun
          | apply keeps_chkAliveCfg
          | apply keeps_chkOwner
          | apply keeps_chkWrite
          | apply keeps_wrMask
          | refine keeps_ite ?_ ?_
          | apply keeps_foldl
          | intro _)
      | split
      | dsimp only

theorem keeps_writeBce (s : State) (f : Nat) (b : Nat) (o : Nat) (w : Word) (h : Keeps sc s0 s) (hmem : sc.mem = true) (hregs :
    sc.regs = true) (hout : sc.out = true) (hmemsys : sc.memsys = true) (hdma : sc.dma = true) : Keeps sc s0 (State.writeBce s
    f b o w) := by
  unfold State.writeBce
  repeat' (with_reducible first
      | assumption
      | apply keeps_bceSem
      | apply keeps_bceCtrl
      | apply keeps_bceReg_
      | refine keeps_ite ?_ ?_)

theorem keeps_keyCtrl (s : State) (f : Nat) (c : Nat) (mask : Nat) (w : Word) (h : Keeps sc s0 s) (hunits : sc.units = true)
    (hregs : sc.regs = true) (hout : sc.out = true) (hweir : sc.weir = true) (hst : sc.st = true) (hcourses : sc.courses =
    true) (hcoders : sc.coders = true) (hmemsys : sc.memsys = true) (hdma : sc.dma = true) (hpair : sc.pair = true) : Keeps sc
    s0 (State.keyCtrl s f c mask w) := by
  unfold State.keyCtrl
  repeat' first
      | (with_reducible first
          | assumption
          | apply keeps_weirWrite
          | apply keeps_wrMask
          | apply keeps_keyNowCmd
          | refine keeps_ite ?_ ?_
          | apply keeps_foldl
          | intro _)
      | split
      | dsimp only

theorem keeps_writeCrs (s : State) (f : Nat) (c : Nat) (o : Nat) (mask : Nat) (w : Word) (h : Keeps sc s0 s) (hunits : sc.units
    = true) (hregs : sc.regs = true) (hout : sc.out = true) (hweir : sc.weir = true) (hst : sc.st = true) (hcourses :
    sc.courses = true) (hcoders : sc.coders = true) (hemit : sc.emit = true) (hmemsys : sc.memsys = true) (hdma : sc.dma =
    true) (hpair : sc.pair = true) : Keeps sc s0 (State.writeCrs s f c o mask w) := by
  unfold State.writeCrs
  repeat' first
      | (with_reducible first
          | assumption
          | apply keeps_weirWrite
          | apply keeps_ftBindWrite
          | apply keeps_ftWptrWrite
          | apply keeps_lutLoad
          | apply keeps_pace
          | apply keeps_hinPost
          | apply keeps_keyCtrl
          | apply keeps_captionCfg
          | apply keeps_wrMask
          | apply keeps_chunkCfg
          | apply keeps_chunkHead
          | refine keeps_ite ?_ ?_
          | apply keeps_foldl
          | intro _)
      | split
      | dsimp only

theorem keeps_writeLane (s : State) (n : Nat) (o : Nat) (w : Word) (h : Keeps sc s0 s) (hregs : sc.regs = true) (hout : sc.out
    = true) (hcourses : sc.courses = true) (hlanes : sc.lanes = true) : Keeps sc s0 (State.writeLane s n o w) := by
  unfold State.writeLane
  repeat' first
      | (with_reducible first
          | assumption
          | apply keeps_laneCfg
          | apply keeps_txFfe
          | apply keeps_lanePattern
          | apply keeps_marginWrite
          | refine keeps_ite ?_ ?_
          | apply keeps_foldl
          | intro _)
      | split
      | dsimp only

theorem keeps_sluiceBell (s : State) (g : Nat) (v : Nat) (h : Keeps sc s0 s) (hmem : sc.mem = true) (hregs : sc.regs = true)
    (hout : sc.out = true) (hmemsys : sc.memsys = true) (hdma : sc.dma = true) : Keeps sc s0 (State.sluiceBell s g v) := by
  unfold State.sluiceBell
  repeat' first
      | (with_reducible first
          | assumption
          | apply keeps_sluiceStart
          | apply keeps_sluiceDisable
          | apply keeps_sluiceAbort
          | apply keeps_descResidue
          | refine keeps_ite ?_ ?_
          | apply keeps_foldl
          | intro _)
      | split
      | dsimp only

theorem keeps_writeSluice (s : State) (g : Nat) (o : Nat) (w : Word) (h : Keeps sc s0 s) (hmem : sc.mem = true) (hregs :
    sc.regs = true) (hout : sc.out = true) (hmemsys : sc.memsys = true) (hdma : sc.dma = true) : Keeps sc s0 (State.writeSluice
    s g o w) := by
  unfold State.writeSluice
  repeat' (with_reducible first | assumption | apply keeps_sluiceBell | apply keeps_sluiceReg_ | refine keeps_ite ?_ ?_)

theorem keeps_writeReg (s : State) (f : Nat) (a : Nat) (w : Word) (h : Keeps sc s0 s) (hclk : sc.clk = true) (htime : sc.time =
    true) (himg : sc.img = true) (hslots : sc.slots = true) (hunits : sc.units = true) (hreset : sc.reset = true) (hmem :
    sc.mem = true) (hregs : sc.regs = true) (hout : sc.out = true) (hweir : sc.weir = true) (hhost : sc.host = true) (hst :
    sc.st = true) (hcourses : sc.courses = true) (hcoders : sc.coders = true) (hemit : sc.emit = true) (hmemsys : sc.memsys =
    true) (hdma : sc.dma = true) (hpair : sc.pair = true) (hlanes : sc.lanes = true) (hboot : sc.boot = true) (hras : sc.ras =
    true) : Keeps sc s0 (State.writeReg s f a w) := by
  unfold State.writeReg
  repeat' (with_reducible first
      | assumption
      | apply keeps_writeGlb
      | apply keeps_writeFunc
      | apply keeps_writeTime
      | apply keeps_writeTimePort
      | apply keeps_writeCmp
      | apply keeps_writeWeir
      | apply keeps_writeChk
      | apply keeps_writeBce
      | apply keeps_writeSluice
      | apply keeps_wrClear
      | apply keeps_resCtrl
      | apply keeps_wrMask
      | apply keeps_writeCrs
      | apply keeps_portCfgWrite
      | apply keeps_writeLane
      | apply keeps_rasPins
      | refine keeps_ite ?_ ?_)

theorem keeps_msixWrite (s : State) (f : Nat) (k : Nat) (w : Word) (h : Keeps sc s0 s) (hout : sc.out = true) : Keeps sc s0
    (State.msixWrite s f k w) := by
  unfold State.msixWrite
  repeat' (with_reducible first | assumption | apply keeps_updFunc | apply keeps_emit | refine keeps_ite ?_ ?_)

theorem keeps_bar2Write (s : State) (f : Nat) (o : Nat) (whole : Bool) (w : Word) (h : Keeps sc s0 s) (hmem : sc.mem = true)
    (hregs : sc.regs = true) (hout : sc.out = true) (hcourses : sc.courses = true) (hmemsys : sc.memsys = true) (hdma : sc.dma
    = true) : Keeps sc s0 (State.bar2Write s f o whole w) := by
  unfold State.bar2Write
  repeat' first
      | (with_reducible first
          | assumption
          | apply keeps_sqTail
          | apply keeps_cqHead
          | apply keeps_doorbellInvalid
          | apply keeps_barError
          | apply keeps_writeSluice
          | apply keeps_msixWrite
          | apply keeps_excRxDoorbell
          | apply keeps_excTxDoorbell
          | refine keeps_ite ?_ ?_
          | apply keeps_foldl
          | intro _)
      | split
      | dsimp only

theorem keeps_barWrite (s : State) (f : Nat) (bar : Nat) (off : Nat) (len : Nat) (w : Word) (h : Keeps sc s0 s) (hclk : sc.clk
    = true) (htime : sc.time = true) (himg : sc.img = true) (hslots : sc.slots = true) (hunits : sc.units = true) (hreset :
    sc.reset = true) (hmem : sc.mem = true) (hregs : sc.regs = true) (hout : sc.out = true) (hweir : sc.weir = true) (hhost :
    sc.host = true) (hst : sc.st = true) (hcourses : sc.courses = true) (hcoders : sc.coders = true) (hemit : sc.emit = true)
    (hmemsys : sc.memsys = true) (hdma : sc.dma = true) (hpair : sc.pair = true) (hlanes : sc.lanes = true) (hboot : sc.boot =
    true) (hras : sc.ras = true) : Keeps sc s0 (State.barWrite s f bar off len w) := by
  unfold State.barWrite
  repeat' first
      | (with_reducible first
          | assumption
          | apply keeps_writeReg
          | apply keeps_barError
          | apply keeps_bar2Write
          | refine keeps_ite ?_ ?_
          | apply keeps_foldl
          | intro _)
      | split
      | dsimp only

theorem keeps_execRegisterWrite (f : Nat) (bar : Nat) (off : Nat) (len : Nat) (w : Word) (s : State) (h : Keeps sc s0 s) (hclk
    : sc.clk = true) (htime : sc.time = true) (himg : sc.img = true) (hslots : sc.slots = true) (hunits : sc.units = true)
    (hreset : sc.reset = true) (hmem : sc.mem = true) (hregs : sc.regs = true) (hout : sc.out = true) (hweir : sc.weir = true)
    (hhost : sc.host = true) (hst : sc.st = true) (hcourses : sc.courses = true) (hcoders : sc.coders = true) (hemit : sc.emit
    = true) (hmemsys : sc.memsys = true) (hdma : sc.dma = true) (hpair : sc.pair = true) (hlanes : sc.lanes = true) (hboot :
    sc.boot = true) (hras : sc.ras = true) : KeepsO sc s0 (execRegisterWrite f bar off len w s) := by
  unfold execRegisterWrite
  repeat' (with_reducible first | assumption | apply keeps_barWrite | apply keepsO_next)

theorem keeps_execSmbusCommand (off : Nat) (s : State) (h : Keeps sc s0 s) (hregs : sc.regs = true) (hout : sc.out = true)
    (hemit : sc.emit = true) : KeepsO sc s0 (execSmbusCommand off s) := by
  unfold execSmbusCommand
  repeat' first
      | (with_reducible first
          | assumption
          | apply keeps_emit
          | apply keepsO_next
          | refine keeps_ite ?_ ?_
          | apply keeps_foldl)
      | split
      | (with_reducible apply keeps_upd; (with_reducible first
          | assumption
          | apply keeps_emit
          | apply keepsO_next
          | apply keeps_foldl
          | split))
      | (with_reducible first
          | exact Held.refl _
          | exact TimeStep.refl _
          | exact ImgStep.refl _
          | exact UnitStep.refl _ _
          | exact MemStep.refl _
          | exact Held.write hregs
          | exact Held.write hout
          | exact Held.write hemit)
      | intro _
      | dsimp only

/-! ### Commands -/

theorem keeps_statsBlock (s : State) (scope : Nat) (t : Nat) (h : Keeps sc s0 s) (hregs : sc.regs = true) (hout : sc.out =
    true) (hemit : sc.emit = true) : Keeps sc s0 (State.statsBlock s scope t).2 := by
  unfold State.statsBlock
  repeat' first
      | (with_reducible first
          | assumption
          | refine keeps_ite ?_ ?_
          | apply keeps_foldl)
      | split
      | (with_reducible apply keeps_put_out hout; (with_reducible first
          | assumption
          | apply keeps_foldl
          | split))
      | intro _
      | dsimp only

theorem keeps_execStatsRead (o : Origin) (scope : Nat) (target : Nat) (addr : Nat) (len : Nat) (wrote : Bool) (s : State) (h :
    Keeps sc s0 s) (hregs : sc.regs = true) (hout : sc.out = true) (hemit : sc.emit = true) : KeepsO sc s0 (execStatsRead o
    scope target addr len wrote s) := by
  unfold execStatsRead
  repeat' first
      | (with_reducible first
          | assumption
          | apply keeps_checked
          | apply keeps_bufferLost
          | apply keeps_statsBlock
          | apply keeps_complete
          | apply keeps_hostWr
          | apply keepsO_next
          | refine keeps_ite ?_ ?_
          | apply keeps_foldl
          | intro _)
      | split
      | dsimp only

theorem keeps_badEntry (o : Origin) (s : State) (h : Keeps sc s0 s) (hout : sc.out = true) : KeepsO sc s0 (badEntry o s) := by
  unfold badEntry
  repeat' (with_reducible first | assumption | apply keeps_complete | apply keepsO_next)

theorem keeps_entryRun (b : Bytes) (buf : Option Bytes) (o : Origin) (s : State) (h : Keeps sc s0 s) (himg : sc.img = true)
    (hunits : sc.units = true) (hmem : sc.mem = true) (hregs : sc.regs = true) (hout : sc.out = true) (hweir : sc.weir = true)
    (hhost : sc.host = true) (hst : sc.st = true) (hcourses : sc.courses = true) (hcoders : sc.coders = true) (hemit : sc.emit
    = true) (hmemsys : sc.memsys = true) (hdma : sc.dma = true) (hpair : sc.pair = true) (hras : sc.ras = true) : KeepsO sc s0
    (entryRun b buf o s) := by
  unfold entryRun
  repeat' first
      | (with_reducible first
          | assumption
          | apply keeps_execImageLoad
          | apply keeps_execImageStatus
          | apply keeps_execCourseStart
          | apply keeps_execCourseStop
          | apply keeps_execCourseSet
          | apply keeps_execKeyNow
          | apply keeps_execRcSet
          | apply keeps_execLayerSet
          | apply keeps_execLayerFlip
          | apply keeps_execSubAdd
          | apply keeps_execSubDel
          | apply keeps_execSubSet
          | apply keeps_execServiceSetAdd
          | apply keeps_execServiceSetReplace
          | apply keeps_execServiceSetRemove
          | apply keeps_badEntry
          | apply keeps_execInflowAdd
          | apply keeps_execInflowDel
          | apply keeps_execUnitReset
          | apply keeps_execUnitRetire
          | apply keeps_execPairCtlStatus
          | apply keeps_execPairCtlHold
          | apply keeps_execPairCtlYield
          | apply keeps_execPairCtlHeal
          | apply keeps_execStatsRead
          | apply keeps_execTestCtlEnterMaint
          | apply keeps_execTestCtlLeaveMaint
          | apply keeps_execTestCtlInject
          | apply keepsO_next
          | refine keeps_ite ?_ ?_
          | apply keeps_foldl
          | intro _)
      | split
      | dsimp only

theorem keeps_refuseTag (s : State) (o : Origin) (h : Keeps sc s0 s) (hout : sc.out = true) : Keeps sc s0 (State.refuseTag s o)
    := by
  unfold State.refuseTag
  exact keeps_put_out hout h

theorem keeps_execCommandFetch (f : Nat) (q : Nat) (entry : Option Bytes) (buf : Option Bytes) (s : State) (h : Keeps sc s0 s)
    (himg : sc.img = true) (hunits : sc.units = true) (hmem : sc.mem = true) (hregs : sc.regs = true) (hout : sc.out = true)
    (hweir : sc.weir = true) (hhost : sc.host = true) (hst : sc.st = true) (hcourses : sc.courses = true) (hcoders : sc.coders
    = true) (hemit : sc.emit = true) (hmemsys : sc.memsys = true) (hdma : sc.dma = true) (hpair : sc.pair = true) (hras :
    sc.ras = true) : KeepsO sc s0 (execCommandFetch f q entry buf s) := by
  unfold execCommandFetch
  repeat' first
      | (with_reducible first
          | assumption
          | apply keeps_ev
          | apply keeps_setSq
          | apply keeps_refuseTag
          | apply keeps_entryRun
          | apply keeps_badEntry
          | apply keepsO_next
          | refine keeps_ite ?_ ?_
          | apply keeps_foldl)
      | split
      | (with_reducible apply keeps_upd; (with_reducible first
          | assumption
          | apply keeps_ev
          | apply keeps_setSq
          | apply keeps_refuseTag
          | apply keeps_entryRun
          | apply keeps_badEntry
          | apply keepsO_next
          | apply keeps_foldl
          | split))
      | (with_reducible first
          | exact Held.refl _
          | exact TimeStep.refl _
          | exact ImgStep.refl _
          | exact UnitStep.refl _ _
          | exact MemStep.refl _
          | exact Held.write hregs
          | exact Held.write hout
          | exact Held.write hweir
          | exact Held.write hhost
          | exact Held.write hst
          | exact Held.write hcourses
          | exact Held.write hcoders
          | exact Held.write hemit
          | exact Held.write hmemsys
          | exact Held.write hdma
          | exact Held.write hpair
          | exact Held.write hras)
      | exact ImgStep.of_slots himg rfl
      | (with_reducible refine MemStep.write hmem (Mem.wf_puts _ _ _))
      | (with_reducible refine MemStep.write hmem (Mem.wf_putEnabled _ _ _))
      | intro _
      | dsimp only

/-! ### Fabric -/

theorem keeps_wordRead (s : State) (a : Nat) (h : Keeps sc s0 s) (htime : sc.time = true) (hregs : sc.regs = true) (hout :
    sc.out = true) (hemit : sc.emit = true) : Keeps sc s0 (State.wordRead s a).2 := by
  unfold State.wordRead
  repeat' first
      | (with_reducible first
          | assumption
          | apply keeps_readReg
          | refine keeps_ite ?_ ?_
          | apply keeps_foldl
          | intro _)
      | split
      | dsimp only

theorem keeps_wordsRead (k : Nat) (htime : sc.time = true) (hregs : sc.regs = true) (hout : sc.out = true) (hemit : sc.emit =
    true) : ∀ (s : State) (a : Nat), Keeps sc s0 s → Keeps sc s0 (State.wordsRead s a k).2 := by
  induction k with
  | zero => exact fun _ _ h => h
  | succ k ih =>
    intro s a h
    unfold State.wordsRead
    repeat' (with_reducible first | assumption | apply keeps_wordRead | apply ih)

theorem keeps_targetRead (s : State) (a : Nat) (n : Nat) (host : Bytes) (h : Keeps sc s0 s) (htime : sc.time = true) (hregs :
    sc.regs = true) (hout : sc.out = true) (hemit : sc.emit = true) : Keeps sc s0 (State.targetRead s a n host).2 := by
  unfold State.targetRead
  repeat' first
      | (with_reducible first
          | assumption
          | apply keeps_wordsRead
          | refine keeps_ite ?_ ?_
          | apply keeps_foldl)
      | split
      | (with_reducible apply keeps_put_out hout; (with_reducible first
          | assumption
          | apply keeps_wordsRead
          | apply keeps_foldl
          | split))
      | intro _
      | dsimp only

theorem keeps_wordsWrite (s : State) (f a : Nat) (d : List (Option Byte)) (h : Keeps sc s0 s) (hclk : sc.clk = true) (htime :
    sc.time = true) (himg : sc.img = true) (hslots : sc.slots = true) (hunits : sc.units = true) (hreset : sc.reset = true)
    (hmem : sc.mem = true) (hregs : sc.regs = true) (hout : sc.out = true) (hweir : sc.weir = true) (hhost : sc.host = true)
    (hst : sc.st = true) (hcourses : sc.courses = true) (hcoders : sc.coders = true) (hemit : sc.emit = true) (hmemsys :
    sc.memsys = true) (hdma : sc.dma = true) (hpair : sc.pair = true) (hlanes : sc.lanes = true) (hboot : sc.boot = true) (hras
    : sc.ras = true) : Keeps sc s0 (State.wordsWrite s f a d) := by
  induction s, a, d using State.wordsWrite.induct (f := f) with
  | case1 s a b0 b1 b2 b3 r v ih =>
    unfold State.wordsWrite
    refine ih ?_
    repeat' first
        | (with_reducible first
            | assumption
            | apply keeps_writeReg
            | refine keeps_ite ?_ ?_
            | apply keeps_foldl
            | intro _)
        | split
        | dsimp only
  | case2 s a b0 b1 b2 b3 r hn ih =>
    rw [State.wordsWrite]
    · exact ih h
    · exact hn
  | case3 d s a h1 h2 =>
    rw [State.wordsWrite]
    · exact h
    · exact h1
    · exact h2

theorem keeps_unpoison (s : State) (a : Nat) (n : Nat) (h : Keeps sc s0 s) (hmemsys : sc.memsys = true) : Keeps sc s0
    (State.unpoison s a n) := by
  unfold State.unpoison
  repeat' first
      | (with_reducible first
          | assumption
          | apply keeps_updChan
          | refine keeps_ite ?_ ?_
          | apply keeps_foldl
          | intro _)
      | split
      | dsimp only

theorem keeps_targetWrite (s : State) (f : Option Nat) (a : Nat) (d : List (Option Byte)) (h : Keeps sc s0 s) (hclk : sc.clk =
    true) (htime : sc.time = true) (himg : sc.img = true) (hslots : sc.slots = true) (hunits : sc.units = true) (hreset :
    sc.reset = true) (hmem : sc.mem = true) (hregs : sc.regs = true) (hout : sc.out = true) (hweir : sc.weir = true) (hhost :
    sc.host = true) (hst : sc.st = true) (hcourses : sc.courses = true) (hcoders : sc.coders = true) (hemit : sc.emit = true)
    (hmemsys : sc.memsys = true) (hdma : sc.dma = true) (hpair : sc.pair = true) (hlanes : sc.lanes = true) (hboot : sc.boot =
    true) (hras : sc.ras = true) : Keeps sc s0 (State.targetWrite s f a d) := by
  unfold State.targetWrite
  repeat' first
      | (with_reducible first
          | assumption
          | apply keeps_hostWr
          | apply keeps_wordsWrite
          | apply keeps_chkBytes
          | apply keeps_unpoison
          | refine keeps_ite ?_ ?_
          | apply keeps_foldl)
      | split
      | (with_reducible apply keeps_upd; (with_reducible first
          | assumption
          | apply keeps_hostWr
          | apply keeps_wordsWrite
          | apply keeps_chkBytes
          | apply keeps_unpoison
          | apply keeps_foldl
          | split))
      | (with_reducible first
          | exact Held.refl _
          | exact TimeStep.refl _
          | exact ImgStep.refl _
          | exact UnitStep.refl _ _
          | exact MemStep.refl _
          | exact Held.write hregs
          | exact Held.write hout
          | exact Held.write hweir
          | exact Held.write hhost
          | exact Held.write hst
          | exact Held.write hcourses
          | exact Held.write hcoders
          | exact Held.write hemit
          | exact Held.write hmemsys
          | exact Held.write hdma
          | exact Held.write hpair
          | exact Held.write hlanes
          | exact Held.write hboot
          | exact Held.write hras)
      | exact TimeStep.of htime rfl rfl
      | exact fun _ => rfl
      | exact fun _ t => TimeUnit.inRange_of rfl rfl t
      | exact ImgStep.of_slots himg rfl
      | (with_reducible refine MemStep.write hmem (Mem.wf_puts _ _ _))
      | (with_reducible refine MemStep.write hmem (Mem.wf_putEnabled _ _ _))
      | intro _
      | dsimp only

theorem keeps_serve (s : State) (w : AtArbiter) (cyc : Nat) (h : Keeps sc s0 s) (hclk : sc.clk = true) (htime : sc.time = true)
    (himg : sc.img = true) (hslots : sc.slots = true) (hunits : sc.units = true) (hreset : sc.reset = true) (hmem : sc.mem =
    true) (hregs : sc.regs = true) (hout : sc.out = true) (hweir : sc.weir = true) (hhost : sc.host = true) (hst : sc.st =
    true) (hcourses : sc.courses = true) (hcoders : sc.coders = true) (hemit : sc.emit = true) (hmemsys : sc.memsys = true)
    (hdma : sc.dma = true) (hpair : sc.pair = true) (hlanes : sc.lanes = true) (hboot : sc.boot = true) (hras : sc.ras = true)
    : Keeps sc s0 (State.serve s w cyc) := by
  unfold State.serve
  dsimp only
  split
  · exact keeps_injectTimeout _ _ _ _ h hout hmemsys hras _ ‹_›
  · repeat' (with_reducible first
      | assumption
      | apply keeps_respond
      | apply keeps_targetWrite
      | apply keeps_updFab
      | apply keeps_targetRead
      | refine keeps_ite ?_ ?_)

theorem keeps_portGrants (s : State) (g : Nat) (h : Keeps sc s0 s) (hclk : sc.clk = true) (htime : sc.time = true) (himg :
    sc.img = true) (hslots : sc.slots = true) (hunits : sc.units = true) (hreset : sc.reset = true) (hmem : sc.mem = true)
    (hregs : sc.regs = true) (hout : sc.out = true) (hweir : sc.weir = true) (hhost : sc.host = true) (hst : sc.st = true)
    (hcourses : sc.courses = true) (hcoders : sc.coders = true) (hemit : sc.emit = true) (hmemsys : sc.memsys = true) (hdma :
    sc.dma = true) (hpair : sc.pair = true) (hlanes : sc.lanes = true) (hboot : sc.boot = true) (hras : sc.ras = true) : Keeps
    sc s0 (State.portGrants s g) := by
  unfold State.portGrants
  repeat' first
      | (with_reducible first
          | assumption
          | apply keeps_memGrants
          | apply keeps_grants
          | apply keeps_serve
          | refine keeps_ite ?_ ?_
          | apply keeps_foldl
          | intro _)
      | split
      | dsimp only

theorem keeps_allGrants (s : State) (h : Keeps sc s0 s) (hclk : sc.clk = true) (htime : sc.time = true) (himg : sc.img = true)
    (hslots : sc.slots = true) (hunits : sc.units = true) (hreset : sc.reset = true) (hmem : sc.mem = true) (hregs : sc.regs =
    true) (hout : sc.out = true) (hweir : sc.weir = true) (hhost : sc.host = true) (hst : sc.st = true) (hcourses : sc.courses
    = true) (hcoders : sc.coders = true) (hemit : sc.emit = true) (hmemsys : sc.memsys = true) (hdma : sc.dma = true) (hpair :
    sc.pair = true) (hlanes : sc.lanes = true) (hboot : sc.boot = true) (hras : sc.ras = true) : Keeps sc s0 (State.allGrants
    s) := by
  unfold State.allGrants
  repeat' first
      | (with_reducible first
          | assumption
          | apply keeps_portGrants
          | refine keeps_ite ?_ ?_
          | apply keeps_foldl
          | intro _)
      | split
      | dsimp only

theorem keeps_fabricIssue (s : State) (t : Txn) (h : Keeps sc s0 s) (hclk : sc.clk = true) (htime : sc.time = true) (himg :
    sc.img = true) (hslots : sc.slots = true) (hunits : sc.units = true) (hreset : sc.reset = true) (hmem : sc.mem = true)
    (hregs : sc.regs = true) (hout : sc.out = true) (hweir : sc.weir = true) (hhost : sc.host = true) (hst : sc.st = true)
    (hcourses : sc.courses = true) (hcoders : sc.coders = true) (hemit : sc.emit = true) (hmemsys : sc.memsys = true) (hdma :
    sc.dma = true) (hpair : sc.pair = true) (hlanes : sc.lanes = true) (hboot : sc.boot = true) (hras : sc.ras = true) : Keeps
    sc s0 (State.fabricIssue s t) := by
  unfold State.fabricIssue
  repeat' (with_reducible first
      | assumption
      | apply keeps_respond
      | apply keeps_decodeError
      | apply keeps_updFab
      | apply keeps_portGrants
      | apply keeps_setTport
      | refine keeps_ite ?_ ?_)

theorem keeps_execFabricRequest (t : Txn) (bar4 : Bool) (s : State) (h : Keeps sc s0 s) (hclk : sc.clk = true) (htime : sc.time
    = true) (himg : sc.img = true) (hslots : sc.slots = true) (hunits : sc.units = true) (hreset : sc.reset = true) (hmem :
    sc.mem = true) (hregs : sc.regs = true) (hout : sc.out = true) (hweir : sc.weir = true) (hhost : sc.host = true) (hst :
    sc.st = true) (hcourses : sc.courses = true) (hcoders : sc.coders = true) (hemit : sc.emit = true) (hmemsys : sc.memsys =
    true) (hdma : sc.dma = true) (hpair : sc.pair = true) (hlanes : sc.lanes = true) (hboot : sc.boot = true) (hras : sc.ras =
    true) : KeepsO sc s0 (execFabricRequest t bar4 s) := by
  unfold execFabricRequest
  repeat' first
      | (with_reducible first
          | assumption
          | apply keeps_fabricIssue
          | apply keeps_respond
          | apply keeps_decodeError
          | apply keepsO_next
          | refine keeps_ite ?_ ?_
          | apply keeps_foldl
          | intro _)
      | split
      | dsimp only

theorem keeps_timeoutOf (s : State) (id : Nat) (x : InFlight) (h : Keeps sc s0 s) (hclk : sc.clk = true) (htime : sc.time =
    true) (himg : sc.img = true) (hslots : sc.slots = true) (hunits : sc.units = true) (hreset : sc.reset = true) (hmem :
    sc.mem = true) (hregs : sc.regs = true) (hout : sc.out = true) (hweir : sc.weir = true) (hhost : sc.host = true) (hst :
    sc.st = true) (hcourses : sc.courses = true) (hcoders : sc.coders = true) (hemit : sc.emit = true) (hmemsys : sc.memsys =
    true) (hdma : sc.dma = true) (hpair : sc.pair = true) (hlanes : sc.lanes = true) (hboot : sc.boot = true) (hras : sc.ras =
    true) : Keeps sc s0 (State.timeoutOf s id x) := by
  unfold State.timeoutOf
  repeat' (with_reducible first
      | assumption
      | apply keeps_runTo
      | apply keeps_updFab
      | apply keeps_drawFree
      | apply keeps_targetWrite
      | apply keeps_targetTimeout
      | apply keeps_respond
      | refine keeps_ite ?_ ?_)

theorem keeps_heldTimeout (s : State) (n : Nat) (w : AtArbiter) (h : Keeps sc s0 s) (hclk : sc.clk = true) (hout : sc.out =
    true) (hmemsys : sc.memsys = true) : Keeps sc s0 (State.heldTimeout s n w) := by
  unfold State.heldTimeout
  repeat' (with_reducible first | assumption | apply keeps_runTo | apply keeps_setTport | apply keeps_ev | apply keeps_respond)

theorem keeps_execTargetTimeout (id : Nat) (s : State) (h : Keeps sc s0 s) (hclk : sc.clk = true) (htime : sc.time = true)
    (himg : sc.img = true) (hslots : sc.slots = true) (hunits : sc.units = true) (hreset : sc.reset = true) (hmem : sc.mem =
    true) (hregs : sc.regs = true) (hout : sc.out = true) (hweir : sc.weir = true) (hhost : sc.host = true) (hst : sc.st =
    true) (hcourses : sc.courses = true) (hcoders : sc.coders = true) (hemit : sc.emit = true) (hmemsys : sc.memsys = true)
    (hdma : sc.dma = true) (hpair : sc.pair = true) (hlanes : sc.lanes = true) (hboot : sc.boot = true) (hras : sc.ras = true)
    : KeepsO sc s0 (execTargetTimeout id s) := by
  unfold execTargetTimeout
  repeat' first
      | (with_reducible first
          | assumption
          | apply keeps_timeoutOf
          | apply keeps_heldTimeout
          | apply keepsO_next
          | refine keeps_ite ?_ ?_
          | apply keeps_foldl
          | intro _)
      | split
      | dsimp only

theorem keeps_readPieces (host : Bytes) (l : List Piece) (htime : sc.time = true) (hregs : sc.regs = true) (hout : sc.out =
    true) (hemit : sc.emit = true) : ∀ s : State, Keeps sc s0 s → Keeps sc s0 (State.readPieces s host l).2 := by
  induction l with
  | nil => exact fun _ h => h
  | cons p l ih =>
    intro s h
    unfold State.readPieces
    repeat' (with_reducible first | assumption | apply keeps_targetRead | apply ih)

theorem keeps_writePiece (s : State) (f : Nat) (d : SluiceDesc) (b : Bytes) (p : Piece) (h : Keeps sc s0 s) (hclk : sc.clk =
    true) (htime : sc.time = true) (himg : sc.img = true) (hslots : sc.slots = true) (hunits : sc.units = true) (hreset :
    sc.reset = true) (hmem : sc.mem = true) (hregs : sc.regs = true) (hout : sc.out = true) (hweir : sc.weir = true) (hhost :
    sc.host = true) (hst : sc.st = true) (hcourses : sc.courses = true) (hcoders : sc.coders = true) (hemit : sc.emit = true)
    (hmemsys : sc.memsys = true) (hdma : sc.dma = true) (hpair : sc.pair = true) (hlanes : sc.lanes = true) (hboot : sc.boot =
    true) (hras : sc.ras = true) : Keeps sc s0 (State.writePiece s f d b p) := by
  unfold State.writePiece
  repeat' first
      | (with_reducible first
          | assumption
          | apply keeps_targetWrite
          | refine keeps_ite ?_ ?_
          | apply keeps_foldl)
      | split
      | (with_reducible apply keeps_put_out hout; (with_reducible first
          | assumption
          | apply keeps_targetWrite
          | apply keeps_foldl
          | split))
      | intro _
      | dsimp only

theorem keeps_moveBytes (s : State) (f : Nat) (d : SluiceDesc) (host : Bytes) (n : Nat) (h : Keeps sc s0 s) (hclk : sc.clk =
    true) (htime : sc.time = true) (himg : sc.img = true) (hslots : sc.slots = true) (hunits : sc.units = true) (hreset :
    sc.reset = true) (hmem : sc.mem = true) (hregs : sc.regs = true) (hout : sc.out = true) (hweir : sc.weir = true) (hhost :
    sc.host = true) (hst : sc.st = true) (hcourses : sc.courses = true) (hcoders : sc.coders = true) (hemit : sc.emit = true)
    (hmemsys : sc.memsys = true) (hdma : sc.dma = true) (hpair : sc.pair = true) (hlanes : sc.lanes = true) (hboot : sc.boot =
    true) (hras : sc.ras = true) : Keeps sc s0 (State.moveBytes s f d host n) := by
  unfold State.moveBytes
  repeat' first
      | (with_reducible first
          | assumption
          | apply keeps_readPieces
          | apply keeps_writePiece
          | refine keeps_ite ?_ ?_
          | apply keeps_foldl
          | intro _)
      | split
      | dsimp only

theorem keeps_fetchDesc (s : State) (f : Nat) (cur : Nat) (fetched : Bool) (host : Bytes) (h : Keeps sc s0 s) (htime : sc.time
    = true) (hregs : sc.regs = true) (hout : sc.out = true) (hemit : sc.emit = true) : Keeps sc s0 (State.fetchDesc s f cur
    fetched host).2 := by
  unfold State.fetchDesc
  repeat' first
      | (with_reducible first
          | assumption
          | apply keeps_decodeError
          | apply keeps_targetRead
          | refine keeps_ite ?_ ?_
          | apply keeps_foldl
          | intro _)
      | split
      | dsimp only

theorem keeps_sluiceFails (s : State) (g : Nat) (code : Nat) (residue : Nat) (a : Nat) (h : Keeps sc s0 s) (hdma : sc.dma =
    true) : Keeps sc s0 (State.sluiceFails s g code residue a) := by
  unfold State.sluiceFails
  repeat' (with_reducible first | assumption | apply keeps_setSlc)

theorem keeps_sluiceOwes (s : State) (g : Nat) (r : SluiceRec) (h : Keeps sc s0 s) (hdma : sc.dma = true) : Keeps sc s0
    (State.sluiceOwes s g r) := by
  unfold State.sluiceOwes
  repeat' (with_reducible first | assumption | apply keeps_setSlc)

theorem keeps_descEnds (s : State) (g : Nat) (d : SluiceDesc) (h : Keeps sc s0 s) (hdma : sc.dma = true) : Keeps sc s0
    (State.descEnds s g d) := by
  unfold State.descEnds
  repeat' (with_reducible first | assumption | apply keeps_setSlc | apply keeps_sluiceOwes | refine keeps_ite ?_ ?_)

theorem keeps_descRun (s : State) (g : Nat) (d : SluiceDesc) (data : Bytes) (moved : Nat) (fail : Option (Nat × Bool)) (h :
    Keeps sc s0 s) (hclk : sc.clk = true) (htime : sc.time = true) (himg : sc.img = true) (hslots : sc.slots = true) (hunits :
    sc.units = true) (hreset : sc.reset = true) (hmem : sc.mem = true) (hregs : sc.regs = true) (hout : sc.out = true) (hweir :
    sc.weir = true) (hhost : sc.host = true) (hst : sc.st = true) (hcourses : sc.courses = true) (hcoders : sc.coders = true)
    (hemit : sc.emit = true) (hmemsys : sc.memsys = true) (hdma : sc.dma = true) (hpair : sc.pair = true) (hlanes : sc.lanes =
    true) (hboot : sc.boot = true) (hras : sc.ras = true) : Keeps sc s0 (State.descRun s g d data moved fail) := by
  unfold State.descRun
  repeat' first
      | (with_reducible first
          | assumption
          | apply keeps_descEnds
          | apply keeps_moveBytes
          | apply keeps_setSlc
          | apply keeps_decodeError
          | apply keeps_sluiceFails
          | refine keeps_ite ?_ ?_
          | apply keeps_foldl
          | intro _)
      | split
      | dsimp only

theorem keeps_execSluiceDescriptorDone (g : Nat) (fetched : Bool) (desc : Bytes) (data : Bytes) (moved : Nat) (fail : Option
    (Nat × Bool)) (s : State) (h : Keeps sc s0 s) (hclk : sc.clk = true) (htime : sc.time = true) (himg : sc.img = true)
    (hslots : sc.slots = true) (hunits : sc.units = true) (hreset : sc.reset = true) (hmem : sc.mem = true) (hregs : sc.regs =
    true) (hout : sc.out = true) (hweir : sc.weir = true) (hhost : sc.host = true) (hst : sc.st = true) (hcourses : sc.courses
    = true) (hcoders : sc.coders = true) (hemit : sc.emit = true) (hmemsys : sc.memsys = true) (hdma : sc.dma = true) (hpair :
    sc.pair = true) (hlanes : sc.lanes = true) (hboot : sc.boot = true) (hras : sc.ras = true) : KeepsO sc s0
    (execSluiceDescriptorDone g fetched desc data moved fail s) := by
  unfold execSluiceDescriptorDone
  repeat' first
      | (with_reducible first
          | assumption
          | apply keeps_sluiceOwes
          | apply keeps_fetchDesc
          | apply keeps_sluiceFails
          | apply keeps_drawFree
          | apply keeps_descRun
          | apply keepsO_next
          | refine keeps_ite ?_ ?_
          | apply keeps_foldl
          | intro _)
      | split
      | dsimp only

theorem keeps_execSluiceAbort (f : Nat) (i : Nat) (desc : Bytes) (data : Bytes) (moved : Nat) (s : State) (h : Keeps sc s0 s)
    (hclk : sc.clk = true) (htime : sc.time = true) (himg : sc.img = true) (hslots : sc.slots = true) (hunits : sc.units =
    true) (hreset : sc.reset = true) (hmem : sc.mem = true) (hregs : sc.regs = true) (hout : sc.out = true) (hweir : sc.weir =
    true) (hhost : sc.host = true) (hst : sc.st = true) (hcourses : sc.courses = true) (hcoders : sc.coders = true) (hemit :
    sc.emit = true) (hmemsys : sc.memsys = true) (hdma : sc.dma = true) (hpair : sc.pair = true) (hlanes : sc.lanes = true)
    (hboot : sc.boot = true) (hras : sc.ras = true) : KeepsO sc s0 (execSluiceAbort f i desc data moved s) := by
  unfold execSluiceAbort
  repeat' first
      | (with_reducible first
          | assumption
          | apply keeps_sluiceAbort
          | apply keeps_fetchDesc
          | apply keeps_sluiceFails
          | apply keeps_descRun
          | apply keeps_moveBytes
          | apply keeps_setSlc
          | apply keepsO_next
          | refine keeps_ite ?_ ?_
          | apply keeps_foldl)
      | split
      | (with_reducible apply keeps_upd; (with_reducible first
          | assumption
          | apply keeps_sluiceAbort
          | apply keeps_fetchDesc
          | apply keeps_sluiceFails
          | apply keeps_descRun
          | apply keeps_moveBytes
          | apply keeps_setSlc
          | apply keepsO_next
          | apply keeps_foldl
          | split))
      | (with_reducible first
          | exact Held.refl _
          | exact TimeStep.refl _
          | exact ImgStep.refl _
          | exact UnitStep.refl _ _
          | exact MemStep.refl _
          | exact Held.write hregs
          | exact Held.write hout
          | exact Held.write hweir
          | exact Held.write hhost
          | exact Held.write hst
          | exact Held.write hcourses
          | exact Held.write hcoders
          | exact Held.write hemit
          | exact Held.write hmemsys
          | exact Held.write hdma
          | exact Held.write hpair
          | exact Held.write hlanes
          | exact Held.write hboot
          | exact Held.write hras)
      | exact TimeStep.of htime rfl rfl
      | exact fun _ => rfl
      | exact fun _ t => TimeUnit.inRange_of rfl rfl t
      | exact ImgStep.of_slots himg rfl
      | (with_reducible refine MemStep.write hmem (Mem.wf_puts _ _ _))
      | (with_reducible refine MemStep.write hmem (Mem.wf_putEnabled _ _ _))
      | intro _
      | dsimp only

end Sys2Proof.Machine
end

