-- ==== Sys2Proof/Laws/Keeps07.lean ====
section
/-! SUPPORT. Keeps07.lean: what every operation keeps (Keeps.lean), one lemma an operation: Dispatch, Step. -/

namespace Sys2Proof.Machine

set_option linter.unusedVariables false
set_option linter.unusedTactic false
set_option linter.unreachableTactic false

variable {{sc : Scope}} {{s0 : State}}

/-! ### Dispatch -/

theorem keeps_exec {s0 : State} (i : Instr) (s : State) (h : Keeps i.scope s0 s) : KeepsO i.scope s0 (exec i s) := by
  cases i with
  | timeLoad w =>
    exact keeps_execTimeLoad _ _ h rfl rfl rfl rfl
  | timeStep w =>
    exact keeps_execTimeStep _ _ h rfl rfl rfl rfl
  | timeOpEffect =>
    exact keeps_execTimeOpEffect _ h rfl rfl rfl
  | timeAddendWrite w =>
    exact keeps_execTimeAddendWrite _ _ h rfl rfl
  | timeServoSelect w =>
    exact keeps_execTimeServoSelect _ _ h rfl rfl rfl rfl
  | hostLockSet w =>
    exact keeps_execHostLockSet _ _ h rfl rfl rfl rfl
  | utcCfgWrite w =>
    exact keeps_execUtcCfgWrite _ _ h rfl rfl
  | nowNsRead =>
    exact keeps_execNowNsRead _ h rfl rfl
  | txtsPop port =>
    exact keeps_execTxtsPop _ _ h rfl rfl rfl
  | compareFire m =>
    exact keeps_execCompareFire _ _ h rfl rfl rfl rfl rfl rfl
  | cmpTgtLoWrite m w =>
    exact keeps_execCmpTgtLoWrite _ _ _ h rfl
  | cmpTgtHiWrite m w =>
    exact keeps_execCmpTgtHiWrite _ _ _ h rfl
  | cmpArmedWrite m w =>
    exact keeps_execCmpArmedWrite _ _ _ h rfl
  | outputPulseEnd k =>
    exact keeps_execOutputPulseEnd _ _ h rfl rfl rfl
  | ppsInEdge =>
    exact keeps_execPpsInEdge _ h rfl rfl
  | ppsInTimeout =>
    exact keeps_execPpsInTimeout _ h rfl rfl rfl
  | freq10mCountDone cycles =>
    exact keeps_execFreq10mCountDone _ _ h rfl rfl
  | ptpSyncReceived offset =>
    exact keeps_execPtpSyncReceived _ _ h rfl rfl rfl rfl
  | ptpAnnounceReceived best utcOffset =>
    exact keeps_execPtpAnnounceReceived _ _ _ h rfl rfl
  | syncTimeout =>
    exact keeps_execSyncTimeout _ h rfl rfl rfl rfl
  | weirStart d =>
    exact keeps_execWeirStart _ _ h rfl rfl rfl rfl rfl rfl rfl rfl rfl rfl rfl
  | weirDrained d =>
    exact keeps_execWeirDrained _ _ h rfl rfl rfl rfl rfl rfl rfl rfl rfl rfl rfl rfl rfl rfl rfl rfl rfl rfl
  | spillDrainDone d =>
    exact keeps_execSpillDrainDone _ _ h rfl rfl rfl rfl rfl rfl rfl rfl rfl rfl rfl rfl rfl rfl rfl rfl rfl rfl
  | windowOpen d aus =>
    exact keeps_execWindowOpen _ _ _ h rfl rfl rfl rfl rfl rfl rfl rfl rfl
  | windowDeadline d =>
    exact keeps_execWindowDeadline _ _ h rfl rfl rfl rfl rfl rfl
  | forcedWeir d =>
    exact keeps_execForcedWeir _ _ h rfl rfl rfl rfl rfl rfl rfl rfl rfl rfl rfl
  | drainPeriodExpired d =>
    exact keeps_execDrainPeriodExpired _ _ h rfl rfl rfl rfl rfl rfl rfl rfl rfl rfl rfl
  | drainPacedWeirDue d =>
    exact keeps_execDrainPacedWeirDue _ _ h rfl rfl rfl rfl rfl rfl rfl rfl rfl rfl rfl
  | inputHoldRelease d =>
    exact keeps_execInputHoldRelease _ _ h rfl rfl rfl rfl rfl rfl rfl rfl rfl rfl rfl rfl rfl rfl rfl rfl rfl rfl
  | weirPhaseWrite d w =>
    exact keeps_execWeirPhaseWrite _ _ _ h rfl rfl
  | guardNsWrite d w =>
    exact keeps_execGuardNsWrite _ _ _ h rfl rfl
  | modeReqWrite d m =>
    exact keeps_execModeReqWrite _ _ _ h rfl rfl rfl
  | sliceReleaseTime r =>
    exact keeps_execSliceReleaseTime _ _ h rfl
  | imageLoad o addr len =>
    exact keeps_execImageLoad _ _ _ _ h rfl rfl
  | imageCheckDone b =>
    exact keeps_execImageCheckDone _ _ h rfl rfl rfl rfl rfl rfl rfl rfl rfl rfl rfl rfl rfl rfl rfl rfl rfl
  | imageStatus o addr wrote =>
    exact keeps_execImageStatus _ _ _ _ h rfl
  | flashImageSelect a b =>
    exact keeps_execFlashImageSelect _ _ _ h rfl rfl rfl rfl rfl rfl rfl rfl rfl rfl rfl rfl rfl rfl rfl rfl rfl
  | imageInstall =>
    exact keeps_execImageInstall _ h rfl rfl rfl rfl rfl rfl rfl rfl rfl rfl rfl rfl rfl rfl rfl rfl
  | keyProgram slot =>
    exact keeps_execKeyProgram _ _ h rfl rfl rfl
  | keyRevoke slot =>
    exact keeps_execKeyRevoke _ _ h rfl rfl rfl
  | floorLock =>
    exact keeps_execFloorLock _ h rfl
  | queueEnable f q w =>
    exact keeps_execQueueEnable _ _ _ _ h rfl rfl rfl rfl rfl
  | sqTailDoorbell f q v whole =>
    exact keeps_execSqTailDoorbell _ _ _ _ _ h rfl
  | cqHeadDoorbell f q v whole =>
    exact keeps_execCqHeadDoorbell _ _ _ _ _ h rfl
  | commandFetch f q entry buf =>
    exact keeps_execCommandFetch _ _ _ _ _ h rfl rfl rfl rfl rfl rfl rfl rfl rfl rfl rfl rfl rfl rfl rfl
  | evqEnable f w =>
    exact keeps_execEvqEnable _ _ _ h rfl
  | evqHeadWrite f w =>
    exact keeps_execEvqHeadWrite _ _ _ h rfl
  | courseStart o c =>
    exact keeps_execCourseStart _ _ _ h rfl rfl rfl rfl rfl rfl rfl rfl rfl rfl
  | courseStop o c =>
    exact keeps_execCourseStop _ _ _ h rfl rfl rfl rfl rfl rfl rfl rfl rfl rfl
  | courseSet o c field value =>
    exact keeps_execCourseSet _ _ _ _ _ h rfl rfl rfl rfl rfl rfl rfl rfl rfl rfl
  | keyNow o c =>
    exact keeps_execKeyNow _ _ _ h rfl rfl rfl rfl rfl rfl rfl rfl rfl rfl
  | rcSet o r p =>
    exact keeps_execRcSet _ _ _ _ h rfl rfl rfl rfl rfl rfl rfl rfl rfl rfl
  | layerSet o c l p =>
    exact keeps_execLayerSet _ _ _ _ _ h rfl rfl rfl rfl rfl rfl rfl rfl rfl rfl
  | layerFlip o c l surface pitch =>
    exact keeps_execLayerFlip _ _ _ _ _ _ h rfl rfl rfl rfl rfl rfl rfl rfl rfl rfl
  | subAdd o b =>
    exact keeps_execSubAdd _ _ _ h rfl rfl
  | subDel o n =>
    exact keeps_execSubDel _ _ _ h rfl rfl
  | subSet o n p =>
    exact keeps_execSubSet _ _ _ _ h rfl rfl
  | serviceSetAdd o target resetTo b =>
    exact keeps_execServiceSetAdd _ _ _ _ _ h rfl rfl
  | serviceSetReplace o target resetTo b =>
    exact keeps_execServiceSetReplace _ _ _ _ _ h rfl rfl
  | serviceSetRemove o n =>
    exact keeps_execServiceSetRemove _ _ _ h rfl rfl
  | inflowAdd o b =>
    exact keeps_execInflowAdd _ _ _ h rfl rfl
  | inflowDel o n =>
    exact keeps_execInflowDel _ _ _ h rfl rfl
  | pCommandApply k =>
    exact keeps_execPCommandApply _ _ h rfl rfl rfl rfl rfl rfl rfl rfl rfl rfl rfl rfl rfl rfl
  | unitReset o src =>
    exact keeps_execUnitReset _ _ _ h rfl rfl rfl rfl rfl rfl rfl rfl
  | unitResetDone src cycles =>
    exact keeps_execUnitResetDone _ _ _ h rfl rfl rfl
  | unitRetire o src =>
    exact keeps_execUnitRetire _ _ _ h rfl rfl rfl rfl rfl rfl rfl rfl rfl rfl
  | pairCtlStatus o arg =>
    exact keeps_execPairCtlStatus _ _ _ h rfl
  | pairCtlHold o arg =>
    exact keeps_execPairCtlHold _ _ _ h rfl rfl
  | pairCtlYield o arg =>
    exact keeps_execPairCtlYield _ _ _ h rfl rfl rfl rfl
  | pairCtlHeal o arg =>
    exact keeps_execPairCtlHeal _ _ _ h rfl rfl
  | statsRead o scope target addr len wrote =>
    exact keeps_execStatsRead _ _ _ _ _ _ _ h rfl rfl rfl
  | testCtlEnterMaint o target scope =>
    exact keeps_execTestCtlEnterMaint _ _ _ _ h rfl rfl
  | testCtlLeaveMaint o target scope =>
    exact keeps_execTestCtlLeaveMaint _ _ _ _ h rfl rfl
  | testCtlInject o scope target kind addr arg =>
    exact keeps_execTestCtlInject _ _ _ _ _ _ _ h rfl rfl rfl rfl rfl rfl rfl rfl
  | functionLevelReset f =>
    exact keeps_execFunctionLevelReset _ _ h rfl rfl rfl rfl rfl rfl rfl rfl rfl rfl
  | vfEnableChanged n =>
    exact keeps_execVfEnableChanged _ _ h rfl rfl rfl rfl rfl rfl rfl rfl rfl rfl
  | linkUp rate width =>
    exact keeps_execLinkUp _ _ _ h rfl rfl
  | linkDown ltssm =>
    exact keeps_execLinkDown _ _ h rfl rfl
  | registerWrite f bar off len w =>
    exact keeps_execRegisterWrite _ _ _ _ _ _ h rfl rfl rfl rfl rfl rfl rfl rfl rfl rfl rfl rfl rfl rfl rfl rfl rfl rfl rfl rfl
        rfl
  | frameReceived port x desc =>
    exact keeps_execFrameReceived _ _ _ _ h rfl rfl rfl rfl rfl
  | portUp n =>
    exact keeps_execPortUp _ _ h rfl rfl
  | portDown n =>
    exact keeps_execPortDown _ _ h rfl rfl
  | mergeLegTimeout i =>
    exact keeps_execMergeLegTimeout _ _ h rfl rfl rfl
  | excRingEnable f tx w =>
    exact keeps_execExcRingEnable _ _ _ _ h rfl
  | excRxTailDoorbell f v =>
    exact keeps_execExcRxTailDoorbell _ _ _ h rfl rfl
  | excTxTailDoorbell f v =>
    exact keeps_execExcTxTailDoorbell _ _ _ h rfl rfl
  | excTxSend f desc frame =>
    exact keeps_execExcTxSend _ _ _ _ h rfl rfl rfl rfl rfl rfl
  | membershipReportTimer i =>
    exact keeps_execMembershipReportTimer _ _ h rfl rfl rfl
  | ftBindWrite f c k w =>
    exact keeps_execFtBindWrite _ _ _ _ _ h rfl rfl
  | ftWptrWrite c k w =>
    exact keeps_execFtWptrWrite _ _ _ _ h rfl
  | fountBandDone c k r =>
    exact keeps_execFountBandDone _ _ _ _ h rfl rfl rfl rfl rfl rfl rfl rfl rfl
  | ftStreamLossTimeout c k =>
    exact keeps_execFtStreamLossTimeout _ _ _ h rfl rfl rfl
  | bandReadStart x =>
    exact keeps_execBandReadStart _ _ h rfl rfl rfl rfl rfl
  | mereBandDone c faults =>
    exact keeps_execMereBandDone _ _ _ h rfl rfl rfl rfl rfl rfl rfl rfl rfl
  | cascadeBandDone c g =>
    exact keeps_execCascadeBandDone _ _ _ h rfl rfl rfl rfl rfl rfl rfl rfl rfl
  | hwBandDone c u =>
    exact keeps_execHwBandDone _ _ _ h rfl rfl rfl rfl rfl rfl rfl rfl rfl rfl
  | lutLoad c l w =>
    exact keeps_execLutLoad _ _ _ _ h rfl rfl
  | lutFetchDone c l =>
    exact keeps_execLutFetchDone _ _ _ h rfl rfl rfl
  | hinPost c k w =>
    exact keeps_execHinPost _ _ _ _ h rfl rfl rfl
  | protCheckDone c =>
    exact keeps_execProtCheckDone _ _ h rfl rfl rfl
  | protRegWrite f n c o w =>
    exact keeps_execProtRegWrite _ _ _ _ _ _ h rfl rfl
  | ctuCommit r g bits blocks =>
    exact keeps_execCtuCommit _ _ _ _ _ h rfl rfl rfl rfl rfl rfl rfl
  | residueMismatch n stage k =>
    exact keeps_execResidueMismatch _ _ _ _ h rfl rfl rfl rfl rfl
  | tarnWatchdog n =>
    exact keeps_execTarnWatchdog _ _ h rfl rfl rfl rfl rfl
  | fetchFault r g ctu kind =>
    exact keeps_execFetchFault _ _ _ _ _ h rfl rfl rfl
  | spillCtuDone k bits blocks =>
    exact keeps_execSpillCtuDone _ _ _ _ h rfl rfl rfl rfl rfl rfl rfl rfl rfl rfl rfl
  | emitUnit r g row nals items =>
    exact keeps_execEmitUnit _ _ _ _ _ _ h rfl rfl rfl rfl rfl rfl rfl
  | chunkRecordWrite r =>
    exact keeps_execChunkRecordWrite _ _ h rfl rfl rfl rfl
  | chunkHeadWrite c k w =>
    exact keeps_execChunkHeadWrite _ _ _ _ h rfl
  | chunkRingEnable c k w =>
    exact keeps_execChunkRingEnable _ _ _ _ h rfl
  | captionRingEnable c w =>
    exact keeps_execCaptionRingEnable _ _ _ h rfl
  | tsPcrKeepalive r =>
    exact keeps_execTsPcrKeepalive _ _ h rfl rfl rfl rfl
  | tsTableRepeat r =>
    exact keeps_execTsTableRepeat _ _ h rfl rfl rfl rfl
  | outflowSelect n =>
    exact keeps_execOutflowSelect _ _ h rfl rfl rfl rfl
  | portBucketApply n w =>
    exact keeps_execPortBucketApply _ _ _ h rfl rfl rfl
  | egressDrainDone =>
    exact keeps_execEgressDrainDone _ h rfl rfl rfl rfl
  | memRequest n pc a b =>
    exact keeps_execMemRequest _ _ _ _ _ h rfl rfl rfl rfl rfl rfl rfl
  | refreshDue n b =>
    exact keeps_execRefreshDue _ _ _ h rfl rfl rfl rfl
  | scrubRead n a b =>
    exact keeps_execScrubRead _ _ _ _ h rfl rfl rfl rfl rfl
  | laneRetrain n found =>
    exact keeps_execLaneRetrain _ _ _ h rfl rfl rfl
  | memTempChange stack hot =>
    exact keeps_execMemTempChange _ _ _ h rfl rfl
  | hbmTraining l =>
    exact keeps_execHbmTraining _ _ h rfl rfl rfl rfl rfl
  | srReqSet n =>
    exact keeps_execSrReqSet _ _ h rfl rfl rfl rfl rfl
  | srEntryDone n =>
    exact keeps_execSrEntryDone _ _ h rfl rfl rfl rfl rfl
  | srReqClear n =>
    exact keeps_execSrReqClear _ _ h rfl rfl rfl
  | fabricRequest t bar4 =>
    exact keeps_execFabricRequest _ _ _ h rfl rfl rfl rfl rfl rfl rfl rfl rfl rfl rfl rfl rfl rfl rfl rfl rfl rfl rfl rfl rfl
  | targetTimeout id =>
    exact keeps_execTargetTimeout _ _ h rfl rfl rfl rfl rfl rfl rfl rfl rfl rfl rfl rfl rfl rfl rfl rfl rfl rfl rfl rfl rfl
  | burstFinishDone m =>
    exact keeps_execBurstFinishDone _ _ h rfl rfl rfl
  | sluiceStart f i =>
    exact keeps_execSluiceStart _ _ _ h rfl rfl rfl rfl
  | sluiceDisable f i =>
    exact keeps_execSluiceDisable _ _ _ h rfl rfl rfl
  | sluiceAbort f i desc data moved =>
    exact keeps_execSluiceAbort _ _ _ _ _ _ h rfl rfl rfl rfl rfl rfl rfl rfl rfl rfl rfl rfl rfl rfl rfl rfl rfl rfl rfl rfl
        rfl
  | sluiceTimerTrigger g =>
    exact keeps_execSluiceTimerTrigger _ _ h rfl rfl rfl rfl rfl
  | sluiceSlotGrant slot =>
    exact keeps_execSluiceSlotGrant _ _ h rfl
  | sluiceDescriptorDone g fetched desc data moved fail =>
    exact keeps_execSluiceDescriptorDone _ _ _ _ _ _ _ h rfl rfl rfl rfl rfl rfl rfl rfl rfl rfl rfl rfl rfl rfl rfl rfl rfl
        rfl rfl rfl rfl
  | sluiceStatusPost g =>
    exact keeps_execSluiceStatusPost _ _ h rfl rfl rfl rfl
  | sluiceErrorEnd g =>
    exact keeps_execSluiceErrorEnd _ _ h rfl rfl rfl rfl
  | bceAcquire b f =>
    exact keeps_execBceAcquire _ _ _ h rfl
  | bceRelease b f =>
    exact keeps_execBceRelease _ _ _ h rfl
  | bceForceRelease b f =>
    exact keeps_execBceForceRelease _ _ _ h rfl rfl rfl rfl rfl
  | bceGo b f w =>
    exact keeps_execBceGo _ _ _ _ h rfl rfl rfl
  | bceComplete b target =>
    exact keeps_execBceComplete _ _ _ h rfl rfl rfl rfl rfl
  | chkDataW u w =>
    exact keeps_execChkDataW _ _ _ h rfl rfl rfl
  | chkDataB u w =>
    exact keeps_execChkDataB _ _ _ h rfl rfl rfl
  | chkPortWrite u f b =>
    exact keeps_execChkPortWrite _ _ _ _ h rfl rfl rfl
  | chkMsgEnd u =>
    exact keeps_execChkMsgEnd _ _ h rfl rfl rfl
  | chkRestart u =>
    exact keeps_execChkRestart _ _ h rfl
  | chkRunWrite u hi w =>
    exact keeps_execChkRunWrite _ _ _ _ h rfl
  | chkAliveCfgWrite u w =>
    exact keeps_execChkAliveCfgWrite _ _ _ h rfl rfl
  | chkOwnerWrite u w =>
    exact keeps_execChkOwnerWrite _ _ _ h rfl
  | actInChange level =>
    exact keeps_execActInChange _ _ h rfl rfl rfl rfl rfl rfl rfl rfl rfl rfl rfl rfl rfl rfl rfl rfl rfl rfl
  | claimHoldoffExpired =>
    exact keeps_execClaimHoldoffExpired _ h rfl rfl rfl
  | claimConfirmEnd =>
    exact keeps_execClaimConfirmEnd _ h rfl rfl rfl rfl rfl
  | takeoverGateOpen =>
    exact keeps_execTakeoverGateOpen _ h rfl rfl rfl rfl rfl rfl rfl rfl rfl rfl rfl rfl rfl rfl rfl rfl rfl rfl
  | noActiveTimeout =>
    exact keeps_execNoActiveTimeout _ h rfl rfl
  | watchdogExpiry =>
    exact keeps_execWatchdogExpiry _ h rfl rfl rfl rfl rfl
  | heartbeatSend =>
    exact keeps_execHeartbeatSend _ h rfl rfl rfl
  | heartbeatReceived b fcs =>
    exact keeps_execHeartbeatReceived _ _ _ h rfl rfl rfl
  | heartbeatIntervalMissed =>
    exact keeps_execHeartbeatIntervalMissed _ h rfl rfl rfl rfl
  | snapshotReceived x crcOk =>
    exact keeps_execSnapshotReceived _ _ _ h rfl rfl rfl rfl rfl rfl rfl rfl rfl rfl rfl rfl rfl rfl rfl rfl rfl rfl
  | snapshotWaitTimeout d =>
    exact keeps_execSnapshotWaitTimeout _ _ h rfl rfl rfl rfl rfl rfl rfl rfl rfl rfl rfl rfl rfl rfl rfl rfl rfl rfl
  | pairImageReceived b =>
    exact keeps_execPairImageReceived _ _ h rfl rfl rfl
  | healListReceived rends =>
    exact keeps_execHealListReceived _ _ h rfl
  | healReceived m =>
    exact keeps_execHealReceived _ _ h rfl rfl rfl rfl
  | sramError src index kind a =>
    exact keeps_execSramError _ _ _ _ _ h rfl rfl rfl rfl rfl rfl rfl rfl rfl rfl rfl
  | unitResidueMismatch src k =>
    exact keeps_execUnitResidueMismatch _ _ _ h rfl rfl rfl rfl rfl rfl rfl
  | spillwayCompareMismatch k =>
    exact keeps_execSpillwayCompareMismatch _ _ h rfl rfl rfl rfl rfl rfl rfl rfl rfl rfl
  | fatalCondition cause =>
    exact keeps_execFatalCondition _ _ h rfl rfl rfl rfl rfl rfl rfl rfl
  | thermalSample die hbm =>
    exact keeps_execThermalSample _ _ _ h rfl rfl rfl rfl rfl rfl rfl rfl
  | thermStepReleaseTimer k =>
    exact keeps_execThermStepReleaseTimer _ _ h rfl rfl
  | sysResetAssert =>
    exact keeps_execSysResetAssert _ h rfl rfl rfl rfl rfl rfl rfl rfl rfl rfl rfl rfl rfl rfl rfl rfl rfl rfl rfl rfl
  | sysResetDeassert seat =>
    exact keeps_execSysResetDeassert _ _ h rfl rfl rfl rfl rfl rfl rfl rfl rfl rfl rfl rfl rfl rfl rfl rfl rfl rfl rfl rfl
  | deviceReset w =>
    exact keeps_execDeviceReset _ _ h rfl rfl rfl rfl rfl rfl rfl rfl rfl rfl rfl rfl rfl rfl rfl rfl rfl rfl rfl rfl
  | perstAssert =>
    exact keeps_execPerstAssert _ h rfl rfl rfl rfl rfl rfl rfl rfl rfl rfl rfl
  | perstDeassert =>
    exact keeps_execPerstDeassert _ h rfl
  | trstAssert =>
    exact keeps_execTrstAssert _ h rfl
  | supplyLoss =>
    exact keeps_execSupplyLoss _ h rfl rfl rfl rfl rfl rfl rfl rfl rfl rfl rfl rfl rfl rfl rfl rfl rfl rfl rfl rfl
  | firmwareVerify a b ack =>
    exact keeps_execFirmwareVerify _ _ _ _ h rfl rfl rfl
  | startupTimeout lanes =>
    exact keeps_execStartupTimeout _ _ h rfl rfl rfl rfl rfl rfl rfl
  | pwrReqWrite w =>
    exact keeps_execPwrReqWrite _ _ h rfl rfl rfl rfl rfl rfl rfl
  | flashErase =>
    exact keeps_execFlashErase _ h rfl rfl
  | flashProgram =>
    exact keeps_execFlashProgram _ h rfl rfl
  | flashRead =>
    exact keeps_execFlashRead _ h rfl rfl
  | flashOpDone ok data =>
    exact keeps_execFlashOpDone _ _ _ h rfl rfl
  | laneCalibrationDone n ok =>
    exact keeps_execLaneCalibrationDone _ _ _ h rfl rfl rfl
  | laneSignalDetect n =>
    exact keeps_execLaneSignalDetect _ _ h rfl
  | lanePolaritySwitch n =>
    exact keeps_execLanePolaritySwitch _ _ h rfl rfl
  | laneAlignmentLock n logical own =>
    exact keeps_execLaneAlignmentLock _ _ _ _ h rfl rfl rfl
  | laneAcquireTimeout n =>
    exact keeps_execLaneAcquireTimeout _ _ h rfl rfl rfl rfl
  | guavoLaneTimeout n =>
    exact keeps_execGuavoLaneTimeout _ _ h rfl rfl rfl rfl
  | laneRetryTimer n =>
    exact keeps_execLaneRetryTimer _ _ h rfl rfl
  | laneLossOfLock n =>
    exact keeps_execLaneLossOfLock _ _ h rfl rfl rfl rfl
  | laneIdleExit n =>
    exact keeps_execLaneIdleExit _ _ h rfl
  | laneIdleRelockTimeout n =>
    exact keeps_execLaneIdleRelockTimeout _ _ h rfl rfl
  | ltUpdate n a b =>
    exact keeps_execLtUpdate _ _ _ _ h rfl
  | ltTimeout n =>
    exact keeps_execLtTimeout _ _ h rfl rfl
  | txFfeWrite n second w =>
    exact keeps_execTxFfeWrite _ _ _ _ h rfl rfl
  | laneCfgWrite n w =>
    exact keeps_execLaneCfgWrite _ _ _ h rfl rfl rfl rfl
  | patternWrite n w =>
    exact keeps_execPatternWrite _ _ _ h rfl rfl rfl rfl
  | marginStart n =>
    exact keeps_execMarginStart _ _ h rfl
  | marginComplete n left right vert =>
    exact keeps_execMarginComplete _ _ _ _ _ h rfl rfl rfl
  | avsAdjust mv ack =>
    exact keeps_execAvsAdjust _ _ _ h rfl rfl rfl rfl
  | supplyExcursion rail mv long =>
    exact keeps_execSupplyExcursion _ _ _ _ h rfl rfl rfl rfl rfl rfl rfl rfl rfl
  | smbusCommand off =>
    exact keeps_execSmbusCommand _ _ h rfl rfl rfl
  | registerRead f bar off len =>
    exact keeps_execRegisterRead _ _ _ _ _ h rfl rfl rfl rfl
  | functionPowerState f d3 =>
    exact keeps_execFunctionPowerState _ _ _ h rfl

/-! ### Step -/

theorem keeps_tick (s : State) (h : Keeps sc s0 s) (hclk : sc.clk = true) (htime : sc.time = true) (himg : sc.img = true)
    (hslots : sc.slots = true) (hunits : sc.units = true) (hreset : sc.reset = true) (hmem : sc.mem = true) (hregs : sc.regs =
    true) (hout : sc.out = true) (hweir : sc.weir = true) (hhost : sc.host = true) (hst : sc.st = true) (hcourses : sc.courses
    = true) (hcoders : sc.coders = true) (hemit : sc.emit = true) (hmemsys : sc.memsys = true) (hdma : sc.dma = true) (hpair :
    sc.pair = true) (hlanes : sc.lanes = true) (hboot : sc.boot = true) (hras : sc.ras = true) : Keeps sc s0 (State.tick s) :=
    by
  unfold State.tick
  repeat' first
      | (with_reducible first
          | assumption
          | apply keeps_allGrants
          | apply keeps_cycles
          | refine keeps_ite ?_ ?_
          | apply keeps_foldl)
      | split
      | (with_reducible apply keeps_upd; (with_reducible first
          | assumption
          | apply keeps_allGrants
          | apply keeps_cycles
          | apply keeps_foldl
          | split))
      | (with_reducible first
          | exact Held.refl _
          | exact TimeStep.refl _
          | exact ImgStep.refl _
          | exact UnitStep.refl _ _
          | exact MemStep.refl _
          | exact Held.write hregs
          | exact Held.write hout
          | exact Held.write hweir
          | exact Held.write hhost
          | exact Held.write hst
          | exact Held.write hcourses
          | exact Held.write hcoders
          | exact Held.write hemit
          | exact Held.write hmemsys
          | exact Held.write hdma
          | exact Held.write hpair
          | exact Held.write hlanes
          | exact Held.write hboot
          | exact Held.write hras)
      | exact TimeStep.of htime rfl rfl
      | exact fun _ => rfl
      | exact fun _ t => TimeUnit.inRange_of rfl rfl t
      | exact ImgStep.of_slots himg rfl
      | (with_reducible refine MemStep.write hmem (Mem.wf_puts _ _ _))
      | (with_reducible refine MemStep.write hmem (Mem.wf_putEnabled _ _ _))
      | intro _
      | dsimp only

end Sys2Proof.Machine
end

