-- ==== Sys2Proof/WellFormed.lean ====
section
/-! DEFINITION. WellFormed.lean: the ranges that the operands of a command have in the spec. A command is well formed when
each number names something the part can hold; the meanings are total and leave the state as it is on other numbers. What a
command of a submission entry may hold (course, rendition, layer and unit numbers) is no matter of form: R128 checks it. -/

namespace Sys2Proof.WellFormed
open Sys2Proof.Machine

/-- A PCIe function (R113). -/
def isFunction (n : Nat) : Bool := decide (n < 64)
/-- A submission queue (R119). -/
def isQueue (n : Nat) : Bool := decide (n < 8)
/-- A course (R86). -/
def isCourse (n : Nat) : Bool := decide (n < 64)
/-- A rendition (R90). -/
def isRendition (n : Nat) : Bool := decide (n < 512)
/-- A port (R143). -/
def isPort (n : Nat) : Bool := decide (n < 16)
/-- A tick domain (R50). -/
def isDomain (n : Nat) : Bool := decide (n < 8)
/-- A compare unit (R41). -/
def isCompare (n : Nat) : Bool := decide (n < 16)
/-- An output pin of the time unit (R44). -/
def isTimePin (n : Nat) : Bool := decide (n < 5)
/-- An ingress flow (R94). -/
def isInflow (n : Nat) : Bool := decide (n < 1024)
/-- One of four: an input of a course (R87), a key slot (R97), a mode (R53). -/
def isInput (n : Nat) : Bool := decide (n < 4)
/-- A check unit (R374). -/
def isCheck (n : Nat) : Bool := decide (n < 16)
/-- One of eight units: Headwater, Mere, Cascade, Fount. -/
def isEight (n : Nat) : Bool := decide (n < 8)
/-- A table: of a layer, or 15 for the post-blend stage (R199). -/
def isTable (n : Nat) : Bool := decide (n < 12 ∨ n = 15)
/-- A segment of a rendition (R91). -/
def isSegment (n : Nat) : Bool := decide (n < 16)
/-- A segment whose unit is emitted, or 16 for a frame coded before and shown (R284). -/
def isShown (n : Nat) : Bool := decide (n ≤ 16)
/-- A Tarn. -/
def isTarn (n : Nat) : Bool := decide (n < 36)
/-- A Spillway unit (R277). -/
def isSpill (n : Nat) : Bool := decide (n < 9)
/-- A rendition slot of a course (12). -/
def isRendSlot (n : Nat) : Bool := decide (n < 48)
/-- A memory channel (R320). -/
def isChannel (n : Nat) : Bool := decide (n < 32)
/-- One of two: a pseudo-channel, a block copy engine. -/
def isHalf (n : Nat) : Bool := decide (n < 2)
/-- An HBM stack. -/
def isStack (n : Nat) : Bool := decide (n < 2)
/-- A master of Confluence (R84). -/
def isMaster (n : Nat) : Bool := decide (n < 22)
/-- A Sluice channel (R354). -/
def isSluice (n : Nat) : Bool := decide (n < 64)
/-- A slot of the Basin (R354). -/
def isBasin (n : Nat) : Bool := decide (n < 32)
/-- A high-speed lane (R436). -/
def isLane (n : Nat) : Bool := decide (n < 52)
/-- A BAR that holds registers (R114). -/
def isBar (n : Nat) : Bool := decide (n = 0 ∨ n = 2)
/-- A bank of a channel (R321). -/
def isBank (n : Nat) : Bool := decide (n < 96)
/-- A thermal step (R416). -/
def isStep (n : Nat) : Bool := decide (1 ≤ n ∧ n ≤ 2)
/-- Where a command comes from: a function, one of its queues, a 16-bit tag. -/
def isOrigin (o : Origin) : Bool := isFunction o.fn && isQueue o.q && decide (o.tag < 65536)
/-- A transaction of a master that fits one page of 4 KiB (R343). -/
def isTxn (t : Txn) : Bool := isMaster t.master && decide (1 ≤ t.len) && decide (t.addr % 4096 + t.len ≤ 4096)

/-- The well-formed commands. -/
def wf : Instr → Bool
  | .timeLoad _ => true
  | .timeStep _ => true
  | .timeOpEffect => true
  | .timeAddendWrite _ => true
  | .timeServoSelect _ => true
  | .hostLockSet _ => true
  | .utcCfgWrite _ => true
  | .nowNsRead => true
  | .txtsPop port => isPort port
  | .compareFire m => isCompare m
  | .cmpTgtLoWrite m _ => isCompare m
  | .cmpTgtHiWrite m _ => isCompare m
  | .cmpArmedWrite m _ => isCompare m
  | .outputPulseEnd k => isTimePin k
  | .ppsInEdge => true
  | .ppsInTimeout => true
  | .freq10mCountDone _ => true
  | .ptpSyncReceived _ => true
  | .ptpAnnounceReceived _ _ => true
  | .syncTimeout => true
  | .weirStart d => isDomain d
  | .weirDrained d => isDomain d
  | .spillDrainDone d => isDomain d
  | .windowOpen d _ => isDomain d
  | .windowDeadline d => isDomain d
  | .forcedWeir d => isDomain d
  | .drainPeriodExpired d => isDomain d
  | .drainPacedWeirDue d => isDomain d
  | .inputHoldRelease d => isDomain d
  | .weirPhaseWrite d _ => isDomain d
  | .guardNsWrite d _ => isDomain d
  | .modeReqWrite d m => isDomain d && isInput m
  | .sliceReleaseTime r => isRendition r
  | .imageLoad o _ _ => isOrigin o
  | .imageCheckDone _ => true
  | .imageStatus o _ _ => isOrigin o
  | .flashImageSelect _ _ => true
  | .imageInstall => true
  | .keyProgram slot => isInput slot
  | .keyRevoke slot => isInput slot
  | .floorLock => true
  | .queueEnable f q _ => isFunction f && isQueue q
  | .sqTailDoorbell f q _ _ => isFunction f && isQueue q
  | .cqHeadDoorbell f q _ _ => isFunction f && isQueue q
  | .commandFetch f q _ _ => isFunction f && isQueue q
  | .evqEnable f _ => isFunction f
  | .evqHeadWrite f _ => isFunction f
  | .courseStart o _ => isOrigin o
  | .courseStop o _ => isOrigin o
  | .courseSet o _ _ _ => isOrigin o
  | .keyNow o _ => isOrigin o
  | .rcSet o _ _ => isOrigin o
  | .layerSet o _ _ _ => isOrigin o
  | .layerFlip o _ _ _ _ => isOrigin o
  | .subAdd o _ => isOrigin o
  | .subDel o _ => isOrigin o
  | .subSet o _ _ => isOrigin o
  | .serviceSetAdd o _ _ _ => isOrigin o
  | .serviceSetReplace o _ _ _ => isOrigin o
  | .serviceSetRemove o _ => isOrigin o
  | .inflowAdd o _ => isOrigin o
  | .inflowDel o _ => isOrigin o
  | .pCommandApply _ => true
  | .unitReset o _ => isOrigin o
  | .unitResetDone _ _ => true
  | .unitRetire o _ => isOrigin o
  | .pairCtlStatus o _ => isOrigin o
  | .pairCtlHold o _ => isOrigin o
  | .pairCtlYield o _ => isOrigin o
  | .pairCtlHeal o _ => isOrigin o
  | .statsRead o _ _ _ _ _ => isOrigin o
  | .testCtlEnterMaint o _ _ => isOrigin o
  | .testCtlLeaveMaint o _ _ => isOrigin o
  | .testCtlInject o _ _ _ _ _ => isOrigin o
  | .functionLevelReset f => isFunction f
  | .vfEnableChanged n => isFunction n
  | .linkUp _ _ => true
  | .linkDown _ => true
  | .registerWrite f bar _ _ _ => isFunction f && isBar bar
  | .frameReceived port _ _ => isPort port
  | .portUp n => isPort n
  | .portDown n => isPort n
  | .mergeLegTimeout i => isInflow i
  | .excRingEnable f _ _ => isFunction f
  | .excRxTailDoorbell f _ => isFunction f
  | .excTxTailDoorbell f _ => isFunction f
  | .excTxSend f _ _ => isFunction f
  | .membershipReportTimer i => isInflow i
  | .ftBindWrite f c k _ => isFunction f && isCourse c && isInput k
  | .ftWptrWrite c k _ => isCourse c && isInput k
  | .fountBandDone c k _ => isCourse c && isInput k
  | .ftStreamLossTimeout c k => isCourse c && isInput k
  | .bandReadStart _ => true
  | .mereBandDone c _ => isCourse c
  | .cascadeBandDone c g => isCourse c && isEight g
  | .hwBandDone c u => isCourse c && isEight u
  | .lutLoad c l _ => isCourse c && isTable l
  | .lutFetchDone c l => isCourse c && isTable l
  | .hinPost c k _ => isCourse c && isInput k
  | .protCheckDone c => isCourse c
  | .protRegWrite f n c _ _ => isFunction f && isFunction n && isCourse c
  | .ctuCommit r g _ _ => isRendition r && isSegment g
  | .residueMismatch n _ _ => isTarn n
  | .tarnWatchdog n => isTarn n
  | .fetchFault r g _ _ => isRendition r && isSegment g
  | .spillCtuDone k _ _ => isSpill k
  | .emitUnit r g _ _ _ => isRendition r && isShown g
  | .chunkRecordWrite r => isRendition r
  | .chunkHeadWrite c k _ => isCourse c && isRendSlot k
  | .chunkRingEnable c k _ => isCourse c && isRendSlot k
  | .captionRingEnable c _ => isCourse c
  | .tsPcrKeepalive r => isRendition r
  | .tsTableRepeat r => isRendition r
  | .outflowSelect n => isPort n
  | .portBucketApply n _ => isPort n
  | .egressDrainDone => true
  | .memRequest n pc _ _ => isChannel n && isHalf pc
  | .refreshDue n b => isChannel n && isBank b
  | .scrubRead n _ _ => isChannel n
  | .laneRetrain n _ => isChannel n
  | .memTempChange stack _ => isStack stack
  | .hbmTraining _ => true
  | .srReqSet n => isChannel n
  | .srEntryDone n => isChannel n
  | .srReqClear n => isChannel n
  | .fabricRequest t _ => isTxn t
  | .targetTimeout _ => true
  | .burstFinishDone m => isMaster m
  | .sluiceStart f i => isFunction f && isSluice i
  | .sluiceDisable f i => isFunction f && isSluice i
  | .sluiceAbort f i _ _ _ => isFunction f && isSluice i
  | .sluiceTimerTrigger g => isSluice g
  | .sluiceSlotGrant slot => isBasin slot
  | .sluiceDescriptorDone g _ _ _ _ _ => isSluice g
  | .sluiceStatusPost g => isSluice g
  | .sluiceErrorEnd g => isSluice g
  | .bceAcquire b f => isHalf b && isFunction f
  | .bceRelease b f => isHalf b && isFunction f
  | .bceForceRelease b f => isHalf b && isFunction f
  | .bceGo b f _ => isHalf b && isFunction f
  | .bceComplete b _ => isHalf b
  | .chkDataW u _ => isCheck u
  | .chkDataB u _ => isCheck u
  | .chkPortWrite u f _ => isCheck u && isFunction f
  | .chkMsgEnd u => isCheck u
  | .chkRestart u => isCheck u
  | .chkRunWrite u _ _ => isCheck u
  | .chkAliveCfgWrite u _ => isCheck u
  | .chkOwnerWrite u _ => isCheck u
  | .actInChange _ => true
  | .claimHoldoffExpired => true
  | .claimConfirmEnd => true
  | .takeoverGateOpen => true
  | .noActiveTimeout => true
  | .watchdogExpiry => true
  | .heartbeatSend => true
  | .heartbeatReceived _ _ => true
  | .heartbeatIntervalMissed => true
  | .snapshotReceived _ _ => true
  | .snapshotWaitTimeout d => isDomain d
  | .pairImageReceived _ => true
  | .healListReceived _ => true
  | .healReceived _ => true
  | .sramError _ _ _ _ => true
  | .unitResidueMismatch _ _ => true
  | .spillwayCompareMismatch k => isSpill k
  | .fatalCondition _ => true
  | .thermalSample _ _ => true
  | .thermStepReleaseTimer k => isStep k
  | .sysResetAssert => true
  | .sysResetDeassert _ => true
  | .deviceReset _ => true
  | .perstAssert => true
  | .perstDeassert => true
  | .trstAssert => true
  | .supplyLoss => true
  | .firmwareVerify _ _ _ => true
  | .startupTimeout _ => true
  | .pwrReqWrite _ => true
  | .flashErase => true
  | .flashProgram => true
  | .flashRead => true
  | .flashOpDone _ _ => true
  | .laneCalibrationDone n _ => isLane n
  | .laneSignalDetect n => isLane n
  | .lanePolaritySwitch n => isLane n
  | .laneAlignmentLock n _ _ => isLane n
  | .laneAcquireTimeout n => isLane n
  | .guavoLaneTimeout n => isLane n
  | .laneRetryTimer n => isLane n
  | .laneLossOfLock n => isLane n
  | .laneIdleExit n => isLane n
  | .laneIdleRelockTimeout n => isLane n
  | .ltUpdate n _ _ => isLane n
  | .ltTimeout n => isLane n
  | .txFfeWrite n _ _ => isLane n
  | .laneCfgWrite n _ => isLane n
  | .patternWrite n _ => isLane n
  | .marginStart n => isLane n
  | .marginComplete n _ _ _ => isLane n
  | .avsAdjust _ _ => true
  | .supplyExcursion _ _ _ => true
  | .smbusCommand _ => true
  | .registerRead f bar _ _ => isFunction f && isBar bar
  | .functionPowerState f _ => isFunction f

end Sys2Proof.WellFormed
end

