-- ==== Sys2Proof/Tests/Slice0.lean ====
section
/-! SUPPORT. Slice0.lean: the smoke tests of WellFormed and Decode, and for every statement of Obligations.lean a concrete
state and operands that meet its hypotheses, together with what its clause says of them. -/

namespace Sys2Proof.Tests
open Sys2Proof Sys2Proof.Machine

set_option Elab.async false

/-- The command answers a next state, and it satisfies `p`. -/
def after (i : Instr) (s : State) (p : State → Bool) : Bool := match exec i s with | .next t => p t | _ => false

/-- The command answers exactly this state. -/
def gives (i : Instr) (s t : State) : Bool := after i s (fun u => decide (u = t))

/-! ### Operands out of range are ill formed -/

theorem test_wf_function : WellFormed.wf (.functionLevelReset 63) = true ∧ WellFormed.wf (.functionLevelReset 64) = false := by decide
theorem test_wf_queue : WellFormed.wf (.queueEnable 0 7 0) = true ∧ WellFormed.wf (.queueEnable 0 8 0) = false := by decide
theorem test_wf_course : WellFormed.wf (.mereBandDone 63 []) = true ∧ WellFormed.wf (.mereBandDone 64 []) = false := by decide
theorem test_wf_rendition : WellFormed.wf (.sliceReleaseTime 511) = true ∧ WellFormed.wf (.sliceReleaseTime 512) = false := by decide
theorem test_wf_port : WellFormed.wf (.txtsPop 15) = true ∧ WellFormed.wf (.txtsPop 16) = false := by decide
theorem test_wf_domain : WellFormed.wf (.weirStart 7) = true ∧ WellFormed.wf (.weirStart 8) = false := by decide
theorem test_wf_compare : WellFormed.wf (.compareFire 15) = true ∧ WellFormed.wf (.compareFire 16) = false := by decide
theorem test_wf_timePin : WellFormed.wf (.outputPulseEnd 4) = true ∧ WellFormed.wf (.outputPulseEnd 5) = false := by decide
theorem test_wf_inflow : WellFormed.wf (.mergeLegTimeout 1023) = true ∧ WellFormed.wf (.mergeLegTimeout 1024) = false := by decide
theorem test_wf_input : WellFormed.wf (.keyProgram 3) = true ∧ WellFormed.wf (.keyProgram 4) = false := by decide
theorem test_wf_check : WellFormed.wf (.chkMsgEnd 15) = true ∧ WellFormed.wf (.chkMsgEnd 16) = false := by decide
theorem test_wf_eight : WellFormed.wf (.hwBandDone 0 7) = true ∧ WellFormed.wf (.hwBandDone 0 8) = false := by decide
theorem test_wf_table : WellFormed.wf (.lutLoad 0 15 1) = true ∧ WellFormed.wf (.lutLoad 0 12 1) = false := by decide
theorem test_wf_segment : WellFormed.wf (.ctuCommit 0 15 0 []) = true ∧ WellFormed.wf (.ctuCommit 0 16 0 []) = false := by decide
theorem test_wf_shown : WellFormed.wf (.emitUnit 0 16 0 [] {}) = true ∧ WellFormed.wf (.emitUnit 0 17 0 [] {}) = false := by decide
theorem test_wf_tarn : WellFormed.wf (.tarnWatchdog 35) = true ∧ WellFormed.wf (.tarnWatchdog 36) = false := by decide
theorem test_wf_spill : WellFormed.wf (.spillCtuDone 8 0 []) = true ∧ WellFormed.wf (.spillCtuDone 9 0 []) = false := by decide
theorem test_wf_rendSlot : WellFormed.wf (.chunkHeadWrite 0 47 0) = true ∧ WellFormed.wf (.chunkHeadWrite 0 48 0) = false := by decide
theorem test_wf_channel : WellFormed.wf (.srReqSet 31) = true ∧ WellFormed.wf (.srReqSet 32) = false := by decide
theorem test_wf_half : WellFormed.wf (.bceAcquire 1 0) = true ∧ WellFormed.wf (.bceAcquire 2 0) = false := by decide
theorem test_wf_stack : WellFormed.wf (.memTempChange 1 true) = true ∧ WellFormed.wf (.memTempChange 2 true) = false := by decide
theorem test_wf_master : WellFormed.wf (.burstFinishDone 21) = true ∧ WellFormed.wf (.burstFinishDone 22) = false := by decide
theorem test_wf_sluice : WellFormed.wf (.sluiceStatusPost 63) = true ∧ WellFormed.wf (.sluiceStatusPost 64) = false := by decide
theorem test_wf_basin : WellFormed.wf (.sluiceSlotGrant 31) = true ∧ WellFormed.wf (.sluiceSlotGrant 32) = false := by decide
theorem test_wf_lane : WellFormed.wf (.marginStart 51) = true ∧ WellFormed.wf (.marginStart 52) = false := by decide
theorem test_wf_bar : WellFormed.wf (.registerRead 0 2 0 4) = true ∧ WellFormed.wf (.registerRead 0 1 0 4) = false := by decide
theorem test_wf_bank : WellFormed.wf (.refreshDue 0 95) = true ∧ WellFormed.wf (.refreshDue 0 96) = false := by decide
theorem test_wf_step : WellFormed.wf (.thermStepReleaseTimer 1) = true ∧ WellFormed.wf (.thermStepReleaseTimer 0) = false := by decide
theorem test_wf_origin : WellFormed.wf (.keyNow { tag := 65535 } 0) = true ∧ WellFormed.wf (.keyNow { tag := 65536 } 0) = false := by decide
theorem test_wf_txn : WellFormed.wf (.fabricRequest { addr := 4095, len := 1 } false) = true ∧
    WellFormed.wf (.fabricRequest { addr := 4095, len := 2 } false) = false := by decide

/-! ### 00: the step and the invariant -/

/-- A state that meets the invariant, with a command in front. -/
theorem witness_step_keeps : Mem.wf State.reset.mem = true ∧ State.reset.img.slotProgrammed.getD 0 false = true ∧
    State.reset.img.slotRevoked.getD 0 false = false ∧ State.reset.time.phc.ns < 1000000000 ∧
    (match step { State.reset with pending := [.nowNsRead] } with | .next t => t.pending == [] && t.out == [.read 0] | _ => false) = true := by
  decide +kernel
/-- A command that answers a next state; an idle step. -/
theorem witness_frame : after .floorLock State.reset (fun t => t.img.floorLocked && decide (t.regs = State.reset.regs)) = true ∧
    State.reset.pending = [] ∧ (∀ g ∈ List.range 64, (State.reset.tport g).waiting = []) ∧
    (match step State.reset with | .next t => t.now == 1 | _ => false) = true := by decide +kernel

/-- R28 at its boundaries: no carry; a carry; the end of a second; the wrap of SECONDS. -/
theorem witness_phc : let go := fun (p : PhcTime) => (({ State.reset with time := { phc := p } } : State).cycles 1).time.phc
    go { sec := 3, ns := 4, frac := 1431655764 } = { sec := 3, ns := 4, frac := 4294967295 } ∧
    go { sec := 3, ns := 4, frac := 1431655765 } = { sec := 3, ns := 5, frac := 0 } ∧
    go { sec := 3, ns := 999999999, frac := 1431655765 } = { sec := 4, ns := 0, frac := 0 } ∧
    go { sec := 2 ^ 48 - 1, ns := 999999999, frac := 4294967295 } = { sec := 0, ns := 0, frac := 2863311530 } := by decide +kernel

/-! ### 01: the time unit (02) -/

def host : State := { State.reset with regs := [(glb 0x28, 1), (timeReg 0, 32)] }

theorem witness_addend : host.hostMode = true ∧ State.reset.hostMode = false ∧
    after (.timeAddendWrite 2866174844) host (fun t => t.addend == 2866174843) = true ∧
    after (.timeAddendWrite 2860448218) host (fun t => t.addend == 2860448219) = true ∧
    after (.timeAddendWrite 2863311530) host (fun t => t.addend == 2863311530 &&
      (t.cycles 1).time.phc == phcAdvance host.time.phc 2863311530 1) = true ∧
    gives (.timeAddendWrite 5) State.reset (State.reset.ev 0x0107 0x4000 0x020) = true := by decide +kernel
theorem witness_servo : bit (32#32).toNat 5 = true ∧
    after (.timeServoSelect 32) { State.reset with time := { servoUtc := 37 } } (fun t => t.hostMode && t.utcOffset == 0 && t.time.servoUtc == 37) = true ∧
    after (.timeServoSelect 0) { host with time := { servoUtc := 37 } } (fun t => !t.hostMode && t.utcOffset == 37) = true ∧
    after (.hostLockSet 0xA0) State.reset (fun t => t.time.lock == 2) = true ∧
    after (.utcCfgWrite 0x125) host (fun t => t.utcOffset == 0x25) = true := by decide +kernel
theorem witness_load : host.hostMode = true ∧ bit (1#32).toNat 0 = true ∧ bit (1#32).toNat 1 = false ∧
    after (.timeLoad 1) { host with regs := host.regs.set (timeReg 0x024) 5 |>.set (timeReg 0x028) 7 } (fun t => t.time.ops == [.load 2 7 5]) = true ∧
    after (.timeStep 2) { host with regs := (host.regs.set (timeReg 0x030) 0xFFFFFFFF).set (timeReg 0x034) 0xFFFFFFFF }
      (fun t => t.time.ops == [.step 2 (-1)]) = true := by decide +kernel
theorem witness_op_effect :
    after .timeOpEffect { State.reset with time := { ops := [.load 2 7 5] } } (fun t => t.time.phc == { sec := 7, ns := 5, frac := 0 } && t.time.ops == [] && t.now == 2) = true ∧
    after .timeOpEffect { State.reset with time := { ops := [.step 2 (-2)] } } (fun t => t.time.phc.sec == 2 ^ 48 - 1 && t.time.phc.ns == 999999999 && t.time.ops == []) = true ∧
    after .timeOpEffect { State.reset with time := { ops := [.load 2 7 5, .step 2 100] } } (fun t => t.time.phc == { sec := 7, ns := 5, frac := 0 } && t.time.ops == []) = true ∧
    after .timeOpEffect { State.reset with time := { ops := [.step 2 100, .load 2 7 5] } } (fun t => t.time.phc == { sec := 7, ns := 5, frac := 0 }) = true := by decide +kernel
theorem witness_reads :
    after .nowNsRead { State.reset with time := { phc := { sec := 2 ^ 32 + 9, ns := 17, frac := 2 ^ 16 } } } (fun t => t.out == [.read 17] &&
      t.rd (timeReg 0x014) == 9 && t.rd (timeReg 0x018) == 1 && t.rd (timeReg 0x01C) == 1) = true ∧
    after (.txtsPop 3) { State.reset with time := { txts := [(3, [{ id := 6, t := { sec := 1, ns := 2, frac := 2 } }])] } } (fun t =>
      t.time.txts.get 3 == [] && t.out == [.read 0x80000006] && t.rd (timePort 3 0x10) == 2 && t.rd (timePort 3 0x14) == 1 && t.rd (timePort 3 0x18) == 0x20000) = true ∧
    State.reset.time.txts.get 3 = [] ∧ gives (.txtsPop 3) State.reset (State.reset.emit (.read 0)) = true := by decide +kernel
theorem witness_cmp :
    after (.cmpTgtLoWrite 8 5) State.reset (fun t => (t.time.cmps.get 8).staged == 5 && !(t.time.cmps.get 8).armed) = true ∧
    after (.cmpTgtHiWrite 15 1) { State.reset with time := { cmps := [(15, { staged := 5 })] } } (fun t => (t.time.cmps.get 15).target == 2 ^ 32 + 5 && (t.time.cmps.get 15).armed) = true ∧
    after (.cmpArmedWrite 8 2) { State.reset with time := { cmps := [(8, { armed := true, fired := true })] } } (fun t => !(t.time.cmps.get 8).armed && !(t.time.cmps.get 8).fired) = true ∧
    gives (.cmpTgtHiWrite 7 1) State.reset State.reset = true ∧ gives (.cmpArmedWrite 7 1) State.reset State.reset = true ∧
    gives (.cmpTgtLoWrite 7 1) State.reset State.reset = true := by decide +kernel
theorem witness_fire : let s := { State.reset with time := { cmps := [(8, { target := 20, interval := 8, armed := true }), (9, { target := 20, armed := true })] } }
    (s.time.cmps.get 8).armed = true ∧ after (.compareFire 8) s (fun t => (t.time.cmps.get 8).fired && (t.time.cmps.get 8).armed && (t.time.cmps.get 8).target == 28 &&
      t.now == 30 && t.time.phc.ns == 20) = true ∧
    after (.compareFire 9) s (fun t => (t.time.cmps.get 9).fired && !(t.time.cmps.get 9).armed) = true := by decide +kernel
theorem witness_pulse : let s := { State.reset with time := { pins := [(4, { level := true, rise := 3, fall := 10 })] } }
    (s.time.pins.get 4).level = true ∧ after (.outputPulseEnd 4) s (fun t => !(t.time.pins.get 4).level && t.now == 10 && t.out == [.pin (.timeOut 4) false 10]) = true := by
  decide +kernel
theorem witness_pps : let s := { State.reset with time := { ppsSeen := true, ppsAt := 5 } }
    (s.time.ppsSeen = true ∧ s.time.ppsReported = false) ∧ after .ppsInTimeout s (fun t => t.now == 3000000005 && t.time.ppsReported) = true ∧
    after .ppsInEdge { State.reset with time := { phc := { sec := 1, ns := 2 } } } (fun t => t.rd (timeReg 0x040) == 2 && t.rd (timeReg 0x044) == 1 && t.time.ppsSeen) = true := by
  decide +kernel
theorem witness_freq : gives (.freq10mCountDone 1500150001) State.reset ((State.reset.wrn (timeReg 0x04C) 1500150001).ev 0x0109 0x4000 1500150001) = true ∧
    gives (.freq10mCountDone 1499849999) State.reset ((State.reset.wrn (timeReg 0x04C) 1499849999).ev 0x0109 0x4000 1499849999) = true ∧
    gives (.freq10mCountDone 1500150000) State.reset (State.reset.wrn (timeReg 0x04C) 1500150000) = true ∧
    gives (.freq10mCountDone 1499850000) State.reset (State.reset.wrn (timeReg 0x04C) 1499850000) = true := by decide +kernel
theorem witness_servo_follows : let s := { State.reset with time := { master := some 1, lock := 2 } }
    let u := { State.reset with time := { master := some 1, lock := 1 }, regs := [(timeReg 0x060, 1000), (timeReg 0x068, 10)] }
    s.hostMode = false ∧ s.rdn (timeReg 0x064) < 10001 ∧
    after (.ptpSyncReceived (-10001)) s (fun t => t.time.lock == 3 && t.time.lastOffset == -10001 && t.time.syncSeen == 1) = true ∧
    u.rdn (timeReg 0x060) < 1000001 ∧ 0 < u.rdn (timeReg 0x068) ∧
    after (.ptpSyncReceived 1000001) u (fun t => t.time.ops == [.step 2 (-1000001)] && t.time.lock == 1) = true ∧
    after (.ptpAnnounceReceived (some 4) none) State.reset (fun t => t.time.lock == 1 && t.time.master == some 4) = true ∧
    after .syncTimeout s (fun t => t.time.lock == 3) = true := by decide +kernel

/-! ### 02: the Weir (03) -/

def d50 : Tab DomainRec := [(0, { num := 1, den := 50 }), (7, { num := 1, den := 50 })]
/-- Domain 7 at 50 windows a second with the given state, and one running course of it. -/
def weir (x : Domain) : State := { State.reset with st := { domains := d50, courses := [(3, { course := 3, domain := 7 })] }, doms := [(7, { x with num := 1, den := 50 })], courses := [(3, { state := .running })] }

theorem witness_weir_start : let s := weir { stage := .window, next := 1000 }
    s.weirFree 7 = true ∧ (s.dom 7).mode ≠ 1 ∧ (s.dom 7).stage ≠ .none ∧ s.tickCycle 7 ≤ s.forcedDue 7 ∧
    after (.weirStart 7) s (fun t => (t.dom 7).stage == .drain && (t.dom 7).t0 == t.now && t.now == s.tickCycle 7 && t.now == 1500 &&
      (t.dom 7).tick == max ((s.dom 7).tickAfter (phcNs t.time.phc) - 1) 1 && !(t.dom 7).unaligned) = true := by decide +kernel
theorem witness_weir_forced : let s := weir { stage := .window, next := 2 ^ 62 }
    s.weirFree 7 = true ∧ (s.dom 7).mode ≠ 1 ∧ (s.dom 7).stage ≠ .none ∧ s.forcedDue 7 < s.tickCycle 7 ∧
    after (.forcedWeir 7) s (fun t => (t.dom 7).stage == .drain && t.now == 2 * s.winOf 7 && s.winOf 7 == 30000000 && (t.dom 7).tick == 1 && (t.dom 7).unaligned && (t.dom 7).forced == 1) = true := by decide +kernel
theorem witness_weir_period : let s := { weir { mode := 1, stage := .window } with stages := [((Stage.mere 3).key, { active := true })] }
    let u := { s with st := { s.st with courses := [(3, { course := 3, domain := 7, height := 64, width := 64 })] } }
    u.weirFree 7 = true ∧ (u.dom 7).mode = 1 ∧ (u.dom 7).stage ≠ .none ∧ u.runningIn 7 ≠ [] ∧ u.drained 7 = false ∧
    after (.drainPeriodExpired 7) u (fun t => (t.dom 7).stage == .drain && t.now == 30000000 && (t.dom 7).tick == 1 && (t.dom 7).byPeriod) = true := by decide +kernel
theorem witness_weir_paced : let s := weir { mode := 1, stage := .window, readyAt := some 100 }
    s.weirFree 7 = true ∧ (s.dom 7).mode = 1 ∧ (s.dom 7).stage ≠ .none ∧ (s.dom 7).readyAt = some 100 ∧
    after (.drainPacedWeirDue 7) s (fun t => (t.dom 7).stage == .drain && t.now == 612 && (t.dom 7).tick == 1 && (t.dom 7).readyAt.isNone) = true := by decide +kernel
theorem witness_weir_drained : let s := weir { stage := .drain, t0 := 10, tick := 4 }
    let u := { s with spills := [(0, { queue := [{ seg := 0 }] })], st := { s.st with rends := [(0, { course := 3 })] } }
    s.domDefined 7 = true ∧ (s.dom 7).stage = .drain ∧ s.tagged 7 = 0 ∧ s.busySpills 7 = [] ∧ s.busyRends 7 = [] ∧
    after (.weirDrained 7) s (fun t => (t.dom 7).stage == .settle && (t.dom 7).x == 0 && (t.dom 7).tick == 4) = true ∧
    u.tagged 7 = 0 ∧ u.busySpills 7 ≠ [] ∧ after (.weirDrained 7) u (fun t => (t.dom 7).stage == .spill && t.now == 42) = true := by decide +kernel
theorem witness_weir_spilled : let s := { weir { stage := .spill, t0 := 10, x := 8, tick := 4 } with now := 60 }
    (s.dom 7).stage = .spill ∧ s.busySpills 7 = [] ∧ s.busyRends 7 = [] ∧
    after (.spillDrainDone 7) s (fun t => (t.dom 7).stage == .settle && (t.dom 7).e == 10 && (t.dom 7).tick == 4) = true := by decide +kernel
theorem witness_window : let s := weir { stage := .settle, openAt := 1024, deadlinePassed := true }
    let u := weir { stage := .window, guard := 4000, next := 1000000 }
    (s.dom 7).stage = .settle ∧ s.isFatal = false ∧ after (.windowOpen 7 []) s (fun t => (t.dom 7).stage == .window && (t.dom 7).openAt == 1024 && !(t.dom 7).deadlinePassed) = true ∧
    (u.dom 7).stage = .window ∧ u.img.stopped.contains 7 = false ∧ (u.dom 7).deadlinePassed = false ∧
    after (.windowDeadline 7) u (fun t => (t.dom 7).deadlinePassed && (t.dom 7).stage == .window && t.now == 1494000) = true := by decide +kernel
theorem witness_hold : let s := weir { mode := 1, stage := .hold, readyAt := some 5, tick := 2 }
    (s.dom 7).stage = .hold ∧ (s.dom 7).readyAt = some 5 ∧ after (.inputHoldRelease 7) s (fun t => (t.dom 7).stage == .settle && 517 ≤ t.now && (t.dom 7).readyAt.isNone && (t.dom 7).tick == 2) = true := by decide +kernel
theorem witness_weir_regs : let s := weir { stage := .window }
    let u := { s with courses := [] }
    s.domDefined 7 = true ∧ s.standby = false ∧
    gives (.weirPhaseWrite 7 19999999) s (s.wr (weirReg 7 0x10) 19999999) = true ∧ gives (.weirPhaseWrite 7 20000000) s (s.ev 0x020D 0x4107 20000000) = true ∧
    guardFits 50 1 4000 (s.rdn (cnfReg 0)) false = true ∧ gives (.guardNsWrite 7 1) s (s.wr (weirReg 7 0x14) 1) = true ∧
    gives (.guardNsWrite 7 20000000) s (s.ev 0x020C 0x4107 20000000) = true ∧
    (s.dom 7).mode ≠ 1 ∧ 1 < s.domState 7 ∧ gives (.modeReqWrite 7 2) s (s.setDom 7 { s.dom 7 with modeReq := 2, modePending := some 2 }) = true ∧
    u.domState 7 ≤ 1 ∧ after (.modeReqWrite 7 2) u (fun t => (t.dom 7).mode == 2 && (t.dom 7).modeReq == 2 && (t.dom 7).modePending.isNone) = true ∧
    gives (.modeReqWrite 7 1) s (s.ev 0x020E 0x4107 1) = true ∧ gives (.modeReqWrite 7 3) s (s.ev 0x020E 0x4107 3) = true := by decide +kernel
theorem witness_release : let s := { State.reset with rings := [(511, { entries := [{ release := 0 }, { release := 100, seq := 1 }] })] }
    ((s.ring 511).entries.filter (fun e => decide (0 < signed 64 (e.release + 2 ^ 64 - linear s.time.phc)))).length = 1 ∧
    gives (.sliceReleaseTime 511) s (s.cycles 150) = true := by decide +kernel

/-! ### 03: images (04) -/

/-- The smallest full image: one domain at 50 windows a second, one region, function 0. -/
def tinyBody (seq : Nat) : Bytes :=
  -- HEADER (R78)
  leBytes 2 1 ++ leBytes 2 0 ++ leBytes 4 64 ++ [0x4F, 0x5A, 0x43, 0x49] ++ leBytes 2 0x0102 ++ leBytes 2 0x9600 ++ [0, 1, 0, 0] ++
  leBytes 4 7 ++ leBytes 4 360 ++ leBytes 8 seq ++ leBytes 28 0 ++
  -- DEVICE (R80)
  leBytes 2 0x10 ++ leBytes 2 0 ++ leBytes 4 64 ++ [1, 1] ++ leBytes 54 0 ++
  -- DOMAIN (R81)
  leBytes 2 0x20 ++ leBytes 2 0 ++ leBytes 4 32 ++ leBytes 4 0 ++ leBytes 4 1 ++ leBytes 4 50 ++ leBytes 12 0 ++
  -- REGION (R82)
  leBytes 2 0x30 ++ leBytes 2 0 ++ leBytes 4 40 ++ [0, 8, 0, 0] ++ leBytes 4 1 ++ leBytes 8 0 ++ leBytes 8 2097152 ++ leBytes 8 1 ++
  -- FUNCTION 0 (R83)
  leBytes 2 0x40 ++ leBytes 2 0 ++ leBytes 4 48 ++ leBytes 12 0x100 ++ [1, 1, 0, 0] ++ leBytes 24 0
/-- It, signed with zeros, and ended (R96). -/
def tiny (seq : Nat) : Bytes :=
  tinyBody seq ++ leBytes 2 0xFFF0 ++ leBytes 2 0 ++ leBytes 4 104 ++ leBytes 96 0 ++ leBytes 2 0xFFFF ++ leBytes 2 0 ++ leBytes 4 8
/-- Its records. -/
def tinyRecs (seq : Nat) : List Rec := (walk (360 / 8 + 1) (tiny seq) []).1.map Raw.toRec
/-- A machine whose training has ended. -/
def trained : State := { State.reset with boot := { stage := 3, trained := true, flashImage := 3 },
                                          chans := [(0, { live := true })], excluded := (List.range 31).map (· + 1) }

/-- The small image's signature verifies. -/
def tinySigned (seq : Nat) : Prop := Config.verifySignature [] (tinyBody seq) 0 0 = true
theorem tinySigned_at {seq : Nat} (hv : tinySigned seq) (k b : Bytes) (r s : Nat) (hk : k = []) (hb : b = tinyBody seq)
    (hr : r = 0) (hs : s = 0) : Config.verifySignature k b r s = true := by
  rw [hk, hb, hr, hs]; exact hv
def loading : State := { trained with img := { loading := some (.command {}) } }
def picking : State := { trained with boot := { trained.boot with flashImage := 0 } }
/-- An image is accepted where its signature verifies, which the model leaves open. -/
theorem witness_image_accepted (hv : tinySigned 5) : loading.img.loading = some (.command {}) ∧ loading.boot.trained = true ∧
    loading.boot.flashImage ≠ 0 ∧ checkImage loading.checkCtx (tiny 5) =
    .accepted (readHeader (tiny 5)) (tinyRecs 5) (Structure.addRecs {} (tinyRecs 5)) := by
  refine ⟨rfl, rfl, by decide, ?_⟩
  unfold checkImage
  dsimp only
  rw [tinySigned_at hv _ _ _ _ (by decide +kernel) (by decide +kernel) (by decide +kernel) (by decide +kernel)]
  decide +kernel
theorem picking_check5 (hv : tinySigned 5) : checkImage picking.checkCtx (tiny 5) =
    .accepted (readHeader (tiny 5)) (tinyRecs 5) (Structure.addRecs {} (tinyRecs 5)) := by
  unfold checkImage
  dsimp only
  rw [tinySigned_at hv _ _ _ _ (by decide +kernel) (by decide +kernel) (by decide +kernel) (by decide +kernel)]
  decide +kernel
theorem picking_check6 (hv : tinySigned 6) : checkImage picking.checkCtx (tiny 6) =
    .accepted (readHeader (tiny 6)) (tinyRecs 6) (Structure.addRecs {} (tinyRecs 6)) := by
  unfold checkImage
  dsimp only
  rw [tinySigned_at hv _ _ _ _ (by decide +kernel) (by decide +kernel) (by decide +kernel) (by decide +kernel)]
  decide +kernel
/-- Two flash copies are both accepted where their signatures verify. -/
theorem witness_flash_accepted (h5 : tinySigned 5) (h6 : tinySigned 6) :
    (picking.boot.trained = true ∧ picking.boot.flashImage = 0 ∧ picking.boot.stage = 3) ∧
    picking.flashCheck (tiny 5) = .accepted (readHeader (tiny 5)) (tinyRecs 5) (Structure.addRecs {} (tinyRecs 5)) ∧
    picking.flashCheck (tiny 6) = .accepted (readHeader (tiny 6)) (tinyRecs 6) (Structure.addRecs {} (tinyRecs 6)) := by
  refine ⟨by decide +kernel, ?_, ?_⟩
  · unfold State.flashCheck; rw [picking_check5 h5]; exact if_pos (by decide +kernel)
  · unfold State.flashCheck; rw [picking_check6 h6]; exact if_pos (by decide +kernel)
theorem witness_flash_refused : picking.flashCheck [] = .refused 1 0 ∧ (readHeader (tiny 5)).imageSeq < (readHeader (tiny 6)).imageSeq ∧
    after (.flashImageSelect [] [1]) picking (fun t => t.boot.flashImage == 3 && t.img == picking.img && t.st == picking.st) = true := by decide +kernel
theorem witness_image_load : let s := State.reset
    (s.standby = false ∧ s.img.loading = none ∧ s.isFatal = false) ∧ after (.imageLoad {} 4096 360) s (fun t => t.img.loading == some (.command {})) = true ∧
    gives (.imageLoad { fn := 1 } 0 0) s (s.complete { fn := 1 } .notOwner 0 0) = true ∧
    (loading.img.loading.isSome || loading.isFatal) = true ∧ gives (.imageLoad {} 0 8) loading (loading.complete {} .noResource 0 0) = true := by decide +kernel
/-- A STANDBY of a pair. -/
def standby : State := { State.reset with img := { present := true }, st := { pair := { enabled := true, watchdogUs := 100, pairId := 77, healBudget := 1000 } }, pair := { role := 1 } }
theorem witness_image_load_standby : standby.standby = true ∧ standby.paired = true ∧ gives (.imageLoad {} 0 8) standby (standby.complete {} .standby 0 0) = true := by decide +kernel
theorem witness_image_refused : checkImage loading.checkCtx [] = .refused 1 0 ∧
    after (.imageCheckDone (some [])) loading (fun t => t.img == { loading := none, reason := 1 } && t.st == loading.st && t.mem == []) = true ∧
    gives (.imageCheckDone none) loading ({ loading with img := { loading := none } }.complete {} .badParam 0xFFFF 0) = true := by decide +kernel
theorem witness_image_status : after (.imageStatus { fn := 0, tag := 5 } 4096 true) trained (fun t =>
      t.out.head? == some (.hostWrite 0 4096 (leBytes 8 trained.imgStatus ++ leBytes 24 0))) = true ∧
    gives (.imageStatus {} 0 false) trained (trained.complete {} .badParam 0xFFFF 0) = true := by decide +kernel
theorem witness_install : let s := { trained with img := { replacing := some (9, {}), stopped := [0] } }
    (s.img.slotProgrammed.length = 4 ∧ s.img.slotRevoked.length = 4) ∧ s.img.replacing = some (9, {}) ∧ s.allStopped = true ∧
    after .imageInstall s (fun t => t.img.runningSeq == 9 && t.img.present && t.img.replacing.isNone && t.img.stopped == []) = true := by decide +kernel
theorem witness_keys : let s := { State.reset with img := { slotProgrammed := [true, true, false, false] } }
    let u := { s with devMaint := false }
    s.devMaint = true ∧ s.img.slotProgrammed.getD 3 true = false ∧ after (.keyProgram 3) s (fun t => t.img.slotProgrammed == [true, true, false, true]) = true ∧
    s.img.slotProgrammed.getD 0 false = true ∧ s.img.slotRevoked.getD 0 false = false ∧ s.img.slotProgrammed.getD 1 false = true ∧ s.img.slotRevoked.getD 1 false = false ∧
    after (.keyRevoke 0) s (fun t => t.img.slotRevoked == [true, false, false, false]) = true ∧
    u.devMaint = false ∧ gives (.keyProgram 3) u (u.ev 0x030B 0x5100 3) = true ∧ gives (.keyRevoke 3) u (u.ev 0x030B 0x5100 259) = true ∧
    gives .floorLock s { s with img := { s.img with floorLocked := true } } = true := by decide +kernel
/-- The last usable key slot stays (R98). -/
theorem test_keyRevoke_last : after (.keyRevoke 0) State.reset (fun t => t.img.slotRevoked == [false, false, false, false]) = true := by decide +kernel

/-! ### 04: queues (05) -/

/-- PF0 with its link up, and queue 7 enabled with four entries. -/
def queued : State := { State.reset with pcie := { up := true }, funcs := [(0, { sqs := [(7, { en := true, sizeM1 := 3, sqTail := 3 })] })] }
theorem witness_queueEnable : let s := State.reset
    (s.sqOf 0 7).en = false ∧ bit (0x80000101#32).toNat 31 = true ∧ 7 < s.maxSqOf 0 ∧ s.rdn (sqReg 0 7 0) % 4096 = 0 ∧ s.rdn (sqReg 0 7 8) % 4096 = 0 ∧
    bits (0x80000101#32).toNat 20 16 < s.msixOf 0 ∧ bits (0x80000101#32).toNat 7 0 ≠ 0 ∧
    after (.queueEnable 0 7 0x80000101) s (fun t => t.sqOf 0 7 == { en := true, armed := true, irqEn := true, sizeM1 := 1 } && !(t.func 0).fresh) = true ∧
    s.maxSqOf 63 ≤ 0 ∧ after (.queueEnable 63 0 0x80000101) s (fun t => !(t.sqOf 63 0).en && (t.sqOf 63 0).reason == 3) = true := by decide +kernel
theorem witness_queueDisable : (queued.sqOf 0 7).en = true ∧ bit (0#32).toNat 31 = false ∧ after (.queueEnable 0 7 0) queued (fun t => !(t.sqOf 0 7).en) = true := by decide +kernel
theorem witness_doorbells : (queued.sqOf 0 7).en = true ∧ tailOk 4 (queued.sqOf 0 7).sqHead (queued.sqOf 0 7).sqTail 0 = false ∧
    tailOk 4 0 0 3 = true ∧ tailOk 4 0 0 4 = false ∧ headOk 4 0 2 2 = true ∧ headOk 4 0 2 3 = false ∧
    gives (.sqTailDoorbell 0 7 0 true) queued (queued.doorbellInvalid 0 0x7000 0) = true ∧ gives (.sqTailDoorbell 0 7 1 false) queued (queued.doorbellInvalid 0 0x7000 1) = true ∧
    gives (.cqHeadDoorbell 0 7 1 true) queued (queued.doorbellInvalid 0 0x7800 1) = true ∧
    after (.cqHeadDoorbell 0 7 0 true) queued (fun t => (t.sqOf 0 7).armed) = true := by decide +kernel
theorem witness_evq : let s := State.reset
    let u := { s with funcs := [(63, { evq := { en := true, sizeLog2 := 16, tail := 65535, head := 65000 } })] }
    (s.func 63).evq.en = false ∧ bit (0x80000010#32).toNat 31 = true ∧ bits (0x80000010#32).toNat 4 0 = 16 ∧ s.rdn (funcReg 63 0x800) % 4096 = 0 ∧
    after (.evqEnable 63 0x80000010) s (fun t => (t.func 63).evq.en && (t.func 63).evq.sizeLog2 == 16 && (t.func 63).evq.head == 0) = true ∧
    after (.evqEnable 63 0x80000005) s (fun t => !(t.func 63).evq.en) = true ∧
    (u.func 63).evq.en = true ∧ headOk (u.func 63).evq.size (u.func 63).evq.head (u.func 63).evq.tail 65535 = true ∧ (u.func 63).evq.unsaid = 0 ∧
    after (.evqHeadWrite 63 65535) u (fun t => (t.func 63).evq.head == 65535 && (t.func 63).evq.armed) = true := by decide +kernel
/-- A KEY_NOW entry of tag 9 for course 3 (R122, R127). -/
def keyEntry : Bytes := leBytes 2 0x13 ++ leBytes 2 9 ++ leBytes 2 3 ++ leBytes 58 0
theorem witness_fetch : queued.mayFetch 0 7 = true ∧ u16 keyEntry 2 ≠ 0xFFFF ∧ u8 keyEntry 0 = 0x13 ∧ entryClean keyEntry = true ∧
    after (.commandFetch 0 7 none none) queued (fun t => (t.sqOf 0 7).error && (t.sqOf 0 7).reason == 1 && (t.sqOf 0 7).sqHead == 0) = true ∧
    after (.commandFetch 0 7 (some keyEntry) none) queued (fun t => (t.sqOf 0 7).sqHead == 1 && (t.sqOf 0 7).running == 0 &&
      t.out == [.completion 0 0 { tag := 9, status := .badParam, q := 7, sqHead := 1 }]) = true := by decide +kernel
theorem witness_fetch_refused : u8 (3 :: keyEntry.drop 1) 0 = 3 ∧ entryClean (keyEntry.take 63 ++ [1]) = false ∧
    after (.commandFetch 0 7 (some (3 :: keyEntry.drop 1)) none) queued (fun t => t.out == [.completion 0 0 { tag := 9, status := .badParam, q := 7, sqHead := 1 }]) = true ∧
    after (.commandFetch 0 7 (some (keyEntry.take 63 ++ [1])) none) queued (fun t => t.out == [.completion 0 0 { tag := 9, status := .badParam, q := 7, sqHead := 1 }]) = true := by decide +kernel

/-! ### 05: course and packet commands (05) -/

def crsSt : Structure :=
  { domains := d50, funcs := [(0, { enabled := true, maxInflows := 8, maxServices := 8, maxSubscribers := 8 })],
    regions := [(0, { grain := 8, chMask := 1, size := 33554432, writers := 1 })], device := { portCfg := [0x40] },
    courses := [(3, { course := 3, domain := 7, width := 640, height := 64 })], inputs := [(12, { course := 3, width := 640, height := 64 })],
    layers := [(36, { course := 3, layer := 0, enabled := true }), (40, { course := 3, layer := 4 })],
    rungs := [(193, { course := 3, rung := 1, width := 640, height := 64 })], rends := [(5, { rendition := 5, course := 3, rung := 1 })],
    services := [(4, { service := 4 })], subs := [(6, { subscriber := 6, rendition := 5, service := 4 })], inflows := [(8, { inflow := 8, port := 1 })] }
/-- Course 3 runs in domain 7. -/
def crs : State :=
  { State.reset with
    boot := { stage := 3 }, st := crsSt, doms := [(7, { stage := .window })], courses := [(3, { state := .running })]
    layers := [(36, { enabled := true, geo := { dstW := 640, dstH := 64, srcW := 640, srcH := 64 } }), (40, { geo := { dstW := 64, dstH := 64, srcW := 64, srcH := 64 } })] }
/-- It is stopped in a DRAIN_PACED domain. -/
def crsIdle : State := { crs with doms := [(7, { stage := .window, mode := 1 })], courses := [] }
/-- The command waits for the Weir of domain 7. -/
def waitsW (i : Instr) (x : WCmd) : Bool :=
  gives i crs (crs.updDom 7 (fun y => { y with latched := latchInto { o := {}, at_ := 0, cmd := x } y.latched }))

theorem witness_w_commands : crs.courseThere 3 = true ∧ Origin.owns {} (crs.st.courseOwner 3) = true ∧ crs.standby = false ∧ crs.isFatal = false ∧
    crs.idle (crs.domOf 3) = false ∧ crs.domOf 3 = 7 ∧ waitsW (.courseStart {} 3) (.courseStart 3) = true ∧ waitsW (.courseStop {} 3) (.courseStop 3) = true ∧
    waitsW (.keyNow {} 3) (.keyNow 3) = true ∧ waitsW (.courseSet {} 3 1 255) (.courseSet 3 1 255) = true ∧ waitsW (.courseSet {} 3 2 65535) (.courseSet 3 2 65535) = true ∧
    waitsW (.courseSet {} 3 3 1) (.courseSet 3 3 1) = true ∧ after (.courseSet {} 3 3 2) crs (fun t => t.dom 7 == crs.dom 7) = true := by decide +kernel
theorem witness_rc_set : crs.st.courseOfRend 5 = 3 ∧ crs.rendThere 5 = true ∧ crs.rcSetOk 5 { mask := 1, cq := 63 } = true ∧ bit 1 3 = false ∧
    waitsW (.rcSet {} 5 { mask := 1, cq := 63 }) (.rcSet 5 { mask := 1, cq := 63 }) = true ∧ crs.rcSetOk 5 { mask := 1, cq := 64 } = false := by decide +kernel
theorem witness_layer_set : crs.layerSetOk 3 0 { mask := 4, alpha := 255 } = true ∧ crs.layerFits 3 0 { mask := 4, alpha := 255 } = true ∧
    waitsW (.layerSet {} 3 0 { mask := 4, alpha := 255 }) (.layerSet 3 0 { mask := 4, alpha := 255 }) = true ∧ crs.layerSetOk 3 0 { mask := 4, alpha := 256 } = false := by decide +kernel
theorem witness_layer_flip : crs.flipOk 3 4 64 256 = true ∧ crs.flipOk 3 0 0 0 = true ∧ crs.flipOk 3 4 32 256 = false ∧ crs.flipOk 3 4 0 0 = false ∧
    waitsW (.layerFlip {} 3 4 64 256) (.layerFlip 3 4 64 256) = true ∧ waitsW (.layerFlip {} 3 0 0 0) (.layerFlip 3 0 0 0) = true := by decide +kernel
theorem witness_first_check : let u := { crs with st := { crs.st with courses := [(3, { course := 3, domain := 7, owner := 1 })] } }
    let v := { standby with boot := { stage := 3 }, st := { standby.st with courses := crs.st.courses } }
    let x := { crs with ras := { fatal := 1 } }
    crs.courseThere 63 = false ∧ gives (.keyNow {} 63) crs (crs.complete {} .badParam 0 0) = true ∧
    u.courseThere 3 = true ∧ Origin.owns { fn := 2 } (u.st.courseOwner 3) = false ∧ gives (.courseStop { fn := 2 } 3) u (u.complete { fn := 2 } .notOwner 0 0) = true ∧
    v.courseThere 3 = true ∧ v.standby = true ∧ gives (.courseStart {} 3) v (v.complete {} .standby 0 0) = true ∧
    x.standby = false ∧ x.isFatal = true ∧ gives (.courseStart {} 3) x (x.complete {} .noResource 0 0) = true := by decide +kernel
theorem witness_idle_apply : crsIdle.courseThere 3 = true ∧ crsIdle.idle (crsIdle.domOf 3) = true ∧ crsIdle.img.stopped.contains 7 = false ∧
    (crsIdle.courses.get 3).state = .stopped ∧
    after (.courseStart {} 3) crsIdle (fun t => (t.courses.get 3).state == .running && t.now == 0) = true ∧
    after (.courseStop {} 3) crsIdle (fun t => (t.courses.get 3).state == .stopped) = true ∧
    after (.courseSet {} 3 1 255) crsIdle (fun t => (t.st.courses.get 3).freezeLimit == 255) = true ∧
    after (.courseSet {} 3 2 65535) crsIdle (fun t => (t.st.courses.get 3).keyInterval == 65535) = true ∧
    after (.keyNow {} 3) crsIdle (fun t => (t.keys.get 3).due == [2]) = true ∧
    after (.rcSet {} 5 { mask := 1, cq := 63 }) crsIdle (fun t => (t.rends.get 5).cq == 63) = true ∧
    after (.layerSet {} 3 0 { mask := 4, alpha := 255 }) crsIdle (fun t => (t.layer 3 0).alpha == 255) = true ∧
    after (.layerFlip {} 3 4 64 256) crsIdle (fun t => (t.layer 3 4).surface == 64 && (t.layer 3 4).pitch == 256) = true := by decide +kernel
/-- The command waits for its packet boundary. -/
def waitsP (i : Instr) (x : PCmd) : Bool := gives i crs { crs with waiting := [{ cmd := x }] }
def svcBytes (n : Nat) : Bytes := leBytes 2 0x210 ++ leBytes 2 0 ++ leBytes 4 40 ++ leBytes 2 n ++ [0, 0] ++ leBytes 4 1 ++ leBytes 4 8 ++ leBytes 4 8 ++ leBytes 4 1 ++ leBytes 12 1
def inflowBytes : Bytes := leBytes 2 0x200 ++ leBytes 2 0 ++ leBytes 4 80 ++ leBytes 2 9 ++ [6, 0] ++ leBytes 2 65535 ++ leBytes 34 0 ++ leBytes 4 65535 ++
  leBytes 4 1 ++ leBytes 4 1 ++ leBytes 4 9216 ++ leBytes 4 9216 ++ leBytes 4 0 ++ leBytes 8 1
def subBytes : Bytes := leBytes 2 0x220 ++ leBytes 2 0 ++ leBytes 4 80 ++ leBytes 2 7 ++ leBytes 2 5 ++ leBytes 2 4 ++ [0, 1] ++ leBytes 4 8 ++ leBytes 4 8 ++ leBytes 4 1 ++ leBytes 4 1 ++
  leBytes 2 1 ++ [255, 0] ++ leBytes 6 0 ++ leBytes 2 65535 ++ leBytes 36 0
/-- The records that these bytes hold. -/
def svcRec (n : Nat) : ServiceRec := readService (svcBytes n)
theorem witness_p_commands : crs.standby = false ∧ crs.isFatal = false ∧ crs.early = false ∧ crs.waiting = [] ∧ crs.st.subs.has 6 = true ∧
    waitsP (.subDel {} 6) (.subDel 6) = true ∧ SubSet.ok { mask := 8, dscp := 63 } = true ∧ waitsP (.subSet {} 6 { mask := 8, dscp := 63 }) (.subSet 6 { mask := 8, dscp := 63 }) = true ∧
    SubSet.ok { mask := 8, dscp := 64 } = false ∧
    crs.st.inflows.has 8 = true ∧ crs.st.inputs.vals.any (fun i => i.source == 0 && i.sourceIndex == 8) = false ∧ waitsP (.inflowDel {} 8) (.inflowDel 8) = true := by decide +kernel
theorem witness_service_set : hostRecord 0x210 (svcBytes 4) = some (.service 0 (svcRec 4)) ∧ hostRecord 0x210 (svcBytes 5) = some (.service 0 (svcRec 5)) ∧
    crs.recOk (.service 0 (svcRec 5)) = true ∧ crs.st.services.has 5 = false ∧
    crs.st.below 0 (crs.st.services.vals.filter (fun v => v.owner == 0)).length (·.maxServices) = true ∧
    waitsP (.serviceSetAdd {} 5 1 (some (svcBytes 5))) (.serviceAdd (svcRec 5) 1) = true ∧ crs.st.services.has 4 = true ∧
    waitsP (.serviceSetReplace {} 4 0 (some (svcBytes 4))) (.serviceReplace (svcRec 4) 0) = true ∧
    gives (.serviceSetAdd {} 5 1 none) crs (crs.complete {} .badParam 0xFFFF 0) = true := by decide +kernel
theorem witness_service_remove : let s := { crs with st := { crs.st with subs := [] } }
    s.st.services.has 4 = true ∧ s.st.subs.vals.any (fun u => u.service == 4) = false ∧
    gives (.serviceSetRemove {} 4) s { s with waiting := [{ cmd := .serviceRemove 4 }] } = true := by decide +kernel
theorem witness_inflow_add : hostRecord 0x200 inflowBytes = some (.inflow 0 (readInflow inflowBytes)) ∧ (readInflow inflowBytes).inflow = 9 ∧
    crs.recOk (.inflow 0 (readInflow inflowBytes)) = true ∧ crs.st.inflows.has 9 = false ∧
    crs.st.inflows.vals.any (fun f => f.inflow != 9 && f.key == (readInflow inflowBytes).key) = false ∧
    crs.st.below 0 (crs.st.inflows.vals.filter (fun f => f.owner == 0)).length (·.maxInflows) = true ∧
    waitsP (.inflowAdd {} (some inflowBytes)) (.inflowAdd (readInflow inflowBytes)) = true := by decide +kernel
theorem witness_sub_add : let s := { crs with st := { crs.st with rends := [(5, { rendition := 5, course := 3, rung := 1, payload := 15 })], services := [(4, { service := 4, rates := { pir := 16 } })] }, outf := { ports := [(0, { rates := { pir := 16 } })] } }
    hostRecord 0x220 subBytes = some (.sub 0 (readSub subBytes)) ∧ (readSub subBytes).subscriber = 7 ∧ s.recOk (.sub 0 (readSub subBytes)) = true ∧
    s.st.subs.has 7 = false ∧ s.st.below 0 (s.st.subs.vals.filter (fun u => (s.st.services.get u.service).owner == 0)).length (·.maxSubscribers) = true ∧
    (s.st.applyP (.subAdd (readSub subBytes))).cirFits s.outf.ports (readSub subBytes) = true ∧
    gives (.subAdd {} (some subBytes)) s { s with waiting := [{ cmd := .subAdd (readSub subBytes) }] } = true := by decide +kernel
theorem witness_p_apply : let s := { crs with waiting := [{ cmd := .subDel 6 }] }
    let u := { crs with waiting := [{ cmd := .subDel 7 }] }
    let v := { crs with waiting := [{ cmd := .subSet 6 { mask := 8, dscp := 63 } }] }
    s.pThere (.subDel 6) = true ∧ after (.pCommandApply 0) s (fun t => t.waiting == [] && t.st == s.st.applyP (.subDel 6) && !t.st.subs.has 6) = true ∧
    u.pThere (.subDel 7) = false ∧ u.img.partials = [] ∧ after (.pCommandApply 0) u (fun t => t.waiting == [] && t.st == u.st) = true ∧
    v.pThere (.subSet 6 {}) = true ∧ after (.pCommandApply 0) v (fun t => t.waiting == [] && (t.st.subs.get 6).dscp == 63) = true := by decide +kernel
theorem witness_unit_reset : let u := { crs with resets := [{ src := 0x1007, at_ := 5 }] }
    crs.resettable 0x1007 = true ∧ retirable 0x1007 = true ∧ after (.unitReset {} 0x1007) crs (fun t => t.resets == [{ src := 0x1007, at_ := 0 }]) = true ∧
    gives (.unitReset { fn := 1 } 0x1007) crs (crs.complete { fn := 1 } .notOwner 0 0) = true ∧ gives (.unitRetire { fn := 1 } 0x1007) crs (crs.complete { fn := 1 } .notOwner 0 0) = true ∧
    u.resets.find? (fun x => x.src == 0x1007) = some { src := 0x1007, at_ := 5 } ∧ 8192 ≤ 4096 + u.rdn (cnfReg 0) ∧
    after (.unitResetDone 0x1007 100) u (fun t => t.resets == [] && t.now == 105) = true ∧
    crs.alive 0x1007 = true ∧ crs.unitDomain 0x1007 = none ∧ after (.unitRetire {} 0x1007) crs (fun t => t.retired == [0x1007]) = true := by decide +kernel

/-! ### 06, 07: immediate commands, resets, the link, ports and rings (05, 06) -/

/-- An ACTIVE device of a pair. -/
def active : State := { standby with boot := { stage := 3 }, pair := { role := 3, peerAlive := true }, outf := { gate := true } }
theorem witness_pairCtl : active.early = false ∧ active.paired = true ∧ active.pair.role = 3 ∧ active.pair.peerAlive = true ∧ active.pair.peerHold = false ∧
    gives (.pairCtlStatus { tag := 3 } 0) active (active.complete { tag := 3 } .ok 0 active.guavoStatus) = true ∧
    after (.pairCtlHold {} 1) active (fun t => t.pair.hold && t.pair.role == 3) = true ∧ after (.pairCtlHold {} 0) { active with pair := { active.pair with hold := true } } (fun t => !t.pair.hold) = true ∧
    after (.pairCtlHold {} 2) active (fun t => !t.pair.hold) = true ∧
    after (.pairCtlYield {} 0) active (fun t => t.pair.hold && t.pair.role == 4 && !t.outf.gate && t.pair.yieldBy == some ({}, 0)) = true := by decide +kernel
theorem witness_pairCtl_heal : let s := { standby with boot := { stage := 3 }, st := { standby.st with rends := [(511, {})] }, rends := [(511, { unsynced := false })] }
    s.st.rends.has 511 = true ∧ s.standby = true ∧ after (.pairCtlHeal {} 511) s (fun t => (t.rends.get 511).unsynced) = true := by decide +kernel
theorem witness_testCtl : let u := { crs with devMaint := false, img := { everAccepted := true } }
    crs.early = false ∧ after (.testCtlEnterMaint {} 0xFFFF 1) u (fun t => t.devMaint && t.devMaintCmd) = true ∧ after (.testCtlEnterMaint {} 63 1) u (fun t => t.devMaint) = true ∧
    after (.testCtlEnterMaint {} 64 1) u (fun t => !t.devMaint) = true ∧
    after (.testCtlLeaveMaint {} 63 1) { u with devMaint := true, devMaintCmd := true } (fun t => !t.devMaint && !t.devMaintCmd) = true ∧
    after (.testCtlLeaveMaint {} 63 1) crs (fun t => t.devMaint && !t.devMaintCmd) = true ∧
    crs.devMaint = true ∧ isUnit 0x1023 = true ∧ after (.testCtlInject {} 1 0x1023 1 2 3) crs (fun t => t.ras.inj == [{ target := 0x1023, kind := 1, addr := 2, arg := 3 }]) = true ∧
    u.devMaint = false ∧ gives (.testCtlInject {} 1 0x1023 1 2 3) u (u.complete {} .notMaintenance 0 0) = true := by decide +kernel
theorem witness_stats : crs.statsThere 6 15 = true ∧ crs.statsThere 6 16 = false ∧ crs.statsOpen {} 6 15 = true ∧ crs.statsThere 3 6 = true ∧ crs.statsThere 4 4 = true ∧
    after (.statsRead { tag := 7 } 6 15 4096 8 true) crs (fun t => t.out == [.hostWrite 0 4096 ((crs.regBlock (outPort 15 0) 256).take 8)]) = true ∧
    gives (.statsRead {} 6 15 4096 8 false) crs (crs.complete {} .badParam 0xFFFF 0) = true := by decide +kernel
theorem witness_functions : after (.functionLevelReset 63) { queued with funcs := [(63, { sqs := [(7, { en := true })], evq := { en := true, sizeLog2 := 6 } })] } (fun t => !(t.sqOf 63 7).en && !(t.func 63).evq.en) = true ∧
    after (.vfEnableChanged 64) queued (fun t => t.pcie.numVfs == 63) = true ∧
    State.reset.pcie.up = false ∧ State.reset.boot.perst = false ∧ after (.linkUp 5 16) State.reset (fun t => t.pcie.up && t.pcie.rate == 5 && t.pcie.width == 16) = true ∧
    queued.pcie.up = true ∧ after (.linkDown 3) queued (fun t => !t.pcie.up && t.pcie.lost) = true ∧
    after (.functionPowerState 63 true) queued (fun t => (t.func 63).d3hot) = true ∧
    after (.functionPowerState 63 false) { queued with funcs := [(63, { d3hot := true })] } (fun t => !(t.func 63).d3hot) = true := by decide +kernel
theorem witness_registers : State.reset.bar0At 0 (timeReg 0x60) = .reg (timeReg 0x60) ∧ State.reset.bar0At 0 (glb 0x1E) = .unmapped ∧ State.reset.bar0At 1 0x900 = .unmapped ∧
    gives (.registerWrite 0 0 (timeReg 0x60) 4 5) State.reset (State.reset.writeReg 0 (timeReg 0x60) 5) = true ∧
    after (.registerRead 0 0 (glb 0x28) 4) State.reset (fun t => t.out == [.read 1]) = true ∧
    gives (.registerWrite 1 0 0x900 4 5) State.reset (State.reset.decodeError 20 (some 1) true (barAddr 1 0 0x900)) = true ∧
    gives (.registerWrite 0 0 (glb 0x28) 2 5) State.reset (State.reset.decodeError 20 (some 0) true (barAddr 0 0 (glb 0x28))) = true := by decide +kernel
theorem witness_smbus : crs.boot.inReset = false ∧ crs.boot.stage ≠ 0 ∧ crs.boot.stage ≠ 15 ∧ smbusOffsets.contains (rasReg 8) = true ∧
    after (.smbusCommand (rasReg 8)) crs (fun t => t.out == [.smbus (some (BitVec.ofNat 32 (crs.view (rasReg 8))))]) = true ∧
    after (.smbusCommand 0) { crs with boot := { inReset := true } } (fun t => t.out == [.smbus none]) = true := by decide +kernel
theorem witness_bar2 : after (.registerWrite 0 2 0x7000 4 0) { queued with funcs := [(0, { sqs := [(7, { en := true, sizeM1 := 3 })] })] } (fun t => (t.sqOf 0 7).sqTail == 0) = true ∧
    after (.registerWrite 0 2 0x7000 4 2) { queued with funcs := [(0, { sqs := [(7, { en := true, sizeM1 := 3 })] })] } (fun t => (t.sqOf 0 7).sqTail == 2) = true ∧
    after (.registerWrite 0 2 0x7800 4 0) queued (fun t => (t.sqOf 0 7).armed) = true := by decide +kernel

/-- Port 0 formed of lane 0 and up. -/
def ported : State := { crs with inl := { up := [0] } }
theorem witness_frames : let b := List.replicate 60 (0#8)
    State.reset.portLive 0 = false ∧ gives (.frameReceived 0 {} []) State.reset State.reset = true ∧ ported.portLive 0 = true ∧
    after (.frameReceived 0 { bytes := b.drop 1 } []) ported (fun t => t.rd (inlPort 0 0x1C) == 1) = true ∧
    after (.frameReceived 0 { bytes := b, fcsOk := false } []) ported (fun t => t.rd (inlPort 0 0x18) == 1 && t.rd (inlPort 0 0x1C) == 0) = true := by decide +kernel
/-- An Ethernet PAUSE frame, and a multicast IPv4 frame whose header checksum is wrong. -/
def pauseFrame : Bytes := List.replicate 12 (0#8) ++ [0x88, 0x08] ++ List.replicate 46 (0#8)
def badFrame : Bytes := [0x01, 0, 0x5E, 0, 0, 1] ++ List.replicate 6 (0#8) ++ [0x08, 0, 0x45, 0, 0, 46, 0, 0, 0, 0, 1, 17, 0, 1] ++ List.replicate 34 (0#8)
theorem witness_frames_dropped : pauseFrame.length = 60 ∧ (readFrame pauseFrame).pause = true ∧ after (.frameReceived 0 { bytes := pauseFrame } []) ported (fun t => t.rd (inlPort 0 0x20) == 1) = true ∧
    60 ≤ badFrame.length ∧ (readFrame badFrame).pause = false ∧ (readFrame badFrame).tags < 2 ∧ bit (readFrame badFrame).dstMac 40 = true ∧ (readFrame badFrame).badSum = true ∧
    after (.frameReceived 0 { bytes := badFrame } []) ported (fun t => t.rd (inlPort 0 0x10) == 1) = true := by decide +kernel
theorem witness_ports : let s := { crs with lanes := [(0, { state := 3 })] }
    s.st.portFormed 0 = true ∧ s.inl.up.contains 0 = false ∧ (s.st.portLanes 0).all (fun l => (s.lanes.get l).state == 3) = true ∧
    after (.portUp 0) s (fun t => t.inl.up == [0]) = true ∧ ported.inl.up.contains 0 = true ∧ after (.portDown 0) ported (fun t => t.inl.up == []) = true := by decide +kernel
theorem witness_merge : let s := { State.reset with st := { inflows := [(1023, { inflow := 1023, mergePeer := 5 }), (5, { inflow := 5, mergePeer := 1023 })] }, inl := { flows := [(1023, { legUp := true, lastFrame := 7 })] } }
    s.st.inflows.has 1023 = true ∧ (s.st.inflows.get 1023).mergePeer ≠ 65535 ∧ (s.inl.flows.get 1023).wasDown = false ∧
    after (.mergeLegTimeout 1023) s (fun t => !(t.inl.flows.get 1023).legUp && (t.inl.flows.get 1023).wasDown && t.now == 150000007) = true := by decide +kernel
/-- A transmit descriptor for 60 bytes on port 0 (R163). -/
def txDesc : Bytes := leBytes 8 4096 ++ leBytes 2 60 ++ leBytes 22 0
def rings : State := { ported with inl := { up := [0], rx := [(0, { en := true, sizeLog2 := 6 })], tx := [(0, { en := true, sizeLog2 := 6, tail := 1 })], reports := [(8, 40)] } }
theorem witness_exc : (rings.inl.rx.get 0).en = true ∧ tailOk 64 0 0 63 = true ∧ tailOk 64 0 0 64 = false ∧ (rings.inl.tx.get 0).en = true ∧ tailOk 64 0 1 63 = true ∧
    after (.excRxTailDoorbell 0 63) rings (fun t => (t.inl.rx.get 0).tail == 63) = true ∧ after (.excTxTailDoorbell 0 63) rings (fun t => (t.inl.tx.get 0).tail == 63) = true ∧
    (State.reset.inl.tx.get 63).en = false ∧ gives (.excTxTailDoorbell 63 1) State.reset (State.reset.doorbellInvalid 63 0xE800 1) = true ∧
    gives (.excRxTailDoorbell 63 1) State.reset (State.reset.doorbellInvalid 63 0xE000 1) = true ∧
    after (.excRingEnable 63 true 0x80000006) State.reset (fun t => (t.inl.tx.get 63).en && (t.inl.tx.get 63).sizeLog2 == 6) = true ∧
    after (.excRingEnable 63 false 0x80000006) State.reset (fun t => (t.inl.rx.get 63).en) = true := by decide +kernel
theorem witness_exc_send : rings.excTxOk 0 txDesc = true ∧ rings.excTxOk 0 (leBytes 32 0) = false ∧ (rings.inl.tx.get 0).head ≠ (rings.inl.tx.get 0).tail ∧
    after (.excTxSend 0 (leBytes 32 0) []) rings (fun t => (t.inl.tx.get 0).head == 1 && t.now == 0) = true ∧
    after (.excTxSend 0 txDesc (List.replicate 60 0)) rings (fun t => (t.inl.tx.get 0).head == 1) = true := by decide +kernel
theorem witness_membership : rings.inl.reports.find 8 = some 40 ∧ rings.fwMembership = true ∧
    after (.membershipReportTimer 8) rings (fun t => t.inl.reports == [] && t.now == 40 && t.out == [.frame 1 (.membership false 65535 0 0)]) = true := by decide +kernel

/-! ### 08, 09: bands, Founts, tables, Tarns and emission (01, 07 to 13) -/

/-- Two bands of a 640 × 128 program, all marked in its buffers. -/
def two : Buffer := { slots := [{ pic := 1, marks := [.written, .written] }], pics := 1 }
/-- Two bands to write. -/
def fresh : Buffer := { slots := [{ pic := 1, marks := [.empty, .empty] }], pics := 1 }
def picSt : Structure :=
  { crsSt with
    courses := [(3, { course := 3, domain := 7, width := 640, height := 128, mere := 7, fixed := true })]
    inputs := [(12, { course := 3, source := 1, width := 640, height := 128, sourceIndex := 6 }), (14, { course := 3, input := 2, source := 2, width := 640, height := 64 })]
    rungs := [(193, { course := 3, rung := 1, width := 640, height := 128 }), (194, { course := 3, rung := 2, cascade := 5, source := 1, width := 320, height := 64 })]
    hws := [(29, { course := 3, unit := 5, bandCount := 2 })], layers := [(36, { course := 3, layer := 0, enabled := true })] }
/-- Course 3 with its program read and its rung 2 to write. -/
def pics : State :=
  { crs with
    st := picSt, doms := [(7, { stage := .window, next := 50000000, guard := 4000 })]
    layers := [(36, { enabled := true, mode := 1, cur := 1, geo := { dstW := 640, dstH := 128, srcW := 640, srcH := 128 } })]
    bufs := [(progBuf 3, two), (rungBuf 3 2, { slots := [{ pic := 1, marks := [.empty] }], pics := 1 }), (inputBuf 3 0, two), (mapBuf 3, two)]
    stages := [((Stage.mere 3).key, { active := true, next := 1 }), ((Stage.cascade 3 5).key, { active := true, next := 1 }), ((Stage.headwater 3 5).key, { active := true, next := 1 })]
    rends := [(5, { cur := some { source := 1, mapPic := 1, segs := [(0, { seg := { rendition := 5, tarn := 35 }, cols := 10, bands := 2, width := 640 })] } })] }

theorem witness_read_mere : let r := pics.stage (.mere 3)
    r.active = true ∧ r.reading = false ∧ r.next < bandsOf 128 64 ∧ pics.mereNeeds 3 1 = [(0, 1, [0, 1])] ∧
    (pics.mereNeeds 3 r.next).all (fun n => (pics.buf (inputBuf 3 n.1)).ready n.2.1 n.2.2) = true ∧ ¬ 0x1307 ∈ pics.retired ∧
    after (.bandReadStart (.mere 3)) pics (fun t => t.stage (.mere 3) == { active := true, next := 1, reading := true, free := 10240, used := 10240 }) = true := by decide +kernel
theorem witness_read_cascade : let r := pics.stage (.cascade 3 5)
    (pics.st.cascadeRungs 3 5).length = 1 ∧ r.active = true ∧ r.next < bandsOf 128 64 ∧
    (pics.buf (rungBuf 3 1)).ready (pics.buf (rungBuf 3 1)).curSlot.pic [r.next] = true ∧ ¬ 0x1405 ∈ pics.retired ∧
    after (.bandReadStart (.cascade 3 5)) pics (fun t => (t.stage (.cascade 3 5)).next == 2 && (t.stage (.cascade 3 5)).free == 10240) = true := by decide +kernel
theorem witness_read_headwater : ((pics.st.hws.vals.filter (fun y => y.unit == 5)).filter (fun y => pics.hwReady y.course 5)) = [{ course := 3, unit := 5, bandCount := 2 }] ∧
    (pics.st.hws.vals.filter (fun y => y.unit == 5)).any (fun y => (pics.stage (.headwater y.course 5)).reading) = false ∧ ¬ 0x1105 ∈ pics.retired ∧
    after (.bandReadStart (.headwater 3 5)) pics (fun t => (t.stage (.headwater 3 5)).reading && (t.stage (.headwater 3 5)).next == 1) = true := by decide +kernel
theorem witness_read_tarn : ((pics.coding 5).seg 0).seg.tarn = 35 ∧ (pics.tarn 35).held = false ∧ ¬ 0x1023 ∈ pics.retired ∧ (pics.tarn 35).items.isEmpty = true ∧
    pics.nextItem 35 = some (5, 0) ∧ pics.timeFails 5 ((pics.coding 5).seg 0) (pics.bandCycles 5 (pics.coding 5) ((pics.coding 5).seg 0) ((pics.coding 5).seg 0).begun) = false ∧
    after (.bandReadStart (.tarn 5 0)) pics (fun t => (t.tarn 35).items == [{ seg := 80, left := 10 }]) = true := by decide +kernel
/-- The same with every band in progress, read to its end. -/
def going : State :=
  { pics with
    bufs := [(progBuf 3, fresh), (rungBuf 3 2, { slots := [{ pic := 1, marks := [.empty] }], pics := 1 }), (inputBuf 3 0, fresh), (mapBuf 3, fresh)]
    stages := [((Stage.mere 3).key, { active := true, reading := true, free := 100 }), ((Stage.cascade 3 5).key, { active := true, next := 2, free := 200 }), ((Stage.headwater 3 5).key, { active := true, reading := true, free := 300 })]
    streams := [(12, { bindKind := 1, state := 3, au := some {}, cur := { pic := 1 } })] }
theorem witness_end_mere : going.ras.inj = [] ∧ (going.stage (.mere 3)).active = true ∧ (going.stage (.mere 3)).reading = true ∧
    after (.mereBandDone 3 []) going (fun t => (t.stage (.mere 3)).next == 1 && !(t.stage (.mere 3)).reading && t.now == 100 && ((t.buf (progBuf 3)).curSlot.mark 0) == .written) = true := by decide +kernel
theorem witness_end_cascade : (going.stage (.cascade 3 5)).active = true ∧ (going.buf (rungBuf 3 2)).curSlot.unfinished = [0] ∧
    maxOf (going.casNeeds 3 (going.st.rungs.get 194) 0) < (going.stage (.cascade 3 5)).next ∧
    after (.cascadeBandDone 3 2) going (fun t => ((t.buf (rungBuf 3 2)).curSlot.mark 0) == .written) = true := by decide +kernel
theorem witness_end_headwater : (going.stage (.headwater 3 5)).active = true ∧ (going.stage (.headwater 3 5)).reading = true ∧
    after (.hwBandDone 3 5) going (fun t => (t.stage (.headwater 3 5)).next == 1 && t.now == 300) = true := by decide +kernel
theorem witness_end_fount : (going.streams.get 12).au = some {} ∧ ((going.buf (inputBuf 3 0)).slotOf 1).isSome = true ∧ (going.streams.get 12).band + 1 < 2 ∧
    after (.fountBandDone 3 0 { blocks := 7, bits := 999999 }) going (fun t => (t.streams.get 12).band == 1 && (t.streams.get 12).blocks == 7 && t.now == 500000) = true := by decide +kernel
theorem witness_bind : let s := { pics with st := { picSt with inflows := [(1, { inflow := 1, kind := 3 })] } }
    s.standby = false ∧ s.bindRefused 0 3 0 1 1 = false ∧ s.bindRefused 0 3 0 3 0 = true ∧
    after (.ftBindWrite 0 3 0 0x40000001) s (fun t => t.rd (ftIn 3 0 0) == 0x40000001) = true ∧
    after (.ftBindWrite 0 3 0 0xC0000000) s (fun t => t.regs == s.regs) = true ∧
    after (.ftWptrWrite 3 0 64) { s with streams := [(12, { bindKind := 2 })] } (fun t => (t.streams.get 12).wptr == 64) = true ∧
    gives (.ftWptrWrite 3 0 64) going going = true ∧ (going.streams.get 12).bindKind ≠ 0 ∧ (going.streams.get 12).state ≠ 0 ∧ (going.streams.get 12).state ≠ 5 ∧
    after (.ftStreamLossTimeout 3 0) going (fun t => (t.streams.get 12).state == 5 && (t.streams.get 12).au.isNone && t.now == 750000000) = true := by decide +kernel
theorem witness_lut : let s := { pics with layers := [(36, { enabled := true, lut := { fetching := some 64 } })] }
    bit (1#32).toNat 0 = true ∧ s.lutAddr 3 0 % 64 = 0 ∧ (s.lut 3 0).fetching = some 64 ∧ s.allowed none false 64 24576 = true ∧
    after (.lutLoad 3 0 1) s (fun t => (t.lut 3 0).fetching == some (s.lutAddr 3 0) && (t.lut 3 0).shadow.isNone) = true ∧
    after (.lutFetchDone 3 0) s (fun t => (t.lut 3 0).fetching.isNone && (t.lut 3 0).shadow.isSome) = true := by decide +kernel
theorem witness_hin : let s := { pics with hostIns := [(14, { next := some 1 })], bufs := [(inputBuf 3 2, { slots := [{}, {}, {}] })] }
    bit (0x80000001#32).toNat 31 = true ∧ s.st.inputs.has 14 = true ∧ (s.st.inputs.get 14).source = 2 ∧ (s.hostIns.get 14).next = some 1 ∧
    after (.hinPost 3 2 0x80000001) s (fun t => (t.buf (inputBuf 3 2)).cur == 1 && (t.buf (inputBuf 3 2)).pics == 1 && (t.buf (inputBuf 3 2)).curSlot.marks == [.written]) = true := by decide +kernel
theorem witness_prot : let s := { pics with st := { picSt with protects := [(3, { course := 3, owner := 2, checkUnit := 4, w := 2, h := 2, pitch := 64 })] }, prots := [(3, { expect := 5 })] }
    (s.st.protects.has 3 = true ∧ (s.stage (.mere 3)).active = true ∧ (s.prot 3).hold = false ∧ (s.prot 3).outcome = none) ∧ s.standby = false ∧
    after (.protCheckDone 3) s (fun t => (t.prot 3).lastCheck == crc32.of (List.replicate 16 0) && (t.prot 3).outcome == some false) = true ∧
    gives (.protRegWrite 2 2 3 0 9) s (s.wr (protReg 2 3 0) 9) = true ∧ gives (.protRegWrite 2 2 3 4 7) s (s.wrn (protReg 2 3 4) 3) = true ∧
    after (.protRegWrite 0 2 3 0 9) s (fun t => t.regs == s.regs) = true := by decide +kernel
/-- A Tarn that codes its first band. -/
def tarning : State := { going with tarns := [(35, { items := [{ seg := 80, left := 10 }] })] }
theorem witness_ctu : tarning.ras.inj = [] ∧ ¬ 0x1023 ∈ tarning.retired ∧ ((tarning.coding 5).seg 0).seg.tarn = 35 ∧ (tarning.tarn 35).items = [{ seg := segKey 5 0, left := 10 }] ∧
    after (.ctuCommit 5 0 100 []) tarning (fun t => (t.tarn 35).items == [{ seg := 80, left := 9 }] || (t.tarn 35).items == []) = true := by decide +kernel
theorem witness_residue : (tarning.inFlight 35 0).isSome = true ∧ (tarning.tarn 35).again = none ∧
    after (.residueMismatch 35 0 0) tarning (fun t => (t.tarn 35).again == tarning.inFlight 35 0 && t.retired == []) = true ∧
    after (.residueMismatch 35 0 0) { tarning with tarns := [(35, { items := [{ seg := 80, left := 10 }], again := tarning.inFlight 35 0 })] } (fun t => t.retired == [0x1023] && (t.tarn 35).items == []) = true ∧
    after (.tarnWatchdog 35) tarning (fun t => t.retired == [0x1023] && (t.tarn 35).items == [] && (t.tarn 35).retiredAt == some 0) = true := by decide +kernel
theorem witness_fetch_fault : (tarning.rend 5).cur.isSome = true ∧ ((tarning.coding 5).segs.has 0) = true ∧
    after (.fetchFault 5 0 0 2) tarning (fun t => (t.coding 5).isLocal && (t.coding 5).faultTold && t.tarns == tarning.tarns) = true ∧
    after (.fetchFault 5 0 0 0) tarning (fun t => (t.coding 5).isLocal) = true := by decide +kernel
theorem witness_spill : let s := { tarning with spills := [(8, { queue := [{ seg := 80, left := 2, cycles := 12, at_ := 5 }], free := 7 })] }
    (s.spw 8).queue = [{ seg := 80, left := 2, cycles := 12, at_ := 5 }] ∧
    after (.spillCtuDone 8 0 []) s (fun t => t.now == 19 && (t.spw 8).free == 19 && ((t.spw 8).queue.map (·.left)) == [1]) = true := by decide +kernel

/-! ### 08, 09: samples -/

/-- A 32 × 64 program of course 3 with its protected area at (4, 2), 2 × 2 opaque pixels of value 1 + n. -/
def marked (layers : Tab Layer) : State :=
  let word (n : Nat) : Bytes := leBytes 4 (3 * 2 ^ 30 + (n + 1) * 2 ^ 20 + (n + 11) * 2 ^ 10 + n + 21)
  { State.reset with
    layers
    st := { courses := [(3, { course := 3, width := 32, height := 64, sampling := 0, depth := 10 })]
            layers := [(36, { course := 3, layer := 0 })]
            protects := [(3, { course := 3, x := 4, y := 2, w := 2, h := 2 })] }
    prots := [(3, { shown := true, verified := some ((List.range 4).flatMap word) })] }
/-- A layer that shows its fill colour over the whole picture. -/
def filled (y cb cr alpha : Nat) : Layer :=
  { enabled := true, mode := 3, alpha, fill := y * 2 ^ 20 + cb * 2 ^ 10 + cr, geo := { dstW := 32, dstH := 64, srcW := 32, srcH := 64 } }

theorem witness_protected : let s := marked []
    let t := marked [(36, filled 500 600 700 128)]
    s.st.protects.has 3 = true ∧ s.st.protects.get 3 = t.st.protects.get 3 ∧ s.st.courses.get 3 = t.st.courses.get 3 ∧ s.prot 3 = t.prot 3 ∧
    (s.prot 3).verified.isSome = true ∧ (s.prot 3).shown = true ∧ (∀ n < 4, bits (u32 (((s.prot 3).verified).getD []) (4 * n)) 31 30 = 3) ∧
    compW 0 4 0 ≤ 5 ∧ 5 < compW 0 6 0 ∧ compW 0 4 1 ≤ 2 ∧ 2 < compW 0 6 1 ∧ compH 0 2 1 ≤ 1 ∧ 1 < compH 0 4 1 ∧
    (s.composeLine 3 [] 3).getD 5 {} = { p0 := 4, p1 := 14, p2 := 24 } ∧ ((t.composeLine 3 [] 3).getD 5 {}).p0 = 4 ∧
    ((s.composeLine 3 [] 3).getD 6 {}).p0 = 64 ∧ ((t.composeLine 3 [] 3).getD 6 {}).p0 = 283 := by decide +kernel
theorem witness_flat : (taps 8 8 0) = [0, 0, 0, 1024, 0, 0, 0, 0] ∧ (taps 16 8 32).sum = 1024 ∧ (taps 17 8 63).length = 24 ∧
    (∀ n < 3, (fun _ => List.replicate 2 700) n = List.replicate 2 700) ∧
    scaledLine 2 3 5 7 6 (fun _ => List.replicate 2 65535) = List.replicate 5 65535 := by decide +kernel
/-- R208: with no change of size the filter passes each sample. -/
theorem test_scale_identity : scaleLine 4 4 [1, 60000, 3, 65535] = [1, 60000, 3, 65535] := by decide +kernel
/-- R195: opaque, transparent and half. -/
theorem test_blend : blend 65025 4095 7 = 4095 ∧ blend 0 4095 7 = 7 ∧ blend (255 * 128) 1000 0 = 502 := by decide
/-- R193: (in − IN_OFF) × 1.0 + OUT_OFF, clipped; and the rounding of a half. -/
theorem test_matrix : matrixOut [4096, 0, 0] [4096, 0, 0] 10 [5000, 1, 1] = 914 ∧ matrixOut [0, -32768, 0] [0, 0, 0] 0 [0, 1, 0] = 0 ∧
    matrixOut [0, 0, 2048] [0, 0, 0] 0 [0, 0, 3] = 2 ∧ matrixOut [32767, 0, 0] [0, 0, 0] 0 [65535, 0, 0] = 65535 := by decide
/-- R194: interpolation between entries, and an entry with [15:12] set loaded as 4,095. -/
theorem test_table : ({} : Lut).pre 0 (16 * 5 + 8) = 6 ∧ ({} : Lut).pre 2 65535 = 4095 ∧
    ({ active := [0xFF, 0x10] } : Lut).entry 0 0 = 4095 := by decide +kernel
/-- R196: [1 2 1] at even columns, edges standing for what is outside, and pairs of lines averaged upward. -/
theorem test_chroma : chromaLine 1 4 0 0 [{ p1 := 1 }, { p1 := 2 }, { p1 := 4 }, { p1 := 9 }] = [1, 5] ∧
    chromaLine 1 4 2 4 [{ p1 := 1 }, { p1 := 2 }, { p1 := 4 }, { p1 := 9 }] = [1, 5] ∧
    chromaLine 1 4 0 2 [{ p1 := 1 }, { p1 := 3 }, { p1 := 40 }, { p1 := 9 }] = [2, 23] ∧ pairLines [[1, 4], [2, 4]] = [[2, 4]] := by decide
/-- R197, R213: surface formats, and a protected sample at each depth and α code. -/
theorem test_surface : gfxPel 0 0x80FF0102 = { a := 128, p0 := 0xFF00, p1 := 0x100, p2 := 0x200 } ∧
    gfxPel 2 (2 * 2 ^ 30 + 5 * 2 ^ 20 + 6 * 2 ^ 10 + 7) = { a := 170, p0 := 320, p1 := 384, p2 := 448 } ∧
    protSample 8 3 1021 9 = 255 ∧ protSample 12 3 1023 9 = 4092 ∧ protSample 10 0 1023 9 = 9 ∧ protSample 10 1 30 0 = 10 := by decide
/-- R22, R157: three 10-bit samples in a word, and a pixel group of 10-bit 4:2:2 in five octets. -/
theorem test_packing : workingSample (fun a => [0xFF, 0x07, 0x10, 0x00].getD a 0) 10 0 1 = 1 ∧
    runSamples 1 10 false 7 4 [0x80, 0x00, 0x16, 0x00, 0x40] = [(0, 7, 4, [1, 64]), (1, 7, 2, [512]), (2, 7, 2, [384])] := by decide +kernel
/-- R223: Σ|H| of a flat block is 64 times its value. R224: the rounded mean. R225: ties go to the smaller vector. -/
theorem test_analysis : satd8 (fun _ _ => -3) = 192 ∧ satd8 (fun x y => if x = 0 ∧ y = 0 then 1 else 0) = 64 ∧
    decimate [[1, 2, 3], [4, 4, 5]] 3 = [[3, 4]] ∧ bestVector (fun _ => some 7) (searchWindow 1 0 1 1) = some (7, 0, 0) ∧
    centreOf (-6) 1 = -2 ∧ centreOf 5 2 = 3 := by decide +kernel

/-- A picture with one unit to emit, one frame to show. -/
def emitting : State := { pics with rends := [(5, { cur := some { segs := [(0, { cols := 10, bands := 1 })], order := [0], units := [(0, { bits := 100 })] } })] }
def showing : State := { pics with rends := [(5, { tuOpen := true, cur := some { finished := true, shows := [(1, 20)] } })] }
theorem witness_emit : (emitting.rend 5).cur.isSome = true ∧ (emitting.coding 5).units.find (64 * 0 + 0) = some { bits := 100 } ∧ (emitting.coding 5).order.head? = some (64 * 0 + 0) ∧
    (emitting.coding 5).rtpLeft.contains (64 * 0 + 0) = false ∧ after (.emitUnit 5 0 0 [] {}) emitting (fun t => (t.coding 5).order == [] && (t.coding 5).tsOpen) = true ∧
    (showing.rend 5).cur.isSome = true ∧ (showing.coding 5).shows = [(1, 20)] ∧ (showing.coding 5).finished = true ∧
    after (.emitUnit 5 16 0 [] {}) showing (fun t => (t.coding 5).shows == [] && !(t.rend 5).tuOpen) = true := by decide +kernel
theorem witness_ts : let s := { pics with st := { picSt with rends := [(5, { rendition := 5, course := 3, rung := 1, payload := 2 })] }, rings := [(5, { lastTs := some 40, lastTables := some 70 })] }
    s.tsLive 5 = true ∧ (s.ring 5).lastTs = some 40 ∧ (s.ring 5).lastTables = some 70 ∧
    after (.tsPcrKeepalive 5) s (fun t => t.now == 30000060 && (t.ring 5).lastTs == some 20000040 && (t.ring 5).lastTables == some 70) = true ∧
    after (.tsTableRepeat 5) s (fun t => t.now == 150000105 && (t.ring 5).lastTs == some 100000070 && (t.ring 5).lastTables == some 100000070) = true := by decide +kernel
theorem witness_chunk : let s := { pics with st := { picSt with rends := [(5, { rendition := 5, course := 3, rung := 1, payload := 8 })] }, chunks := [(5, { en := true, sizeLog2 := 4, tail := 15, head := 1 })], rings := [(5, { entries := [{ format := 3, seq := 9, release := 40 }] })] }
    let u := { s with chunks := [] }
    (s.chunk 5).en = true ∧ (s.ring 5).entries.find? (fun e => e.format == 3 && !e.told) = some { format := 3, seq := 9, release := 40 } ∧ s.standby = false ∧
    ((s.chunk 5).tail + 1) % 2 ^ (s.chunk 5).sizeLog2 ≠ (s.chunk 5).head ∧
    after (.chunkRecordWrite 5) s (fun t => (t.chunk 5).tail == 0 && (t.chunk 5).head == 1 && t.now == 60 && (t.ring 5).entries.all (·.told)) = true ∧
    ((s.st.rendsOf 3)[0]?).map (·.rendition) = some 5 ∧ after (.chunkHeadWrite 3 0 18) s (fun t => (t.chunk 5).head == 2 && (t.chunk 5).armed) = true ∧
    (u.chunk 5).en = false ∧ bit (0x8000010C#32).toNat 31 = true ∧ u.rd64 (erReg 3 0 0x18) % 4096 = 0 ∧ bits (0x8000010C#32).toNat 4 0 = 12 ∧
    after (.chunkRingEnable 3 0 0x8000010C) u (fun t => (t.chunk 5).en && (t.chunk 5).sizeLog2 == 12 && (t.chunk 5).irqEn) = true ∧
    after (.chunkRingEnable 3 0 0) s (fun t => !(t.chunk 5).en) = true := by decide +kernel
theorem witness_caption : bit (pics.rdn (capReg 3 8)) 31 = false ∧ pics.rd64 (capReg 3 0) % 16 = 0 ∧ pics.st.regionAt (pics.rd64 (capReg 3 0)) = some { grain := 8, chMask := 1, size := 33554432, writers := 1 } ∧
    bit 1 (pics.st.courseOwner 3) = true ∧ pics.rd64 (capReg 3 0) + 2 ^ 20 ≤ 33554432 ∧
    after (.captionRingEnable 3 0x80000014) pics (fun t => t.rdn (capReg 3 8) == 2 ^ 31 + 20 && t.rdn (capReg 3 0x10) == 0) = true ∧
    after (.captionRingEnable 3 0x8000000C) pics (fun t => t.rdn (capReg 3 8) == 2 ^ 31 + 12) = true ∧
    after (.captionRingEnable 3 0x8000000B) pics (fun t => !bit (t.rdn (capReg 3 8)) 31) = true := by decide +kernel
theorem witness_outflow : let s := { pics with outf := { gate := true, ports := [(0, { dups := [(6, [])], free := 30, apply := false })] } }
    let u := { s with now := 30 }
    s.st.portFormed 0 = true ∧ (s.oport 0).dups = [(6, [])] ∧ after (.outflowSelect 0) s (fun t => t.now == 30 && (t.oport 0).dups == []) = true ∧
    s.now < (s.oport 0).free ∧ after (.portBucketApply 0 1) s (fun t => (t.oport 0).apply && (t.oport 0).free == 30) = true ∧
    (u.oport 0).free ≤ u.now ∧ gives (.portBucketApply 0 0x4001) u ((u.wrn (outPort 0 0) 0x4000).portApply 0 30) = true := by decide +kernel
theorem witness_drain : let s := { active with outf := { draining := true }, pair := { role := 4, actOut := true } }
    s.outf.draining = true ∧ after .egressDrainDone s (fun t => !t.pair.actOut && t.pair.role == 1) = true ∧ gives .egressDrainDone active active = true := by decide +kernel

/-! ### 10 to 12: memory, the fabric, Sluice, the block copy engines and the check units (14, 15, 16) -/

/-- A live channel 31 with a bank due. -/
def chan (x : Chan) : State := { pics with chans := [(31, { x with live := true })] }
theorem witness_refresh : let s := chan { banks := [(95, { row := some 3, due := some 40 })] }
    let u := chan { banks := [(0, { row := some 3, due := some 40 })], rq := [{ rt := true }] }
    ((s.chan 31).banks.get 95).due = some 40 ∧ s.selfRefresh.contains 31 = false ∧ ((s.chan 31).payBank 95 40).rtQueued 95 = false ∧
    after (.refreshDue 31 95) s (fun t => ((t.chan 31).banks.get 95).row.isNone && ((t.chan 31).banks.get 95).held == 280 && ((t.chan 31).banks.get 95).due == some 5890 && t.now == 40) = true ∧
    ((u.chan 31).payBank 0 40).rtQueued 0 = true ∧ (((u.chan 31).payBank 0 40).banks.get 0).owed < 8 ∧
    after (.refreshDue 31 0) u (fun t => ((t.chan 31).banks.get 0).owed == 1 && ((t.chan 31).banks.get 0).row == some 3) = true ∧
    after (.memTempChange 1 true) s (fun t => (t.chan 31).hot && (t.chan 31).refi == 2925 && !(t.chan 15).hot && (t.chan 16).hot) = true := by decide +kernel
theorem witness_scrub : let s := { chan { scrubPos := 0x60000000 - 64 } with regs := [(resReg 31 4, 2)] }
    s.fld (resReg 31 4) 1 1 ≠ 0 ∧ s.selfRefresh.contains 31 = false ∧ s.excluded.contains 31 = false ∧ (s.chan 31).live = true ∧
    after (.scrubRead 31 {} {}) s (fun t => (t.chan 31).scrubPos == 0 && (t.chan 31).scrubAt == some t.now) = true ∧
    after (.scrubRead 31 {} {}) { s with chans := [(31, { live := true, scrubPos := 64, scrubAt := some 7 })] } (fun t => (t.chan 31).scrubPos == 128 && t.now == 7 + s.scrubPace) = true := by decide +kernel
theorem witness_retrain : let s := chan { visit := 7, visited := [(7, 10)] }
    (s.chan 31).visited.find (s.chan 31).visit = some 10 ∧ after (.laneRetrain 31 none) s (fun t => (t.chan 31).visit == 0 && t.now == 150000010 && ((t.chan 31).lanes.get 7).state == 2) = true ∧
    after (.memRequest 31 1 {} {}) { s with chans := [(31, { live := true, ready := 9 })] } (fun t => t.now == 9) = true := by decide +kernel
theorem witness_training : let s := { State.reset with boot := { stage := 2 } }
    s.boot.stage = 2 ∧ (s.chan 31).live = false ∧ s.excluded.contains 31 = false ∧ after (.hbmTraining [{ chan := 31 }]) s (fun t => (t.chan 31).live && t.excluded == []) = true ∧
    after (.hbmTraining [{ chan := 31, excluded := some (3, 2) }]) s (fun t => !(t.chan 31).live && t.excluded == [31] && (t.chan 31).reason == 2) = true := by decide +kernel
theorem witness_self_refresh : let s := chan {}
    let u := { pics with chans := [(0, { live := true })] }
    let v := chan { entering := true, banks := [(1, { owed := 2, row := some 1 })] }
    let w := { chan {} with selfRefresh := [31] }
    (s.st.regions.vals.any (fun r => r.cls == 0 && bit r.chMask 31) || s.excluded.contains 31) = false ∧ (s.chan 31).entering = false ∧ s.selfRefresh.contains 31 = false ∧ (s.tport 31).waiting = [] ∧
    after (.srReqSet 31) s (fun t => t.fld (resReg 31 4) 0 0 == 1 && (t.chan 31).entering) = true ∧
    (u.st.regions.vals.any (fun r => r.cls == 0 && bit r.chMask 0) || u.excluded.contains 0) = true ∧ after (.srReqSet 0) u (fun t => t.fld (resReg 0 4) 0 0 == 0) = true ∧
    (v.chan 31).entering = true ∧ (v.chan 31).abandoned = false ∧ (v.chan 31).rq = [] ∧ (v.chan 31).wq = [] ∧
    after (.srEntryDone 31) v (fun t => t.selfRefresh == [31] && !(t.chan 31).entering && t.now == 480 && (t.chan 31).banks.get 1 == { (t.chan 31).banks.get 1 with owed := 0, row := none }) = true ∧
    w.selfRefresh.contains 31 = true ∧ after (.srReqClear 31) w (fun t => t.selfRefresh == [] && (t.chan 31).ready == 600) = true := by decide +kernel

theorem witness_fabric : let x : Txn := { master := 0, addr := 4032, len := 64 }
    let y : Txn := { master := 0, addr := 0x900000000, len := 64 }
    x.legal = true ∧ pics.fabric.inReset.has 0 = false ∧ pics.reach none false 4032 64 = true ∧ pics.reach none false 0x900000000 64 = false ∧
    gives (.fabricRequest y false) pics ((pics.decodeError 0 none false 0x900000000).respond y 1 (zeros y)) = true ∧
    after (.fabricRequest x false) pics (fun t => t.fabric.nextId == 2 && t.now == 0) = true ∧
    ({ x with len := 65 } : Txn).legal = false ∧ gives (.fabricRequest { x with len := 65 } false) pics pics = true := by decide +kernel
theorem witness_bar4 : let x : Txn := { fn := some 63, addr := 64, len := 64 }
    ({ x with master := 20, fn := some 63 } : Txn).legal = true ∧ pics.bar4At 63 64 64 = none ∧
    gives (.fabricRequest x true) pics ((pics.decodeError 20 (some 63) false 64).respond { x with master := 20 } 1 (zeros { x with master := 20 })) = true := by decide +kernel
theorem witness_timeout : let s := { pics with fabric := { flight := [(9, { t := { master := 3, addr := 64, len := 64 }, at_ := 5 })] } }
    let u := { pics with fabric := { inReset := [(21, 0)], flight := [(9, { t := { master := 21 }, cut := true })] } }
    s.fabric.flight.find 9 = some { t := { master := 3, addr := 64, len := 64 }, at_ := 5 } ∧ after (.targetTimeout 9) s (fun t => t.fabric.flight == [] && t.now == 5 + s.rdn (cnfReg 0)) = true ∧
    u.fabric.inReset.has 21 = true ∧ after (.burstFinishDone 21) u (fun t => t.fabric.inReset == [] && t.fabric.flight == []) = true := by decide +kernel

/-- PF0 has 64 Sluice channels. -/
def slc (x : SluiceChan) : State := { pics with st := { picSt with funcs := [(0, { enabled := true, sluice := 64 })] }, sluice := [(63, x)] }
theorem witness_sluice_start : let s := slc {}
    s.sluiceOf 0 63 = some 63 ∧ s.sluiceOf 0 64 = none ∧ (s.slc 63).state = 0 ∧ slcTrigger (s.slcCfg 63) = 0 ∧ slcTick (s.slcCfg 63) = false ∧
    after (.sluiceStart 0 63) s (fun t => (t.slc 63).state == 1 && t.sluiceOrder == 1 && (t.slc 63).order == 0) = true ∧
    gives (.sluiceStart 0 63) (slc { state := 2 }) ((slc { state := 2 }).sluiceMissed 63) = true ∧ after (.sluiceStart 0 63) (slc { state := 3 }) (fun t => (t.slc 63).state == 3) = true := by decide +kernel
theorem witness_sluice_stop : let s := slc { state := 1, cur := 64 }
    s.abortable 63 = true ∧ (s.slc 63).error = none ∧ (s.slc 63).owed = [] ∧ after (.sluiceDisable 0 63) s (fun t => (t.slc 63).state == 3) = true ∧
    after (.sluiceAbort 0 63 [] [] 0) s (fun t => (t.slc 63).state == 4 && (t.slc 63).owed == [{ status := 5, addr := 64, final := true }]) = true := by decide +kernel
theorem witness_sluice_timer : let s := { slc {} with regs := [(sluiceReg 63 0x10, 0x40000000), (sluiceReg 63 0x18, 0xE0FFFFFF)], doms := [(7, { stage := .window, tick := 4, openAt := 100 })] }
    s.sluiceOwner 63 ≠ none ∧ slcTrigger (s.slcCfg 63) = 1 ∧ bit (s.slcTimer 63) 28 = false ∧ bits (s.slcTimer 63) 31 29 = 7 ∧ (s.dom 7).stage = .window ∧ (s.slc 63).fired ≠ some 4 ∧
    after (.sluiceTimerTrigger 63) s (fun t => (t.slc 63).state == 1 && (t.slc 63).fired == some 4 && t.now == 100 + 16 * 0xFFFFFF) = true := by decide +kernel
theorem witness_sluice_grant : let s := { pics with sluice := [(1, { state := 1, order := 5 }), (2, { state := 1, order := 4 }), (3, { state := 2, slot := 30 })] }
    (∀ e ∈ s.sluice, ¬ ((e.2.state = 2 ∨ e.2.state = 4) ∧ e.2.slot = 31)) ∧ after (.sluiceSlotGrant 31) s (fun t => t.slc 2 == { state := 2, order := 4, slot := 31 } && (t.slc 1).state == 1) = true ∧
    gives (.sluiceSlotGrant 30) s s = true := by decide +kernel
/-- A descriptor that copies 64 bytes from 64 to 128; one that jumps to 96; one that breaks the rules (R358). -/
def copyDesc : Bytes := leBytes 8 64 ++ leBytes 8 128 ++ leBytes 4 64 ++ leBytes 4 64 ++ leBytes 2 1 ++ leBytes 2 1 ++ leBytes 4 0
def jumpDesc : Bytes := leBytes 8 96 ++ leBytes 11 0 ++ [4] ++ leBytes 12 0
def cells (a : Nat) (b : Bytes) : List Host.Cell := Mem.puts [] a b
theorem witness_sluice_desc : let s := slc { state := 2, cur := 32 }
    (s.slc 63).issues = true ∧ ((slc { state := 2, cur := 16 }).slc 63).cur % 32 ≠ 0 ∧
    after (.sluiceDescriptorDone 63 true [] [] 0 none) (slc { state := 2, cur := 16 }) (fun t => (t.slc 63).owed == [{ status := 4, addr := 16, final := true }]) = true ∧
    s.reach (some (s.sluiceFn 63)) false ((slc { state := 2, cur := 0x900000000 }).slc 63).cur 32 = false ∧
    after (.sluiceDescriptorDone 63 true [] [] 0 none) (slc { state := 2, cur := 0x900000000 }) (fun t => (t.slc 63).error.map (fun r => (r.status, r.addr, r.final)) == some (3, 0x900000000, true)) = true ∧
    (sluiceDesc copyDesc).legal = true ∧ (sluiceDesc copyDesc).jump = false ∧ (sluiceDesc jumpDesc).legal = true ∧ (sluiceDesc jumpDesc).jump = true ∧ (sluiceDesc jumpDesc).last = false ∧
    (sluiceDesc (List.replicate 32 1)).legal = false := by decide +kernel
theorem witness_sluice_moves : let s := { slc { state := 2, cur := 32 } with mem := Mem.puts (Mem.puts [] 32 copyDesc) 64 [7, 8] }
    let d := sluiceDesc copyDesc
    (s.fetchDesc (s.sluiceFn 63) 32 true []).1 = (some copyDesc, 0) ∧ s.sideFails (s.sluiceFn 63) false none (d.src.pieces d.total) = none ∧ s.sideFails (s.sluiceFn 63) true none (d.dst.pieces d.total) = none ∧
    after (.sluiceDescriptorDone 63 true [] [] 64 none) s (fun t => Mem.bytes t.mem 128 2 == [7, 8] && (t.slc 63).cur == 64 && (t.slc 63).bytes == 64) = true := by decide +kernel
theorem witness_sluice_jumps : let s := { slc { state := 2, cur := 32 } with mem := Mem.puts [] 32 jumpDesc }
    let u := { slc { state := 2, cur := 32 } with mem := Mem.puts [] 32 (List.replicate 32 1) }
    (s.fetchDesc (s.sluiceFn 63) 32 true []).1 = (some jumpDesc, 0) ∧ (s.slc 63).hops + 1 < hopLimit (s.slc 63).cfg ∧
    after (.sluiceDescriptorDone 63 true [] [] 0 none) s (fun t => (t.slc 63).cur == 96 && (t.slc 63).hops == 1) = true ∧
    (u.fetchDesc (u.sluiceFn 63) 32 true []).1 = (some (List.replicate 32 1), 0) ∧
    after (.sluiceDescriptorDone 63 true [] [] 0 none) u (fun t => (t.slc 63).owed.map (·.status) == [4]) = true := by decide +kernel
theorem witness_sluice_posts : let s := slc { state := 2, seq := 9, owed := [{ status := 1, addr := 32, final := true }] }
    let u := slc { state := 2, seq := 9, error := some { status := 3, addr := 32, final := true } }
    (s.slc 63).owed = [{ status := 1, addr := 32, final := true }] ∧ after (.sluiceStatusPost 63) s (fun t => (t.slc 63).state == 0 && (t.slc 63).owed == [] && (t.slc 63).lastStatus == 2 ^ 24 + 9) = true ∧
    (u.slc 63).error = some { status := 3, addr := 32, final := true } ∧ after (.sluiceErrorEnd 63) u (fun t => (t.slc 63).state == 0 && (t.slc 63).error.isNone && (t.slc 63).lastStatus == 3 * 2 ^ 24 + 9) = true := by decide +kernel

theorem witness_bce_sem : let s := { pics with bces := [(1, { holder := some 5 })] }
    let u := { pics with bces := [(1, { holder := some 5, busy := true })] }
    (pics.bce 1).holder = none ∧ after (.bceAcquire 1 63) pics (fun t => (t.bce 1).holder == some 63) = true ∧ gives (.bceAcquire 1 63) s s = true ∧
    after (.bceRelease 1 5) s (fun t => (t.bce 1).holder == none) = true ∧ after (.bceRelease 1 5) u (fun t => (t.bce 1).holder == some 5 && (t.bce 1).release) = true ∧
    after (.bceForceRelease 1 0) s (fun t => (t.bce 1).holder == none) = true ∧ after (.bceForceRelease 1 0) u (fun t => (t.bce 1).holder == none && !(t.bce 1).busy) = true ∧
    gives (.bceForceRelease 1 5) u u = true := by decide +kernel
/-- A fill of 2 lines of 16 bytes at 64, 32 apart, by PF0. -/
def filling : State := { pics with bces := [(1, { holder := some 0 })], regs := [(bceReg 1 4, 0), (bceReg 1 0x10, 64), (bceReg 1 0x1C, 32), (bceReg 1 0x20, 0x1000F), (bceReg 1 0x24, 0x55)] }
theorem witness_bce_go : (filling.bce 1).holder = some 0 ∧ (filling.bce 1).busy = false ∧ bit (1#32).toNat 0 = true ∧
    (let u := filling.wrn (bceReg 1 4) 0; (u.bceOp 1).legal && !bit (u.rdn (bceReg 1 4)) 10 && (u.bceOp 1).aligned (u.bceOp 1).dst (u.bceOp 1).dp &&
      (u.bceOp 1).aligned (u.bceOp 1).src 16 && !(u.bceOp 1).overlaps) = true ∧
    after (.bceGo 1 0 1) { filling with regs := filling.regs.set (bceReg 1 0x18) 16 } (fun t => (t.bce 1).busy) = true ∧ (filling.bce 1).holder ≠ some 7 ∧
    after (.bceGo 1 7 1) filling (fun t => t.regs == filling.regs && t.bces == filling.bces) = true := by decide +kernel
theorem witness_bce_complete : let s := { filling with bces := [(1, { holder := some 0, busy := true, at_ := 3 })] }
    (s.bceOp 1).h = 2 ∧ (s.bceOp 1).bytes = 16 ∧ (s.bce 1).busy = true ∧ s.bceFault (some 0) (s.bceOp 1) 0 = none ∧ s.bceFault (some 0) (s.bceOp 1) 1 = none ∧ (s.bceOp 1).bytes ≤ (s.bceOp 1).dp ∧
    after (.bceComplete 1 none) s (fun t => Mem.bytes t.mem 63 18 == [0] ++ List.replicate 16 0x55 ++ [0] && Mem.bytes t.mem 96 17 == List.replicate 16 0x55 ++ [0] && !(t.bce 1).busy && t.now == 4) = true := by decide +kernel

theorem witness_check : let s := { pics with checks := [(15, { owner := 9 })] }
    s.fwHeld 15 = false ∧ s.fld (chkReg 15 0) 22 7 = 0 ∧ (s.chk 15).restart = false ∧
    after (.chkDataB 15 0x1FF) s (fun t => (t.chk 15).run == (s.crcCfg 15).feed (s.chk 15).run 255 && (t.chk 15).fed == 1) = true ∧
    after (.chkDataW 15 5) s (fun t => (t.chk 15).fed == 4) = true ∧ after (.chkPortWrite 15 9 [1, 2]) s (fun t => (t.chk 15).fed == 2) = true ∧
    gives (.chkPortWrite 15 8 [1]) s (s.decodeError 20 (some 8) true 0x102000F000) = true := by decide +kernel
theorem witness_check_end : let s := { pics with checks := [(15, { fed := 3, run := 99 })], regs := [(chkReg 15 0, 2 ^ 29)] }
    s.fwHeld 15 = false ∧ s.fld (chkReg 15 0) 29 29 = 1 ∧ after (.chkMsgEnd 15) s (fun t => (t.chk 15).fed == 0 && (t.chk 15).result == (s.crcCfg 15).out 99 && (t.chk 15).restart) = true ∧
    after (.chkRestart 15) s (fun t => (t.chk 15).run == s.chkInit 15 && (t.chk 15).fed == 3) = true ∧ after (.chkRunWrite 15 false 77) s (fun t => (t.chk 15).run == 77 % 2 ^ (s.crcCfg 15).width) = true ∧
    after (.chkAliveCfgWrite 15 5) s (fun t => (t.chk 15).base.isNone && (t.chk 15).run == 99) = true ∧ after (.chkOwnerWrite 15 64) s (fun t => (t.chk 15).owner == 0) = true ∧
    after (.chkOwnerWrite 15 63) s (fun t => (t.chk 15).owner == 63 && (t.chk 15).base.isNone) = true := by decide +kernel
theorem witness_check_held : let s := { pics with st := { picSt with protects := [(3, { course := 3, checkUnit := 15 })] } }
    s.fwHeld 15 = true ∧ gives (.chkDataW 15 5) s s = true ∧ gives (.chkRestart 15) s s = true ∧ gives (.chkOwnerWrite 15 63) s s = true := by decide +kernel

/-! ### 13 to 15: the pair, error protection, start-up, lanes and power (17 to 21) -/

/-- A seat of the pair with the given state. -/
def pairs (seat : Nat) (p : Pair) : State := { standby with boot := { stage := 3, seat }, pair := p, outf := { gate := true } }
theorem witness_claim : let s := pairs 1 { role := 1, count := some 5 }
    s.pair.count = some 5 ∧ after .claimHoldoffExpired s (fun t => t.pair.role == 2 && t.pair.actOut && t.pair.claimAt == 1029 && t.now == 1029) = true ∧
    after .claimHoldoffExpired (pairs 0 { role := 1, count := some 5 }) (fun t => t.now == 261) = true ∧
    after .claimConfirmEnd { pairs 1 { role := 2, actIn := true, actOut := true, claimAt := 5 } with now := 69 } (fun t => t.pair.role == 1 && !t.pair.actOut && t.now == 69) = true ∧
    gives .claimConfirmEnd (pairs 0 { role := 2, claimAt := 5 }) ((pairs 0 { role := 2, claimAt := 5 }).runTo 69) = true := by decide +kernel
theorem witness_takeover : let s := pairs 0 { role := 2, actOut := true, claimAt := 5 }
    s.pair.role = 2 ∧ s.pair.actIn = false ∧ s.st.domains.keys = [] ∧ s.pair.staged = [] ∧
    after .takeoverGateOpen s (fun t => t.pair.role == 3 && t.outf.gate && t.now == 309) = true := by decide +kernel
theorem witness_actIn : let s := pairs 1 { role := 3, actOut := true }
    let u := pairs 0 { role := 3, actIn := true }
    let v := pairs 0 { role := 1, count := some 4 }
    (s.paired = true ∧ s.pair.actIn = false) ∧ after (.actInChange true) s (fun t => t.pair.actIn && !t.outf.gate && t.pair.role == 4) = true ∧
    after (.actInChange true) (pairs 0 { role := 3 }) (fun t => !t.outf.gate && t.pair.role == 3) = true ∧
    u.paired = true ∧ after (.actInChange false) u (fun t => t.outf.gate && t.pair.role == 3) = true ∧
    after (.actInChange true) v (fun t => t.pair.actIn && t.pair.count.isNone && t.pair.role == 1) = true := by decide +kernel
theorem witness_no_active : let s := pairs 0 { role := 1, noneFrom := some 4 }
    s.pair.noneFrom = some 4 ∧ (s.limits.get (0xC08 * 2 ^ 16)).last = none ∧ after .noActiveTimeout s (fun t => t.now == 1028 && (t.limits.get (0xC08 * 2 ^ 16)).last == some 1028) = true ∧
    after .watchdogExpiry (pairs 0 { role := 3 }) (fun t => t.pair.fatal && t.pair.role == 4 && !t.outf.gate) = true := by decide +kernel
/-- The four lanes of the link are UP. -/
def linked : State := { pairs 0 { role := 3, hbAt := 7 } with lanes := [(32, { state := 3 }), (33, { state := 3 }), (34, { state := 3 }), (35, { state := 3 })] }
/-- A heartbeat of the peer (R389), its CRC appended. -/
def beat : Bytes := let b := leBytes 8 77 ++ [6, 0, 1, 0] ++ leBytes 32 0; b ++ leBytes 4 (crc32.of b)
theorem witness_heartbeats : linked.paired = true ∧ linked.guavoUp = true ∧ after .heartbeatSend linked (fun t => t.now == 8199 && t.pair.hbAt == 8199 && t.pair.hbAlive == 1) = true ∧
    beat.length = 48 ∧ crc32.of (beat.take 44) = u32 beat 44 ∧ u64 beat 0 = linked.st.pair.pairId ∧ linked.pair.lastAlive ≠ some (u8 beat 8) ∧
    after (.heartbeatReceived beat true) linked (fun t => t.pair.peerAlive && t.pair.lastAlive == some 6 && t.pair.peerHold && t.pair.peerImage == 0) = true ∧
    gives (.heartbeatReceived beat false) linked (linked.inc (guavoReg 0x38) 1) = true ∧ gives (.heartbeatReceived [] true) linked linked = true ∧
    after .heartbeatIntervalMissed { linked with pair := { linked.pair with missed := 3, peerAlive := true } } (fun t => !t.pair.peerAlive && t.pair.missed == 4) = true ∧
    after .heartbeatIntervalMissed { linked with pair := { linked.pair with missed := 2, peerAlive := true } } (fun t => t.pair.peerAlive && t.pair.missed == 3) = true := by decide +kernel
/-- A STANDBY with domain 7 at a stage. -/
def sby (x : Domain) : State := { standby with boot := { stage := 3 }, st := { standby.st with domains := d50, rends := [(5, { rendition := 5 })] }, doms := [(7, { x with num := 1, den := 50 })], rends := [(5, { unsynced := true })] }
theorem witness_snapshots : let s := sby { stage := .window, tick := 3, next := 80000000 }
    let u := sby { stage := .snap, tick := 5, t0 := 100 }
    s.standby = true ∧ s.domDefined 7 = true ∧ s.nextTick 7 = 4 ∧ (s.dom 7).stage = .window ∧ after (.snapshotReceived { dom := 7, tick := 4 } true) s (fun t => t.pair.arrived.find 7 == some (some { dom := 7, tick := 4 })) = true ∧
    after (.snapshotReceived { dom := 7 } false) s (fun t => t.pair.arrived.find 7 == some none) = true ∧
    u.domDefined 7 = true ∧ (u.dom 7).stage = .snap ∧ after (.snapshotReceived { dom := 7, tick := 5, alive := 1 } true) u (fun t => (t.dom 7).stage != .snap) = true ∧
    after (.snapshotWaitTimeout 7) u (fun t => (t.dom 7).stage == .settle && 16484 ≤ t.now) = true := by decide +kernel
theorem witness_pair_image_refused : standby.paired = true ∧ checkImage standby.peerCtx [] = .refused 1 0 ∧
    after (.pairImageReceived []) standby (fun t => t.pair.diverged && t.pair.staged == [] && t.st == standby.st) = true := by decide +kernel
/-- An image from the peer is accepted where its signature verifies. -/
def peering : State := { trained with img := { present := true }, st := { pair := { enabled := true, watchdogUs := 100 } }, pair := { role := 1 } }
theorem witness_pair_image (hv : tinySigned 5) : (peering.paired = true ∧ peering.standby = true) ∧ checkImage peering.peerCtx (tiny 5) =
    .accepted (readHeader (tiny 5)) (tinyRecs 5) (Structure.addRecs {} (tinyRecs 5)) := by
  refine ⟨by decide +kernel, ?_⟩
  unfold checkImage
  dsimp only
  rw [tinySigned_at hv _ _ _ _ (by decide +kernel) (by decide +kernel) (by decide +kernel) (by decide +kernel)]
  decide +kernel
theorem witness_heal : let s := { linked with st := { linked.st with pair := { linked.st.pair with healBudget := 10 ^ 9 }, rends := [(5, { rendition := 5 })], rungs := [] } }
    let u := sby {}
    s.pair.role = 3 ∧ s.guavoUp = true ∧ s.st.pair.healBudget ≠ 0 ∧ s.st.rends.has 5 = true ∧ s.pair.healTx.has 5 = false ∧
    s.healReserved (s.domRend 5) + s.healPicture 5 ≤ s.st.pair.healBudget ∧ after (.healListReceived [5]) s (fun t => t.pair.healTx.has 5) = true ∧
    u.standby = true ∧ u.st.rends.has 5 = true ∧ (u.rend 5).unsynced = true ∧ after (.healReceived { rend := 5, bands := 2, band := 0 }) u (fun t => (t.rend 5).healing) = true := by decide +kernel

theorem witness_sram : let u := pics.wrn (rasReg 0x02C) (0x1023 * 2 ^ 16 + 7)
    pics.ras.inj = [] ∧ gives (.sramError 0x1023 7 0 .control) pics (u.sramCorrected 0x1023 7 false) = true ∧
    after (.sramError 0x1023 7 1 .control) pics (fun t => t.rd (rasReg 0x020) == 1) = true ∧ after (.sramError 0x1023 7 2 .shared) pics (fun t => t.rd (rasReg 0x020) == 1) = true := by decide +kernel
theorem witness_unit_mismatch : let s := { pics with ras := { again := [(0x1405, 3)] } }
    retirable 0x1405 = true ∧ 0x1405 / 256 ≠ 0x10 ∧ pics.alive 0x1405 = true ∧ pics.ras.again.find 0x1405 ≠ some 3 ∧
    after (.unitResidueMismatch 0x1405 3) pics (fun t => t.ras.again.find 0x1405 == some 3 && t.retired == []) = true ∧
    s.alive 0x1405 = true ∧ after (.unitResidueMismatch 0x1405 3) s (fun t => t.retired.contains 0x1405) = true ∧ after (.unitResidueMismatch 0x1405 4) s (fun t => !t.retired.contains 0x1405) = true := by decide +kernel
theorem witness_spill_compare : let s := { pics with spills := [(8, { queue := [{ seg := 80, left := 2 }] })] }
    let u := { s with ras := { again := [(0x1508, s.spillCtuId 8)] } }
    (s.spw 8).queue = [{ seg := 80, left := 2 }] ∧ s.ras.again.find 0x1508 ≠ some (s.spillCtuId 8) ∧
    after (.spillwayCompareMismatch 8) s (fun t => t.ras.again.find 0x1508 == some (s.spillCtuId 8) && t.ras.fatal == 0 && t.now == 12) = true ∧
    u.ras.fatal = 0 ∧ after (.spillwayCompareMismatch 8) u (fun t => t.ras.fatal == 2 && t.pair.fatal) = true := by decide +kernel
theorem witness_fatal : let s := { State.reset with outf := { gate := true } }
    s.ras.fatal = 0 ∧ s.pair.role = 0 ∧ after (.fatalCondition 6) s (fun t => t.ras.fatal == 6 && t.pair.fatal && !t.outf.gate && (t.slc 63).state == 3) = true ∧
    after (.fatalCondition 7) s (fun t => t.ras.fatal == 0) = true ∧ gives (.fatalCondition 1) { s with ras := { fatal := 6 } } { s with ras := { fatal := 6 } } = true ∧
    after (.thermalSample 1999 0) s (fun t => t.ras.fatal == 0 && t.ras.wanted == 2 && t.rdn (rasReg 8) == 1999 * 2 ^ 16) = true ∧
    after (.thermalSample 1760 0) s (fun t => t.ras.wanted == 1) = true ∧ after (.thermalSample 1759 (-8)) s (fun t => t.ras.wanted == 0 && t.rdn (rasReg 8) == 1759 * 2 ^ 16 + 65528) = true ∧
    after (.thermalSample 2000 0) s (fun t => t.ras.fatal == 5 && t.ras.trip) = true := by decide +kernel
theorem witness_therm_release : let s := { State.reset with ras := { wanted := 2, below := [(2, 9)] } }
    s.ras.below.find 2 = some 9 ∧ s.ras.wanted = 2 ∧ after (.thermStepReleaseTimer 2) s (fun t => t.ras.wanted == 1 && t.now == 1500000009) = true := by decide +kernel
theorem witness_resets : let s := { crs with retired := [0x1001], mem := [(3, 1)], pending := [.floorLock] }
    let u := { s with boot := { inReset := true } }
    s.boot.inReset = false ∧ after .sysResetAssert s (fun t => t.mem == [] && t.st == {} && t.boot.inReset && t.retired == [] && t.regs == [(glb 0x28, 0)] && t.pending == [.floorLock]) = true ∧
    u.boot.inReset = true ∧ after (.sysResetDeassert true) u (fun t => !t.boot.inReset && t.boot.seat == 1 && t.regs == [(glb 0x28, 2)]) = true ∧
    bits (0x96000001#32).toNat 31 16 = 0x9600 ∧ bit (0x96000001#32).toNat 0 = true ∧ after (.deviceReset 0x96000001) s (fun t => t.regs == [(glb 0x28, 4)] && t.mem == []) = true ∧
    gives (.deviceReset 0x96000000) s s = true ∧ gives (.deviceReset 0x96010001) s s = true ∧ s.boot.powered = true ∧ after .supplyLoss s (fun t => !t.boot.powered && t.boot.inReset && t.mem == []) = true ∧
    after .perstAssert { queued with boot := { stage := 3 } } (fun t => t.boot.perst && !t.pcie.up && !(t.sqOf 0 7).en) = true ∧
    after .perstDeassert { s with boot := { perst := true } } (fun t => !t.boot.perst) = true ∧ after .trstAssert s (fun t => t.boot.tapReset) = true := by decide +kernel
theorem witness_firmware : let s := State.reset
    let a : FwCopy := { version := 3 }
    let b : FwCopy := { version := 4 }
    let x : FwCopy := { bad := 1 }
    s.boot.inReset = false ∧ s.boot.stage = 0 ∧ x.bad ≠ 0 ∧ a.bad = 0 ∧ after (.firmwareVerify x x true) s (fun t => t.boot.stage == 15) = true ∧
    after (.firmwareVerify a b true) s (fun t => t.boot.stage == 2 && t.boot.fwCopy == 1 && t.rd (glb 0x30) == 4) = true ∧ after (.firmwareVerify a a true) s (fun t => t.boot.fwCopy == 0) = true ∧
    after (.firmwareVerify x b true) s (fun t => t.boot.stage == 2 && t.boot.fwCopy == 1) = true ∧ after (.firmwareVerify a x true) s (fun t => t.boot.fwCopy == 0) = true ∧
    after (.startupTimeout false) { s with boot := { stage := 2, at_ := 5 }, chans := [(0, { live := true })] } (fun t => t.boot.stage == 3 && t.boot.trained && t.now == 862500005 && t.excluded == (List.range 31).map (· + 1)) = true := by decide +kernel
theorem witness_flash : let s := { State.reset with regs := [(glb 0x204, 0x12345)] }
    let u := { s with devMaint := false }
    let v := { s with boot := { flashOp := some (3, 0x12300) } }
    s.boot.flashOp = none ∧ s.devMaint = true ∧ after .flashErase s (fun t => t.boot.flashOp == some (1, 0x10000)) = true ∧ after .flashProgram s (fun t => t.boot.flashOp == some (2, 0x12300)) = true ∧
    after .flashRead s (fun t => t.boot.flashOp == some (3, 0x12300)) = true ∧ u.devMaint = false ∧ gives .flashErase u { u with boot := { u.boot with flashErr := true } } = true ∧
    v.boot.flashOp = some (3, 0x12300) ∧ after (.flashOpDone true (leBytes 256 0x0807060504030201)) v (fun t => t.boot.flashOp.isNone && t.rd (glb 0x300) == 0x04030201 && t.rd (glb 0x304) == 0x08070605) = true ∧
    after (.flashOpDone false []) v (fun t => t.boot.flashErr && t.regs == v.regs) = true := by decide +kernel

/-- Lane `n` in a given state; the lanes of port 0 are formed. -/
def lanes (n : Nat) (x : Lane) : State := { crs with lanes := [(n, x)], regs := [(laneReg n 0, 0)] }
theorem witness_lane_up : let s := lanes 0 {}
    let u := lanes 0 { state := 2, calibrated := true, cdr := true, triedAt := 4, cdrAt := 4 }
    (s.lane 0).calibrated = false ∧ ownLane 0 = true ∧ s.laneIdle 0 = false ∧ after (.laneCalibrationDone 0 true) s (fun t => (t.lane 0).state == 2 && (t.lane 0).calibrated) = true ∧
    after (.laneCalibrationDone 0 false) s (fun t => (t.lane 0).state == 4 && (t.lane 0).reason == 1) = true ∧
    after (.laneSignalDetect 0) (lanes 0 { state := 2 }) (fun t => (t.lane 0).signal && (t.lane 0).cdr) = true ∧
    (u.lane 0).burst = none ∧ u.fld (laneReg 0 0) 29 28 = 0 ∧ after (.lanePolaritySwitch 0) u (fun t => (t.lane 0).trying && t.now == 1500004) = true ∧
    u.portOfLane 0 = some 0 ∧ (u.st.portLanes 0).length = 1 ∧ u.positionTaken 0 0 = false ∧ after (.laneAlignmentLock 0 0 true) u (fun t => (t.lane 0).state == 3 && (t.lane 0).aligned && (t.lane 0).saved) = true ∧
    after (.laneAlignmentLock 0 1 true) u (fun t => (t.lane 0).state != 3) = true ∧ after (.laneAlignmentLock 0 0 false) u (fun t => (t.lane 0).state == 4 && (t.lane 0).reason == 3) = true ∧
    after (.laneAcquireTimeout 0) u (fun t => (t.lane 0).state == 4 && (t.lane 0).reason == 2 && t.now == 150000004) = true := by decide +kernel
theorem witness_lane_retry : let s := lanes 35 { state := 4, calibrated := true, failedAt := 6 }
    (s.lane 35).state = 4 ∧ after (.laneRetryTimer 35) s (fun t => (t.lane 35).state == 2 && t.now == 15000000006) = true ∧
    after (.laneRetryTimer 35) (lanes 35 { state := 4 }) (fun t => (t.lane 35).state == 1) = true ∧
    after (.laneLossOfLock 35) (lanes 35 { state := 3, calibrated := true }) (fun t => (t.lane 35).state == 2 && t.rd (laneReg 35 0x02C) == 1) = true := by decide +kernel
theorem witness_guavo_lane : let s := { linked with lanes := [(32, { state := 3, upAt := 9 }), (35, { state := 2, calibrated := true })] }
    (s.lane 32).state = 3 ∧ (s.lane 33).state ≠ 3 ∧ (s.lane 34).state ≠ 3 ∧ (s.lane 35).state ≠ 3 ∧ (s.lane 35).state ≠ 4 ∧
    after (.guavoLaneTimeout 35) s (fun t => (t.lane 35).state == 4 && (t.lane 35).reason == 4 && t.now == 450000009) = true := by decide +kernel
theorem witness_lane_idle : let s := lanes 0 { state := 0, calibrated := true, saved := true }
    (s.lane 0).state = 0 ∧ ownLane 0 = true ∧ s.laneIdle 0 = false ∧ after (.laneIdleExit 0) s (fun t => (t.lane 0).state == 2 && (t.lane 0).burst == some 116) = true ∧
    after (.laneIdleExit 35) (lanes 35 { saved := true, calibrated := true }) (fun t => (t.lane 35).burst == some 110) = true ∧ after (.laneIdleExit 0) (lanes 0 {}) (fun t => (t.lane 0).state == 1) = true ∧
    after (.laneIdleRelockTimeout 0) (lanes 0 { state := 2, calibrated := true, saved := true, burst := some 116 }) (fun t => t.now == 1500116 && (t.lane 0).burst.isNone && !(t.lane 0).saved) = true := by decide +kernel
theorem witness_training_taps : let s := { lanes 31 { state := 2, calibrated := true, signal := true, signalAt := 3 } with regs := [(laneReg 31 0, 0x80000000)] }
    31 < 32 ∧ s.fld (laneReg 31 0) 31 31 = 1 ∧ (s.lane 31).trained = false ∧ tapsOk 0x00000030 0 = true ∧ tapsOk 0x0000003F 2 = false ∧ tapsOk 0x00001030 0 = true ∧ tapsOk 0x00001120 0 = false ∧
    after (.ltUpdate 31 0x30 0) s (fun t => t.rd (laneReg 31 8) == 0x30) = true ∧ gives (.ltUpdate 31 0x3F 2) s s = true ∧
    after (.ltTimeout 31) s (fun t => (t.lane 31).trained && t.now == 750000003) = true ∧
    after (.txFfeWrite 31 false 0x30) s (fun t => t.rd (laneReg 31 8) == 0x30) = true ∧ after (.txFfeWrite 31 false 0x41) s (fun t => t.regs == s.regs) = true := by decide +kernel
theorem witness_lane_tests : let s := { lanes 35 { state := 3, calibrated := true } with devMaint := false, st := { pair := { enabled := true } } }
    s.laneTest 35 = false ∧ ownLane 35 = true ∧ ownLane 36 = false ∧ loopOf 0 = 0 ∧ loopOf 4 = 0 ∧ loopOf 3 = 3 ∧ loopOf (s.rdn (laneReg 35 0)) ≠ 3 ∧
    gives (.laneCfgWrite 35 3) s (s.ev 0x0E05 (laneSrc 35) 3) = true ∧ after (.laneCfgWrite 35 0x1F0000) s (fun t => t.rdn (laneReg 35 0) == 0x1F0000) = true ∧
    gives (.patternWrite 35 0x80000000) s (s.ev 0x0E05 (laneSrc 35) 16) = true ∧ after (.patternWrite 35 0x06060000) s (fun t => t.rdn (laneReg 35 0x10) == 0x06060000) = true ∧
    gives (.patternWrite 35 0x07000000) s s = true := by decide +kernel
theorem witness_margin : let s := lanes 35 { state := 3, calibrated := true }
    (s.lane 35).state ≠ 4 ∧ (s.lane 35).measuring = false ∧ after (.marginStart 35) s (fun t => (t.lane 35).measuring) = true ∧
    after (.marginComplete 35 1 2 3) (lanes 35 { measuring := true }) (fun t => !(t.lane 35).measuring && t.rdn (laneReg 35 0x24) == 0x40010203) = true := by decide +kernel
theorem witness_power : let s := crs
    s.rdn (glb 0xA0) = 0 ∧ (0x01000000#32).toNat = 2 ^ 24 ∧ s.st.domains ≠ [] ∧ after (.pwrReqWrite 0x01000000) s (fun t => t.rdn (glb 0xA0) == 0) = true ∧
    (∀ b < 26, bit (0x100#32).toNat b = true → s.powerWork b = none) ∧ gives (.pwrReqWrite 0x100) s (s.wrn (glb 0xA0) 0x100) = true := by decide +kernel
theorem witness_avs : let s := { crs with boot := { stage := 3, avsAt := some 6 }, regs := [(glb 0xB0, 750 * 2 ^ 16)] }
    s.boot.avsAt = some 6 ∧ s.fld (glb 0xB0) 26 16 = 750 ∧ after (.avsAdjust 760 true) s (fun t => t.fld (glb 0xB0) 26 16 == 760 && t.now == 1500000006) = true ∧
    after (.avsAdjust 740 false) s (fun t => t.fld (glb 0xB0) 26 16 == 750 && t.fld (glb 0xB0) 31 31 == 1) = true ∧
    beyond 750 787 5 = false ∧ beyond 750 788 5 = true ∧ gives (.supplyExcursion 0 787 true) s (s.setFld (glb 0xB4) 31 16 787) = true ∧ s.boot.warnCore = none ∧
    after (.supplyExcursion 0 788 false) s (fun t => t.boot.warnCore == some 0 && t.ras.fatal == 0) = true ∧ beyond 800 865 5 = true ∧ beyond 800 865 8 = true ∧ beyond 800 864 8 = false ∧
    after (.supplyExcursion 1 865 true) s (fun t => t.ras.fatal == 4 && t.pair.fatal) = true := by decide +kernel

end Sys2Proof.Tests
end

section
/-! PROOFS. Watercourse: bands start when the bands they need are marked, and end with their samples and marks (O30, O31). -/

namespace Sys2Proof.Machine

/-! ### Band work: what the tail of a band's end leaves as it was -/

/-- The work of course `c` that the ends of bands hand on: stages, picture buffers, streams, the bands of the newest map, the
clock and memory stand in `t` as in `s`. -/
structure SameWork (c : Nat) (s t : State) : Prop where
  stages : t.stages = s.stages
  bufs : t.bufs = s.bufs
  streams : t.streams = s.streams
  bands : (t.head c).cur.bands = (s.head c).cur.bands
  now : t.now = s.now
  mem : t.mem = s.mem

namespace SameWork

variable {c : Nat} {s t u : State}

theorem refl (s : State) : SameWork c s s := ⟨rfl, rfl, rfl, rfl, rfl, rfl⟩

theorem trans (h : SameWork c s t) (k : SameWork c t u) : SameWork c s u :=
  ⟨k.stages.trans h.stages, k.bufs.trans h.bufs, k.streams.trans h.streams, k.bands.trans h.bands, k.now.trans h.now,
    k.mem.trans h.mem⟩

theorem ite {p : Prop} [Decidable p] (ht : SameWork c s t) (hu : SameWork c s u) : SameWork c s (if p then t else u) := by
  split
  · exact ht
  · exact hu

/-- A step that is taken or left out. -/
theorem ite_self {p : Prop} [Decidable p] (h : SameWork c s t) (k : SameWork c t u) : SameWork c s (if p then u else t) :=
  .ite (h.trans k) h

theorem stage (h : SameWork c s t) (x : Stage) : t.stage x = s.stage x := by rw [State.stage, h.stages, State.stage]

theorem buf (h : SameWork c s t) (k : Nat) : t.buf k = s.buf k := by rw [State.buf, h.bufs, State.buf]

/-- An operation whose scope leaves the courses' input side, the clock and memory alone keeps the work. -/
theorem of_keeps {sc : Scope} (h : Keeps sc s t) (hcourses : sc.courses = false) (hclk : sc.clk = false)
    (hmem : sc.mem = false) : SameWork c s t := by
  have htime := h.frame.clk hclk
  have hin := h.frame.courses hcourses
  simp only [Prod.mk.injEq] at htime hin
  obtain ⟨hnow, -⟩ := htime
  obtain ⟨-, hstages, hbufs, -, hstreams, -, -, -, -, -, hheads⟩ := hin
  exact ⟨hstages, hbufs, hstreams, by rw [State.head, hheads, State.head], hnow, h.frame.mem hmem⟩

theorem foldl {α : Type} {f : State → α → State} (hf : ∀ s a, SameWork c s (f s a)) :
    ∀ (l : List α) (s : State), SameWork c s (l.foldl f s)
  | [], s => .refl s
  | a :: l, s => (hf s a).trans (foldl hf l (f s a))

end SameWork

theorem State.sameWork_pace (c : Nat) (s : State) : SameWork c s s.pace :=
  .of_keeps (keeps_pace (sc := { weir := true }) s (Keeps.refl s) rfl) rfl rfl rfl

theorem State.sameWork_keysCut (c d : Nat) (s : State) : SameWork c s (s.keysCut d) :=
  .of_keeps (keeps_keysCut (sc := { regs := true, out := true, coders := true, pair := true }) s d (Keeps.refl s) rfl rfl rfl rfl)
    rfl rfl rfl

theorem State.sameWork_setLayer (c : Nat) (s : State) (d l : Nat) (y : Layer) : SameWork c s (s.setLayer d l y) :=
  ⟨rfl, rfl, rfl, rfl, rfl, rfl⟩

theorem State.sameWork_inc (c : Nat) (s : State) (a n : Nat) : SameWork c s (s.inc a n) := ⟨rfl, rfl, rfl, rfl, rfl, rfl⟩

theorem State.sameWork_wrn (c : Nat) (s : State) (a v : Nat) : SameWork c s (s.wrn a v) := ⟨rfl, rfl, rfl, rfl, rfl, rfl⟩

theorem State.sameWork_evC (c : Nat) (s : State) (code src course detail : Nat) : SameWork c s (s.evC code src course detail) :=
  ⟨rfl, rfl, rfl, rfl, rfl, rfl⟩

/-- A head whose newest map keeps its bands keeps the work. -/
theorem State.sameWork_setHead (s : State) (c : Nat) (h : CourseHw) (hbands : h.cur.bands = (s.head c).cur.bands) :
    SameWork c s (s.setHead c h) :=
  ⟨rfl, rfl, rfl, by rw [← hbands, State.head, State.setHead, Tab.get_set_same], rfl, rfl⟩

/-- R228: a cut is marked in the newest map, whose bands stand. -/
theorem State.sameWork_hwCut (s : State) (c k n : Nat) : SameWork c s (s.hwCut c k n) := by
  unfold State.hwCut
  refine .ite (.refl s) ((s.sameWork_setHead c _ ?_).trans ((State.sameWork_inc c _ _ _).trans ((State.sameWork_inc c _ _ _).trans
    ((State.sameWork_evC c _ _ _ _ _).trans (State.sameWork_evC c _ _ _ _ _)))))
  rfl

/-- R225: the gaps of a share are struck from the newest map, whose bands stand. -/
theorem State.sameWork_hwShareEnd (s : State) (c k : Nat) : SameWork c s (s.hwShareEnd c k) := by
  unfold State.hwShareEnd
  refine .ite (.refl s) ((s.sameWork_setHead c _ ?_).trans (State.sameWork_evC c _ _ _ _ _))
  rfl

/-- R226: the end of a picture sets the noise level alone. -/
theorem State.sameWork_hwPictureEnd (s : State) (c : Nat) : SameWork c s (s.hwPictureEnd c) := by
  unfold State.hwPictureEnd
  exact .ite (.refl s) (.ite (s.sameWork_setHead c _ rfl) (.ite (s.sameWork_setHead c _ rfl) (s.sameWork_setHead c _ rfl)))

/-- R197: faults of surfaces are counted in layers and registers, and told. -/
theorem State.sameWork_surfaceFaults (s : State) (c : Nat) (faults : List (Nat × Nat)) (last : Bool) :
    SameWork c s (s.surfaceFaults c faults last) := by
  unfold State.surfaceFaults
  have hcount : ∀ (u : State) (f : Nat × Nat), SameWork c u ((u.setLayer c f.1
      { u.layer c f.1 with faults := (u.layer c f.1).faults + f.2 }).inc (mereReg (0x10000 * u.mereOf c + 0xC)) f.2) :=
    fun u f => (u.sameWork_setLayer c c f.1 _).trans (State.sameWork_inc c _ _ _)
  refine SameWork.ite (SameWork.foldl hcount faults s) ((SameWork.foldl hcount faults s).trans ?_)
  dsimp only
  split
  · exact .refl _
  · have hclear (u : State) (l : LayerRec) := u.sameWork_setLayer c c l.layer { u.layer c l.layer with faults := 0 }
    exact (SameWork.foldl hclear _ _).trans (State.sameWork_evC c _ _ _ _ _)

/-! ### The clock changes no sample -/

theorem State.composeBand_runTo (s : State) (n c b : Nat) (bad : List Nat) :
    (s.runTo n).composeBand c b bad = s.composeBand c b bad := rfl
theorem State.mereLocal_runTo (s : State) (n c b : Nat) : (s.runTo n).mereLocal c b = s.mereLocal c b := rfl
theorem State.hwBlocks_runTo (s : State) (n c b : Nat) : (s.runTo n).hwBlocks c b = s.hwBlocks c b := rfl
/-- A rung's samples come from the structure and the buffers alone. -/
theorem State.scaleBand_congr {s t : State} (hst : t.st = s.st) (hbufs : t.bufs = s.bufs) (c : Nat) (g : RungRec) (b : Nat) :
    t.scaleBand c g b = s.scaleBand c g b := by
  simp only [State.scaleBand, State.buf, hst, hbufs]
/-- A Fount's samples come from its stream and the buffers alone. -/
theorem State.fountPix_congr {s t : State} (hstreams : t.streams = s.streams) (hbufs : t.bufs = s.bufs) (i : InputRec)
    (a : AccessUnit) (b : Nat) (d : BandDecode) : t.fountPix i a b d = s.fountPix i a b d := by
  simp only [State.fountPix, State.stream, State.buf, hstreams, hbufs]

/-! ### Injections, stages and buffers -/

/-- R418: with no injection armed the use of a unit's datapath changes nothing. -/
theorem State.unitUse_of_no_injection {s : State} (h : s.ras.inj = []) (src : Nat) : s.unitUse src = s := by
  simp [State.unitUse, State.injected, h]

@[simp] theorem State.stage_setStage_same (s : State) (x : Stage) (r : StageRun) : (s.setStage x r).stage x = r := by
  simp [State.stage, State.setStage, Tab.get_set_same]

@[simp] theorem State.buf_updBuf_same (s : State) (k : Nat) (f : Buffer → Buffer) : (s.updBuf k f).buf k = f (s.buf k) := by
  simp [State.buf, State.updBuf, Tab.get_upd_same]

@[simp] theorem State.buf_setStage (s : State) (x : Stage) (r : StageRun) (k : Nat) : (s.setStage x r).buf k = s.buf k := rfl
@[simp] theorem State.head_setStage (s : State) (x : Stage) (r : StageRun) (c : Nat) : (s.setStage x r).head c = s.head c := rfl
@[simp] theorem State.buf_setStream (s : State) (i : InputRec) (x : FountStream) (k : Nat) :
    (s.setStream i x).buf k = s.buf k := rfl
@[simp] theorem State.buf_runTo (s : State) (n k : Nat) : (s.runTo n).buf k = s.buf k := rfl

/-! ### The ends of bands (R16, R192, R209, R220) -/

/-- A Mere's band in progress ends: its samples and its mark, then the stage, then what keeps the work. -/
theorem State.mereBandDone_sameWork {s : State} {c : Nat} {r : StageRun} (hr : r = s.stage (.mere c)) (hactive : r.active = true)
    (hreading : r.reading = true) (bad : List Nat) :
    SameWork c (((s.runTo r.free).updBuf (progBuf c) (fun b =>
      (b.setPix r.next (s.composeBand c r.next bad)).setMark r.next .written (s.mereLocal c r.next))).setStage (.mere c)
        { r with reading := false, next := r.next + 1 }) (s.mereBandDone c bad) := by
  subst hr
  unfold State.mereBandDone
  rw [if_neg (by simp [hactive, hreading])]
  rw [← s.composeBand_runTo (s.stage (.mere c)).free, ← s.mereLocal_runTo (s.stage (.mere c)).free]
  exact (State.sameWork_surfaceFaults _ c _ _).trans (State.sameWork_pace c _)

/-- A rung's next band ends: its samples and its mark, after which nothing but the pace of the domains moves. -/
theorem State.cascadeBandDone_sameWork {s : State} {c k band : Nat} {q : RungRec} {rest : List Nat}
    (hq : q = s.st.rungs.get (64 * c + k))
    (hactive : (s.stage (.cascade c q.cascade)).active = true) (hk : k ≠ 1)
    (hband : (s.buf (rungBuf c k)).curSlot.unfinished = band :: rest)
    (hneeds : maxOf (s.casNeeds c q band) < (s.stage (.cascade c q.cascade)).next) :
    ∃ (u : State) (l : Bool), u.stages = s.stages ∧ u.bufs = s.bufs ∧ u.mem = s.mem ∧
      SameWork c (u.updBuf (rungBuf c k) (fun b => (b.setPix band (s.scaleBand c q band)).setMark band .written l))
        (s.cascadeBandDone c k) := by
  subst hq
  unfold State.cascadeBandDone
  simp only [hband, List.headD_cons]
  rw [if_neg (by simp [hactive, hk, hneeds])]
  generalize hu : (if (_ + 1 == _) = true then s.runTo _ else s) = u
  have hsame : u.st = s.st ∧ u.stages = s.stages ∧ u.bufs = s.bufs ∧ u.mem = s.mem := by
    subst hu
    split <;> exact ⟨rfl, rfl, rfl, rfl⟩
  obtain ⟨hst, hstages, hbufs, hmem⟩ := hsame
  rw [State.scaleBand_congr hst hbufs]
  exact ⟨u, _, hstages, hbufs, hmem, State.sameWork_pace c _⟩

/-- What a Headwater unit writes of a band: its mark and its records (R217, R220). -/
theorem State.hwWriteBand_writes (s : State) (c k band : Nat) : ∃ l,
    (s.hwWriteBand c k band).buf (mapBuf c) = (s.buf (mapBuf c)).setMark band .written l ∧
    (s.hwWriteBand c k band).now = s.now ∧ (s.hwWriteBand c k band).mem = s.mem ∧
    ((s.hwWriteBand c k band).head c).cur.bands = (s.head c).cur.bands.set band (bandOf ((s.hwBlocks c band).1.map (fun m =>
      m.record ((s.head c).cur.dist.map (fun _ => true)) (s.effFld (hwaReg c 0) 15 0)))) := by
  unfold State.hwWriteBand
  refine ⟨_, State.buf_updBuf_same _ _ _, rfl, rfl, ?_⟩
  simp [State.head, State.setHead, Tab.get_set_same, CourseHw.setCur, CourseHw.cur]

/-- A share's band in progress ends: its records, the cut and the keys it leads to, then the stage, then what keeps the work. -/
theorem State.hwBandDone_sameWork {s : State} {c k : Nat} {r : StageRun} (hr : r = s.stage (.headwater c k))
    (hactive : r.active = true) (hreading : r.reading = true) :
    ∃ u : State, SameWork c ((s.runTo r.free).hwWriteBand c k ((s.st.hws.get (8 * c + k)).firstBand + r.next)) u ∧
      SameWork c (u.setStage (.headwater c k) { r with reading := false, next := r.next + 1 }) (s.hwBandDone c k) := by
  subst hr
  unfold State.hwBandDone
  rw [if_neg (by simp [hactive, hreading])]
  refine ⟨_, ?_, (SameWork.ite_self (.refl _) (State.sameWork_hwShareEnd _ c k)).trans
    ((State.sameWork_hwPictureEnd _ c).trans (State.sameWork_pace c _))⟩
  exact SameWork.ite_self (SameWork.ite_self (.refl _) (State.sameWork_hwCut _ c k _)) (State.sameWork_keysCut c c _)

/-- The written mark and the samples of a band, put into a slot (R178). -/
def Slot.writeBand (y : Slot) (band : Nat) (l : Bool) (p : Pix) : Slot :=
  { y.setMark band .written l with pix := y.pix.set band p }

theorem Slot.setMark_pic (y : Slot) (band : Nat) (m : Mark) (l : Bool) : (y.setMark band m l).pic = y.pic := by
  unfold Slot.setMark
  split <;> rfl

theorem Slot.writeBand_pic (y : Slot) (band : Nat) (l : Bool) (p : Pix) : (y.writeBand band l p).pic = y.pic :=
  y.setMark_pic band .written l

/-- A change of the slots that hold a picture, which leaves their picture numbers, is what the picture's slot then reads. -/
theorem Buffer.slotOf_map_at (b : Buffer) (pic : Nat) (g : Slot → Slot) (hg : ∀ y, (g y).pic = y.pic) :
    Buffer.slotOf { b with slots := b.slots.map (fun y => if y.pic == pic then g y else y) } pic = (b.slotOf pic).map g := by
  have hpic : ((fun y : Slot => y.pic == pic) ∘ fun y => if y.pic == pic then g y else y) = fun y => y.pic == pic := by
    funext y
    simp only [Function.comp_apply]
    split <;> simp [hg]
  rw [Buffer.slotOf, List.find?_map, hpic, ← Buffer.slotOf]
  cases hslot : b.slotOf pic with
  | none => rfl
  | some y =>
    have hy : y.pic = pic := by simpa using List.find?_some hslot
    simp [hy]

/-- R178: a Fount's band that is not its picture's last ends when the Fount has decoded it: the picture's slots take its samples
and its mark, and the stream goes on to the next band. -/
theorem State.fountBandDone_sameWork {s : State} {c k : Nat} {i : InputRec} {x : FountStream} {a : AccessUnit} {b : Slot}
    (hi : i = s.st.inputs.get (4 * c + k)) (hx : x = s.streams.get (4 * c + k)) (hau : x.au = some a)
    (hb : b = ((s.buf (inputBuf c k)).slotOf x.cur.pic).getD {}) (hmore : x.band + 1 < b.marks.length)
    (hmark : b.mark x.band = .empty) (d : BandDecode) :
    ∃ (u : State) (cls : Nat),
      SameWork c (u.setStream i { x with band := x.band + 1, blocks := x.blocks + d.blocks, errClass := cls })
        (s.fountBandDone c k d) ∧
      (∃ l, u.buf (inputBuf c k) = { s.buf (inputBuf c k) with slots := (s.buf (inputBuf c k)).slots.map (fun y =>
        if y.pic == x.cur.pic then y.writeBand x.band l (s.fountPix i a x.band d) else y) }) ∧
      u.now = max s.now (max (s.founts.get i.sourceIndex).busy (s.dom (s.domOf c)).openAt + Machine.bandCycles i x.band d.bits) ∧
      u.mem = s.mem := by
  subst hi hx hb
  unfold State.fountBandDone
  simp only [hau]
  rw [if_neg (by simp [hmark]), if_neg (by simpa using hmore), State.fountPix_congr (s := s) rfl rfl]
  have hcounts (t : State) (p m q n e v : Nat) :
      SameWork c t (if (d.errors == 0) = true then (t.inc p m).inc q n else ((t.inc p m).inc q n).wrn e v) := by
    have hinc := (t.sameWork_inc c p m).trans (State.sameWork_inc c _ q n)
    exact .ite hinc (hinc.trans (State.sameWork_wrn c _ e v))
  exact ⟨_, _, State.sameWork_pace c _, ⟨_, ((hcounts _ _ _ _ _ _ _).buf _).trans (State.buf_updBuf_same _ _ _)⟩,
    (hcounts _ _ _ _ _ _ _).now.trans (State.runTo_now _ _), (hcounts _ _ _ _ _ _ _).mem⟩

@[simp] theorem State.tarn_updTarn_same (s : State) (n : Nat) (f : Tarn → Tarn) : (s.updTarn n f).tarn n = f (s.tarn n) := by
  simp [State.tarn, State.updTarn, Tab.get_upd_same]

/-! ### The starts of bands (R17, R230, R243) -/

/-- R17: a Mere whose bands are marked starts its next band at 4 pixels a cycle. -/
theorem State.mereStart_ready {s : State} {c : Nat} {x : CourseRec} {r : StageRun} (hx : x = s.st.courses.get c)
    (hr : r = s.stage (.mere c)) (hactive : r.active = true) (hidle : r.reading = false)
    (hnext : r.next < bandsOf x.height x.bandHeight)
    (hready : (s.mereNeeds c r.next).all (fun n => (s.buf (inputBuf c n.1)).ready n.2.1 n.2.2) = true)
    (hlive : ¬ 0x1300 + x.mere ∈ s.retired) :
    s.mereStart c = s.setStage (.mere c) { r with
      reading := true, free := s.now + bandCycles4 x.width x.height x.bandHeight r.next
      used := r.used + bandCycles4 x.width x.height x.bandHeight r.next } := by
  subst hx hr
  unfold State.mereStart
  exact if_pos (by simp [hactive, hidle, hnext, hready, hlive])

/-- R17: a Cascade whose source band is marked starts it after its present band. -/
theorem State.cascadeStart_ready {s : State} {c k : Nat} {x : CourseRec} {r : StageRun} {g : RungRec} {rest : List RungRec}
    {src : RungRec} (hx : x = s.st.courses.get c) (hr : r = s.stage (.cascade c k)) (hrungs : s.st.cascadeRungs c k = g :: rest)
    (hsrc : src = s.st.rungs.get (64 * c + g.source)) (hactive : r.active = true) (hnext : r.next < bandsOf src.height x.bandHeight)
    (hready : (s.buf (rungBuf c g.source)).ready (s.buf (rungBuf c g.source)).curSlot.pic [r.next] = true)
    (hlive : ¬ 0x1400 + k ∈ s.retired) :
    s.cascadeStart c k = (s.runTo r.free).setStage (.cascade c k) { r with
      next := r.next + 1, free := max s.now r.free + bandCycles4 src.width src.height x.bandHeight r.next
      used := r.used + bandCycles4 src.width src.height x.bandHeight r.next } := by
  subst hx hr hsrc
  unfold State.cascadeStart
  rw [← State.runTo_now]
  simp only [hrungs, List.headD_cons]
  exact if_pos (by simp [hactive, hnext, hready, hlive])

/-- R230: an idle Headwater unit starts the share that stands first among those ready. -/
theorem State.headwaterStart_first {s : State} {c k : Nat} {h : HwRec} {rest : List HwRec}
    (hfirst : (s.st.hws.vals.filter (fun y => y.unit == k)).filter (fun y => s.hwReady y.course k) = h :: rest)
    (hcourse : h.course = c) (hband : h.firstBand = (s.st.hws.get (8 * c + k)).firstBand)
    (hidle : (s.st.hws.vals.filter (fun y => y.unit == k)).any (fun y => (s.stage (.headwater y.course k)).reading) = false)
    (hlive : ¬ 0x1100 + k ∈ s.retired) :
    ∃ free used, s.headwaterStart c k =
      s.setStage (.headwater c k) { s.stage (.headwater c k) with reading := true, free := free, used := used } := by
  unfold State.headwaterStart
  refine ⟨_, _, if_pos ?_⟩
  simp only [hfirst, hidle, List.head?_cons, Option.map_some, hcourse, hband]
  simp [hlive]

/-- R243: a Tarn with nothing in work starts the band that its key puts first, where the time test of R63 lets it. -/
theorem State.tarnStart_next {s : State} {r g n : Nat} (hn : n = ((s.coding r).seg g).seg.tarn) (hheld : (s.tarn n).held = false)
    (hlive : ¬ 0x1000 + n ∈ s.retired) (hitems : (s.tarn n).items.isEmpty = true) (hnext : s.nextItem n = some (r, g))
    (htime : s.timeFails r ((s.coding r).seg g) (s.bandCycles r (s.coding r) ((s.coding r).seg g) ((s.coding r).seg g).begun)
      = false) :
    ∃ f, s.tarnStart r g = (s.updCoding r f).updTarn n (fun t => { t with
      items := t.items ++ [{ seg := segKey r g, left := ((s.coding r).seg g).cols }]
      since := if t.items.isEmpty then s.now else t.since }) := by
  subst hn
  rw [List.isEmpty_iff] at hitems
  unfold State.tarnStart
  refine ⟨_, (if_neg ?_).trans (if_neg ?_)⟩
  · simp [hheld, State.alive, hlive, hitems, hnext, sum]
  · simp [htime]

/-! With nothing injected, the commands of band ends are the ends themselves. -/

theorem exec_mereBandDone {s : State} (h : s.ras.inj = []) (c : Nat) (bad : List Nat) :
    exec (.mereBandDone c bad) s = .next (s.mereBandDone c bad) :=
  congrArg (fun u : State => Host.Outcome.next (u.mereBandDone c bad)) (State.unitUse_of_no_injection h _)

theorem exec_cascadeBandDone {s : State} (h : s.ras.inj = []) (c g : Nat) :
    exec (.cascadeBandDone c g) s = .next (s.cascadeBandDone c g) :=
  congrArg (fun u : State => Host.Outcome.next (u.cascadeBandDone c g)) (State.unitUse_of_no_injection h _)

theorem exec_hwBandDone {s : State} (h : s.ras.inj = []) (c k : Nat) :
    exec (.hwBandDone c k) s = .next (s.hwBandDone c k) :=
  congrArg (fun u : State => Host.Outcome.next (u.hwBandDone c k)) (State.unitUse_of_no_injection h _)

theorem exec_fountBandDone {s : State} (h : s.ras.inj = []) (c k : Nat) (d : BandDecode) :
    exec (.fountBandDone c k d) s = .next (s.fountBandDone c k d) :=
  congrArg (fun u : State => Host.Outcome.next (u.fountBandDone c k d)) (State.unitUse_of_no_injection h _)

/-! ### The obligations -/

/-- Settles O30: each stage's guard holds, and what it starts is told by its own lemma. -/
theorem bandReadsStartWhenTheirBandsAreMarked : Obligations.BandReadsStartWhenTheirBandsAreMarked := by
  unfold Obligations.BandReadsStartWhenTheirBandsAreMarked
  intro s c k x hx
  refine ⟨?mere, ?cascade, ?headwater, ?tarn⟩
  case mere =>
    intro r hr hactive hidle hnext hready hlive
    exact congrArg Host.Outcome.next (State.mereStart_ready hx hr hactive hidle hnext hready hlive)
  case cascade =>
    intro r g rest src hr hrungs hsrc hactive hnext hready hlive
    exact congrArg Host.Outcome.next (State.cascadeStart_ready hx hr hrungs hsrc hactive hnext hready hlive)
  case headwater =>
    intro h rest hfirst hcourse hband hidle hlive
    obtain ⟨free, used, heq⟩ := State.headwaterStart_first hfirst hcourse hband hidle hlive
    exact ⟨_, congrArg Host.Outcome.next heq, by simp, by simp, rfl, rfl⟩
  case tarn =>
    intro r g n hn hheld hlive hitems hnext htime
    obtain ⟨f, heq⟩ := State.tarnStart_next hn hheld hlive hitems hnext htime
    have htarn : (s.updCoding r f).tarn n = s.tarn n := rfl
    rw [List.isEmpty_iff] at hitems
    exact ⟨_, congrArg Host.Outcome.next heq, by simp [htarn, hitems], by simp [htarn, hitems], rfl, rfl⟩

/-- Settles O31: with nothing injected each band's end writes its samples or records and its mark, and whatever follows it, down
to the pace of the domains, keeps that work (`SameWork`). -/
theorem bandsEndAndAreMarkedWritten : Obligations.BandsEndAndAreMarkedWritten := by
  unfold Obligations.BandsEndAndAreMarkedWritten
  intro s c k hinj
  refine ⟨?mere, ?cascade, ?headwater, ?fount⟩
  case mere =>
    intro r bad hr hactive hreading
    have hend := State.mereBandDone_sameWork hr hactive hreading bad
    refine ⟨s.mereBandDone c bad, exec_mereBandDone hinj c bad, ?_, ?_, hend.now.trans (s.runTo_now r.free),
      (hend.buf _).trans ?_, hend.mem⟩
    · simp [hend.stage]
    · simp [hend.stage]
    · simp
  case cascade =>
    intro q r band rest hq hr hactive hk hband hneeds
    subst hr
    obtain ⟨u, l, hstages, hbufs, hmem, hend⟩ := State.cascadeBandDone_sameWork hq hactive hk hband hneeds
    refine ⟨s.cascadeBandDone c k, l, exec_cascadeBandDone hinj c k, (hend.buf _).trans ?_, hend.stages.trans hstages,
      hend.mem.trans hmem⟩
    rw [State.buf_updBuf_same, State.buf, hbufs, State.buf]
  case headwater =>
    intro r band hr hband hactive hreading
    obtain ⟨u, hwrite, hend⟩ := State.hwBandDone_sameWork hr hactive hreading
    rw [← hband] at hwrite
    obtain ⟨l, hbuf, hnow, hmem, hbands⟩ := (s.runTo r.free).hwWriteBand_writes c k band
    refine ⟨s.hwBandDone c k, l, exec_hwBandDone hinj c k, ?_, ?_, ?_, ?_, ?_, ?_⟩
    · simp [hend.stage]
    · simp [hend.stage]
    · exact hend.now.trans (hwrite.now.trans (hnow.trans (s.runTo_now r.free)))
    · exact (hend.buf _).trans ((hwrite.buf _).trans hbuf)
    · rw [hend.bands, State.head_setStage, hwrite.bands, hbands, Tab.get_set_same, State.hwBlocks_runTo]
      rfl
    · exact hend.mem.trans (hwrite.mem.trans hmem)
  case fount =>
    intro i x a d b hi hx hcourse hinput hau hb hmore hmark
    obtain ⟨u, cls, hend, ⟨l, hbuf⟩, hnow, hmem⟩ := State.fountBandDone_sameWork hi hx hau hb hmore hmark d
    have hkey : inKey i = 4 * c + k := by rw [inKey, hcourse, hinput]
    refine ⟨s.fountBandDone c k d, exec_fountBandDone hinj c k d, ?_, ?_, ?_, hend.now.trans hnow, hend.mem.trans hmem⟩
    · rw [hend.buf, State.buf_setStream, hbuf, Buffer.slotOf_map_at _ _ _ (fun y => y.writeBand_pic _ _ _)]
      cases hslot : (s.buf (inputBuf c k)).slotOf x.cur.pic with
      | none => simp [hb, hslot] at hmore
      | some y => simp [Slot.writeBand, Tab.get_set_same]
    · simp [hend.streams, State.setStream, hkey, Tab.get_set_same]
    · simp [hend.streams, State.setStream, hkey, Tab.get_set_same]

end Sys2Proof.Machine
end

section
/-! PROOFS. Invariant: a step keeps what every state of a run has (O4). -/

namespace Sys2Proof.Machine

/-- An operation that keeps memory's form, a usable key slot and the time's range keeps the invariant. -/
theorem Keeps.inv {sc : Scope} {s t : State} (h : Keeps sc s t) (hs : s.Inv) : t.Inv := by
  obtain ⟨hmem, hkey, htime⟩ := hs
  exact ⟨h.wf hmem, h.key hkey, h.range htime⟩

/-- What a step can do: a cycle on an empty queue, or the front command on the rest of the machine. -/
theorem step_cases {s t : State} (h : step s = .next t) :
    (s.pending = [] ∧ t = s.tick) ∨ ∃ c rest, s.pending = c :: rest ∧ exec c { s with pending := rest } = .next t := by
  unfold step at h
  split at h
  next hq => exact .inl ⟨hq, (Host.Outcome.next.inj h).symm⟩
  next c rest hq => exact .inr ⟨c, rest, hq, h⟩

/-- The queue is no part of the invariant. -/
theorem State.inv_pending {s : State} (hs : s.Inv) (l : List Instr) : State.Inv { s with pending := l } := hs

theorem exec_keeps_inv {i : Instr} {s t : State} (h : exec i s = .next t) (hs : s.Inv) : t.Inv := by
  have hkeeps := keeps_exec i s (Keeps.refl s)
  rw [h] at hkeeps
  exact Keeps.inv hkeeps hs

theorem tick_keeps_inv {s : State} (hs : s.Inv) : s.tick.Inv :=
  (keeps_tick (sc := .all) s (Keeps.refl s) rfl rfl rfl rfl rfl rfl rfl rfl rfl rfl rfl rfl rfl rfl rfl rfl rfl rfl rfl rfl
    rfl).inv hs

/-- Settles O4: a step is a cycle or a command, and each keeps the invariant. -/
theorem stepKeepsTheInvariant : Obligations.StepKeepsTheInvariant := by
  unfold Obligations.StepKeepsTheInvariant
  intro s t hs h
  obtain ⟨-, rfl⟩ | ⟨c, rest, -, hexec⟩ := step_cases h
  · exact tick_keeps_inv hs
  · exact exec_keeps_inv hexec (State.inv_pending hs rest)

end Sys2Proof.Machine
end

section
/-! PROOFS. Time: the PHC, who steers it, what is read of it, compare units, references and the servo (O6 to O12). -/

namespace Sys2Proof.Machine

/-! ### The PHC from cycle to cycle (R28) -/

theorem phcAdvance_one_frac (p : PhcTime) (a : Nat) : (phcAdvance p a 1).frac = (p.frac + a) % 2 ^ 32 := by
  simp [phcAdvance, phcOf]

/-- A time in range is what its own nanoseconds give. -/
theorem phcOf_phcNs {p : PhcTime} (hp : timeInRange p.sec p.ns) (f : Nat) : phcOf (phcNs p) f = { p with frac := f } := by
  obtain ⟨hns, hsec⟩ := hp
  simp only [phcOf, phcNs, PhcTime.mk.injEq, and_true]
  omega

theorem phcAdvance_one_of_no_carry {p : PhcTime} {a : Nat} (hp : timeInRange p.sec p.ns) (h : p.frac + a < 2 ^ 32) :
    phcAdvance p a 1 = { p with frac := p.frac + a } := by
  rw [phcAdvance, Nat.one_mul, Nat.div_eq_of_lt h, Nat.mod_eq_of_lt h, Nat.add_zero, phcOf_phcNs hp]

theorem phcAdvance_one_of_carry {p : PhcTime} {a : Nat} (hf : p.frac < 2 ^ 32) (ha : a < 2 ^ 32) (h : 2 ^ 32 ≤ p.frac + a) :
    phcAdvance p a 1 = phcOf (phcNs p + 1) ((p.frac + a) % 2 ^ 32) := by
  have hcarry : (p.frac + a) / 2 ^ 32 = 1 := by omega
  rw [phcAdvance, Nat.one_mul, hcarry]

/-- Nanoseconds added to a reduced time are added before the reduction. -/
theorem phcOf_phcNs_add (n f k g : Nat) : phcOf (phcNs (phcOf n f) + k) g = phcOf (n + k) g := by
  simp only [phcOf, phcNs, PhcTime.mk.injEq, and_true]
  omega

theorem phcAdvance_succ (p : PhcTime) (a k : Nat) : phcAdvance p a (k + 1) = phcAdvance (phcAdvance p a k) a 1 := by
  have hcarry (x : Nat) : (x + a) / 2 ^ 32 = x / 2 ^ 32 + (x % 2 ^ 32 + a) / 2 ^ 32 := by omega
  have hfrac (x : Nat) : (x + a) % 2 ^ 32 = (x % 2 ^ 32 + a) % 2 ^ 32 := by omega
  rw [phcAdvance, Nat.succ_mul, ← Nat.add_assoc, hcarry, hfrac, ← Nat.add_assoc, ← phcOf_phcNs_add, phcAdvance, phcAdvance,
    Nat.one_mul]
  rfl

theorem State.addend_lt (s : State) : s.addend < 2 ^ 32 := (s.rd (timeReg 0x020)).isLt

/-- Settles O6: one cycle by whether FRACTION carries and the second ends; `k + 1` cycles by the sum of their carries. -/
theorem eachCycleAddsTheIncrementToThePhc : Obligations.EachCycleAddsTheIncrementToThePhc := by
  unfold Obligations.EachCycleAddsTheIncrementToThePhc
  rintro s p rfl
  refine ⟨fun hfrac hns hsec q hq => ?one, fun k => ⟨?many, rfl⟩⟩
  case many =>
    rw [State.cycles_phc, State.cycles_phc _ 1, State.cycles_addend, State.cycles_phc, phcAdvance_succ]
  case one =>
    rw [State.cycles_phc] at hq
    subst hq
    refine ⟨phcAdvance_one_frac _ _, fun hno => ?no_carry, fun hc hlt => ?carry, fun hc hend => ?second⟩
    case no_carry =>
      rw [phcAdvance_one_of_no_carry ⟨hns, hsec⟩ hno]
      exact ⟨rfl, rfl⟩
    case carry | second =>
      rw [phcAdvance_one_of_carry hfrac s.addend_lt hc]
      simp only [phcOf, phcNs]
      omega

/-! ### Registers of the time unit -/

@[simp] theorem timeReg_inj {a b : Nat} : timeReg a = timeReg b ↔ a = b := by simp [timeReg]

@[simp] theorem State.rd_wrn_same (s : State) (a v : Nat) : (s.wrn a v).rd a = BitVec.ofNat 32 v := s.rd_wr_same a _

theorem State.rd_wrn_other (s : State) {a b : Nat} (v : Nat) (h : b ≠ a) : (s.wrn a v).rd b = s.rd b := s.rd_wr_other _ h

/-- A word of 32 bits that is written reads back as the number it is. -/
theorem State.rdn_wrn_of_lt (s : State) (a : Nat) {v : Nat} (h : v < 2 ^ 32) : (s.wrn a v).rdn a = v :=
  (s.rdn_wrn_same a v).trans (Nat.mod_eq_of_lt h)

/-! ### TIME.CTRL, ADDEND and UTC_CFG (R29, R30, R31, R46, R47) -/

/-- A move of LOCK changes it, the held starts it frees, and what reports it. -/
theorem State.setLock_parts (s : State) (l d : Nat) : ∃ cs o fs,
    s.setLock l d = { s with time := { s.time with lock := l }, courses := cs, out := o, funcs := fs } := by
  unfold State.setLock
  dsimp only
  split_ifs <;> exact ⟨_, _, _, rfl⟩

@[simp] theorem State.setLock_time (s : State) (l d : Nat) : (s.setLock l d).time = { s.time with lock := l } := by
  obtain ⟨_, _, _, h⟩ := s.setLock_parts l d
  rw [h]

@[simp] theorem State.setLock_regs (s : State) (l d : Nat) : (s.setLock l d).regs = s.regs := by
  obtain ⟨_, _, _, h⟩ := s.setLock_parts l d
  rw [h]

@[simp] theorem State.setLock_now (s : State) (l d : Nat) : (s.setLock l d).now = s.now := by
  obtain ⟨_, _, _, h⟩ := s.setLock_parts l d
  rw [h]

/-- The operations that a write of TIME.CTRL asks for. -/
def State.ctrlOps (s : State) (w : Word) : List TimeOp :=
  (if bit w.toNat 0 then [s.loadOp] else []) ++ (if bit w.toNat 1 then [s.stepOp] else [])

/-- What a write of TIME.CTRL does: its register and the operations that wait, a report if it is dropped, then HOST_LOCK. -/
theorem State.timeCtrlWrite_parts (s : State) (w : Word) : ∃ u : State,
    u.regs = (s.wrn (timeReg 0) (bits w.toNat 7 5 * 2 ^ 5)).regs ∧
    u.time = { s.time with ops := if s.hostMode then s.time.ops ++ s.ctrlOps w else s.time.ops } ∧ u.now = s.now ∧
    s.timeCtrlWrite w = if bit w.toNat 5 then u.setLock (bits w.toNat 7 6) 0 else u := by
  unfold State.timeCtrlWrite
  refine ⟨_, ?regs, ?time, ?now, rfl⟩
  case regs => exact (apply_ite State.regs _ _ _).trans (ite_self _)
  case time => exact (apply_ite State.time _ _ _).trans (ite_self _)
  case now => exact (apply_ite State.now _ _ _).trans (ite_self _)

theorem State.timeCtrlWrite_regs (s : State) (w : Word) :
    (s.timeCtrlWrite w).regs = (s.wrn (timeReg 0) (bits w.toNat 7 5 * 2 ^ 5)).regs := by
  obtain ⟨u, hregs, -, -, heq⟩ := s.timeCtrlWrite_parts w
  rw [heq, ← hregs]
  split <;> simp

theorem State.timeCtrlWrite_now (s : State) (w : Word) : (s.timeCtrlWrite w).now = s.now := by
  obtain ⟨u, -, -, hnow, heq⟩ := s.timeCtrlWrite_parts w
  rw [heq, ← hnow]
  split <;> simp

theorem State.timeCtrlWrite_time (s : State) (w : Word) : (s.timeCtrlWrite w).time = { s.time with
    ops := if s.hostMode then s.time.ops ++ s.ctrlOps w else s.time.ops
    lock := if bit w.toNat 5 then bits w.toNat 7 6 else s.time.lock } := by
  obtain ⟨u, -, htime, -, heq⟩ := s.timeCtrlWrite_parts w
  rw [heq]
  split <;> simp [htime]

theorem State.timeCtrlWrite_rd_other (s : State) (w : Word) {a : Nat} (h : a ≠ timeReg 0) : (s.timeCtrlWrite w).rd a = s.rd a :=
  (State.rd_congr (s.timeCtrlWrite_regs w) a).trans (s.rd_wrn_other _ h)

theorem State.fld_congr {s t : State} {a : Nat} (h : t.rd a = s.rd a) (hi lo : Nat) : t.fld a hi lo = s.fld a hi lo := by
  simp only [State.fld, State.rdn, h]

/-- SERVO is the written bit. -/
theorem State.timeCtrlWrite_hostMode (s : State) (w : Word) : (s.timeCtrlWrite w).hostMode = bit w.toNat 5 := by
  have hbit : bits w.toNat 7 5 * 2 ^ 5 % 2 ^ 32 / 2 ^ 5 % 2 = w.toNat / 2 ^ 5 % 2 := by
    unfold bits
    omega
  rw [State.hostMode, State.rdn_congr (s.timeCtrlWrite_regs w), State.rdn_wrn_same]
  simp only [bit, hbit]

theorem clampAddend_lt (v : Nat) : clampAddend v < 2 ^ 32 := by
  unfold clampAddend
  omega

/-- Settles O7: a write of ADDEND or UTC_CFG by the mode, and the writes of TIME.CTRL by their effect on its parts. -/
theorem servoModeDecidesWhoSteersTheClock : Obligations.ServoModeDecidesWhoSteersTheClock := by
  unfold Obligations.ServoModeDecidesWhoSteersTheClock
  intro s w
  refine ⟨fun hhost => ?addend, fun hfw => ?dropped, ?servo, fun hservo => ?lock, fun hhost => ?utc⟩
  case addend =>
    have hset : (s.wrn (timeReg 0x020) (clampAddend w.toNat)).addend = clampAddend w.toNat :=
      s.rdn_wrn_of_lt _ (clampAddend_lt _)
    refine ⟨s.wrn (timeReg 0x020) (clampAddend w.toNat), congrArg Host.Outcome.next (if_pos hhost), hset, ?_, rfl, rfl,
      fun a ha => s.rd_wrn_other _ ha⟩
    rw [State.cycles_phc, hset]
    rfl
  case dropped => exact congrArg Host.Outcome.next (if_neg (by simp [hfw]))
  case servo =>
    have hfld := State.fld_congr (s.timeCtrlWrite_rd_other w (a := timeReg 0x038) (by simp)) 7 0
    refine ⟨s.timeCtrlWrite w, rfl, s.timeCtrlWrite_hostMode w, ?_, hfld, ?_⟩
    · rw [State.utcOffset, s.timeCtrlWrite_hostMode, hfld, s.timeCtrlWrite_time]
    · rw [s.timeCtrlWrite_time]
  case lock => exact ⟨s.timeCtrlWrite w, rfl, by simp [s.timeCtrlWrite_time, hservo], by rw [s.timeCtrlWrite_time]⟩
  case utc =>
    refine ⟨s.wrn (timeReg 0x038) (w.toNat % 256), congrArg Host.Outcome.next (if_pos hhost), ?_, rfl,
      fun a ha => s.rd_wrn_other _ ha⟩
    have hmode : (s.wrn (timeReg 0x038) (w.toNat % 256)).hostMode = true := by
      rw [State.hostMode, s.rdn_wrn_other _ (by simp)]
      exact hhost
    rw [State.utcOffset, if_pos hmode, State.fld, s.rdn_wrn_of_lt _ (by omega)]
    unfold bits
    omega

/-! ### LOAD and STEP (R31) -/

@[simp] theorem State.updTime_time (s : State) (f : TimeUnit → TimeUnit) : (s.updTime f).time = f s.time := rfl

/-- A firing changes its unit by its own time (R41), pins, and what reports it. -/
theorem State.fireCmp_parts (s : State) (m : Nat) : ∃ ps o fs, s.fireCmp m = { s with
    time := { s.time with cmps := s.time.cmps.set m ((s.time.cmps.get m).fire (linear s.time.phc)), pins := ps }
    out := o, funcs := fs } := by
  unfold State.fireCmp
  dsimp only
  split <;> exact ⟨_, _, _, rfl⟩

@[simp] theorem State.fireCmp_phc (s : State) (m : Nat) : (s.fireCmp m).time.phc = s.time.phc := by
  obtain ⟨_, _, _, h⟩ := s.fireCmp_parts m
  rw [h]

@[simp] theorem State.fireCmp_ops (s : State) (m : Nat) : (s.fireCmp m).time.ops = s.time.ops := by
  obtain ⟨_, _, _, h⟩ := s.fireCmp_parts m
  rw [h]

@[simp] theorem State.fireCmp_now (s : State) (m : Nat) : (s.fireCmp m).now = s.now := by
  obtain ⟨_, _, _, h⟩ := s.fireCmp_parts m
  rw [h]

/-- What no firing changes, the firing of every passed unit leaves. -/
theorem State.firePassed_congr {α : Type} (f : State → α) (hf : ∀ s m, f (State.fireCmp s m) = f s) (s : State) :
    f s.firePassed = f s := by
  unfold State.firePassed
  generalize List.filter _ (List.range 16) = l
  induction l generalizing s with
  | nil => rfl
  | cons m l ih => exact (ih (s.fireCmp m)).trans (hf s m)

@[simp] theorem State.firePassed_phc (s : State) : s.firePassed.time.phc = s.time.phc :=
  State.firePassed_congr (·.time.phc) State.fireCmp_phc s
@[simp] theorem State.firePassed_ops (s : State) : s.firePassed.time.ops = s.time.ops :=
  State.firePassed_congr (·.time.ops) State.fireCmp_ops s
@[simp] theorem State.firePassed_now (s : State) : s.firePassed.now = s.now :=
  State.firePassed_congr (·.now) State.fireCmp_now s

/-- A write of TIME.CTRL in HOST mode: its operations wait, the PHC and the other registers stand. -/
theorem State.timeCtrlWrite_hosted {s : State} {w : Word} {l : List TimeOp} (hhost : s.hostMode = true) (hops : s.ctrlOps w = l) :
    (s.timeCtrlWrite w).time.ops = s.time.ops ++ l ∧ (s.timeCtrlWrite w).time.phc = s.time.phc ∧
    (s.timeCtrlWrite w).now = s.now ∧ ∀ a, a ≠ timeReg 0 → (s.timeCtrlWrite w).rd a = s.rd a := by
  subst hops
  refine ⟨?_, by rw [s.timeCtrlWrite_time], s.timeCtrlWrite_now w, fun a ha => s.timeCtrlWrite_rd_other w ha⟩
  simp [s.timeCtrlWrite_time, hhost]

/-- The clock runs to the due cycle of operation `o`, which then waits no more; with a conflict, that is told (R31). -/
def State.takeOp (s : State) (o : TimeOp) (rest : List TimeOp) (conflict : Bool) : State :=
  let u := (s.runTo o.due).updTime (fun t => { t with ops := rest })
  if conflict then u.ev 0x0104 0x4000 0 else u

@[simp] theorem State.takeOp_time (s : State) (o : TimeOp) (rest : List TimeOp) (conflict : Bool) :
    (s.takeOp o rest conflict).time = { (s.runTo o.due).time with ops := rest } := by
  unfold State.takeOp
  dsimp only
  split <;> rfl

@[simp] theorem State.takeOp_now (s : State) (o : TimeOp) (rest : List TimeOp) (conflict : Bool) :
    (s.takeOp o rest conflict).now = max s.now o.due := by
  rw [← s.runTo_now]
  unfold State.takeOp
  dsimp only
  split <;> rfl

/-- The oldest operation left is a LOAD. -/
theorem exec_timeOpEffect_load {s : State} {d sec ns : Nat} {rest : List TimeOp}
    (h : settleOps s.time.ops = .load d sec ns :: rest) : exec .timeOpEffect s = .next
      ((s.takeOp (.load d sec ns) rest (settleOps s.time.ops != s.time.ops)).applyLoad sec ns).firePassed := by
  change execTimeOpEffect s = _
  unfold execTimeOpEffect
  simp only [h]
  rfl

/-- The oldest operation left is a STEP. -/
theorem exec_timeOpEffect_step {s : State} {d : Nat} {adj : Int} {rest : List TimeOp}
    (h : settleOps s.time.ops = .step d adj :: rest) : exec .timeOpEffect s = .next
      ((s.takeOp (.step d adj) rest (settleOps s.time.ops != s.time.ops)).applyStep adj).firePassed := by
  change execTimeOpEffect s = _
  unfold execTimeOpEffect
  simp only [h]
  rfl

/-- A sum of nanoseconds is reduced to the range of the PHC. -/
theorem phcNs_phcOf (n f : Nat) : phcNs (phcOf n f) = n % (2 ^ 48 * 1000000000) := by
  simp only [phcNs, phcOf]
  omega

/-- R31: a STEP adds its value over the full SECONDS. -/
theorem State.applyStep_phcNs (s : State) (adj : Int) :
    (phcNs (s.applyStep adj).time.phc : Int) = ((phcNs s.time.phc : Int) + adj) % ((2 ^ 48 : Nat) * 1000000000) := by
  change (phcNs (phcOf _ _) : Int) = _
  rw [phcNs_phcOf]
  omega

/-- Settles O8: what TIME.CTRL makes wait, and what the oldest operation left makes of the PHC. -/
theorem loadAndStepActTwoCyclesOn : Obligations.LoadAndStepActTwoCyclesOn := by
  unfold Obligations.LoadAndStepActTwoCyclesOn
  intro s w d sec ns adj
  refine ⟨fun hhost hload hstep => ?loadWaits, fun hhost hload hstep => ?stepWaits, fun hops => ?load, fun hops => ?step,
    fun e hops => ?both⟩
  case loadWaits =>
    exact ⟨s.timeCtrlWrite w, rfl, State.timeCtrlWrite_hosted hhost (by simp [State.ctrlOps, hload, hstep, State.loadOp])⟩
  case stepWaits =>
    exact ⟨s.timeCtrlWrite w, rfl, State.timeCtrlWrite_hosted hhost (by simp [State.ctrlOps, hload, hstep, State.stepOp])⟩
  case load =>
    refine ⟨_, exec_timeOpEffect_load (d := d) (rest := []) (by rw [hops]; rfl), ?_, ?_, ?_⟩
    · rw [State.firePassed_phc]
      rfl
    · simp [State.applyLoad]
    · simp [State.applyLoad, TimeOp.due]
  case step =>
    refine ⟨_, exec_timeOpEffect_step (rest := []) (by rw [hops]; rfl), ?_, ?_, ?_, ?_⟩
    · rw [State.firePassed_phc, State.applyStep_phcNs, State.takeOp_time]
      rfl
    · simp [State.applyStep, phcOf, TimeOp.due]
    · simp [State.applyStep]
    · simp [State.applyStep, TimeOp.due]
  case both =>
    have hload : settleOps s.time.ops = [.load d sec ns] := by
      obtain hops | hops := hops <;> rw [hops] <;> rfl
    refine ⟨_, exec_timeOpEffect_load hload, ?_, ?_⟩
    · rw [State.firePassed_phc]
      rfl
    · simp [State.applyLoad]

/-! ### Reads of the time and of transmit timestamps (R33, R39) -/

@[simp] theorem timePort_inj {n a b : Nat} : timePort n a = timePort n b ↔ a = b := by simp [timePort]

@[simp] theorem State.rd_emit (s : State) (o : Output) (a : Nat) : (s.emit o).rd a = s.rd a := rfl

/-- Three registers written in a row, as an instant is latched. -/
def State.wrn3 (s : State) (a b c x y z : Nat) : State := ((s.wrn a x).wrn b y).wrn c z

theorem State.rd_wrn3 (s : State) {a b c : Nat} (x y z : Nat) (hab : a ≠ b) (hac : a ≠ c) (hbc : b ≠ c) :
    (s.wrn3 a b c x y z).rd a = BitVec.ofNat 32 x ∧ (s.wrn3 a b c x y z).rd b = BitVec.ofNat 32 y ∧
    (s.wrn3 a b c x y z).rd c = BitVec.ofNat 32 z := by
  simp [State.wrn3, State.rd_wrn_other, hab, hac, hbc]

theorem State.rd_wrn3_other (s : State) {a b c k : Nat} (x y z : Nat) (ha : k ≠ a) (hb : k ≠ b) (hc : k ≠ c) :
    (s.wrn3 a b c x y z).rd k = s.rd k := by
  simp [State.wrn3, State.rd_wrn_other, ha, hb, hc]

theorem State.popTx_nil {s : State} {port : Nat} (h : s.time.txts.get port = []) : s.popTx port = (0, s) := by
  simp only [State.popTx, h]

theorem State.popTx_cons {s : State} {port : Nat} {e : TxTs} {r : List TxTs} (h : s.time.txts.get port = e :: r) :
    s.popTx port = (2 ^ 31 + e.id % 2 ^ 16, State.wrn3 (s.updTime (fun t => { t with txts := t.txts.set port r }))
      (timePort port 0x10) (timePort port 0x14) (timePort port 0x18) e.t.ns e.t.sec
      (e.t.sec / 2 ^ 32 % 2 ^ 16 + e.t.frac * 2 ^ 16)) := by
  simp only [State.popTx, h]
  rfl

theorem exec_txtsPop {s u : State} {port v : Nat} (h : s.popTx port = (v, u)) :
    exec (.txtsPop port) s = .next (u.emit (.read (BitVec.ofNat 32 v))) := by
  change execTxtsPop port s = _
  rw [execTxtsPop, h]

/-- Settles O9: a read latches one value of the PHC, a pop that of the oldest entry. -/
theorem timeReadsDescribeOneInstant : Obligations.TimeReadsDescribeOneInstant := by
  unfold Obligations.TimeReadsDescribeOneInstant
  intro s port
  refine ⟨?now, fun e r hq => ?pop, fun hq => ?empty⟩
  case now =>
    have hlatch := s.rd_wrn3 (a := timeReg 0x014) (b := timeReg 0x018) (c := timeReg 0x01C) s.time.phc.sec
      (s.time.phc.sec / 2 ^ 32) (s.time.phc.frac / 2 ^ 16) (by simp) (by simp) (by simp)
    obtain ⟨hlo, hhi, hfrac⟩ := hlatch
    exact ⟨_, rfl, rfl, hlo, hhi, hfrac, rfl, rfl, rfl, fun a ha hb hc => s.rd_wrn3_other _ _ _ ha hb hc⟩
  case pop =>
    obtain ⟨hns, hsec, hrest⟩ := (s.updTime (fun t => { t with txts := t.txts.set port r })).rd_wrn3
      (a := timePort port 0x10) (b := timePort port 0x14) (c := timePort port 0x18) e.t.ns e.t.sec
      (e.t.sec / 2 ^ 32 % 2 ^ 16 + e.t.frac * 2 ^ 16) (by simp) (by simp) (by simp)
    exact ⟨_, exec_txtsPop (State.popTx_cons hq), Tab.get_set_same _ _ _, rfl, hns, hsec, hrest⟩
  case empty => exact exec_txtsPop (State.popTx_nil hq)

/-! ### Compare units and pulses (R41 to R44) -/

/-- General-purpose unit `m` is changed by `f`. -/
def State.updCmp (s : State) (m : Nat) (f : Cmp → Cmp) : State := s.updTime (fun t => { t with cmps := t.cmps.upd m f })

theorem State.updCmp_only (s : State) (m : Nat) (f : Cmp → Cmp) :
    (s.updCmp m f).time.cmps.get m = f (s.time.cmps.get m) ∧
    (∀ k, k ≠ m → (s.updCmp m f).time.cmps.get k = s.time.cmps.get k) ∧
    (s.updCmp m f).time.phc = s.time.phc ∧ (s.updCmp m f).regs = s.regs ∧ (s.updCmp m f).mem = s.mem :=
  ⟨Tab.get_upd_same _ _ _, fun _ => Tab.get_upd_other _ _, rfl, rfl, rfl⟩

/-- Settles O10: each write changes its own general-purpose unit, and none of CMP0 to CMP7. -/
theorem compareRegistersLoadAndArm : Obligations.CompareRegistersLoadAndArm := by
  unfold Obligations.CompareRegistersLoadAndArm
  intro s m w
  refine ⟨fun hlo hhi => ?general, fun hm => ?ignored⟩
  case general =>
    have hm : (decide (8 ≤ m) && decide (m < 16)) = true := by simp [hlo, hhi]
    exact ⟨⟨_, congrArg Host.Outcome.next (if_pos hm), s.updCmp_only m _⟩,
      ⟨_, congrArg Host.Outcome.next (if_pos hm), s.updCmp_only m _⟩,
      ⟨_, congrArg Host.Outcome.next (if_pos hm), s.updCmp_only m _⟩⟩
  case ignored =>
    have hlow : ¬ (decide (8 ≤ m) && decide (m < 16)) = true := by simp [hm]
    exact ⟨congrArg Host.Outcome.next (if_neg hlow), congrArg Host.Outcome.next (if_neg hlow),
      congrArg Host.Outcome.next (if_neg hlow)⟩

theorem State.fireCmp_cmps (s : State) (m : Nat) :
    (s.fireCmp m).time.cmps = s.time.cmps.set m ((s.time.cmps.get m).fire (linear s.time.phc)) := by
  obtain ⟨_, _, _, h⟩ := s.fireCmp_parts m
  rw [h]

theorem State.fireCmp_mem (s : State) (m : Nat) : (s.fireCmp m).mem = s.mem := by
  obtain ⟨_, _, _, h⟩ := s.fireCmp_parts m
  rw [h]

theorem State.fireCmp_regs (s : State) (m : Nat) : (s.fireCmp m).regs = s.regs := by
  obtain ⟨_, _, _, h⟩ := s.fireCmp_parts m
  rw [h]

/-- A unit that fires is told by its own time: FIRED, ARMED by its interval, the target moved on (R41). -/
theorem State.fireCmp_same (s : State) (m : Nat) :
    (s.fireCmp m).time.cmps.get m = (s.time.cmps.get m).fire (linear (s.fireCmp m).time.phc) := by
  rw [s.fireCmp_cmps, s.fireCmp_phc, Tab.get_set_same]

theorem State.fireCmp_other (s : State) {m j : Nat} (h : j ≠ m) : (s.fireCmp m).time.cmps.get j = s.time.cmps.get j := by
  rw [s.fireCmp_cmps, Tab.get_set_other _ _ h]

theorem Cmp.fire_fired (c : Cmp) (t : Nat) : (c.fire t).fired = true := rfl
theorem Cmp.fire_armed (c : Cmp) (t : Nat) : (c.fire t).armed = (c.interval != 0) := rfl

theorem State.time_of_clock (s : State) (n : Nat) (p : PhcTime) :
    ({ s with now := n, time := { s.time with phc := p } } : State).time = { s.time with phc := p } := rfl

/-- Of the time unit the clock moves the PHC alone. -/
theorem State.cycles_time (s : State) (k : Nat) : (s.cycles k).time = { s.time with phc := phcAdvance s.time.phc s.addend k } :=
  State.time_of_clock s _ _

@[simp] theorem State.cycles_cmps (s : State) (k : Nat) : (s.cycles k).time.cmps = s.time.cmps := by rw [State.cycles_time]
@[simp] theorem State.runTo_pins (s : State) (c : Nat) : (s.runTo c).time.pins = s.time.pins := by
  rw [State.runTo, State.cycles_time]

/-- An armed unit fires at the first cycle at which its target is reached; the Sluice channels follow. -/
theorem exec_compareFire {s : State} {m : Nat} (h : (s.time.cmps.get m).armed = true) : exec (.compareFire m) s =
    .next (((s.cycles (s.cyclesTo (s.time.cmps.get m).target)).fireCmp m).sluiceCompare m) := by
  change execCompareFire m s = _
  unfold execCompareFire
  exact congrArg Host.Outcome.next (if_pos h)

/-- Pin `k`, of which `p` is recorded, falls at the present cycle. -/
def State.pinFall (s : State) (k : Nat) (p : TimePin) : State :=
  (s.updTime (fun t => { t with pins := t.pins.set k { p with level := false } })).emit (.pin (.timeOut k) false s.now)

theorem State.pinFall_same (s : State) (k : Nat) (p : TimePin) :
    (s.pinFall k p).time.pins.get k = { p with level := false } := Tab.get_set_same _ _ _
theorem State.pinFall_other (s : State) {k j : Nat} (p : TimePin) (h : j ≠ k) :
    (s.pinFall k p).time.pins.get j = s.time.pins.get j := Tab.get_set_other _ _ h
@[simp] theorem State.pinFall_now (s : State) (k : Nat) (p : TimePin) : (s.pinFall k p).now = s.now := rfl
theorem State.pinFall_out (s : State) (k : Nat) (p : TimePin) :
    (s.pinFall k p).out = s.out ++ [.pin (.timeOut k) false s.now] := rfl
theorem State.pinFall_mem (s : State) (k : Nat) (p : TimePin) : (s.pinFall k p).mem = s.mem := rfl
theorem State.pinFall_regs (s : State) (k : Nat) (p : TimePin) : (s.pinFall k p).regs = s.regs := rfl

theorem exec_outputPulseEnd {s : State} {k : Nat} (h : (s.time.pins.get k).level = true) :
    exec (.outputPulseEnd k) s = .next ((s.runTo (s.time.pins.get k).fall).pinFall k (s.time.pins.get k)) := by
  change execOutputPulseEnd k s = _
  unfold execOutputPulseEnd
  exact congrArg Host.Outcome.next (if_pos h)

/-- Settles O11: the unit fires at the cycle its target is reached; a pulse ends at the cycle recorded for it. -/
theorem compareUnitsFireAndPulsesEnd : Obligations.CompareUnitsFireAndPulsesEnd := by
  unfold Obligations.CompareUnitsFireAndPulsesEnd
  intro s m k
  refine ⟨fun harmed => ?fire, fun hlevel => ?pulse⟩
  case fire =>
    have hfired := (s.cycles (s.cyclesTo (s.time.cmps.get m).target)).fireCmp_same m
    rw [State.cycles_cmps] at hfired
    refine ⟨_, exec_compareFire harmed, hfired, ?_, ?_, fun j hj => ?_, State.fireCmp_phc _ _, ?_, ?_, ?_⟩
    · rw [hfired, Cmp.fire_fired]
    · rw [hfired, Cmp.fire_armed]
    · rw [State.fireCmp_other _ hj, State.cycles_cmps]
    · rw [State.fireCmp_now, State.cycles]
    · rw [State.fireCmp_mem, State.cycles_mem]
    · rw [State.fireCmp_regs, State.cycles_regs]
  case pulse =>
    refine ⟨_, exec_outputPulseEnd hlevel, ?_, fun j hj => ?_, ?_, ?_, ?_, ?_⟩
    · rw [State.pinFall_same]
    · rw [State.pinFall_other _ _ hj, State.runTo_pins]
    · rw [State.pinFall_now, State.runTo_now]
    · rw [State.pinFall_out, State.pinFall_now, State.runTo_out]
    · rw [State.pinFall_mem, State.runTo_mem]
    · rw [State.pinFall_regs, State.runTo_regs]

/-! ### References and the servo (R45, R46, R48) -/

theorem State.enterHoldover_time (s : State) (d : Nat) :
    (s.enterHoldover d).time = { s.time with goodSyncs := 0, lock := 3 } := by
  unfold State.enterHoldover State.holdAddend
  rw [State.setLock_time]
  dsimp only
  split <;> rfl

/-! ### References (R45) -/

theorem exec_ppsInTimeout {s : State} (hseen : s.time.ppsSeen = true) (hnew : s.time.ppsReported = false) :
    exec .ppsInTimeout s = .next (((s.runTo (s.time.ppsAt + 3000000000)).updTime (fun t => { t with ppsReported := true })).ev
      0x0108 0x4000 (((s.runTo (s.time.ppsAt + 3000000000)).now - (s.runTo (s.time.ppsAt + 3000000000)).time.ppsAt) /
        1500000000)) := by
  change execPpsInTimeout s = _
  unfold execPpsInTimeout
  exact congrArg Host.Outcome.next (if_pos (by simp [hseen, hnew]))

@[simp] theorem State.runTo_ppsAt (s : State) (c : Nat) : (s.runTo c).time.ppsAt = s.time.ppsAt := by
  rw [State.runTo, State.cycles_time]

/-- The count is beyond 100 ppm of 10 MHz over a second. -/
theorem exec_freq10m_out {s : State} {n : Nat} (h : 1500150000 < n ∨ n < 1499850000) :
    exec (.freq10mCountDone n) s = .next ((s.wrn (timeReg 0x04C) n).ev 0x0109 0x4000 n) := by
  change execFreq10mCountDone n s = _
  unfold execFreq10mCountDone
  refine congrArg Host.Outcome.next (if_pos ?_)
  split <;> omega

theorem exec_freq10m_in {s : State} {n : Nat} (h : 1499850000 ≤ n) (h' : n ≤ 1500150000) :
    exec (.freq10mCountDone n) s = .next (s.wrn (timeReg 0x04C) n) := by
  change execFreq10mCountDone n s = _
  unfold execFreq10mCountDone
  refine congrArg Host.Outcome.next (if_neg ?_)
  split <;> omega

/-! ### The firmware servo (R46, R48) -/

/-- An offset at which the servo steps: above 1 ms in FREE or ACQUIRING. -/
def State.syncSteps (s : State) (offset : Int) : Bool := decide (s.time.lock < 2) && decide (1000000 < offset.natAbs)

/-- ADDEND after a Sync message: held at a step and in HOLDOVER, else the servo's choice. -/
def State.syncAddend (s : State) (offset : Int) : Nat :=
  if s.syncSteps offset || s.time.lock == 3 then s.addend else clampAddend (Config.servoAddend s.free offset s.addend)

/-- Sync messages within LOCK_NS in a row, this one counted. -/
def State.syncGood (s : State) (offset : Int) : Nat :=
  if offset.natAbs ≤ s.rdn (timeReg 0x060) then s.time.goodSyncs + 1 else 0

/-- What a Sync message records, before LOCK moves. -/
def State.syncTaken (s : State) (offset : Int) : State :=
  { s.wrn (timeReg 0x020) (s.syncAddend offset) with
    free := s.free + 1
    time := { s.time with
      syncSeen := (s.time.syncSeen + 1) % 2 ^ 16, lastOffset := offset, goodSyncs := s.syncGood offset
      addends := (s.time.addends ++ [s.syncAddend offset]).drop (s.time.addends.length + 1 - 64)
      ops := if s.syncSteps offset then s.time.ops ++ [.step (s.now + 2) (-offset)] else s.time.ops } }

theorem State.syncTaken_rdn_other (s : State) (offset : Int) {a : Nat} (h : a ≠ timeReg 0x020) :
    (s.syncTaken offset).rdn a = s.rdn a := s.rdn_wrn_other _ h

theorem State.syncTaken_addend (s : State) (offset : Int) : (s.syncTaken offset).addend = s.syncAddend offset := by
  refine s.rdn_wrn_of_lt _ ?_
  unfold State.syncAddend
  split
  · exact s.addend_lt
  · exact clampAddend_lt _

/-- While LOCKED a Sync message beyond UNLOCK_NS leads to HOLDOVER. -/
theorem exec_ptpSync_locked {s : State} {offset : Int} (hfw : s.hostMode = false) (hmaster : s.time.master.isSome = true)
    (hlock : s.time.lock = 2) (hfar : s.rdn (timeReg 0x064) < offset.natAbs) :
    exec (.ptpSyncReceived offset) s = .next ((s.syncTaken offset).enterHoldover (satS32 offset)) := by
  have hgo : ¬ (s.hostMode || s.time.master.isNone) = true := by
    simpa [hfw] using Option.isSome_iff_ne_none.mp hmaster
  rw [← s.syncTaken_rdn_other offset (by simp)] at hfar
  change execPtpSyncReceived offset s = _
  unfold execPtpSyncReceived
  exact congrArg Host.Outcome.next (((if_neg hgo).trans (if_pos (by simp [hlock]))).trans (if_pos hfar))

/-- Outside LOCKED a Sync message that does not complete the run of good ones leaves LOCK. -/
theorem exec_ptpSync_seeking {s : State} {offset : Int} (hfw : s.hostMode = false) (hmaster : s.time.master.isSome = true)
    (hlock : s.time.lock ≠ 2) (hfew : s.syncGood offset < s.rdn (timeReg 0x068)) :
    exec (.ptpSyncReceived offset) s = .next (s.syncTaken offset) := by
  have hgo : ¬ (s.hostMode || s.time.master.isNone) = true := by
    simpa [hfw] using Option.isSome_iff_ne_none.mp hmaster
  rw [← s.syncTaken_rdn_other offset (by simp)] at hfew
  change execPtpSyncReceived offset s = _
  unfold execPtpSyncReceived
  exact congrArg Host.Outcome.next (((if_neg hgo).trans (if_neg (by simp [hlock]))).trans (if_neg (Nat.not_le.mpr hfew)))

theorem exec_ptpAnnounce_changed {s : State} {best : Nat} (hfw : s.hostMode = false) (hnew : some best ≠ s.time.master) :
    exec (.ptpAnnounceReceived (some best) none) s = .next ((s.updTime (fun t => { t with
      master := some best, lock := if t.lock == 0 then 1 else t.lock })).ev 0x010A 0x4000 best) := by
  change execPtpAnnounceReceived (some best) none s = _
  unfold execPtpAnnounceReceived
  simp [hfw, hnew]

theorem exec_syncTimeout_locked {s : State} (hfw : s.hostMode = false) (hlock : s.time.lock = 2) :
    exec .syncTimeout s = .next (s.enterHoldover 0x80000000) := by
  change execSyncTimeout s = _
  unfold execSyncTimeout
  exact congrArg Host.Outcome.next (if_pos (by simp [hfw, hlock]))

/-- Settles O12: each reference's capture, and the servo by where LOCK stands. -/
theorem referencesAreCapturedAndTheServoFollows : Obligations.ReferencesAreCapturedAndTheServoFollows := by
  unfold Obligations.ReferencesAreCapturedAndTheServoFollows
  intro s cycles offset best
  refine ⟨?edge, fun hseen hnew => ?timeout, ?freq, fun hfw => ⟨fun hmaster hlock hfar => ?holdover,
    fun hmaster hlock hms hlockNs hcount => ?step, fun hlock hnew => ?announce, fun hlock => ?sync⟩⟩
  case edge =>
    obtain ⟨hns, hsec, hhi⟩ := s.rd_wrn3 (a := timeReg 0x040) (b := timeReg 0x044) (c := timeReg 0x048) s.time.phc.ns
      s.time.phc.sec (s.time.phc.sec / 2 ^ 32) (by simp) (by simp) (by simp)
    exact ⟨_, rfl, hns, hsec, hhi, rfl, rfl⟩
  case timeout =>
    refine ⟨_, (s.runTo (s.time.ppsAt + 3000000000)).updTime (fun t => { t with ppsReported := true }),
      exec_ppsInTimeout hseen hnew, ?_, ?_, ?_⟩
    · rw [State.ev_now, State.updTime_now, State.runTo_ppsAt]
    · rw [State.ev_now, State.updTime_now, State.runTo_now]
    · rw [State.ev_time, State.updTime_time]
  case freq =>
    by_cases hout : 1500150000 < cycles ∨ cycles < 1499850000
    · refine ⟨_, exec_freq10m_out hout, s.rd_wrn_same _ _, fun _ => rfl, fun hlo hhi => ?_⟩
      omega
    · exact ⟨_, exec_freq10m_in (by omega) (by omega), s.rd_wrn_same _ _, fun h => absurd h hout, fun _ _ => rfl⟩
  case holdover =>
    refine ⟨_, exec_ptpSync_locked hfw hmaster hlock hfar, ?_⟩
    rw [State.enterHoldover_time]
    exact ⟨rfl, rfl, rfl, rfl⟩
  case step =>
    have hsteps : s.syncSteps offset = true := by simp [State.syncSteps, hlock, hms]
    have hgood : s.syncGood offset = 0 := if_neg (Nat.not_le.mpr hlockNs)
    refine ⟨_, exec_ptpSync_seeking hfw hmaster (by omega) (hgood ▸ hcount), if_pos hsteps, ?_, rfl⟩
    rw [State.syncTaken_addend, State.syncAddend, hsteps]
    rfl
  case announce =>
    refine ⟨_, exec_ptpAnnounce_changed hfw hnew, ?_, rfl, rfl⟩
    simp [hlock]
  case sync =>
    refine ⟨_, exec_syncTimeout_locked hfw hlock, ?_⟩
    rw [State.enterHoldover_time]
    exact ⟨rfl, rfl⟩

end Sys2Proof.Machine
end

section
/-! PROOFS. Weir: a Weir begins at its cycle, and nothing of its first step moves the clock or the record
of its beginning (O13). -/

namespace Sys2Proof.Machine

/-! ### The record of a Weir's beginning -/

/-- What a domain records of how its Weir began: stage, cycle, tick, whether and how often forced, by period, and the cycle of
the events of R55. -/
def Domain.begun (x : Domain) : WeirStage × Nat × Nat × Bool × Nat × Bool × Option Nat :=
  (x.stage, x.t0, x.tick, x.unaligned, x.forced, x.byPeriod, x.readyAt)

/-- From `s` to `t` the record of domain `d`'s Weir, the clock and the PHC stand. -/
structure SameBegin (d : Nat) (s t : State) : Prop where
  begun : (t.dom d).begun = (s.dom d).begun
  now : t.now = s.now
  phc : t.time.phc = s.time.phc

namespace SameBegin

variable {d : Nat} {s t u : State}

theorem refl (s : State) : SameBegin d s s := ⟨rfl, rfl, rfl⟩

theorem trans (h : SameBegin d s t) (k : SameBegin d t u) : SameBegin d s u :=
  ⟨k.begun.trans h.begun, k.now.trans h.now, k.phc.trans h.phc⟩

theorem ite {p : Prop} [Decidable p] (ht : SameBegin d s t) (hu : SameBegin d s u) : SameBegin d s (if p then t else u) := by
  split
  · exact ht
  · exact hu

theorem foldl {α : Type} {f : State → α → State} (hf : ∀ s a, SameBegin d s (f s a)) :
    ∀ (l : List α) (s : State), SameBegin d s (l.foldl f s)
  | [], s => .refl s
  | a :: l, s => (hf s a).trans (foldl hf l (f s a))

/-- An operation whose scope leaves the tick domains and the clock alone keeps the record. -/
theorem of_keeps {sc : Scope} (h : Keeps sc s t) (hweir : sc.weir = false) (hclk : sc.clk = false) : SameBegin d s t := by
  have htime := h.frame.clk hclk
  simp only [Prod.mk.injEq] at htime
  exact ⟨by rw [State.dom, h.frame.weir hweir, State.dom], htime.1, htime.2⟩

end SameBegin

@[simp] theorem State.dom_setDom_same (s : State) (d : Nat) (x : Domain) : (s.setDom d x).dom d = x := Tab.get_set_same _ _ _

theorem State.sameBegin_setDom (s : State) (d : Nat) {x : Domain} (h : x.begun = (s.dom d).begun) :
    SameBegin d s (s.setDom d x) := ⟨by rw [State.dom_setDom_same, h], rfl, rfl⟩

theorem State.sameBegin_updDom (s : State) (d : Nat) {f : Domain → Domain} (h : ∀ x, (f x).begun = x.begun) :
    SameBegin d s (s.updDom d f) := s.sameBegin_setDom d (h _)

theorem State.sameBegin_inc (s : State) (d a n : Nat) : SameBegin d s (s.inc a n) := ⟨rfl, rfl, rfl⟩

theorem State.sameBegin_ev (s : State) (d code src detail : Nat) : SameBegin d s (s.ev code src detail) := ⟨rfl, rfl, rfl⟩

/-- R61: the deadline is marked; the stages it stops keep the record. -/
theorem State.sameBegin_deadline (s : State) (d : Nat) : SameBegin d s (s.deadline d) := by
  have hstages (u : State) (c : Nat) : SameBegin d u (u.freezeStages c) :=
    .of_keeps (keeps_freezeStages (sc := { out := true, courses := true }) u c (Keeps.refl u) rfl rfl) rfl rfl
  have htarns (u : State) : SameBegin d u (u.tarnDeadline d) :=
    .of_keeps (keeps_tarnDeadline (sc := { regs := true, out := true, coders := true }) u d (Keeps.refl u) rfl rfl rfl) rfl rfl
  unfold State.deadline
  refine .trans ?_ ((SameBegin.foldl hstages _ _).trans (htarns _))
  exact s.sameBegin_updDom d (fun _ => rfl)

/-- R58, R350, R356: the kill reports, stops as a deadline does, and resets masters and Sluice channels. -/
theorem State.sameBegin_kill (s : State) (d : Nat) : SameBegin d s (s.kill d) := by
  have hmasters (u : State) (m : Nat) : SameBegin d u (u.masterReset m (fun t => t.dom == some d)) :=
    .of_keeps (keeps_masterReset (sc := { memsys := true }) u m _ (Keeps.refl u) rfl) rfl rfl
  have hsluice (u : State) : SameBegin d u (u.sluiceKill d) :=
    .of_keeps (keeps_sluiceKill (sc := { dma := true }) u d (Keeps.refl u) rfl) rfl rfl
  have hreport (u : State) (k : Killed) :
      SameBegin d u (u.raiseTo [] 0x0201 k.src k.course k.rend (k.left * 2 ^ 16 + k.total)) := ⟨rfl, rfl, rfl⟩
  unfold State.kill
  refine .trans ?_ ((SameBegin.foldl hmasters _ _).trans (hsluice _))
  refine .trans ?_ (.ite (.refl _) (State.sameBegin_deadline _ d))
  exact (s.sameBegin_inc d _ _).trans (SameBegin.foldl hreport _ _)

theorem State.sameBegin_loadTick (s : State) (d n : Nat) : SameBegin d s (s.loadTick d n) := by
  have hnext (n : Nat) : SameBegin d s (s.updDom d (fun x => { x with next := n })) := s.sameBegin_updDom d (fun _ => rfl)
  exact (hnext _).trans ⟨rfl, rfl, rfl⟩

/-- A domain whose Weir begins at cycle `now` with tick `new`, which lies at `ns`. -/
def Domain.drainFrom (x : Domain) (now new ns : Nat) (forced byPeriod : Bool) : Domain :=
  { x with
    tick := new, stage := .drain, t0 := now, t0Ns := ns, postBy := now, closing := x.latched, latched := [], readyAt := none
    unaligned := forced, forced := (if forced then x.forced + 1 else 0), byPeriod, x := 0, e := 0, spillBy := [] }

theorem Domain.drainFrom_begun (x : Domain) (now new ns : Nat) (forced byPeriod : Bool) :
    (x.drainFrom now new ns forced byPeriod).begun =
      (.drain, now, new, forced, (if forced then x.forced + 1 else 0), byPeriod, none) := rfl

/-- A Weir's beginning: the record is written, and what else happens at T+0 keeps it. -/
theorem State.weirBegin_sameBegin (s : State) (d new ns : Nat) (forced byPeriod : Bool) :
    SameBegin d (s.setDom d ((s.dom d).drainFrom s.now new ns forced byPeriod)) (s.weirBegin d new ns forced byPeriod) := by
  have hskip (u : State) (n : Nat) : SameBegin d u (u.skipped d n) :=
    .of_keeps (keeps_skipped (sc := { regs := true, out := true }) u d n (Keeps.refl u) rfl rfl) rfl rfl
  have hopens (u : State) : SameBegin d u u.firstOpens :=
    .of_keeps (keeps_firstOpens (sc := { out := true, emit := true, pair := true }) u (Keeps.refl u) rfl rfl rfl) rfl rfl
  have hluts (u : State) (c : Nat) : SameBegin d u (u.lutsMap c Lut.mark) :=
    .of_keeps (keeps_lutsMap (sc := { courses := true }) u c _ (Keeps.refl u) rfl) rfl rfl
  have hfire (u : State) : SameBegin d u (u.fireCmp d) :=
    .of_keeps (keeps_fireCmp (sc := { time := true, out := true }) u d (Keeps.refl u) rfl rfl) rfl rfl
  have hregs (u : State) : SameBegin d u (u.stageRegs d) := u.sameBegin_setDom d rfl
  unfold State.weirBegin
  refine .trans ?_ ((SameBegin.foldl hluts _ _).trans (State.sameBegin_kill _ d))
  refine .trans ?_ (hregs _)
  refine .trans ?_ (.ite ((State.sameBegin_ev _ d _ _ _).trans (hopens _)) (.refl _))
  refine .trans ?_ (.ite ((State.sameBegin_inc _ d _ _).trans (State.sameBegin_ev _ d _ _ _))
    (.ite (State.sameBegin_ev _ d _ _ _) (.refl _)))
  refine .trans ?_ (hskip _ _)
  refine .trans ?_ (.ite (.refl _) (State.sameBegin_loadTick _ d _))
  exact .ite (hfire _) (.refl _)

/-! ### The clock up to the Weir -/

@[simp] theorem State.dom_runTo (s : State) (c d : Nat) : (s.runTo c).dom d = s.dom d := rfl

/-- Running to a deadline and then to the later cycle `c` is the clock's run to `c`; the record of the Weir before stands. -/
theorem State.deadlineBefore_runTo (s : State) (d c : Nat) :
    (((s.deadlineBefore d c).runTo c).dom d).begun = (s.dom d).begun ∧ ((s.deadlineBefore d c).runTo c).now = max s.now c := by
  rw [State.dom_runTo, State.runTo_now]
  unfold State.deadlineBefore
  dsimp only
  split
  next h =>
    obtain ⟨hbegun, hnow, -⟩ := (s.runTo (s.deadlineAt d)).sameBegin_deadline d
    have hlt : s.deadlineAt d < c := of_decide_eq_true (Bool.and_eq_true_iff.mp h).2
    rw [hbegun, hnow, State.dom_runTo, State.runTo_now]
    exact ⟨rfl, by omega⟩
  next => exact ⟨rfl, rfl⟩

/-- A Weir that begins once the clock has run to `c`, its deadline met on the way: it is in its drain from that cycle on. -/
theorem State.weirBegin_at (s : State) (d c new ns : Nat) (forced byPeriod : Bool) {t : State}
    (ht : t = ((s.deadlineBefore d c).runTo c).weirBegin d new ns forced byPeriod) :
    (t.dom d).stage = .drain ∧ (t.dom d).t0 = t.now ∧ t.now = max s.now c ∧ (t.dom d).tick = new ∧
    (t.dom d).unaligned = forced ∧ (t.dom d).forced = (if forced then (s.dom d).forced + 1 else 0) ∧
    (t.dom d).byPeriod = byPeriod ∧ (t.dom d).readyAt = none ∧
    t.time.phc = ((s.deadlineBefore d c).runTo c).time.phc := by
  subst ht
  obtain ⟨hbefore, hclock⟩ := s.deadlineBefore_runTo d c
  generalize (s.deadlineBefore d c).runTo c = u at hbefore hclock ⊢
  obtain ⟨hbegun, hnow, hphc⟩ := u.weirBegin_sameBegin d new ns forced byPeriod
  rw [State.dom_setDom_same, Domain.drainFrom_begun] at hbegun
  simp only [Domain.begun, Prod.mk.injEq] at hbegun hbefore
  obtain ⟨hstage, ht0, htick, hunaligned, hforced, hperiod, hready⟩ := hbegun
  obtain ⟨-, -, -, -, hcount, -, -⟩ := hbefore
  rw [hcount] at hforced
  exact ⟨hstage, ht0.trans hnow.symm, hnow.trans hclock, htick, hunaligned, hforced, hperiod, hready, hphc⟩

/-! ### The commands that begin a Weir, where their guards hold -/

theorem exec_weirStart_aligned {s : State} {d : Nat} (hfree : s.weirFree d = true) (hmode : (s.dom d).mode ≠ 1)
    (hstage : (s.dom d).stage ≠ .none) (hforced : s.tickCycle d ≤ s.forcedDue d) :
    ∃ ns, exec (.weirStart d) s = .next (((s.deadlineBefore d (s.tickCycle d)).runTo (s.tickCycle d)).weirBegin d
      (max ((s.dom d).tickAfter (phcNs ((s.deadlineBefore d (s.tickCycle d)).runTo (s.tickCycle d)).time.phc) - 1)
        ((s.dom d).tick + 1)) ns false false) := by
  apply Exists.intro
  change execWeirStart d s = _
  unfold execWeirStart
  refine (congrArg Host.Outcome.next (if_neg ?_)).trans ?_
  · simp [hfree, hmode, hforced]
  · simp only [beq_iff_eq, hmode, hstage, if_false]
    rfl

theorem exec_forcedWeir_due {s : State} {d : Nat} (hfree : s.weirFree d = true) (hmode : (s.dom d).mode ≠ 1)
    (hstage : (s.dom d).stage ≠ .none) (hdue : s.forcedDue d < s.tickCycle d) :
    ∃ ns, exec (.forcedWeir d) s = .next (((s.deadlineBefore d (s.forcedDue d)).runTo (s.forcedDue d)).weirBegin d
      ((s.dom d).tick + 1) ns true false) := by
  refine ⟨_, congrArg Host.Outcome.next (if_neg ?_)⟩
  simp [hfree, hmode, hstage, hdue]

theorem exec_drainPeriodExpired_due {s : State} {d : Nat} (hfree : s.weirFree d = true) (hmode : (s.dom d).mode = 1)
    (hstage : (s.dom d).stage ≠ .none) (hrun : s.runningIn d ≠ []) (hdrained : s.drained d = false) :
    ∃ ns, exec (.drainPeriodExpired d) s = .next (((s.deadlineBefore d ((s.dom d).openAt + s.winOf d)).runTo
      ((s.dom d).openAt + s.winOf d)).weirBegin d ((s.dom d).tick + 1) ns false true) := by
  refine ⟨_, congrArg Host.Outcome.next (if_neg ?_)⟩
  simp [hfree, hmode, hstage, hrun, hdrained]

theorem exec_drainPacedWeirDue_ready {s : State} {d r : Nat} (hfree : s.weirFree d = true) (hmode : (s.dom d).mode = 1)
    (hstage : (s.dom d).stage ≠ .none) (hready : (s.dom d).readyAt = some r) :
    ∃ ns, exec (.drainPacedWeirDue d) s = .next (((s.deadlineBefore d (r + 512)).runTo (r + 512)).weirBegin d
      ((s.dom d).tick + 1) ns false false) := by
  apply Exists.intro
  change execDrainPacedWeirDue d s = _
  unfold execDrainPacedWeirDue
  simp only [hready]
  refine congrArg Host.Outcome.next (if_neg ?_)
  simp [hfree, hmode, hstage]

/-- Settles O13: each command runs the clock to its cycle and begins the Weir there. -/
theorem weirBeginsAtItsCycle : Obligations.WeirBeginsAtItsCycle := by
  unfold Obligations.WeirBeginsAtItsCycle
  intro s d hfree
  refine ⟨fun hmode hstage hforced => ?aligned, fun hmode hstage hdue => ?forced,
    fun hmode hstage hrun hdrained => ?period, fun r hmode hstage hready => ?paced⟩
  case aligned =>
    obtain ⟨ns, hexec⟩ := exec_weirStart_aligned hfree hmode hstage hforced
    obtain ⟨hdrain, ht0, hnow, htick, hunaligned, -, -, -, hphc⟩ := s.weirBegin_at d (s.tickCycle d) _ ns false false rfl
    exact ⟨_, hexec, hdrain, ht0, hnow, by rw [htick, hphc], hunaligned⟩
  case forced =>
    obtain ⟨ns, hexec⟩ := exec_forcedWeir_due hfree hmode hstage hdue
    obtain ⟨hdrain, ht0, hnow, htick, hunaligned, hcount, -⟩ := s.weirBegin_at d (s.forcedDue d) _ ns true false rfl
    exact ⟨_, hexec, hdrain, ht0, hnow, htick, hunaligned, hcount⟩
  case period =>
    obtain ⟨ns, hexec⟩ := exec_drainPeriodExpired_due hfree hmode hstage hrun hdrained
    obtain ⟨hdrain, ht0, hnow, htick, -, -, hperiod, -⟩ := s.weirBegin_at d _ _ ns false true rfl
    exact ⟨_, hexec, hdrain, ht0, hnow, htick, hperiod⟩
  case paced =>
    obtain ⟨ns, hexec⟩ := exec_drainPacedWeirDue_ready hfree hmode hstage hready
    obtain ⟨hdrain, ht0, hnow, htick, -, -, -, hnone, -⟩ := s.weirBegin_at d (r + 512) _ ns false false rfl
    exact ⟨_, hexec, hdrain, ht0, hnow, htick, hnone⟩

end Sys2Proof.Machine
end

section
/-! PROOFS. WeirRegs: what a scope leaves of a domain, the clock and memory; and the registers of a domain that have rows of
their own, with the release of slices (O15). -/

namespace Sys2Proof.Machine

/-! ### What a scope leaves -/

namespace Keeps

variable {sc : Scope} {s t : State}

theorem dom_eq (h : Keeps sc s t) (hweir : sc.weir = false) (d : Nat) : t.dom d = s.dom d := by
  rw [State.dom, h.frame.weir hweir, State.dom]

theorem now_eq (h : Keeps sc s t) (hclk : sc.clk = false) : t.now = s.now := congrArg Prod.fst (h.frame.clk hclk)

theorem mem_eq (h : Keeps sc s t) (hmem : sc.mem = false) : t.mem = s.mem := h.frame.mem hmem

end Keeps

theorem State.dom_updDom_same (s : State) (d : Nat) (f : Domain → Domain) : (s.updDom d f).dom d = f (s.dom d) :=
  Tab.get_upd_same _ _ _

/-- A mode that takes effect changes the mode alone. -/
theorem State.modeTake_dom (s : State) (d m : Nat) : (s.modeTake d m).dom d = { s.dom d with mode := m } := by
  unfold State.modeTake
  split
  next h => exact eq_of_beq h ▸ rfl
  next => exact s.dom_updDom_same d (fun x => { x with mode := m })

/-! ### PHASE_NS and GUARD_NS (R61, R62, R67) -/

section Writes

variable {s : State} {d : Nat} (hdef : s.domDefined d = true) (hact : s.standby = false)

include hdef hact

/-- R67: PHASE_NS takes a value below the period, and tells of another. -/
theorem exec_weirPhaseWrite_active (w : Word) :
    exec (.weirPhaseWrite d w) s = .next (
      if w.toNat * (s.st.domains.get d).den < (s.st.domains.get d).num * 1000000000 then s.wr (weirReg d 0x10) w
      else s.ev 0x020D (0x4100 + d) w.toNat) := by
  change Host.Outcome.next (s.phaseWrite d w) = _
  unfold State.phaseWrite
  dsimp only
  rw [if_neg (by simp [hdef]), State.weirWrite_active _ _ _ _ hact]
  simp only [← Nat.not_lt, ite_not]

/-- R62: GUARD_NS takes a value that keeps the condition, and tells of another. -/
theorem exec_guardNsWrite_active (w : Word) :
    exec (.guardNsWrite d w) s = .next (
      if guardFits (s.st.domains.get d).num (s.st.domains.get d).den (max 4000 w.toNat) (s.rdn (cnfReg 0x000)) s.st.pair.enabled
      then s.wr (weirReg d 0x14) w else s.ev 0x020C (0x4100 + d) w.toNat) := by
  change Host.Outcome.next (s.guardWrite d w) = _
  unfold State.guardWrite
  dsimp only
  rw [if_neg (by simp [hdef]), State.weirWrite_active _ _ _ _ hact]

/-! ### MODE_REQ (R68) -/

/-- What a write of MODE_REQ comes down to on an active device. -/
theorem State.modeWrite_active (m : Nat) :
    s.modeWrite d m =
      if (s.dom d).mode == 1 || (m != 0 && m != 2) then s.ev 0x020E (0x4100 + d) m
      else if s.domState d == 0 || s.domState d == 1 then
        (let t := (s.setDom d { s.dom d with modeReq := m, modePending := none }).modeTake d m
         if (s.dom d).mode == m then t else t.journal d [.reg 0 (weirReg d 0) (BitVec.ofNat 32 (16 * m))])
      else s.setDom d { s.dom d with modeReq := m, modePending := if (s.dom d).mode == m then none else some m } := by
  unfold State.modeWrite
  dsimp only
  rw [if_neg (by simp [hdef]), State.weirWrite_active _ _ _ _ hact]

theorem exec_modeReqWrite_refused {m : Nat} (hbad : (s.dom d).mode = 1 ∨ (m ≠ 0 ∧ m ≠ 2)) :
    exec (.modeReqWrite d m) s = .next (s.ev 0x020E (0x4100 + d) m) := by
  change Host.Outcome.next (s.modeWrite d m) = _
  rw [State.modeWrite_active hdef hact, if_pos (by simpa using hbad)]

/-- In IDLE and WAIT_LOCK the mode takes effect: its record is written, and what follows tells and journals. -/
theorem State.modeWrite_idle {m : Nat} (hmode : (s.dom d).mode ≠ 1) (hm : m = 0 ∨ m = 2) (hidle : s.domState d ≤ 1) :
    (s.modeWrite d m).dom d = { s.dom d with mode := m, modeReq := m, modePending := none } ∧
    (s.modeWrite d m).now = s.now ∧ (s.modeWrite d m).mem = s.mem := by
  rw [State.modeWrite_active hdef hact, if_neg (by simp; omega), if_pos (by simp; omega)]
  generalize hu : s.setDom d { s.dom d with modeReq := m, modePending := none } = u
  have htake := keeps_modeTake (sc := { out := true, weir := true }) u d m (Keeps.refl u) rfl rfl
  have hjournal := keeps_journal (sc := { pair := true }) (u.modeTake d m) d [.reg 0 (weirReg d 0) (BitVec.ofNat 32 (16 * m))]
    (Keeps.refl _) rfl
  have hdom : (u.modeTake d m).dom d = { s.dom d with mode := m, modeReq := m, modePending := none } := by
    rw [State.modeTake_dom, ← hu, State.dom_setDom_same]
  have hnow : (u.modeTake d m).now = s.now := (htake.now_eq rfl).trans (hu ▸ rfl)
  have hmem : (u.modeTake d m).mem = s.mem := (htake.mem_eq rfl).trans (hu ▸ rfl)
  dsimp only
  split
  · exact ⟨hdom, hnow, hmem⟩
  · exact ⟨(hjournal.dom_eq rfl d).trans hdom, (hjournal.now_eq rfl).trans hnow, (hjournal.mem_eq rfl).trans hmem⟩

theorem exec_modeReqWrite_running {m : Nat} (hmode : (s.dom d).mode ≠ 1) (hm : m = 0 ∨ m = 2) (hrun : 1 < s.domState d) :
    exec (.modeReqWrite d m) s = .next (s.setDom d { s.dom d with
      modeReq := m, modePending := if (s.dom d).mode = m then none else some m }) := by
  change Host.Outcome.next (s.modeWrite d m) = _
  rw [State.modeWrite_active hdef hact, if_neg (by simp; omega), if_neg (by simp; omega)]
  simp only [beq_iff_eq]

end Writes

/-! ### SLICE_RELEASE_TIME (R70) -/

/-- The clock runs to the first release listed that is yet to come. -/
theorem exec_sliceReleaseTime_next {s : State} {r : Nat} {e : Entry} {rest : List Entry}
    (hnext : (s.ring r).entries.filter (fun e => decide (0 < signed 64 (e.release + 2 ^ 64 - linear s.time.phc))) = e :: rest) :
    exec (.sliceReleaseTime r) s = .next (s.cycles (s.cyclesTo e.release)) := by
  change execSliceReleaseTime r s = _
  unfold execSliceReleaseTime
  dsimp only
  rw [hnext]
  rfl

/-- Settles O15: each write by what its register takes, and the release by the first entry to come. -/
theorem weirRegistersAreChecked : Obligations.WeirRegistersAreChecked := by
  unfold Obligations.WeirRegistersAreChecked
  intro s d w hdef hact
  refine ⟨exec_weirPhaseWrite_active hdef hact w, exec_guardNsWrite_active hdef hact w,
    fun m hmode hm => ⟨fun hidle => ?idle, exec_modeReqWrite_running hdef hact hmode hm⟩,
    fun m => exec_modeReqWrite_refused hdef hact, fun r e rest => exec_sliceReleaseTime_next⟩
  case idle =>
    obtain ⟨hdom, hnow, hmem⟩ := State.modeWrite_idle hdef hact hmode hm hidle
    exact ⟨s.modeWrite d m, rfl, by rw [hdom], by rw [hdom], by rw [hdom], hnow, hmem⟩

end Sys2Proof.Machine
end

section
/-! PROOFS. WeirStages: the drain, the waits X and E, the window and its deadline, and the hold follow in order (O14). -/

namespace Sys2Proof.Machine

/-! ### The pace of a domain (R55) changes its ready cycle alone -/

theorem State.paceDom_dom (s : State) (k d : Nat) : ∃ r, (s.paceDom k).dom d = { s.dom d with readyAt := r } := by
  unfold State.paceDom
  dsimp only
  split
  · by_cases hk : d = k
    · subst hk
      exact ⟨some s.now, s.dom_setDom_same d _⟩
    · exact ⟨(s.dom d).readyAt, Tab.get_set_other _ _ hk⟩
  · exact ⟨(s.dom d).readyAt, rfl⟩

theorem State.foldl_paceDom_dom (d : Nat) (l : List Nat) (s : State) :
    ∃ r, (l.foldl State.paceDom s).dom d = { s.dom d with readyAt := r } := by
  induction l generalizing s with
  | nil => exact ⟨(s.dom d).readyAt, rfl⟩
  | cons k l ih =>
    obtain ⟨r, hr⟩ := ih (s.paceDom k)
    obtain ⟨q, hq⟩ := s.paceDom_dom k d
    exact ⟨r, by rw [List.foldl_cons, hr, hq]⟩

theorem State.pace_dom (s : State) (d : Nat) : ∃ r, s.pace.dom d = { s.dom d with readyAt := r } :=
  State.foldl_paceDom_dom d _ s

theorem State.pace_now (s : State) : s.pace.now = s.now :=
  (keeps_pace (sc := { weir := true }) s (Keeps.refl s) rfl).now_eq rfl

theorem State.pace_mem (s : State) : s.pace.mem = s.mem :=
  (keeps_pace (sc := { weir := true }) s (Keeps.refl s) rfl).mem_eq rfl

/-! ### Work that is waited for -/

/-- Spillway units at work are told by their queues and the structure. -/
theorem Keeps.busySpills_eq {sc : Scope} {s t : State} (h : Keeps sc s t) (hst : sc.st = false) (hcoders : sc.coders = false)
    (d : Nat) : t.busySpills d = s.busySpills d := by
  have hunits := h.frame.coders hcoders
  simp only [Prod.mk.injEq] at hunits
  obtain ⟨-, -, -, hspills, -, -⟩ := hunits
  simp only [State.busySpills, State.domRend, State.domOf, hspills, h.frame.st hst]

/-- Renditions at work are told by the renditions, the courses that run and the structure. -/
theorem Keeps.busyRends_eq {sc : Scope} {s t : State} (h : Keeps sc s t) (hst : sc.st = false) (hcoders : sc.coders = false)
    (hcourses : sc.courses = false) (d : Nat) : t.busyRends d = s.busyRends d := by
  have hunits := h.frame.coders hcoders
  have hin := h.frame.courses hcourses
  simp only [Prod.mk.injEq] at hunits hin
  obtain ⟨-, -, -, -, hrends, -⟩ := hunits
  obtain ⟨hruns, -⟩ := hin
  have hcoding : t.codingBusy = s.codingBusy := funext fun r => by simp only [State.codingBusy, hrends]
  have hrunning : t.running = s.running := funext fun c => by simp only [State.running, hruns]
  simp only [State.busyRends, State.runningIn, hcoding, hrunning, h.frame.st hst]

/-! ### The wait X, from T+32 to the end of the drain (R56, R58) -/

/-- The cycles that a domain's drain has taken past T+32 once the clock has reached that cycle. -/
def State.drainWait (s : State) (d : Nat) : Nat := max s.now ((s.dom d).t0 + 32) - ((s.dom d).t0 + 32)

/-- The drain's end is recorded: the clock stands at T+32 or later, and the wait X is kept, counted and told. -/
def State.drainEnded (s : State) (d : Nat) : State :=
  let w := s.drainWait d
  let s := ((s.runTo ((s.dom d).t0 + 32)).updDom d (fun x => { x with x := w })).drainMax d w
  if w == 0 then s else s.ev 0x0202 (0x4100 + d) w

/-- The recorded drain changes registers and outputs, past the clock and the domain's X. -/
theorem State.keeps_drainEnded (s : State) (d : Nat) :
    Keeps { regs := true, out := true } ((s.runTo ((s.dom d).t0 + 32)).updDom d (fun x => { x with x := s.drainWait d }))
      (s.drainEnded d) :=
  have hmax := keeps_drainMax _ d (s.drainWait d) (Keeps.refl _) rfl
  keeps_ite hmax (keeps_ev _ _ _ _ hmax rfl)

theorem State.drainEnded_dom (s : State) (d : Nat) :
    (s.drainEnded d).dom d = { s.dom d with x := s.drainWait d } := by
  rw [(s.keeps_drainEnded d).dom_eq rfl, State.dom_updDom_same, State.dom_runTo]

theorem State.drainEnded_now (s : State) (d : Nat) : (s.drainEnded d).now = max s.now ((s.dom d).t0 + 32) := by
  rw [(s.keeps_drainEnded d).now_eq rfl, State.updDom_now, State.runTo_now]

theorem State.drainEnded_mem (s : State) (d : Nat) : (s.drainEnded d).mem = s.mem := (s.keeps_drainEnded d).mem_eq rfl

theorem State.drainEnded_busySpills (s : State) (d : Nat) : (s.drainEnded d).busySpills d = s.busySpills d :=
  (s.keeps_drainEnded d).busySpills_eq rfl rfl d

theorem State.drainEnded_busyRends (s : State) (d : Nat) : (s.drainEnded d).busyRends d = s.busyRends d :=
  (s.keeps_drainEnded d).busyRends_eq rfl rfl rfl d

/-- A drained Weir goes on, or waits for Spillway units and emission. -/
theorem State.weirDrained_eq {s : State} {d : Nat} (hdef : s.domDefined d = true) (hstage : (s.dom d).stage = .drain)
    (htagged : s.tagged d = 0) :
    ∃ l, s.weirDrained d =
      if (s.busySpills d).isEmpty && (s.busyRends d).isEmpty then (s.drainEnded d).weirMiddle d
      else (s.drainEnded d).updDom d (fun x => { x with stage := .spill, spillBy := l }) := by
  rw [← s.drainEnded_busySpills, ← s.drainEnded_busyRends, State.drainEnded, State.drainWait, ← State.runTo_now]
  unfold State.weirDrained
  dsimp only
  rw [if_neg (by simp [hdef, hstage, htagged])]
  exact ⟨_, rfl⟩

/-! ### The wait E for Spillway units and emission (R58) -/

/-- The cycles that a domain's Weir has waited since its drain ended. -/
def State.spillWait (s : State) (d : Nat) : Nat := s.now - ((s.dom d).t0 + 32 + (s.dom d).x)

/-- The wait E is kept, counted and told of each unit that was waited for. -/
def State.spillEnded (s : State) (d : Nat) : State :=
  let e := s.spillWait d
  let t := (s.updDom d (fun x => { x with e })).drainMax d ((s.dom d).x + e)
  if e == 0 then t else (s.dom d).spillBy.foldl (fun s k => (s.inc (spwReg k 0x010) 1).ev 0x020B (0x1500 + k) e) t

theorem State.keeps_spillEnded (s : State) (d : Nat) :
    Keeps { regs := true, out := true } (s.updDom d (fun x => { x with e := s.spillWait d })) (s.spillEnded d) :=
  have hmax := keeps_drainMax _ d ((s.dom d).x + s.spillWait d) (Keeps.refl _) rfl
  keeps_ite hmax (keeps_foldl hmax fun u _ hu => keeps_ev _ _ _ _ (keeps_inc u _ _ hu rfl) rfl)

theorem State.spillEnded_dom (s : State) (d : Nat) : (s.spillEnded d).dom d = { s.dom d with e := s.spillWait d } := by
  rw [(s.keeps_spillEnded d).dom_eq rfl, State.dom_updDom_same]

theorem State.spillDrained_eq {s : State} {d : Nat} (hdef : s.domDefined d = true) (hstage : (s.dom d).stage = .spill)
    (hspills : s.busySpills d = []) (hrends : s.busyRends d = []) : s.spillDrained d = (s.spillEnded d).weirMiddle d := by
  unfold State.spillDrained
  dsimp only
  rw [if_neg (by simp [hdef, hstage, hspills, hrends])]
  rfl

/-! ### The window opens (R56, R469) -/

/-- A domain whose window opens at cycle `now`. -/
def Domain.opened (x : Domain) (now : Nat) : Domain :=
  { x with stage := .window, openCycles := now - x.t0, openAt := now, deadlinePassed := false, byPeriod := false }

/-- A tick loaded changes the domain's pending tick alone. -/
theorem State.loadTick_dom (s : State) (d n : Nat) :
    (s.loadTick d n).dom d = { s.dom d with next := (s.dom d).tickNs n % 2 ^ 64 } :=
  s.dom_updDom_same d (fun x => { x with next := (s.dom d).tickNs n % 2 ^ 64 })

/-- The tick of the opening changes the domain's pending tick and the ticks seen. -/
theorem State.openTick_dom (s : State) (d : Nat) :
    ∃ seen next, (s.openTick d).dom d = { s.dom d with seen := seen, next := next } := by
  unfold State.openTick
  dsimp only
  split
  · exact ⟨(s.dom d).seen, (s.dom d).next, rfl⟩
  · generalize max ((s.dom d).tickAfter (phcNs s.time.phc)) ((s.dom d).tick + 1) = m
    generalize hseen : s.updDom d (fun y => { y with seen := m - 1 }) = u
    have hskip := keeps_skipped (sc := { regs := true, out := true }) (u.loadTick d m) d (m - (s.dom d).tick - 1)
      (Keeps.refl _) rfl rfl
    exact ⟨m - 1, _, by rw [hskip.dom_eq rfl, u.loadTick_dom, ← hseen, State.dom_updDom_same]⟩

/-- Past the domain's own record, an opening changes registers, outputs, courses, coders and the pair. -/
theorem State.keeps_windowOpen_opened {s : State} {d : Nat} (hdef : s.domDefined d = true) (hstage : (s.dom d).stage = .settle)
    (hfatal : s.isFatal = false) (aus : Tab (List AccessUnit)) :
    Keeps { regs := true, out := true, courses := true, coders := true, pair := true }
      (((s.runTo (s.dom d).openAt).setDom d ((s.dom d).opened (s.runTo (s.dom d).openAt).now)).openTick d)
      (s.windowOpen d aus) := by
  unfold State.windowOpen
  dsimp only
  rw [if_neg (by simp [hdef, hstage]), if_neg (by simp [hfatal])]
  refine keeps_foldl ?_ fun u c hu => keeps_keysOpen u c hu rfl rfl rfl rfl
  refine keeps_foldl ?_ fun u c hu => keeps_foldl hu fun v q hv => keeps_healResume v q hv rfl rfl rfl rfl
  refine keeps_tarnsOpen _ d ?_ rfl rfl
  refine keeps_foldl ?_ fun u c hu =>
    keeps_hinRefresh _ c (keeps_hwOpen _ c (keeps_openPictures u c hu rfl) rfl) rfl
  refine keeps_foldl ?_ fun u c hu => keeps_latchLayers u c _ hu rfl rfl rfl
  refine keeps_foldl ?_ fun u c hu => keeps_fountsOpen u d aus c hu rfl rfl rfl
  refine keeps_fountsRoll _ d ?_ rfl
  exact keeps_foldl (Keeps.refl _) fun u c hu => keeps_protOpen u c hu rfl rfl

/-- A settle ends in an open window. -/
theorem State.windowOpen_dom {s : State} {d : Nat} (hdef : s.domDefined d = true) (hstage : (s.dom d).stage = .settle)
    (hfatal : s.isFatal = false) (aus : Tab (List AccessUnit)) :
    ((s.windowOpen d aus).dom d).stage = .window ∧ ((s.windowOpen d aus).dom d).openAt = max s.now (s.dom d).openAt ∧
    ((s.windowOpen d aus).dom d).deadlinePassed = false := by
  rw [(State.keeps_windowOpen_opened hdef hstage hfatal aus).dom_eq rfl]
  obtain ⟨seen, next, hdom⟩ := ((s.runTo (s.dom d).openAt).setDom d
    ((s.dom d).opened (s.runTo (s.dom d).openAt).now)).openTick_dom d
  rw [hdom, State.dom_setDom_same]
  exact ⟨rfl, s.runTo_now _, rfl⟩

/-! ### The deadline of a window (R61) -/

/-- Past its mark, a deadline changes registers, outputs, courses and coders. -/
theorem State.keeps_deadline_marked (s : State) (d : Nat) :
    Keeps { regs := true, out := true, courses := true, coders := true }
      (s.updDom d (fun x => { x with deadlinePassed := true })) (s.deadline d) :=
  keeps_tarnDeadline _ d (keeps_foldl (Keeps.refl _) fun u c hu => keeps_freezeStages u c hu rfl rfl) rfl rfl rfl

theorem State.deadline_dom (s : State) (d : Nat) : (s.deadline d).dom d = { s.dom d with deadlinePassed := true } := by
  rw [(s.keeps_deadline_marked d).dom_eq rfl, State.dom_updDom_same]

/-- A window whose deadline is still to come meets it. -/
theorem exec_windowDeadline_due {s : State} {d : Nat} (hdef : s.domDefined d = true) (hstage : (s.dom d).stage = .window)
    (hgoes : s.img.stopped.contains d = false) (hahead : (s.dom d).deadlinePassed = false) :
    exec (.windowDeadline d) s = .next ((s.runTo (s.deadlineAt d)).deadline d).pace := by
  have hfree : s.weirFree d = true := by simp only [State.weirFree, State.inWeir, hdef, hgoes, hstage]; rfl
  exact congrArg Host.Outcome.next (if_pos (by simp [hfree, hstage, hahead]))

/-! ### The hold of a DRAIN_PACED Weir (R55) -/

/-- A hold ends 512 cycles after its last lead band. -/
theorem State.holdRelease_ready {s : State} {d r : Nat} (hdef : s.domDefined d = true) (hstage : (s.dom d).stage = .hold)
    (hready : (s.dom d).readyAt = some r) :
    s.holdRelease d = ((s.runTo (r + 512)).updDom d
      (fun y => { y with readyAt := none, postBy := (s.runTo (r + 512)).now })).weirSnap d := by
  unfold State.holdRelease
  simp only [hready]
  exact if_neg (by simp [hdef, hstage])

/-- Settles O14: each command ends its stage at its cycle, and what it starts leaves the record of that stage. -/
theorem weirStagesFollowInOrder : Obligations.WeirStagesFollowInOrder := by
  unfold Obligations.WeirStagesFollowInOrder
  intro s d hdef
  refine ⟨fun hstage htagged hbusy => ?waits, fun hstage htagged hspills hrends => ?drained,
    fun hstage hspills hrends => ?spilled, fun hstage hfatal aus => ?opens, fun hstage hgoes hahead => ?deadline,
    fun r hstage hready => ?held⟩
  case waits =>
    obtain ⟨l, hdrained⟩ := State.weirDrained_eq hdef hstage htagged
    rw [if_neg (by simp [hbusy])] at hdrained
    obtain ⟨r, hpace⟩ := (s.weirDrained d).pace_dom d
    have hdom := hpace.trans (by rw [hdrained, State.dom_updDom_same, s.drainEnded_dom])
    refine ⟨_, rfl, by rw [hdom], by rw [hdom]; rfl, ?_, ?_⟩
    · rw [State.pace_now, hdrained, State.updDom_now, s.drainEnded_now]
    · rw [State.pace_mem, hdrained, State.updDom_mem, s.drainEnded_mem]
  case drained =>
    obtain ⟨l, hdrained⟩ := State.weirDrained_eq hdef hstage htagged
    rw [if_pos (by simp [hspills, hrends])] at hdrained
    refine ⟨s.drainEnded d, congrArg (fun t : State => Host.Outcome.next t.pace) hdrained, ?_, ?_, s.drainEnded_mem d⟩
    · rw [s.drainEnded_dom]; rfl
    · rw [s.drainEnded_dom]
  case spilled =>
    have hkeeps := s.keeps_spillEnded d
    refine ⟨s.spillEnded d, congrArg (fun t : State => Host.Outcome.next t.pace)
      (State.spillDrained_eq hdef hstage hspills hrends), ?_, ?_, hkeeps.mem_eq rfl, hkeeps.now_eq rfl⟩
    · rw [s.spillEnded_dom]; rfl
    · rw [s.spillEnded_dom]
  case opens =>
    obtain ⟨r, hpace⟩ := (s.windowOpen d aus).pace_dom d
    obtain ⟨hwindow, hopen, hdeadline⟩ := State.windowOpen_dom hdef hstage hfatal aus
    exact ⟨_, rfl, by rw [hpace, hwindow], by rw [hpace, hopen], by rw [hpace, hdeadline]⟩
  case deadline =>
    obtain ⟨r, hpace⟩ := ((s.runTo (s.deadlineAt d)).deadline d).pace_dom d
    rw [State.deadline_dom, State.dom_runTo] at hpace
    have hkeeps := (s.runTo (s.deadlineAt d)).keeps_deadline_marked d
    refine ⟨_, exec_windowDeadline_due hdef hstage hgoes hahead, by rw [hpace], by rw [hpace, hstage], ?_, ?_⟩
    · rw [State.pace_now, hkeeps.now_eq rfl, State.updDom_now, State.runTo_now]
    · rw [State.pace_mem, hkeeps.mem_eq rfl, State.updDom_mem, State.runTo_mem]
  case held =>
    refine ⟨_, congrArg (fun t : State => Host.Outcome.next t.pace) (State.holdRelease_ready hdef hstage hready), ?_, ?_, ?_, rfl⟩
    · rw [State.updDom_now, State.runTo_now]
    · rw [State.dom_updDom_same]
    · rw [State.dom_updDom_same, State.dom_runTo]

end Sys2Proof.Machine
end

section
/-! PROOFS. Image: the answers of IMAGE_LOAD and IMAGE_STATUS, the choice of the flash copy, the installation, key slots and the
floor (O16, O17). -/

namespace Sys2Proof.Machine

/-! ### What a scope leaves -/

namespace Keeps

variable {sc : Scope} {s t : State}

theorem img_eq (h : Keeps sc s t) (himg : sc.img = false) : t.img = s.img := h.frame.img himg

theorem slots_eq (h : Keeps sc s t) (hslots : sc.slots = false) : t.img.slots = s.img.slots := h.frame.slots hslots

theorem st_eq (h : Keeps sc s t) (hst : sc.st = false) : t.st = s.st := h.frame.st hst

end Keeps

/-- A completion touches queues and outputs alone. -/
theorem State.keeps_complete_out (s : State) (o : Origin) (st : Status) (info detail : Nat) :
    Keeps { out := true } s (s.complete o st info detail) := keeps_complete _ _ _ _ _ (Keeps.refl s) rfl

theorem State.checked_of_fail {s : State} {o : Origin} {l : List (Bool × Status)} {st : Status} (h : firstFail l = some st)
    (k : State → State) : s.checked o l k = s.complete o st 0 0 := by
  rw [State.checked, h]

theorem State.checked_of_pass {s : State} {o : Origin} {l : List (Bool × Status)} (h : firstFail l = none)
    (k : State → State) : s.checked o l k = k s := by
  rw [State.checked, h]

/-! ### IMAGE_LOAD (R100, R127, R128) -/

/-- The checks of an IMAGE_LOAD whose operands are in range, in their order. -/
def State.imageLoadChecks (s : State) (o : Origin) : List (Bool × Status) :=
  [(o.fn == 0, .notOwner), (!s.standby, .standby), (s.img.loading.isNone && !s.isFatal, .noResource)]

theorem exec_imageLoad_checked {s : State} {o : Origin} {addr len : Nat} (haddr : addr < 2 ^ 64) (hlen : len < 2 ^ 32) :
    exec (.imageLoad o addr len) s = .next (s.checked o (s.imageLoadChecks o)
      (fun s => { s with img := { s.img with loading := some (.command o) } })) := by
  change execImageLoad o addr len s = _
  have hrange : (decide (addr < 2 ^ 64) && decide (len < 2 ^ 32)) = true := by simp only [haddr, hlen, decide_true, Bool.and_self]
  unfold execImageLoad
  rw [hrange]
  rfl

theorem exec_imageLoad_refused {s : State} {o : Origin} {addr len : Nat} {st : Status} (haddr : addr < 2 ^ 64)
    (hlen : len < 2 ^ 32) (hfail : firstFail (s.imageLoadChecks o) = some st) :
    exec (.imageLoad o addr len) s = .next (s.complete o st 0 0) := by
  rw [exec_imageLoad_checked haddr hlen, State.checked_of_fail hfail]

theorem exec_imageLoad_begins {s : State} {o : Origin} {addr len : Nat} (haddr : addr < 2 ^ 64)
    (hlen : len < 2 ^ 32) (hpass : firstFail (s.imageLoadChecks o) = none) :
    exec (.imageLoad o addr len) s = .next { s with img := { s.img with loading := some (.command o) } } := by
  rw [exec_imageLoad_checked haddr hlen, State.checked_of_pass hpass]

/-! ### The end of the check (R101, R123) -/

/-- The check ends the load of a command once the flash copies are dealt with. -/
theorem exec_imageCheckDone_command {s : State} {o : Origin} (hload : s.img.loading = some (.command o))
    (htrained : s.boot.trained = true) (hflash : s.boot.flashImage ≠ 0) (b : Option Bytes) :
    exec (.imageCheckDone b) s = .next (s.imageChecked o b) := by
  change execImageCheckDone b s = _
  unfold execImageCheckDone
  simp only [hload]
  rw [if_pos (by simp [htrained, hflash])]

/-- The checks do not look at the load. -/
theorem State.checkCtx_loading (s : State) (x : Option ImageFrom) :
    State.checkCtx { s with img := { s.img with loading := x } } = s.checkCtx := rfl

theorem State.imageChecked_accepted {s : State} {b : Bytes} {h : HeaderRec} {recs : List Rec} {t : Structure}
    (hcheck : checkImage s.checkCtx b = .accepted h recs t) (o : Origin) :
    s.imageChecked o (some b) =
      (State.imageAccept { s with img := { s.img with loading := none } } h recs t b).complete o .ok 0 h.imageSeq := by
  unfold State.imageChecked
  simp only [State.checkCtx_loading, hcheck]

theorem State.imageChecked_refused {s : State} {b : Bytes} {reason record : Nat}
    (hcheck : checkImage s.checkCtx b = .refused reason record) (o : Origin) :
    s.imageChecked o (some b) =
      (State.imageRefuse { s with img := { s.img with loading := none } } reason record).complete o
        (if 0x20 ≤ reason then .refusedAdmission else .badParam) (if 0x20 ≤ reason then reason else 0)
        (reason * 2 ^ 24 + record % 2 ^ 24) := by
  unfold State.imageChecked
  simp only [State.checkCtx_loading, hcheck, decide_eq_true_eq]

theorem State.imageRefuse_img (s : State) (reason record : Nat) :
    (s.imageRefuse reason record).img = { s.img with reason, failRecord := record } := State.ev_img _ _ _ _

theorem State.imageRefuse_st (s : State) (reason record : Nat) : (s.imageRefuse reason record).st = s.st := State.ev_st _ _ _ _

theorem State.imageRefuse_mem (s : State) (reason record : Nat) : (s.imageRefuse reason record).mem = s.mem :=
  State.ev_mem _ _ _ _

/-- Settles O16: a command by its first check that fails, a check by its verdict. -/
theorem imageCommandsAreCheckedAndAnswered : Obligations.ImageCommandsAreCheckedAndAnswered := by
  unfold Obligations.ImageCommandsAreCheckedAndAnswered
  intro s o addr len
  refine ⟨fun haddr hlen => ⟨fun hfn => ?_, fun hfn hstandby => ?_, fun hfn hactive hbusy => ?_,
    fun hfn hactive hload hfatal => ?_⟩, fun u hload htrained hflash hu => ?checked, rfl, rfl⟩
  · exact exec_imageLoad_refused haddr hlen (by simp [State.imageLoadChecks, firstFail, hfn])
  · exact exec_imageLoad_refused haddr hlen (by simp [State.imageLoadChecks, firstFail, hfn, hstandby])
  · have hbusy' : (s.img.loading.isNone && !s.isFatal) = false := by
      rw [← Option.not_isSome, ← Bool.not_or, hbusy, Bool.not_true]
    exact exec_imageLoad_refused haddr hlen (by simp [State.imageLoadChecks, firstFail, hfn, hactive, hbusy'])
  · exact exec_imageLoad_begins haddr hlen (by simp [State.imageLoadChecks, firstFail, hfn, hactive, hload, hfatal])
  case checked =>
    have hends := exec_imageCheckDone_command hload htrained hflash
    subst hu
    refine ⟨hends none, fun b h recs t hcheck => ?_, fun b reason record hcheck => ?_⟩
    · rw [hends, State.imageChecked_accepted hcheck]
    · have hkeeps := State.keeps_complete_out
        (State.imageRefuse { s with img := { s.img with loading := none } } reason record) o
        (if 0x20 ≤ reason then .refusedAdmission else .badParam) (if 0x20 ≤ reason then reason else 0)
        (reason * 2 ^ 24 + record % 2 ^ 24)
      rw [hends, State.imageChecked_refused hcheck]
      exact ⟨_, rfl, (hkeeps.img_eq rfl).trans (State.imageRefuse_img _ _ _), (hkeeps.st_eq rfl).trans (State.imageRefuse_st _ _ _),
        (hkeeps.mem_eq rfl).trans (State.imageRefuse_mem _ _ _), rfl⟩

/-! ### The flash copies (R99, R426) -/

/-- R426: once memory is trained, a start-up that has chosen no copy yet chooses one. -/
theorem exec_flashImageSelect {s : State} (htrained : s.boot.trained = true) (hnone : s.boot.flashImage = 0)
    (hstage : s.boot.stage = 3) (a b : Bytes) :
    exec (.flashImageSelect a b) s = .next (s.flashSelect a b) := by
  change execFlashImageSelect a b s = _
  unfold execFlashImageSelect
  rw [if_pos (by simp [htrained, hnone, hstage])]

section Flash

variable {s : State} {a b : Bytes} {h h' : HeaderRec} {recs recs' : List Rec} {t t' : Structure} {r i r' i' : Nat}

theorem State.flashSelect_both (ha : s.flashCheck a = .accepted h recs t) (hb : s.flashCheck b = .accepted h' recs' t') :
    s.flashSelect a b =
      let u : State := { s with boot := { s.boot with flashImage := if h.imageSeq < h'.imageSeq then 2 else 1 } }
      if h.imageSeq < h'.imageSeq then u.imageAccept h' recs' t' b else u.imageAccept h recs t a := by
  unfold State.flashSelect
  simp only [ha, hb, flashTake, State.flashBad]
  by_cases hseq : h.imageSeq < h'.imageSeq
  · simp only [if_pos hseq]; rfl
  · simp only [if_neg hseq]; rfl

theorem State.flashSelect_first (ha : s.flashCheck a = .accepted h recs t) (hb : s.flashCheck b = .refused r i) :
    s.flashSelect a b =
      (({ s with boot := { s.boot with flashImage := 1 } }.ev 0x0309 0x5100 (2 ^ 24 + r)).imageAccept h recs t a) := by
  unfold State.flashSelect
  simp only [ha, hb, flashTake, State.flashBad]
  rfl

theorem State.flashSelect_none (ha : s.flashCheck a = .refused r i) (hb : s.flashCheck b = .refused r' i') :
    s.flashSelect a b = (({ s with boot := { s.boot with flashImage := 3 } }.ev 0x0309 0x5100 r).ev 0x0309 0x5100
      (2 ^ 24 + r')) := by
  unfold State.flashSelect
  simp only [ha, hb, flashTake, State.flashBad, Nat.zero_mul, Nat.zero_add, Nat.one_mul]
  rfl

end Flash

/-! ### The installation (R107) -/

/-- The structure `t` of the image `seq` has taken the place of the one that stood; its units are still to be made. -/
def State.structurePut (s : State) (seq : Nat) (t : Structure) : State :=
  let u := s.dropStructure
  { u with
    st := t, placed := t.segs, degraded := [], stages := [], doms := []
    img := { u.img with present := true, replacing := none, stopped := [], runningSeq := seq
                        kept := u.img.kept.filter (fun k => decide (seq ≤ k.seq)) } }

/-- What the making of the units of a new structure may touch: the image unit is not among it. -/
def installScope : Scope :=
  { time := true, units := true, regs := true, out := true, weir := true, st := true, courses := true, coders := true, emit := true,
    memsys := true, dma := true, pair := true, lanes := true, boot := true }

/-- A rendition starts anew: an empty run, no emission ring. -/
theorem keeps_rendAnew {sc : Scope} {s u : State} (h : Keeps sc s u) (hcoders : sc.coders = true) (hemit : sc.emit = true) (r : Nat) :
    Keeps sc s { u with rends := u.rends.set r {}, rings := u.rings.del r } :=
  keeps_put_emit (s := { u with rends := u.rends.set r {} }) hemit (keeps_put_coders hcoders h)

/-- The registers and units of a new structure are made on the structure as it was put. -/
theorem State.keeps_install_structurePut (s : State) (seq : Nat) (t : Structure) :
    Keeps installScope (s.structurePut seq t) (s.install seq t) := by
  unfold State.install
  extract_lets was old _ _ put timeouts scrub undefined domains ports courses inflows services subs powered roled
  change Keeps installScope put _
  have hscrub : Keeps installScope put scrub := keeps_wrn _ _ _ (keeps_wrn _ _ _ (Keeps.refl put) rfl) rfl
  have hundefined : Keeps installScope put undefined :=
    keeps_foldl hscrub (fun u d h => keeps_ite h (keeps_loadDomainRegs u d _ _ h rfl))
  have hdomains : Keeps installScope put domains :=
    keeps_foldl hundefined (fun u q h => keeps_domainMake u q h rfl rfl rfl)
  have hports : Keeps installScope put ports := keeps_formPorts _ _ hdomains rfl rfl rfl rfl rfl
  have hcourses : Keeps installScope put courses :=
    keeps_foldl hports (fun _ c h => keeps_courseEnter _ c
      (keeps_foldl h (fun _ q h => keeps_rendAnew h rfl rfl q.rendition)) rfl rfl rfl rfl)
  have hinflows : Keeps installScope put inflows :=
    keeps_foldl hcourses (fun u f h => keeps_inflowCreated u f h rfl rfl)
  have hservices : Keeps installScope put services :=
    keeps_foldl hinflows (fun u v h => keeps_svcCreate u v.service 0 h rfl rfl)
  have hsubs : Keeps installScope put subs :=
    keeps_foldl hservices (fun u v h => keeps_subCreate u v.subscriber h rfl rfl rfl rfl rfl rfl rfl rfl rfl rfl rfl)
  have hpowered : Keeps installScope put powered :=
    keeps_foldl hsubs (fun u b h => keeps_powerUp _ b (keeps_setFld u _ b b 0 h rfl) rfl rfl rfl rfl)
  have hroled : Keeps installScope put roled := keeps_installRole _ was hpowered rfl rfl rfl rfl
  exact keeps_ite hroled (keeps_ev _ _ _ _ (keeps_put_boot rfl hroled) rfl)

/-- What goes with the structure that stood leaves the key slots. -/
theorem State.dropStructure_slots (s : State) : s.dropStructure.img.slots = s.img.slots :=
  (keeps_dropStructure (sc := { img := true, out := true, host := true, st := true, courses := true, coders := true, emit := true })
    s (Keeps.refl s) rfl rfl rfl rfl rfl rfl rfl).slots_eq rfl

/-- R107: an installation comes down to the new structure put in place; the image unit then stands. -/
theorem State.install_pace_img (s : State) (seq : Nat) (t : Structure) :
    (s.install seq t).pace.img = (s.structurePut seq t).img :=
  ((keeps_pace (sc := { weir := true }) _ (Keeps.refl _) rfl).img_eq rfl).trans ((s.keeps_install_structurePut seq t).img_eq rfl)

theorem exec_imageInstall_stopped {s : State} {seq : Nat} {t : Structure} (hrepl : s.img.replacing = some (seq, t))
    (hstopped : s.allStopped = true) : exec .imageInstall s = .next (s.install seq t).pace := by
  change execImageInstall s = _
  unfold execImageInstall
  simp only [hrepl]
  rw [if_pos hstopped]

/-! ### Key slots (R79, R98) -/

/-- The key that the KEY_DATA registers hold. -/
def State.keyData (s : State) : Bytes := (List.range 24).flatMap (fun i => leBytes 4 (s.rdn (glb (0x100 + 4 * i))))

section Keys

variable {s : State} {slot : Nat} (hslot : slot < 4)

include hslot

theorem exec_keyProgram_eq : exec (.keyProgram slot) s = .next (s.keyProgram slot) := by
  change execKeyProgram slot s = _
  rw [execKeyProgram, if_pos hslot]

theorem exec_keyRevoke_eq : exec (.keyRevoke slot) s = .next (s.keyRevoke slot) := by
  change execKeyRevoke slot s = _
  rw [execKeyRevoke, if_pos hslot]

end Keys

/-- In maintenance an empty slot takes the key of KEY_DATA. -/
theorem State.keyProgram_empty {s : State} {slot : Nat} (hmaint : s.devMaint = true)
    (hempty : s.img.slotProgrammed.getD slot true = false) :
    s.keyProgram slot = State.ev { s with img := { s.img with
      slotProgrammed := s.img.slotProgrammed.set slot true, slotKeys := s.img.slotKeys.set slot s.keyData } } 0x030A 0x5100 slot := by
  unfold State.keyProgram
  rw [if_neg (by rw [hmaint, hempty]; decide)]
  rfl

theorem State.keyProgram_outside_maintenance {s : State} (hmaint : s.devMaint = false) (slot : Nat) :
    s.keyProgram slot = s.ev 0x030B 0x5100 slot := by
  unfold State.keyProgram State.keyRefuse
  rw [if_pos (by simp [hmaint]), Nat.zero_mul, Nat.zero_add]

theorem State.keyRevoke_outside_maintenance {s : State} (hmaint : s.devMaint = false) (slot : Nat) :
    s.keyRevoke slot = s.ev 0x030B 0x5100 (256 + slot) := by
  unfold State.keyRevoke State.keyRefuse
  dsimp only
  rw [if_pos (by simp [hmaint]), Nat.one_mul]

/-- In maintenance a usable slot is revoked where another stays usable. -/
theorem State.keyRevoke_usable {s : State} {slot : Nat} (hmaint : s.devMaint = true)
    (hprog : s.img.slotProgrammed.getD slot false = true) (hgood : s.img.slotRevoked.getD slot false = false)
    (hother : ∃ k < 4, k ≠ slot ∧ s.img.slotProgrammed.getD k false = true ∧ s.img.slotRevoked.getD k false = false) :
    s.keyRevoke slot = State.ev { s with img := { s.img with slotRevoked := s.img.slotRevoked.set slot true } }
      0x030A 0x5100 (256 + slot) := by
  obtain ⟨k, hk, hne, hkprog, hkgood⟩ := hother
  have hany : (List.range 4).any (fun k => k != slot &&
      (s.img.slotProgrammed.getD k false && !s.img.slotRevoked.getD k false)) = true :=
    List.any_eq_true.mpr ⟨k, List.mem_range.mpr hk, by rw [hkprog, hkgood]; simpa using hne⟩
  unfold State.keyRevoke
  dsimp only
  rw [if_neg (by rw [hany, hmaint, hprog, hgood]; decide)]

/-- Settles O17: the flash copies by their verdicts, the installation by what it puts in place, a key by its slot. -/
theorem imagesAreChosenInstalledAndKeysChange : Obligations.ImagesAreChosenInstalledAndKeysChange := by
  unfold Obligations.ImagesAreChosenInstalledAndKeysChange
  refine ⟨fun s a b htrained hnone hstage => ?flash, fun s slot hprogrammed hrevoked hslot =>
    ⟨fun seq x hrepl hstopped => ?install, fun hmaint hempty => ?program, fun hmaint hprog hgood hother => ?revoke,
      fun hmaint => ?refused, rfl⟩⟩
  case flash =>
    rw [exec_flashImageSelect htrained hnone hstage]
    refine ⟨fun h recs t h' recs' t' ha hb => ⟨_, rfl, ?_⟩, fun h recs t r i ha hb => ?_, fun r i r' i' ha hb => ?_⟩
    · rw [State.flashSelect_both ha hb]
    · rw [State.flashSelect_first ha hb]
    · rw [State.flashSelect_none ha hb]
      exact ⟨_, rfl, rfl, rfl, rfl⟩
  case install =>
    have himg := s.install_pace_img seq x
    refine ⟨_, exec_imageInstall_stopped hrepl hstopped, ?_, ?_, ?_, ?_, ?_⟩
    · rw [himg]; rfl
    · rw [himg]; rfl
    · rw [himg]; rfl
    · rw [himg]; rfl
    · rw [himg]; exact s.dropStructure_slots
  case program =>
    refine ⟨_, (exec_keyProgram_eq hslot).trans (congrArg Host.Outcome.next (State.keyProgram_empty hmaint hempty)), ?_, rfl,
      fun k hk => ⟨?_, ?_⟩, rfl, rfl⟩
    · simp [hprogrammed, hslot]
    · simp [List.getElem?_set_ne hk.symm]
    · exact Tab.get_set_other _ _ hk
  case revoke =>
    refine ⟨_, (exec_keyRevoke_eq hslot).trans (congrArg Host.Outcome.next (State.keyRevoke_usable hmaint hprog hgood hother)),
      ?_, fun k hk => ?_, rfl, rfl, rfl⟩
    · simp [hrevoked, hslot]
    · simp [List.getElem?_set_ne hk.symm]
  case refused =>
    rw [exec_keyProgram_eq hslot, exec_keyRevoke_eq hslot, State.keyProgram_outside_maintenance hmaint,
      State.keyRevoke_outside_maintenance hmaint]
    exact ⟨rfl, rfl⟩

end Sys2Proof.Machine
end

section
/-! PROOFS. HostCourses: the commands of a course, by their checks: refused, latched for a Weir, or applied in an idle domain (O20
to O22). -/

namespace Sys2Proof.Machine

/-! ### What a scope leaves of courses, layers, renditions and keys -/

namespace Keeps

variable {sc : Scope} {s t : State}

theorem courses_eq (h : Keeps sc s t) (hcourses : sc.courses = false) : t.courses = s.courses :=
  congrArg (·.1) (h.frame.courses hcourses)

theorem layers_eq (h : Keeps sc s t) (hcourses : sc.courses = false) : t.layers = s.layers :=
  congrArg (·.2.2.2.2.2.2.1) (h.frame.courses hcourses)

theorem rends_eq (h : Keeps sc s t) (hcoders : sc.coders = false) : t.rends = s.rends :=
  congrArg (·.2.2.2.2.1) (h.frame.coders hcoders)

theorem keys_eq (h : Keeps sc s t) (hcoders : sc.coders = false) : t.keys = s.keys :=
  congrArg (·.2.2.2.2.2) (h.frame.coders hcoders)

end Keeps

/-! ### The checks of a course command (R128) -/

theorem State.courseChecks_pass {s : State} {o : Origin} {c : Nat} {ok : Bool} (hok : ok = true) (hthere : s.courseThere c = true)
    (howns : o.owns (s.st.courseOwner c) = true) (hactive : s.standby = false) (hfatal : s.isFatal = false) :
    firstFail (s.courseChecks o c ok) = none := by
  simp [State.courseChecks, firstFail, hok, hthere, howns, hactive, hfatal]

theorem State.courseChecks_absent {s : State} {c : Nat} (hthere : s.courseThere c = false) (o : Origin) (ok : Bool) :
    firstFail (s.courseChecks o c ok) = some .badParam := by
  simp [State.courseChecks, firstFail, hthere]

theorem State.courseChecks_notOwner {s : State} {o : Origin} {c : Nat} (hthere : s.courseThere c = true)
    (howns : o.owns (s.st.courseOwner c) = false) : firstFail (s.courseChecks o c true) = some .notOwner := by
  simp [State.courseChecks, firstFail, hthere, howns]

theorem State.courseChecks_standby {s : State} {o : Origin} {c : Nat} (hthere : s.courseThere c = true)
    (howns : o.owns (s.st.courseOwner c) = true) (hstandby : s.standby = true) :
    firstFail (s.courseChecks o c true) = some .standby := by
  simp [State.courseChecks, firstFail, hthere, howns, hstandby]

theorem State.courseChecks_fatal {s : State} {o : Origin} {c : Nat} (hthere : s.courseThere c = true)
    (howns : o.owns (s.st.courseOwner c) = true) (hactive : s.standby = false) (hfatal : s.isFatal = true) :
    firstFail (s.courseChecks o c true) = some .noResource := by
  simp [State.courseChecks, firstFail, hthere, howns, hactive, hfatal]

/-- COURSE_START, COURSE_STOP and KEY_NOW have the checks of a course alone. -/
theorem exec_courseCommand_checked {i : Instr} {o : Origin} {c : Nat}
    (hi : i = .courseStart o c ∨ i = .courseStop o c ∨ i = .keyNow o c) (s : State) :
    ∃ k, exec i s = .next (s.checked o (s.courseChecks o c true) k) := by
  obtain rfl | rfl | rfl := hi
  · exact ⟨_, rfl⟩
  · exact ⟨_, rfl⟩
  · exact ⟨_, rfl⟩

/-- Settles O21: the list of checks is read in its order. -/
theorem firstFailedCheckGivesTheStatus : Obligations.FirstFailedCheckGivesTheStatus := by
  unfold Obligations.FirstFailedCheckGivesTheStatus
  intro s o c i hi
  obtain ⟨k, hexec⟩ := exec_courseCommand_checked hi s
  have hanswer {st : Status} (hfail : firstFail (s.courseChecks o c true) = some st) :
      exec i s = .next (s.complete o st 0 0) := by
    rw [hexec, State.checked_of_fail hfail]
  exact ⟨fun hthere => hanswer (State.courseChecks_absent hthere o true),
    fun hthere howns => hanswer (State.courseChecks_notOwner hthere howns),
    fun hthere howns hstandby => hanswer (State.courseChecks_standby hthere howns hstandby),
    fun hthere howns hactive hfatal => hanswer (State.courseChecks_fatal hthere howns hactive hfatal)⟩

/-! ### Course commands that pass their checks (R126 to R129) -/

section Passed

variable {s : State} {o : Origin} {c : Nat} (hthere : s.courseThere c = true) (howns : o.owns (s.st.courseOwner c) = true)
  (hactive : s.standby = false) (hfatal : s.isFatal = false)

include hthere howns hactive hfatal

/-- A command of course `c` whose values are in range goes on. -/
theorem State.checked_course {ok : Bool} (hok : ok = true) (k : State → State) :
    s.checked o (s.courseChecks o c ok) k = k s :=
  State.checked_of_pass (State.courseChecks_pass hok hthere howns hactive hfatal) k

theorem exec_courseStart_passed : exec (.courseStart o c) s = .next (s.latchW (s.domOf c) o (.courseStart c)) :=
  congrArg Host.Outcome.next (State.checked_course hthere howns hactive hfatal rfl _)

theorem exec_courseStop_passed : exec (.courseStop o c) s = .next (s.latchW (s.domOf c) o (.courseStop c)) :=
  congrArg Host.Outcome.next (State.checked_course hthere howns hactive hfatal rfl _)

theorem exec_keyNow_passed : exec (.keyNow o c) s = .next (s.latchW (s.domOf c) o (.keyNow c)) :=
  congrArg Host.Outcome.next (State.checked_course hthere howns hactive hfatal rfl _)

/-- Of the fields of COURSE_SET, DELAY_LINES alone is put to the admission. -/
theorem exec_courseSet_passed {field v : Nat} (hok : s.courseSetOk c field v = true) (hfield : field ≠ 4) :
    exec (.courseSet o c field v) s = .next (s.latchW (s.domOf c) o (.courseSet c field v)) := by
  refine congrArg Host.Outcome.next ((State.checked_course hthere howns hactive hfatal hok _).trans ?_)
  rw [beq_false_of_ne hfield]
  rfl

/-- Of the fields of RC_SET, EFFORT alone is put to the admission. -/
theorem exec_rcSet_passed {r : Nat} {p : RcSet} (hcourse : s.st.courseOfRend r = c) (hrend : s.rendThere r = true)
    (hok : s.rcSetOk r p = true) (heffort : bit p.mask 3 = false) :
    exec (.rcSet o r p) s = .next (s.latchW (s.domOf c) o (.rcSet r p)) := by
  subst hcourse
  refine congrArg Host.Outcome.next
    ((State.checked_course hthere howns hactive hfatal (by rw [hrend, hok, Bool.and_self]) _).trans ?_)
  rw [heffort]
  rfl

theorem exec_layerSet_passed {l : Nat} {p : LayerSet} (hok : s.layerSetOk c l p = true) (hfits : s.layerFits c l p = true) :
    exec (.layerSet o c l p) s = .next (s.latchW (s.domOf c) o (.layerSet c l p)) := by
  refine congrArg Host.Outcome.next (State.checked_of_pass ?_ _)
  simp [State.courseChecks, firstFail, hok, hthere, howns, hactive, hfatal, hfits]

theorem exec_layerFlip_passed {l a p : Nat} (hok : s.flipOk c l a p = true) :
    exec (.layerFlip o c l a p) s = .next (s.latchW (s.domOf c) o (.layerFlip c l a p)) :=
  congrArg Host.Outcome.next (State.checked_course hthere howns hactive hfatal hok _)

end Passed

theorem State.courseSetOk_freezeLimit {v : Nat} (hlow : 1 ≤ v) (hhigh : v ≤ 255) (s : State) (c : Nat) :
    s.courseSetOk c 1 v = true := by
  simp [State.courseSetOk, hlow, hhigh]

theorem State.courseSetOk_keyInterval {v : Nat} (hhigh : v ≤ 65535) (s : State) (c : Nat) : s.courseSetOk c 2 v = true :=
  decide_eq_true hhigh

theorem State.courseSetOk_sceneKey {v : Nat} (hhigh : v ≤ 1) (s : State) (c : Nat) : s.courseSetOk c 3 v = true :=
  decide_eq_true hhigh

/-- R126: where the compute plane is busy the command waits, with its origin and the cycle of its arrival. -/
theorem State.latchW_busy {s : State} {d : Nat} (hbusy : s.idle d = false) (o : Origin) (x : WCmd) :
    s.latchW d o x = s.updDom d (fun y => { y with latched := latchInto { o, at_ := s.now, cmd := x } y.latched }) := by
  rw [State.latchW, if_neg (by simp [hbusy])]

/-- Settles O20: each command passes its checks and is latched. -/
theorem courseCommandsWaitForTheWeir : Obligations.CourseCommandsWaitForTheWeir := by
  unfold Obligations.CourseCommandsWaitForTheWeir
  intro s o c waits hthere howns hactive hfatal hbusy hwaits
  have hlatched {i : Instr} {x : WCmd} (hexec : exec i s = .next (s.latchW (s.domOf c) o x)) : waits i x := by
    rw [hwaits]
    exact hexec.trans (congrArg Host.Outcome.next (State.latchW_busy hbusy o x))
  refine ⟨hlatched (exec_courseStart_passed hthere howns hactive hfatal),
    hlatched (exec_courseStop_passed hthere howns hactive hfatal), hlatched (exec_keyNow_passed hthere howns hactive hfatal),
    fun v hlow hhigh => hlatched ?freezeLimit, fun v hhigh => hlatched ?keyInterval, fun v hhigh => hlatched ?sceneKey,
    fun r p hcourse hrend hok heffort => hlatched ?rcSet, fun l p hok hfits => hlatched ?layerSet,
    fun l a p hok => hlatched ?layerFlip⟩
  case freezeLimit =>
    exact exec_courseSet_passed hthere howns hactive hfatal (s.courseSetOk_freezeLimit hlow hhigh c) (by decide)
  case keyInterval => exact exec_courseSet_passed hthere howns hactive hfatal (s.courseSetOk_keyInterval hhigh c) (by decide)
  case sceneKey => exact exec_courseSet_passed hthere howns hactive hfatal (s.courseSetOk_sceneKey hhigh c) (by decide)
  case rcSet => exact exec_rcSet_passed hthere howns hactive hfatal hcourse hrend hok heffort
  case layerSet => exact exec_layerSet_passed hthere howns hactive hfatal hok hfits
  case layerFlip => exact exec_layerFlip_passed hthere howns hactive hfatal hok

/-! ### Course commands in an idle domain (R130) -/

/-- R130: in an idle domain the command has its effect; then it is answered and journalled, and the domains' pace follows. -/
theorem State.keeps_latchW_idle {s : State} {d : Nat} (hidle : s.idle d = true) (o : Origin) (x : WCmd) :
    Keeps { out := true, weir := true, pair := true } (s.applyW x) (s.latchW d o x) := by
  rw [State.latchW, if_pos hidle]
  exact keeps_pace _ (keeps_journal _ _ _ (keeps_complete _ _ _ _ _ (Keeps.refl _) rfl) rfl) rfl

/-- A domain is idle because its image is replaced, or in DRAIN_PACED mode. -/
theorem State.mode_of_idle {s : State} {d : Nat} (hidle : s.idle d = true) (hgoes : s.img.stopped.contains d = false) :
    (s.dom d).mode = 1 := by
  unfold State.idle at hidle
  simp only [hgoes, Bool.false_or, Bool.and_eq_true, beq_iff_eq] at hidle
  exact hidle.1.1

/-- R54: outside PTP_PACED mode a stopped course begins. -/
theorem State.courseStart_begins {s : State} {c : Nat} (hstopped : (s.courses.get c).state = .stopped)
    (hgoes : s.img.stopped.contains (s.domOf c) = false) (hmode : (s.dom (s.domOf c)).mode = 1) :
    s.courseStart c = s.courseBegin c := by
  unfold State.courseStart
  dsimp only
  rw [if_neg (by simp only [hstopped, hgoes]; decide), if_neg (by simp [hmode])]

theorem State.courseBegin_running (s : State) (c : Nat) : ((s.courseBegin c).courses.get c).state = .running := by
  unfold State.courseBegin
  generalize s.courseFresh c = u
  exact congrArg CourseRun.state (Tab.get_set_same u.courses c _)

theorem State.keeps_courseBegin_parts (s : State) (c : Nat) :
    Keeps { regs := true, out := true, courses := true, coders := true, dma := true } s (s.courseBegin c) :=
  keeps_courseBegin s c (Keeps.refl s) rfl rfl rfl rfl rfl

/-- What no step of a fold changes, the fold leaves. -/
theorem State.foldl_congr {α β : Type} (g : State → β) {f : State → α → State} (hf : ∀ s a, g (f s a) = g s) (l : List α)
    (s : State) : g (l.foldl f s) = g s := by
  induction l generalizing s with
  | nil => rfl
  | cons a l ih => exact (ih (f s a)).trans (hf s a)

/-- R54: a course is stopped by COURSE_STOP; the stages and renditions that stop with it leave its run state. -/
theorem State.courseStop_stopped (s : State) (c : Nat) : ((s.courseStop c).courses.get c).state = .stopped := by
  unfold State.courseStop
  extract_lets off _ put mere cascades headwaters
  split
  next h => exact eq_of_beq h
  next =>
    have hcascades : cascades.courses = put.courses := State.foldl_congr State.courses (by intros; rfl) _ mere
    have hheadwaters : headwaters.courses = cascades.courses := State.foldl_congr State.courses (by intros; rfl) _ cascades
    rw [State.foldl_congr State.courses (by intros; rfl) _ headwaters, hheadwaters, hcascades]
    exact congrArg CourseRun.state (Tab.get_set_same s.courses c _)

theorem State.keeps_courseStop_parts (s : State) (c : Nat) : Keeps { courses := true, coders := true } s (s.courseStop c) :=
  keeps_courseStop s c (Keeps.refl s) rfl rfl

/-- R127: an RC_SET of CQ alone leaves EFFORT and MAX_RATE. -/
theorem State.rcSet_cq {s : State} {r : Nat} {p : RcSet} (hmask : p.mask = 1) :
    ((s.rcSet r p).rends.get r).cq = p.cq ∧ ((s.rcSet r p).rends.get r).effort = (s.rends.get r).effort ∧
    ((s.rcSet r p).rends.get r).rate = (s.rends.get r).rate := by
  have hget : (s.rcSet r p).rends.get r = { s.rend r with
      cq := p.cq, full := min (s.rend r).full ((s.rend r).buf * 1000 * s.perDen r) } := by
    unfold State.rcSet
    rw [hmask]
    exact Tab.get_set_same _ _ _
  rw [hget]
  exact ⟨rfl, rfl, rfl⟩

theorem State.keeps_rcSet (s : State) (r : Nat) (p : RcSet) : Keeps { out := true, coders := true } s (s.rcSet r p) :=
  keeps_rateSet s r _ _ _ _ (Keeps.refl s) rfl rfl

@[simp] theorem State.layer_setLayer_same (s : State) (c l : Nat) (y : Layer) : (s.setLayer c l y).layer c l = y :=
  Tab.get_set_same _ _ _

/-- R127: a LAYER_SET of ALPHA alone. -/
theorem State.layerSet_alpha {s : State} {c l : Nat} {p : LayerSet} (hmask : p.mask = 4) :
    (s.layerSet c l p).layer c l = { s.layer c l with alpha := p.alpha } := by
  unfold State.layerSet
  rw [hmask, State.layer_setLayer_same]
  rfl

theorem State.layerFlip_layer (s : State) (c l a p : Nat) :
    (s.layerFlip c l a p).layer c l = { s.layer c l with surface := a, pitch := p } := Tab.get_set_same _ _ _

/-- Settles O22: each command passes its checks, has its effect at once, and what follows (`keeps_latchW_idle`) leaves it. -/
theorem courseCommandsInAnIdleDomainApplyAtOnce : Obligations.CourseCommandsInAnIdleDomainApplyAtOnce := by
  unfold Obligations.CourseCommandsInAnIdleDomainApplyAtOnce
  intro s o c hthere howns hactive hfatal hidle
  have hlatch := State.keeps_latchW_idle hidle o
  refine ⟨fun hgoes hstopped => ?start, ?stop, fun v hlow hhigh => ?freezeLimit, fun v hhigh => ?keyInterval, ?keyNow,
    fun r p hcourse hrend hok hmask => ?rcSet, fun l p hok hfits hmask => ?layerSet, fun l a p hok => ?layerFlip⟩
  case start =>
    have hkeeps := hlatch (.courseStart c)
    have hbegin : s.applyW (.courseStart c) = s.courseBegin c :=
      State.courseStart_begins hstopped hgoes (State.mode_of_idle hidle hgoes)
    rw [hbegin] at hkeeps
    have hbegun := s.keeps_courseBegin_parts c
    exact ⟨_, exec_courseStart_passed hthere howns hactive hfatal, by rw [hkeeps.courses_eq rfl, s.courseBegin_running c],
      (hkeeps.mem_eq rfl).trans (hbegun.mem_eq rfl), (hkeeps.now_eq rfl).trans (hbegun.now_eq rfl)⟩
  case stop =>
    have hkeeps := hlatch (.courseStop c)
    have hstops := s.keeps_courseStop_parts c
    refine ⟨_, exec_courseStop_passed hthere howns hactive hfatal, ?_, (hkeeps.mem_eq rfl).trans (hstops.mem_eq rfl),
      (hkeeps.now_eq rfl).trans (hstops.now_eq rfl), (hkeeps.st_eq rfl).trans (hstops.st_eq rfl)⟩
    rw [hkeeps.courses_eq rfl]
    exact s.courseStop_stopped c
  case freezeLimit =>
    have hkeeps := hlatch (.courseSet c 1 v)
    exact ⟨_, exec_courseSet_passed hthere howns hactive hfatal (s.courseSetOk_freezeLimit hlow hhigh c) (by decide),
      hkeeps.st_eq rfl, hkeeps.mem_eq rfl⟩
  case keyInterval =>
    have hkeeps := hlatch (.courseSet c 2 v)
    exact ⟨_, exec_courseSet_passed hthere howns hactive hfatal (s.courseSetOk_keyInterval hhigh c) (by decide),
      hkeeps.st_eq rfl, hkeeps.mem_eq rfl⟩
  case keyNow =>
    have hkeeps := hlatch (.keyNow c)
    refine ⟨_, exec_keyNow_passed hthere howns hactive hfatal, ?_, hkeeps.mem_eq rfl, hkeeps.st_eq rfl⟩
    rw [hkeeps.keys_eq rfl]
    exact Tab.get_upd_same s.keys c (fun k => k.add 2)
  case rcSet =>
    have hkeeps := hlatch (.rcSet r p)
    have hset := s.keeps_rcSet r p
    obtain ⟨hcq, heffort, hrate⟩ := State.rcSet_cq (s := s) (r := r) hmask
    rw [← show (s.latchW (s.domOf c) o (.rcSet r p)).rends = (s.rcSet r p).rends from hkeeps.rends_eq rfl] at hcq heffort hrate
    exact ⟨_, exec_rcSet_passed hthere howns hactive hfatal hcourse hrend hok (by rw [hmask]; rfl), hcq, heffort, hrate,
      (hkeeps.mem_eq rfl).trans (hset.mem_eq rfl), (hkeeps.st_eq rfl).trans (hset.st_eq rfl)⟩
  case layerSet =>
    have hkeeps := hlatch (.layerSet c l p)
    refine ⟨_, exec_layerSet_passed hthere howns hactive hfatal hok hfits, ?_, hkeeps.mem_eq rfl, hkeeps.st_eq rfl⟩
    rw [State.layer, hkeeps.layers_eq rfl]
    exact State.layerSet_alpha hmask
  case layerFlip =>
    have hkeeps := hlatch (.layerFlip c l a p)
    refine ⟨_, exec_layerFlip_passed hthere howns hactive hfatal hok, ?_, hkeeps.mem_eq rfl, hkeeps.st_eq rfl⟩
    rw [State.layer, hkeeps.layers_eq rfl]
    exact s.layerFlip_layer c l a p

end Sys2Proof.Machine
end

section
/-! PROOFS. HostQueues: submission, completion and event queues, their doorbells, and the fetch of a command (O18, O19). -/

namespace Sys2Proof.Machine

/-! ### A function after an update -/

@[simp] theorem State.func_updFunc_same (s : State) (f : Nat) (g : Func → Func) : (s.updFunc f g).func f = g (s.func f) :=
  Tab.get_upd_same _ _ _

theorem State.func_updFunc_other (s : State) {f k : Nat} (g : Func → Func) (h : k ≠ f) : (s.updFunc f g).func k = s.func k :=
  Tab.get_upd_other _ _ h

@[simp] theorem State.sqOf_setSq_same (s : State) (f q : Nat) (x : SqPair) : (s.setSq f q x).sqOf f q = x := by
  rw [State.sqOf, State.setSq, State.func_updFunc_same]
  exact Tab.get_set_same _ _ _

theorem State.sqOf_setSq_other (s : State) (f : Nat) {q k : Nat} (x : SqPair) (h : k ≠ q) :
    (s.setSq f q x).sqOf f k = s.sqOf f k := by
  rw [State.sqOf, State.setSq, State.func_updFunc_same]
  exact Tab.get_set_other _ _ h

/-! ### What a report leaves of a function's queues (R134, R136) -/

/-- From `x` to `y` a function keeps its submission queues, whether one was enabled since its reset, and whether its event queue
is enabled. -/
structure Func.SameQueues (x y : Func) : Prop where
  sqs : y.sqs = x.sqs
  fresh : y.fresh = x.fresh
  en : y.evq.en = x.evq.en

theorem Func.SameQueues.refl (x : Func) : x.SameQueues x := ⟨rfl, rfl, rfl⟩

theorem Func.SameQueues.trans {x y z : Func} (h : x.SameQueues y) (k : y.SameQueues z) : x.SameQueues z :=
  ⟨k.sqs.trans h.sqs, k.fresh.trans h.fresh, k.en.trans h.en⟩

theorem Func.irq_sameQueues (x : Func) (fn v : Nat) (on : Bool) : x.SameQueues (x.irq fn v on).1 := by
  unfold Func.irq
  split_ifs <;> exact ⟨rfl, rfl, rfl⟩

/-- R136: a record written or dropped leaves the queue enabled as it was. -/
theorem Evq.offer_en (q : Evq) (fn : Nat) (lost : Bool) (tick : Nat) (e : EventRec) : (q.offer fn lost tick e).1.en = q.en := by
  unfold Evq.offer Evq.put Evq.drop
  dsimp only
  split_ifs <;> rfl

theorem Func.deliver_sameQueues (x : Func) (fn : Nat) (lost : Bool) (tick : Nat) (e : EventRec) :
    x.SameQueues (x.deliver fn lost tick e).1 := by
  unfold Func.deliver
  split
  · exact .refl x
  · split
    · exact ⟨rfl, rfl, rfl⟩
    · have hput : x.SameQueues { x with evq := (x.evq.offer fn lost tick e).1 } := ⟨rfl, rfl, Evq.offer_en _ _ _ _ _⟩
      exact hput.trans (Func.irq_sameQueues _ _ _ _)

theorem deliverAll_sameQueues (lost : Bool) (tick : Nat) (e : EventRec) (g : Nat) (l : List Nat) (fs : Tab Func)
    (os : List Output) : (fs.get g).SameQueues ((deliverAll lost tick e l fs os).1.get g) := by
  induction l generalizing fs os with
  | nil => exact .refl _
  | cons fn l ih =>
    refine .trans ?_ (ih _ _)
    split
    · by_cases hg : g = fn
      · subst hg
        rw [Tab.get_set_same]
        exact Func.deliver_sameQueues _ _ _ _ _
      · rw [Tab.get_set_other _ _ hg]
        exact .refl _
    · exact .refl _

/-- From `s` to `t` every function keeps its queues. -/
def State.SameQueues (s t : State) : Prop := ∀ f, (s.func f).SameQueues (t.func f)

namespace State.SameQueues

variable {s t u : State}

theorem of_funcs (h : t.funcs = s.funcs) : s.SameQueues t := fun f => by
  rw [State.func, State.func, h]
  exact .refl _

theorem refl (s : State) : s.SameQueues s := of_funcs rfl

theorem trans (h : s.SameQueues t) (k : t.SameQueues u) : s.SameQueues u := fun f => (h f).trans (k f)

theorem ite {p : Prop} [Decidable p] (ht : s.SameQueues t) (hu : s.SameQueues u) : s.SameQueues (if p then t else u) := by
  split
  · exact ht
  · exact hu

theorem foldl {α : Type} {f : State → α → State} (hf : ∀ s a, State.SameQueues s (f s a)) :
    ∀ (l : List α) (s : State), State.SameQueues s (l.foldl f s)
  | [], s => .refl s
  | a :: l, s => (hf s a).trans (foldl hf l (f s a))

theorem sqOf (h : s.SameQueues t) (f q : Nat) : t.sqOf f q = s.sqOf f q := by rw [State.sqOf, (h f).sqs, State.sqOf]

end State.SameQueues

theorem State.ev_sameQueues (s : State) (code src detail : Nat) : s.SameQueues (s.ev code src detail) :=
  fun f => deliverAll_sameQueues _ _ _ f _ _ _

/-- Past the change of the function itself, a report of its maintenance state keeps the queues. -/
theorem State.maintStep_sameQueues (s : State) (f : Nat) (g : Func → Func) : (s.updFunc f g).SameQueues (s.maintStep f g) :=
  .ite (.refl _) (State.ev_sameQueues _ _ _ _)

/-! ### QUEUE_ENABLE (R119, R123) -/

/-- A queue as its enable leaves it: empty, with the vector, IRQ_EN and size of the word. -/
def SqPair.enabled (v : Nat) : SqPair :=
  { en := true, armed := true, vector := bits v 20 16, irqEn := bit v 8, sizeM1 := bits v 7 0 }

section Cfg

variable {s : State} {f q : Nat} (hf : f < 64) (hq : q < 8) {w : Word}

include hf hq

theorem State.queueCfg_enables (hoff : (s.sqOf f q).en = false) (hen : bit w.toNat 31 = true) (hmax : q < s.maxSqOf f)
    (hsq : s.rdn (sqReg f q 0x00) % 4096 = 0) (hcq : s.rdn (sqReg f q 0x08) % 4096 = 0)
    (hvector : bits w.toNat 20 16 < s.msixOf f) (hsize : bits w.toNat 7 0 ≠ 0) :
    s.queueCfg f q w = (s.setSq f q (SqPair.enabled w.toNat)).maintStep f (fun y => { y with fresh := false }) := by
  unfold State.queueCfg State.queueBad
  rw [if_neg (by simp; omega), if_neg (by simp [hoff]), if_neg (by simp [hen]),
    if_neg (by simp [hsq, hcq, hsize]; omega)]
  rfl

theorem State.queueCfg_refused (hoff : (s.sqOf f q).en = false) (hen : bit w.toNat 31 = true)
    (hbad : s.maxSqOf f ≤ q ∨ s.rdn (sqReg f q 0x00) % 4096 ≠ 0) :
    s.queueCfg f q w = s.setSq f q { s.sqOf f q with
      vector := bits w.toNat 20 16, irqEn := bit w.toNat 8, sizeM1 := bits w.toNat 7 0, reason := 3 } := by
  have hrefused (x : SqPair) : s.queueBad f q x = true := by
    unfold State.queueBad
    obtain hmax | hbase := hbad
    · simp [hmax]
    · simp [hbase]
  unfold State.queueCfg
  rw [if_neg (by simp; omega), if_neg (by simp [hoff]), if_neg (by simp [hen]), if_pos (hrefused _)]

theorem State.queueCfg_disables (hon : (s.sqOf f q).en = true) (hen : bit w.toNat 31 = false) :
    s.queueCfg f q w = (s.setSq f q { s.sqOf f q with vector := bits w.toNat 20 16, irqEn := bit w.toNat 8 }).queueDisable f q := by
  unfold State.queueCfg
  rw [if_neg (by simp; omega), if_pos hon, if_neg (by simp [hen])]

end Cfg

theorem State.queueDisable_sqOf (s : State) (f : Nat) {q : Nat} (hq : q < 8) :
    (s.queueDisable f q).sqOf f q = { s.sqOf f q with en := false, running := 0 } := by
  unfold State.queueDisable
  rw [State.sqOf_setSq_other _ _ _ (Nat.ne_of_lt hq), State.sqOf_setSq_same]

/-! ### Doorbells (R120, R134) -/

theorem exec_sqTailDoorbell_whole (s : State) (f : Nat) {q : Nat} (hq : q < 8) (v : Nat) :
    exec (.sqTailDoorbell f q v true) s = .next (
      if (s.sqOf f q).en && tailOk ((s.sqOf f q).sizeM1 + 1) (s.sqOf f q).sqHead (s.sqOf f q).sqTail v then
        s.setSq f q { s.sqOf f q with sqTail := v } else s.doorbellInvalid f (0x1000 * q) v) := by
  change Host.Outcome.next (s.sqTail f q v true) = _
  unfold State.sqTail
  simp only [hq, decide_true, Bool.true_and]

theorem exec_cqHeadDoorbell_whole (s : State) (f : Nat) {q : Nat} (hq : q < 8) (v : Nat) :
    exec (.cqHeadDoorbell f q v true) s = .next (
      if (s.sqOf f q).en && headOk ((s.sqOf f q).sizeM1 + 1) (s.sqOf f q).cqHead (s.sqOf f q).cqTail v then
        s.setSq f q { s.sqOf f q with cqHead := v, armed := true } else s.doorbellInvalid f (0x1000 * q + 0x800) v) := by
  change Host.Outcome.next (s.cqHead f q v true) = _
  unfold State.cqHead
  simp only [hq, decide_true, Bool.true_and]

/-- R120: a doorbell written in part is reported. -/
theorem exec_sqTailDoorbell_partial (s : State) (f q v : Nat) :
    exec (.sqTailDoorbell f q v false) s = .next (s.doorbellInvalid f (0x1000 * q) v) :=
  rfl

/-! ### Event queues (R135, R136) -/

/-- An event queue as its enable by the word `v` leaves it. -/
def Evq.enabled (q : Evq) (v : Nat) : Evq :=
  { q with vector := bits v 20 16, overflow := q.overflow && !bit v 30, sizeLog2 := bits v 4 0, en := true, head := 0, tail := 0, armed := true }

theorem State.evqCtrl_enables {s : State} {f : Nat} {w : Word} (hf : f < 64) (hoff : (s.func f).evq.en = false)
    (hen : bit w.toNat 31 = true) (hlow : 6 ≤ bits w.toNat 4 0) (hhigh : bits w.toNat 4 0 ≤ 16)
    (hbase : s.rdn (funcReg f 0x800) % 4096 = 0) :
    s.evqCtrl f w = s.updFunc f (fun y => { y with evq := (s.func f).evq.enabled w.toNat }) := by
  unfold State.evqCtrl
  rw [if_neg (by simpa using hf), if_neg (by simp [hoff]), if_pos (by simp [hen, hlow, hhigh, hbase])]
  rfl

/-- With no record dropped that is not yet told, a release of records tells nothing. -/
theorem Func.tellDropped_nothing {y : Func} (h : y.evq.unsaid = 0) (f : Nat) (lost : Bool) (tick : Nat) :
    y.tellDropped f lost tick = (y, []) := by
  unfold Func.tellDropped
  exact if_pos (by simp [h])

/-- A function whose event queue's records up to `v` are released. -/
def Func.evqReleased (y : Func) (v : Nat) : Func := { y with evq := { y.evq with head := v, armed := true } }

theorem State.evqHead_releases {s : State} {f : Nat} {w : Word} (hon : (s.func f).evq.en = true)
    (hhead : headOk (s.func f).evq.size (s.func f).evq.head (s.func f).evq.tail w.toNat = true)
    (hunsaid : (s.func f).evq.unsaid = 0) :
    (s.evqHead f w).func f = (s.func f).evqReleased w.toNat ∧ (s.evqHead f w).out = s.out := by
  have htold (lost : Bool) (tick : Nat) : ((s.func f).evqReleased w.toNat).tellDropped f lost tick =
      ((s.func f).evqReleased w.toNat, []) :=
    Func.tellDropped_nothing (y := (s.func f).evqReleased w.toNat) hunsaid f lost tick
  unfold State.evqHead
  dsimp only
  rw [if_pos (by simp [hon, hhead]), ← Func.evqReleased, htold]
  exact ⟨Tab.get_set_same _ _ _, s.out.append_nil⟩

/-- Settles O18: each write of a queue's registers and doorbells, by what the register stands for. -/
theorem queuesAndDoorbellsObeyTheirRules : Obligations.QueuesAndDoorbellsObeyTheirRules := by
  unfold Obligations.QueuesAndDoorbellsObeyTheirRules
  intro s f q v w hf hq
  refine ⟨fun hoff hen => ⟨fun ⟨hmax, hsq, hcq, hvector, hsize⟩ => ?enable, fun hbad => ?refuse⟩, fun hon hen => ?disable,
    exec_sqTailDoorbell_whole s f hq v, exec_cqHeadDoorbell_whole s f hq v, exec_sqTailDoorbell_partial s f q v,
    fun hoff hen hlow hhigh hbase => ?evq, fun hon hhead hunsaid => ?head⟩
  case enable =>
    have hcfg := State.queueCfg_enables hf hq hoff hen hmax hsq hcq hvector hsize
    have hstep := (s.setSq f q (SqPair.enabled w.toNat)).maintStep_sameQueues f (fun y => { y with fresh := false })
    rw [← hcfg] at hstep
    have hsqs (k : Nat) : (s.queueCfg f q w).sqOf f k = (s.setSq f q (SqPair.enabled w.toNat)).sqOf f k := by
      rw [hstep.sqOf, State.sqOf, State.func_updFunc_same, State.sqOf]
    have hkeeps : Keeps { out := true } s (s.queueCfg f q w) := by
      rw [hcfg]
      exact keeps_maintStep _ _ _ (keeps_setSq _ _ _ _ (Keeps.refl s) rfl) rfl
    refine ⟨s.queueCfg f q w, rfl, ?_, ?_, fun k hk => ?_, hkeeps.mem_eq rfl, congrArg (·.1) (hkeeps.frame.regs rfl)⟩
    · rw [hsqs, State.sqOf_setSq_same, SqPair.enabled]
    · rw [(hstep f).fresh, State.func_updFunc_same]
    · rw [hsqs, State.sqOf_setSq_other _ _ _ hk]
  case refuse =>
    refine ⟨_, congrArg Host.Outcome.next (State.queueCfg_refused hf hq hoff hen hbad), ?_, ?_, rfl⟩
    · rw [State.sqOf_setSq_same, hoff]
    · rw [State.sqOf_setSq_same]
  case disable =>
    refine ⟨_, congrArg Host.Outcome.next (State.queueCfg_disables hf hq hon hen), ?_, ?_, rfl, rfl⟩
    · rw [State.queueDisable_sqOf _ _ hq]
    · rw [State.queueDisable_sqOf _ _ hq]
  case evq =>
    refine ⟨_, congrArg Host.Outcome.next (State.evqCtrl_enables hf hoff hen hlow hhigh hbase), ?_⟩
    rw [State.func_updFunc_same]
    exact ⟨rfl, rfl, rfl, rfl, rfl, rfl⟩
  case head =>
    obtain ⟨hfunc, hout⟩ := State.evqHead_releases hon hhead hunsaid
    exact ⟨s.evqHead f w, rfl, by rw [hfunc, Func.evqReleased], by rw [hfunc, Func.evqReleased], hout⟩

/-! ### The fetch of a command (R121 to R123, R128) -/

/-- R123: a read that fails sets the queue's error. -/
theorem exec_commandFetch_failed {s : State} {f q : Nat} (hmay : s.mayFetch f q = true) (buf : Option Bytes) :
    exec (.commandFetch f q none buf) s = .next ((s.setSq f q { s.sqOf f q with error := true, reason := 1 }).ev 0x0B03 (fnSrc f)
      (q * 2 ^ 24 + 2 ^ 16)) :=
  if_neg (by simp [hmay])

/-- The origin of the command at the head of a queue: the head has moved on by one entry, modulo the size. -/
def State.fetchOrigin (s : State) (f q : Nat) (b : Bytes) : Origin :=
  { fn := f, q, tag := u16 b 2, sqHead := ((s.sqOf f q).sqHead + 1) % ((s.sqOf f q).sizeM1 + 1) }

/-- The queue once its head entry is fetched: its head has moved, and one command more runs. -/
def State.fetched (s : State) (f q : Nat) (b : Bytes) : State :=
  (s.setSq f q { s.sqOf f q with sqHead := (s.fetchOrigin f q b).sqHead }).setSq f q { s.sqOf f q with
    sqHead := (s.fetchOrigin f q b).sqHead, running := (s.sqOf f q).running + 1 }

/-- A fetched entry with a tag of its own is run where it is clean, and refused elsewhere. -/
theorem exec_commandFetch_entry {s : State} {f q : Nat} {b : Bytes} (hmay : s.mayFetch f q = true) (htag : u16 b 2 ≠ 0xFFFF)
    (buf : Option Bytes) :
    exec (.commandFetch f q (some b) buf) s =
      if entryClean b && (!nameless (u8 b 0) || u16 b 4 == 0xFFFF) then entryRun b buf (s.fetchOrigin f q b) (s.fetched f q b)
      else badEntry (s.fetchOrigin f q b) (s.fetched f q b) :=
  (if_neg (by simp [hmay])).trans (if_neg (by simpa using htag))

/-- R128: opcode 0x03 stands in no row. -/
theorem entryRun_undefined {b : Bytes} (hop : u8 b 0 = 0x03) (buf : Option Bytes) (o : Origin) (s : State) :
    entryRun b buf o s = badEntry o s := by
  unfold entryRun
  rw [hop]
  rfl

theorem entryRun_keyNow {b : Bytes} (hop : u8 b 0 = 0x13) (buf : Option Bytes) (o : Origin) (s : State) :
    entryRun b buf o s = exec (.keyNow o (u16 b 4)) s := by
  unfold entryRun
  rw [hop]
  rfl

/-- Settles O19: the fetch by what host memory answers, the entry by its opcode. -/
theorem commandFetchTakesTheHeadEntry : Obligations.CommandFetchTakesTheHeadEntry := by
  unfold Obligations.CommandFetchTakesTheHeadEntry
  intro s f q b buf hmay
  refine ⟨?failed, fun o x u htag hx ho hu => ?entry⟩
  case failed =>
    have hev := (s.setSq f q { s.sqOf f q with error := true, reason := 1 }).ev_sameQueues 0x0B03 (fnSrc f) (q * 2 ^ 24 + 2 ^ 16)
    have hsq := (hev.sqOf f q).trans (State.sqOf_setSq_same _ _ _ _)
    exact ⟨_, exec_commandFetch_failed hmay buf, by rw [hsq], by rw [hsq], by rw [hsq], rfl⟩
  case entry =>
    have hexec := exec_commandFetch_entry hmay htag buf
    have ho' : s.fetchOrigin f q b = o := ho.symm
    have hu' : s.fetched f q b = u := by rw [hu, hx, State.fetched, ho']
    rw [ho', hu'] at hexec
    refine ⟨fun hop => ?_, fun hop hclean => ⟨?_, _, rfl⟩, fun hop hclean => ?_⟩
    · rw [hexec, entryRun_undefined hop, ite_self, badEntry]
    · rw [hexec, if_pos (by simp [hclean, hop, nameless]), entryRun_keyNow hop]
    · rw [hexec, if_neg (by simp [hclean]), badEntry]

end Sys2Proof.Machine
end

section
/-! PROOFS. HostPackets: P commands, from their checks to their packet boundary (O23). -/

namespace Sys2Proof.Machine

/-! ### What a scope leaves of the commands that wait -/

theorem Keeps.waiting_eq {sc : Scope} {s t : State} (h : Keeps sc s t) (hhost : sc.host = false) : t.waiting = s.waiting :=
  congrArg (·.1) (h.frame.host hhost)

/-! ### The checks of a P command (R127, R128) -/

theorem Origin.owns_of_pf0 {o : Origin} (h : o.fn = 0) (owner : Nat) : o.owns owner = true := by simp [Origin.owns, h]

/-- With nothing waiting the structure to come is the one that runs. -/
theorem State.soon_of_none_waiting {s : State} (h : s.waiting = []) : s.soon = s.st := by
  rw [State.soon, h]
  rfl

/-- The only P command that waits is the one that came. -/
theorem State.await_of_none_waiting {s : State} (h : s.waiting = []) (o : Origin) (c : PCmd) :
    s.await o c = { s with waiting := [{ o, cmd := c }] } := by
  rw [State.await, h, List.nil_append]

section Arrive

variable {s : State} {o : Origin} (hfn : o.fn = 0) (hactive : s.standby = false) (hfatal : s.isFatal = false)

include hfn hactive hfatal

/-- A command of PF0 on a present object waits. -/
theorem State.checked_object {ok : Bool} (hearly : s.early = false) (hok : ok = true) (owner : Nat) (k : State → State) :
    s.checked o (s.objChecks o ok owner) k = k s := by
  refine State.checked_of_pass ?_ k
  simp [State.objChecks, firstFail, hok, hearly, Origin.owns_of_pf0 hfn, hactive, hfatal]

/-- A command of PF0 that makes an object waits, where its record holds and its number and quota are free. -/
theorem State.checked_record {ok free : Bool} (hok : ok = true) (hfree : free = true) (owner : Nat) (k : State → State) :
    s.checked o [(ok, .badParam), (o.owns owner, .notOwner), (!s.standby, .standby), (!s.isFatal && free, .noResource)] k = k s := by
  refine State.checked_of_pass ?_ k
  simp [firstFail, hok, hfree, Origin.owns_of_pf0 hfn, hactive, hfatal]

variable (hwaiting : s.waiting = [])

theorem exec_subDel_waits (hearly : s.early = false) {n : Nat} (hthere : s.st.subs.has n = true) :
    exec (.subDel o n) s = .next (s.await o (.subDel n)) :=
  congrArg Host.Outcome.next (State.checked_object hfn hactive hfatal hearly hthere _ _)

theorem exec_subSet_waits (hearly : s.early = false) {n : Nat} {p : SubSet} (hthere : s.st.subs.has n = true) (hok : p.ok = true) :
    exec (.subSet o n p) s = .next (s.await o (.subSet n p)) :=
  congrArg Host.Outcome.next (State.checked_object hfn hactive hfatal hearly (by rw [hthere, hok, Bool.and_self]) _ _)

theorem exec_inflowDel_waits (hearly : s.early = false) {n : Nat} (hthere : s.st.inflows.has n = true)
    (hfree : s.st.inputs.vals.any (fun i => i.source == 0 && i.sourceIndex == n) = false) :
    exec (.inflowDel o n) s = .next (s.await o (.inflowDel n)) :=
  congrArg Host.Outcome.next (State.checked_object hfn hactive hfatal hearly (by simp only [hthere, hfree]; rfl) _ _)

theorem exec_serviceSetReplace_waits (hearly : s.early = false) {n k a : Nat} {b : Bytes} {r : ServiceRec}
    (hrec : hostRecord 0x0210 b = some (.service a r)) (htarget : r.service = n) (hk : k ≤ 1) (hthere : s.st.services.has n = true)
    (howner : r.owner = (s.st.services.get n).owner) (hport : r.port = (s.st.services.get n).port) :
    exec (.serviceSetReplace o n k (some b)) s = .next (s.await o (.serviceReplace r k)) := by
  change Host.Outcome.next (s.serviceReplace o n k b) = _
  unfold State.serviceReplace
  simp only [hrec]
  exact congrArg Host.Outcome.next
    (State.checked_object hfn hactive hfatal hearly (by simp [hthere, htarget, hk, howner, hport]) _ _)

include hwaiting

theorem exec_serviceSetRemove_waits (hearly : s.early = false) {n : Nat} (hthere : s.st.services.has n = true)
    (hfree : s.st.subs.vals.any (fun u => u.service == n) = false) :
    exec (.serviceSetRemove o n) s = .next (s.await o (.serviceRemove n)) := by
  refine congrArg Host.Outcome.next (State.checked_object hfn hactive hfatal hearly ?_ _ _)
  rw [State.soon_of_none_waiting hwaiting, List.any_append, hthere, hfree]
  rfl

theorem exec_serviceSetAdd_waits {n k a : Nat} {b : Bytes} {r : ServiceRec} (hrec : hostRecord 0x0210 b = some (.service a r))
    (htarget : r.service = n) (hk : k ≤ 1) (hok : s.recOk (.service 0 r) = true) (hfree : s.st.services.has n = false)
    (hquota : s.st.below r.owner (s.st.services.vals.filter (fun v => v.owner == r.owner)).length (·.maxServices) = true) :
    exec (.serviceSetAdd o n k (some b)) s = .next (s.await o (.serviceAdd r k)) := by
  change Host.Outcome.next (s.serviceAdd o n k b) = _
  unfold State.serviceAdd
  simp only [hrec, State.soon_of_none_waiting hwaiting, Bool.and_assoc]
  exact congrArg Host.Outcome.next (State.checked_record hfn hactive hfatal (by simp [htarget, hk, hok])
    (by rw [htarget, hfree, hquota]; rfl) _ _)

theorem exec_inflowAdd_waits {a : Nat} {b : Bytes} {r : InflowRec} (hrec : hostRecord 0x0200 b = some (.inflow a r))
    (hok : s.recOk (.inflow 0 r) = true) (hfree : s.st.inflows.has r.inflow = false)
    (hkey : s.st.inflows.vals.any (fun f => f.inflow != r.inflow && f.key == r.key) = false)
    (hquota : s.st.below r.owner (s.st.inflows.vals.filter (fun f => f.owner == r.owner)).length (·.maxInflows) = true) :
    exec (.inflowAdd o (some b)) s = .next (s.await o (.inflowAdd r)) := by
  change Host.Outcome.next (s.inflowAdd o b) = _
  unfold State.inflowAdd
  simp only [hrec, State.soon_of_none_waiting hwaiting, Bool.and_assoc]
  exact congrArg Host.Outcome.next (State.checked_record hfn hactive hfatal (by rw [hok, hkey]; rfl)
    (by rw [hfree, hquota]; rfl) _ _)

theorem exec_subAdd_waits {a : Nat} {b : Bytes} {r : SubRec} (hrec : hostRecord 0x0220 b = some (.sub a r))
    (hok : s.recOk (.sub 0 r) = true) (hfree : s.st.subs.has r.subscriber = false)
    (hquota : s.st.below (s.st.services.get r.service).owner (s.st.subs.vals.filter (fun u =>
      (s.st.services.get u.service).owner == (s.st.services.get r.service).owner)).length (·.maxSubscribers) = true)
    (hcir : (s.st.applyP (.subAdd r)).cirFits s.outf.ports r = true) :
    exec (.subAdd o (some b)) s = .next (s.await o (.subAdd r)) := by
  change Host.Outcome.next (s.subAdd o b) = _
  unfold State.subAdd
  simp only [hrec, State.soon_of_none_waiting hwaiting, Bool.and_assoc]
  exact congrArg Host.Outcome.next ((State.checked_record hfn hactive hfatal hok (by rw [hfree, hquota]; rfl) _ _).trans
    (if_pos hcir))

end Arrive

/-! ### The packet boundary (R130, R314) -/

/-- What the `w` of the waiting commands does at its boundary, once it waits no longer. -/
def State.pTakes (s : State) (w : Waiting) : State :=
  if !s.pThere w.cmd then (s.complete w.o .badParam 0 0).imageSettle
  else
    let time := linear s.time.phc
    let t := (s.applyP w.cmd).complete w.o .ok w.cmd.info time
    if w.o.fn == 64 then t.imageSettle else t.journal (s.pDomain w.cmd) [.packet w.o.fn time w.cmd]

/-- The first command that waits takes effect once the clock is at its port's boundary and the port has settled. -/
theorem exec_pCommandApply_first {s : State} {x : Waiting} {rest : List Waiting} (hwaiting : s.waiting = x :: rest) :
    ∃ u, Keeps { clk := true, out := true, emit := true } s u ∧
      exec (.pCommandApply 0) s = .next (State.pTakes { u with waiting := rest } x) := by
  change ∃ u, _ ∧ Host.Outcome.next (s.pApply 0) = _
  unfold State.pApply
  rw [hwaiting]
  simp only [List.getElem?_cons_zero, List.take_zero, List.any_nil, Bool.false_eq_true, if_false]
  cases s.soon.pPort x.cmd with
  | none => exact ⟨s, Keeps.refl s, by rw [hwaiting]; rfl⟩
  | some n =>
    have hsettles : Keeps { clk := true, out := true, emit := true } s ((s.runTo (s.oport n).free).portSettle n) :=
      keeps_portSettle _ n (keeps_runTo _ _ (Keeps.refl s) rfl) rfl rfl
    have hrest : ((s.runTo (s.oport n).free).portSettle n).waiting.eraseIdx 0 = rest := by
      rw [hsettles.waiting_eq rfl, hwaiting]
      rfl
    exact ⟨_, hsettles, by simp only [hrest]; rfl⟩

/-- Whether an object is there is told by the structure. -/
theorem State.pThere_congr {s t : State} (h : t.st = s.st) (c : PCmd) : t.pThere c = s.pThere c := by
  cases c <;> simp only [State.pThere, h]

/-- Past the structure's change, a command other than SUB_ADD and SUB_SET leaves the structure. -/
theorem State.keeps_applyP_structure {c : PCmd} (hadd : ∀ r, c ≠ .subAdd r) (hput : ∀ r, c ≠ .subPut r)
    (hset : ∀ n p, c ≠ .subSet n p) (s : State) :
    Keeps { regs := true, out := true, courses := true, emit := true } { s with st := s.st.applyP c } (s.applyP c) := by
  have hrefl := Keeps.refl (sc := { regs := true, out := true, courses := true, emit := true }) { s with st := s.st.applyP c }
  cases c with
  | subAdd r => exact absurd rfl (hadd r)
  | subPut r => exact absurd rfl (hput r)
  | subSet n p => exact absurd rfl (hset n p)
  | subDel n => exact keeps_updOut _ (fun o => { o with subs := o.subs.del n }) hrefl rfl
  | serviceAdd r how => exact keeps_overcommitPort _ _ (keeps_svcCreate _ _ _ hrefl rfl rfl) rfl
  | servicePut r => exact keeps_overcommitPort _ _ (keeps_svcCreate _ _ _ hrefl rfl rfl) rfl
  | serviceReplace r how => exact keeps_overcommitPort _ _ (keeps_overcommitSvc _ _ (keeps_setOsvc _ _ _ hrefl rfl) rfl) rfl
  | serviceRemove n => exact keeps_updOut _ (fun o => { o with svcs := o.svcs.del n }) hrefl rfl
  | inflowAdd r => exact keeps_inflowCreated _ _ hrefl rfl rfl
  | inflowPut r => exact keeps_inflowCreated _ _ (keeps_ite (keeps_inflowDeleted _ _ hrefl rfl rfl) hrefl) rfl rfl
  | inflowDel n => exact keeps_inflowDeleted _ _ hrefl rfl rfl

/-- What a P command may touch at its boundary. -/
def packetScope : Scope :=
  { units := true, regs := true, out := true, weir := true, st := true, courses := true, coders := true, emit := true, memsys := true
    dma := true, pair := true }

theorem State.keeps_applyP_packet (s : State) (c : PCmd) : Keeps packetScope s (s.applyP c) :=
  keeps_applyP s c (Keeps.refl s) rfl rfl rfl rfl rfl rfl rfl rfl rfl rfl rfl

section Takes

variable {s : State} {w : Waiting}

/-- A host's command whose object is there takes effect, is answered and journalled. -/
theorem State.keeps_pTakes_applied (hthere : s.pThere w.cmd = true) (hfn : w.o.fn < 64) :
    Keeps { out := true, pair := true } (s.applyP w.cmd) (s.pTakes w) := by
  unfold State.pTakes
  dsimp only
  rw [if_neg (by simp [hthere]), if_neg (by simp; omega)]
  exact keeps_journal _ _ _ (keeps_complete _ _ _ _ _ (Keeps.refl _) rfl) rfl

/-- With no partial image about, nothing is left to report. -/
theorem State.imageSettle_of_no_partials {s : State} (h : s.img.partials = []) : s.imageSettle = s := by
  unfold State.imageSettle
  rw [h]
  exact ite_self _

/-- A command whose object is gone is answered alone. -/
theorem State.pTakes_gone (hgone : s.pThere w.cmd = false) (hpartials : s.img.partials = []) :
    s.pTakes w = s.complete w.o .badParam 0 0 := by
  have himg : (s.complete w.o .badParam 0 0).img = s.img := (s.keeps_complete_out _ _ _ _).img_eq rfl
  unfold State.pTakes
  rw [if_pos (by simp [hgone]), State.imageSettle_of_no_partials (by rw [himg, hpartials])]

end Takes

/-- Settles O23: a P command's arrival by its checks, its boundary by whether its object is there. -/
theorem packetCommandsWaitAndActAtTheirBoundary : Obligations.PacketCommandsWaitAndActAtTheirBoundary := by
  unfold Obligations.PacketCommandsWaitAndActAtTheirBoundary
  refine ⟨fun s o n k b waits hfn hactive hfatal hearly hnone hwaits => ?arrive, fun s x rest hwaiting hfn => ?boundary⟩
  case arrive =>
    have hwait {i : Instr} {c : PCmd} (hexec : exec i s = .next (s.await o c)) : waits i c := by
      rw [hwaits]
      exact hexec.trans (congrArg Host.Outcome.next (State.await_of_none_waiting hnone o c))
    refine ⟨fun hthere => ⟨hwait ?subDel, fun p hok => hwait ?subSet⟩, fun hthere hfree => hwait ?remove,
      fun hthere hfree => hwait ?inflowDel, fun r a hrec htarget hk hok hfree hquota => hwait ?serviceAdd,
      fun r a hrec htarget hk hthere howner hport => hwait ?replace, fun r a hrec hok hfree hkey hquota => hwait ?inflowAdd,
      fun r a hrec hok hfree hquota hcir => hwait ?subAdd, fun i hi => ?lost⟩
    case subDel => exact exec_subDel_waits hfn hactive hfatal hearly hthere
    case subSet => exact exec_subSet_waits hfn hactive hfatal hearly hthere hok
    case remove => exact exec_serviceSetRemove_waits hfn hactive hfatal hnone hearly hthere hfree
    case inflowDel => exact exec_inflowDel_waits hfn hactive hfatal hearly hthere hfree
    case serviceAdd => exact exec_serviceSetAdd_waits hfn hactive hfatal hnone hrec htarget hk hok hfree hquota
    case replace => exact exec_serviceSetReplace_waits hfn hactive hfatal hearly hrec htarget hk hthere howner hport
    case inflowAdd => exact exec_inflowAdd_waits hfn hactive hfatal hnone hrec hok hfree hkey hquota
    case subAdd => exact exec_subAdd_waits hfn hactive hfatal hnone hrec hok hfree hquota hcir
    case lost => obtain rfl | rfl | rfl | rfl := hi <;> rfl
  case boundary =>
    obtain ⟨u, hsettles, hexec⟩ := exec_pCommandApply_first hwaiting
    have hst : u.st = s.st := hsettles.st_eq rfl
    have hmem : u.mem = s.mem := hsettles.mem_eq rfl
    have hthereEq : State.pThere { u with waiting := rest } x.cmd = s.pThere x.cmd := State.pThere_congr hst x.cmd
    refine ⟨fun hthere => ?there, fun n p hgone _ hpartials => ?gone⟩
    case there =>
      have happlied := State.keeps_pTakes_applied (hthereEq.trans hthere) hfn
      have heffect := State.keeps_applyP_packet { u with waiting := rest } x.cmd
      have hwaits : (State.pTakes { u with waiting := rest } x).waiting = rest :=
        (happlied.waiting_eq rfl).trans (heffect.waiting_eq rfl)
      have hmemory : (State.pTakes { u with waiting := rest } x).mem = s.mem :=
        (happlied.mem_eq rfl).trans ((heffect.mem_eq rfl).trans hmem)
      refine ⟨⟨_, hexec, hwaits, hmemory⟩, fun hadd hput hset => ⟨_, hexec, hwaits, ?_, hmemory⟩⟩
      rw [happlied.st_eq rfl, (State.keeps_applyP_structure hadd hput hset _).st_eq rfl]
      exact congrArg (Structure.applyP · x.cmd) hst
    case gone =>
      rw [State.pTakes_gone (hthereEq.trans hgone) (by rw [← hpartials, ← hsettles.img_eq rfl])] at hexec
      have hanswer := State.keeps_complete_out { u with waiting := rest } x.o .badParam 0 0
      exact ⟨_, hexec, hanswer.waiting_eq rfl, (hanswer.st_eq rfl).trans hst, (hanswer.mem_eq rfl).trans hmem⟩

end Sys2Proof.Machine
end

section
/-! PROOFS. HostUnits: UNIT_RESET, its end, and UNIT_RETIRE (O24). -/

namespace Sys2Proof.Machine

/-! ### What a scope leaves of the units -/

theorem Keeps.retired_eq {sc : Scope} {s t : State} (h : Keeps sc s t) (hunits : sc.units = false) : t.retired = s.retired :=
  congrArg (·.1) (h.frame.units hunits)

theorem Keeps.resets_eq {sc : Scope} {s t : State} (h : Keeps sc s t) (hhost : sc.host = false) : t.resets = s.resets :=
  congrArg (·.2.1) (h.frame.host hhost)

/-! ### UNIT_RESET (R142) -/

section Arrive

variable {s : State} {o : Origin} {src : Nat} (hearly : s.early = false)

include hearly

/-- UNIT_RESET and UNIT_RETIRE of a unit that takes them are PF0's. -/
theorem State.checked_unit {ok : Bool} (hok : ok = true) (hfn : o.fn = 0) (k : State → State) :
    s.checked o [(ok && !s.early, .badParam), (o.fn == 0, .notOwner)] k = k s := by
  refine State.checked_of_pass ?_ k
  simp [firstFail, hok, hearly, hfn]

theorem State.checked_unit_notOwner {ok : Bool} (hok : ok = true) (hfn : o.fn ≠ 0) (k : State → State) :
    s.checked o [(ok && !s.early, .badParam), (o.fn == 0, .notOwner)] k = s.complete o .notOwner 0 0 := by
  refine State.checked_of_fail ?_ k
  simp [firstFail, hok, hearly, hfn]

/-- The unit stops, its bursts are finished on its behalf, and the reset is recorded. -/
theorem exec_unitReset_takes (hfn : o.fn = 0) (htakes : s.resettable src = true) :
    exec (.unitReset o src) s = .next { (s.unitStop src).unitBurst src with
      resets := ((s.unitStop src).unitBurst src).resets ++ [{ o, src, at_ := ((s.unitStop src).unitBurst src).now }] } :=
  congrArg Host.Outcome.next (State.checked_unit hearly htakes hfn _)

theorem exec_unitReset_notOwner (hfn : o.fn ≠ 0) (htakes : s.resettable src = true) :
    exec (.unitReset o src) s = .next (s.complete o .notOwner 0 0) :=
  congrArg Host.Outcome.next (State.checked_unit_notOwner hearly htakes hfn _)

theorem exec_unitRetire_notOwner (hfn : o.fn ≠ 0) (hkind : retirable src = true) :
    exec (.unitRetire o src) s = .next (s.complete o .notOwner 0 0) :=
  congrArg Host.Outcome.next (State.checked_unit_notOwner hearly hkind hfn _)

/-- A unit that serves no domain retires on arrival. -/
theorem exec_unitRetire_arrival (hfn : o.fn = 0) (hkind : retirable src = true) (hnone : s.unitDomain src = none) :
    exec (.unitRetire o src) s = .next ((s.retireUnit src 3 false).complete o .ok 0 0) := by
  refine congrArg Host.Outcome.next ((State.checked_unit hearly hkind hfn _).trans ?_)
  simp only [hnone]

end Arrive

/-- The stop of a unit touches neither the clock, the structure, the records of resets nor what is retired. -/
theorem State.keeps_unitStop_burst (s : State) (src : Nat) :
    Keeps { mem := true, regs := true, out := true, courses := true, coders := true, memsys := true, dma := true } s
      ((s.unitStop src).unitBurst src) :=
  keeps_unitBurst _ src (keeps_unitStop s src (Keeps.refl s) rfl rfl rfl rfl rfl rfl rfl) rfl

/-- The first reset of the unit that runs ends, within its bound. -/
theorem exec_unitResetDone_ends {s : State} {src cycles : Nat} {x : ResetRun}
    (hfirst : s.resets.find? (fun x => x.src == src) = some x) (hbound : cycles ≤ 4096 + s.rdn (cnfReg 0x000)) :
    exec (.unitResetDone src cycles) s = .next ((State.complete { s.runTo (x.at_ + cycles) with resets := s.resets.erase x }
      x.o .ok 0 cycles).ev 0x0B07 src cycles) := by
  change execUnitResetDone src cycles s = _
  unfold execUnitResetDone
  simp only [hfirst]
  rw [if_neg (Nat.not_lt.mpr hbound)]

/-! ### UNIT_RETIRE (R258, R407) -/

/-- A Tarn that is live is listed as retired; what follows (the swap, the causes, the admission) lists no more. -/
theorem State.retireTarn_retired {s : State} {n : Nat} (halive : s.alive (0x1000 + n) = true) (cause : Nat) (inj : Bool) :
    (s.retireTarn n cause inj).retired = s.retired ++ [0x1000 + n] := by
  unfold State.retireTarn
  rw [if_neg (by simp [halive])]
  extract_lets handed segs _ put emptied told spare rated
  change rated.admissionRerun.retired = put.retired
  have hemptied : Keeps { regs := true, out := true, coders := true } put emptied :=
    keeps_wrn _ _ _ (keeps_updTarn _ _ _ (Keeps.refl put) rfl) rfl
  have htold : Keeps { regs := true, out := true, coders := true } put told := keeps_ev _ _ _ _ hemptied rfl
  have hspare : Keeps { regs := true, out := true, coders := true } put spare := keeps_ite (keeps_replace _ _ _ htold rfl rfl) htold
  have hrated : Keeps { regs := true, out := true, coders := true } put rated := keeps_ite (keeps_replace _ _ _ hspare rfl rfl) hspare
  exact (keeps_admissionRerun _ hrated rfl rfl).retired_eq rfl

theorem State.retireUnit_retired {s : State} {src : Nat} (hkind : retirable src = true) (halive : s.alive src = true) (cause : Nat)
    (inj : Bool) : (s.retireUnit src cause inj).retired = s.retired ++ [src] := by
  unfold State.retireUnit
  rw [if_neg (by simp [hkind, halive])]
  split
  next htarn =>
    have hsrc : 0x1000 + src % 256 = src := by
      have := eq_of_beq htarn
      omega
    rw [← hsrc] at halive
    rw [State.retireTarn_retired halive, hsrc]
  next =>
    extract_lets _ put bitNo told
    have htold : Keeps { regs := true, out := true, coders := true } put told :=
      keeps_replace _ _ _ (keeps_ev _ _ _ _ (Keeps.refl put) rfl) rfl rfl
    exact (keeps_admissionRerun _ (keeps_ite (keeps_replace _ _ _ htold rfl rfl) htold) rfl rfl).retired_eq rfl

theorem State.keeps_retireUnit_parts (s : State) (src cause : Nat) (inj : Bool) :
    Keeps { units := true, regs := true, out := true, courses := true, coders := true, memsys := true } s
      (s.retireUnit src cause inj) :=
  keeps_retireUnit s src cause inj (Keeps.refl s) rfl rfl rfl rfl rfl rfl

/-- Settles O24: the reset by its checks, its end by its record, the retirement by what it lists. -/
theorem unitsResetAndRetire : Obligations.UnitsResetAndRetire := by
  unfold Obligations.UnitsResetAndRetire
  intro s o src cycles hearly
  refine ⟨fun hfn htakes => ?reset, fun hfn => ⟨exec_unitReset_notOwner hearly hfn, exec_unitRetire_notOwner hearly hfn⟩,
    fun x hfirst hbound => ⟨_, rfl, exec_unitResetDone_ends hfirst hbound⟩, fun hfn hkind halive hnone => ?retire⟩
  case reset =>
    have hstop := s.keeps_unitStop_burst src
    have hnow := hstop.now_eq rfl
    refine ⟨_, exec_unitReset_takes hearly hfn htakes, ?_, hnow, hstop.retired_eq rfl, hstop.st_eq rfl⟩
    rw [hstop.resets_eq rfl, hnow]
  case retire =>
    have hretired := State.retireUnit_retired hkind halive 3 false
    have hretires := s.keeps_retireUnit_parts src 3 false
    have hanswer := (s.retireUnit src 3 false).keeps_complete_out o .ok 0 0
    have hlisted := (hanswer.retired_eq rfl).trans hretired
    refine ⟨_, exec_unitRetire_arrival hearly hfn hkind hnone, ?_, fun k hk => ?_, (hanswer.now_eq rfl).trans (hretires.now_eq rfl),
      (hanswer.mem_eq rfl).trans (hretires.mem_eq rfl), (hanswer.st_eq rfl).trans (hretires.st_eq rfl)⟩
    · simp [hlisted]
    · simp [hlisted, hk]

end Sys2Proof.Machine
end

section
/-! PROOFS. HostImmediate: PAIR_CTL, TEST_CTL and STATS_READ (O25). -/

namespace Sys2Proof.Machine

/-! ### PAIR_CTL (R384, R386, R398, R400) -/

section PairCtl

variable {s : State} {o : Origin} (hfn : o.fn = 0) (hearly : s.early = false)

include hfn hearly

theorem State.checked_pair {ok : Bool} (hok : ok = true) (k : State → State) : s.checked o (s.pairChecks o ok) k = k s := by
  refine State.checked_of_pass ?_ k
  simp [State.pairChecks, firstFail, hok, hearly, hfn]

theorem exec_pairCtlStatus_answers : exec (.pairCtlStatus o 0) s = .next (s.complete o .ok 0 s.guavoStatus) :=
  congrArg Host.Outcome.next (State.checked_pair hfn hearly rfl _)

/-- HOLD and RELEASE answer GUAVO.STATUS as they leave it. -/
theorem exec_pairCtlHold_answers {n : Nat} (hn : n < 2) (hpaired : s.paired = true) {u : State}
    (hu : u = (s.updPair (fun p => { p with hold := n == 1 })).pairSettle) :
    exec (.pairCtlHold o n) s = .next (u.complete o .ok 0 u.guavoStatus) := by
  subst hu
  exact congrArg Host.Outcome.next (State.checked_pair hfn hearly (by simp [hn, hpaired]) _)

theorem exec_pairCtlYield_withdraws (hpaired : s.paired = true) (hrole : s.pair.role = 3) (halive : s.pair.peerAlive = true)
    (hfree : s.pair.peerHold = false) :
    exec (.pairCtlYield o 0) s = .next (s.updPair (fun p => { p with hold := true, yieldBy := some (o, s.now) })).withdraw :=
  congrArg Host.Outcome.next (State.checked_pair hfn hearly (by simp [hpaired, hrole, halive, hfree]) _)

theorem exec_pairCtlHeal_answers {n : Nat} (hthere : s.st.rends.has n = true) (hstandby : s.standby = true) :
    exec (.pairCtlHeal o n) s = .next ((s.unsync n 4 (((s.rend n).digestPic).getD 0)).complete o .ok 0 0) :=
  congrArg Host.Outcome.next (State.checked_pair hfn hearly (by rw [hthere, hstandby, Bool.and_self]) _)

end PairCtl

/-- An ACTIVE device that withdraws closes its gate, draining what ACT_OUT covers, and is WITHDRAWING. -/
theorem State.withdraw_active {s : State} (h : s.pair.role = 3) : s.withdraw = (s.gateClose s.pair.actOut).setRole 4 := by
  unfold State.withdraw
  rw [h]
  cases s.pair.actOut <;> rfl

theorem State.setRole_pair (s : State) (r : Nat) : (s.setRole r).pair = { s.pair with role := r } := by
  unfold State.setRole
  split
  next h => rw [← eq_of_beq h]
  next => rfl

theorem State.keeps_setRole_parts (s : State) (r : Nat) : Keeps { out := true, pair := true } s (s.setRole r) :=
  keeps_setRole s r (Keeps.refl s) rfl rfl

theorem State.gateClose_gate (s : State) (drain : Bool) : (s.gateClose drain).outf.gate = false := rfl

theorem State.keeps_gateClose_parts (s : State) (drain : Bool) : Keeps { regs := true, emit := true } s (s.gateClose drain) :=
  keeps_gateClose s drain (Keeps.refl s) rfl rfl

theorem Keeps.outf_eq {sc : Scope} {s t : State} (h : Keeps sc s t) (hemit : sc.emit = false) : t.outf = s.outf :=
  congrArg (·.2.2) (h.frame.emit hemit)

/-- What the withdrawal of an ACTIVE device leaves of its pairing, its gate and memory. -/
theorem State.withdraw_active_parts {s : State} (h : s.pair.role = 3) :
    s.withdraw.pair = { s.pair with role := 4 } ∧ s.withdraw.outf.gate = false ∧ s.withdraw.mem = s.mem := by
  have hclose := s.keeps_gateClose_parts s.pair.actOut
  have hrole := (s.gateClose s.pair.actOut).keeps_setRole_parts 4
  rw [State.withdraw_active h]
  refine ⟨?_, ?_, (hrole.mem_eq rfl).trans (hclose.mem_eq rfl)⟩
  · rw [State.setRole_pair, hclose.frame.pair rfl]
  · rw [hrole.outf_eq rfl, State.gateClose_gate]

/-- R397: a rendition that stops being SYNCED is marked; the others stand. -/
theorem State.unsync_rends (s : State) (n cause picture : Nat) : ((s.unsync n cause picture).rends.get n).unsynced = true ∧
    ∀ r, r ≠ n → (s.unsync n cause picture).rends.get r = s.rends.get r := by
  unfold State.unsync
  dsimp only
  split
  next h => exact ⟨(Bool.and_eq_true_iff.mp h).1, fun _ _ => rfl⟩
  next =>
    have hput := congrArg Rend.unsynced (Tab.get_set_same s.rends n { s.rend n with unsynced := true, healing := false })
    have hother {r : Nat} (hr : r ≠ n) :=
      Tab.get_set_other s.rends { s.rend n with unsynced := true, healing := false } hr
    split
    · exact ⟨hput, fun _ => hother⟩
    · exact ⟨hput, fun _ => hother⟩

/-! ### TEST_CTL (R141, R418) -/

section TestCtl

variable {s : State} {o : Origin} (hfn : o.fn = 0) (hearly : s.early = false)

include hfn hearly

/-- PF0 may put the device in maintenance, or one function. -/
theorem State.checked_test {n : Nat} (hn : n < 64 ∨ n = 0xFFFF) (k : State → State) :
    s.checked o (s.testChecks o n 1) k = k s := by
  refine State.checked_of_pass ?_ k
  have hok : testOk n 1 = true := by
    obtain hn | hn := hn <;> simp [testOk, hn]
  simp [State.testChecks, firstFail, Origin.mayTest, hok, hearly, hfn]

theorem exec_testCtlEnterMaint_device {n : Nat} (hn : n < 64 ∨ n = 0xFFFF) :
    exec (.testCtlEnterMaint o n 1) s = .next ((State.setDevMaint { s with devMaintCmd := true } true).complete o .ok 0 0) :=
  congrArg Host.Outcome.next (State.checked_test hfn hearly hn _)

theorem exec_testCtlLeaveMaint_device {n : Nat} (hn : n < 64) :
    exec (.testCtlLeaveMaint o n 1) s =
      .next ((State.setDevMaint { s with devMaintCmd := false } (!s.img.everAccepted)).complete o .ok 0 0) :=
  congrArg Host.Outcome.next (State.checked_test hfn hearly (.inl hn) _)

/-- The checks of an injection of kind 1 into a unit. -/
theorem State.injectChecks_first {src arg : Nat} (hunit : isUnit src = true) :
    firstFail [((1 : Nat) == 1 && injectable src 1 arg && !s.early, Status.badParam), (o.fn == 0, .notOwner),
      (s.devMaint, .notMaintenance)] = if s.devMaint then none else some .notMaintenance := by
  simp [firstFail, injectable, hunit, hearly, hfn]

theorem exec_testCtlInject_arms {src : Nat} (addr arg : Nat) (hmaint : s.devMaint = true) (hunit : isUnit src = true) :
    exec (.testCtlInject o 1 src 1 addr arg) s =
      .next ({ s with ras := { s.ras with inj := s.ras.inj ++ [Injection.mk src 1 addr arg] } }.complete o .ok 0 0) :=
  congrArg Host.Outcome.next
    (State.checked_of_pass ((State.injectChecks_first hfn hearly hunit).trans (if_pos hmaint)) _)

theorem exec_testCtlInject_refused {src : Nat} (addr arg : Nat) (hmaint : s.devMaint = false) (hunit : isUnit src = true) :
    exec (.testCtlInject o 1 src 1 addr arg) s = .next (s.complete o .notMaintenance 0 0) :=
  congrArg Host.Outcome.next
    (State.checked_of_fail ((State.injectChecks_first hfn hearly hunit).trans (if_neg (by simp [hmaint]))) _)

end TestCtl

@[simp] theorem State.setDevMaint_devMaint (s : State) (on : Bool) : (s.setDevMaint on).devMaint = on := by
  unfold State.setDevMaint
  split
  next h => exact eq_of_beq h
  next => rfl

@[simp] theorem State.setDevMaint_devMaintCmd (s : State) (on : Bool) : (s.setDevMaint on).devMaintCmd = s.devMaintCmd := by
  unfold State.setDevMaint
  split <;> rfl

@[simp] theorem State.setDevMaint_mem (s : State) (on : Bool) : (s.setDevMaint on).mem = s.mem := by
  unfold State.setDevMaint
  split <;> rfl

/-! ### STATS_READ (R126, R127) -/

/-- A block draws free values at most. -/
theorem State.statsBlock_draws (s : State) (scope n : Nat) :
    (s.statsBlock scope n).2 = { s with free := (s.statsBlock scope n).2.free } ∧ s.free ≤ (s.statsBlock scope n).2.free := by
  unfold State.statsBlock
  split
  · exact ⟨rfl, Nat.le_refl _⟩
  · exact ⟨rfl, Nat.le_refl _⟩
  · exact ⟨rfl, Nat.le_refl _⟩
  · exact ⟨rfl, Nat.le_add_right _ _⟩

theorem State.checked_stats {s : State} {o : Origin} {scope n : Nat} (hthere : s.statsThere scope n = true)
    (hopen : s.statsOpen o scope n = true) (k : State → State) :
    s.checked o [(s.statsThere scope n, .badParam), (s.statsOpen o scope n, .notOwner)] k = k s := by
  refine State.checked_of_pass ?_ k
  simp [firstFail, hthere, hopen]

/-- Settles O25: each command passes its checks, does its work and is answered at once. -/
theorem immediateCommandsAnswerAtOnce : Obligations.ImmediateCommandsAnswerAtOnce := by
  unfold Obligations.ImmediateCommandsAnswerAtOnce
  intro s o n hfn hearly
  refine ⟨exec_pairCtlStatus_answers hfn hearly, fun hn hpaired => ?hold, fun hpaired hrole halive hfree => ?yield,
    fun hthere hstandby => ?heal, fun hn => ?enter, fun hn => ?leave,
    fun src addr arg => exec_testCtlInject_arms hfn hearly addr arg,
    fun src addr arg => exec_testCtlInject_refused hfn hearly addr arg,
    fun scope addr len hthere hopen => ⟨?stats, fun hscope => ?sub, fun hscope => ?service, fun hscope => ?port, ?lost⟩⟩
  case hold => exact ⟨_, exec_pairCtlHold_answers hfn hearly hn hpaired rfl, rfl, rfl, rfl, rfl, rfl⟩
  case yield =>
    have hexec := exec_pairCtlYield_withdraws hfn hearly hpaired hrole halive hfree
    obtain ⟨hpair, hgate, hmem⟩ := State.withdraw_active_parts
      (s := s.updPair (fun p => { p with hold := true, yieldBy := some (o, s.now) })) hrole
    exact ⟨_, hexec, by rw [hpair]; rfl, by rw [hpair], hgate, by rw [hpair]; rfl, hmem⟩
  case heal =>
    obtain ⟨hmarked, hothers⟩ := s.unsync_rends n 4 (((s.rend n).digestPic).getD 0)
    exact ⟨_, exec_pairCtlHeal_answers hfn hearly hthere hstandby, hmarked, hothers,
      (keeps_unsync (sc := { out := true, coders := true }) s n _ _ (Keeps.refl s) rfl rfl).mem_eq rfl⟩
  case enter => exact ⟨_, exec_testCtlEnterMaint_device hfn hearly hn, by simp, by simp, by simp⟩
  case leave => exact ⟨_, exec_testCtlLeaveMaint_device hfn hearly hn, by simp, by simp, by simp⟩
  case stats =>
    obtain ⟨hdraws, hfree⟩ := s.statsBlock_draws scope n
    exact ⟨_, congrArg Host.Outcome.next (State.checked_stats hthere hopen _), hdraws, hfree⟩
  case sub => subst hscope; rfl
  case service => subst hscope; rfl
  case port => subst hscope; rfl
  case lost => exact congrArg Host.Outcome.next (State.checked_stats hthere hopen _)

end Sys2Proof.Machine
end

section
/-! PROOFS. HostResets: function-level resets, VF Enable, the link and power states (O26). -/

namespace Sys2Proof.Machine

/-! ### What a reset leaves of the other functions and of the link -/

/-- From `s` to `t` every function keeps its queues, and the link and VF Enable stand. -/
structure SameHost (s t : State) : Prop where
  queues : s.SameQueues t
  pcie : t.pcie = s.pcie

namespace SameHost

variable {s t u : State}

theorem of_eq (hfuncs : t.funcs = s.funcs) (hpcie : t.pcie = s.pcie) : SameHost s t := ⟨.of_funcs hfuncs, hpcie⟩

theorem refl (s : State) : SameHost s s := ⟨.refl s, rfl⟩

theorem trans (h : SameHost s t) (k : SameHost t u) : SameHost s u := ⟨h.queues.trans k.queues, k.pcie.trans h.pcie⟩

theorem ite {p : Prop} [Decidable p] (ht : SameHost s t) (hu : SameHost s u) : SameHost s (if p then t else u) := by
  split
  · exact ht
  · exact hu

theorem foldl {α : Type} {f : State → α → State} (hf : ∀ s a, SameHost s (f s a)) :
    ∀ (l : List α) (s : State), SameHost s (l.foldl f s)
  | [], s => .refl s
  | a :: l, s => (hf s a).trans (foldl hf l (f s a))

end SameHost

theorem State.sameHost_ev (s : State) (code src detail : Nat) : SameHost s (s.ev code src detail) :=
  ⟨s.ev_sameQueues code src detail, rfl⟩

theorem State.sameHost_masterReset (s : State) (m : Nat) (p : Txn → Bool) : SameHost s (s.masterReset m p) := by
  unfold State.masterReset
  exact .ite (.refl s) (.of_eq rfl rfl)

/-- R363: the disable of a Sluice channel posts nothing. -/
theorem State.sameHost_sluiceDisable (s : State) (g : Nat) : SameHost s (s.sluiceDisable g) := by
  unfold State.sluiceDisable
  extract_lets x a b t
  have hdrawn : SameHost s b.2 := .of_eq rfl rfl
  have ht : SameHost s t :=
    hdrawn.trans ((State.sameHost_masterReset b.2 17 _).trans (State.sameHost_masterReset _ 18 _))
  clear_value t
  exact ht.trans (.of_eq rfl rfl)

/-- R367: an operation that is dropped is told. -/
theorem State.sameHost_bceDrop (s : State) (b cause : Nat) : SameHost s (s.bceDrop b cause) := by
  unfold State.bceDrop
  extract_lets x o freed dropped
  have hfreed : SameHost s freed := .of_eq rfl rfl
  have hline (u : State) (a n : Nat) : SameHost u (u.freeLine a n) := .of_eq rfl rfl
  have hdropped : SameHost freed dropped := .foldl (fun u y => .ite (hline u _ _) (.refl u)) _ _
  have hstatus (u : State) : SameHost u (u.bceStatus b 6 0 false) := .of_eq rfl rfl
  refine .ite hfreed (.trans ?_ (State.sameHost_ev _ _ _ _))
  exact hfreed.trans (hdropped.trans ((State.sameHost_masterReset dropped 19 _).trans (hstatus _)))

theorem State.sameHost_abandonLoad (s : State) : SameHost s s.abandonLoad := by
  unfold State.abandonLoad
  split
  · refine .trans ?_ (State.sameHost_ev _ _ _ _)
    exact .of_eq rfl rfl
  · exact .refl s

theorem State.sameHost_setDevMaint (s : State) (on : Bool) : SameHost s (s.setDevMaint on) := by
  unfold State.setDevMaint
  refine .ite (.refl s) (.trans ?_ (State.sameHost_ev _ _ _ _))
  exact .of_eq rfl rfl

/-- A change that keeps a function's queues keeps them all. -/
theorem State.updFunc_sameQueues (s : State) (f : Nat) {g : Func → Func} (hg : ∀ y : Func, y.SameQueues (g y)) :
    s.SameQueues (s.updFunc f g) := fun k => by
  by_cases hk : k = f
  · rw [hk, State.func_updFunc_same]
    exact hg _
  · rw [State.func_updFunc_other _ _ hk]
    exact .refl _

theorem State.sameHost_maintStep (s : State) (f : Nat) {g : Func → Func} (hg : ∀ y : Func, y.SameQueues (g y)) :
    SameHost s (s.maintStep f g) := by
  have hput : SameHost s (s.updFunc f g) := ⟨s.updFunc_sameQueues f hg, rfl⟩
  unfold State.maintStep
  exact .ite hput (hput.trans (State.sameHost_ev _ _ _ _))

/-- R141: the end of a function's maintenance commands. -/
theorem State.sameHost_endMaint (s : State) (f : Nat) : SameHost s (s.endMaint f) := by
  unfold State.endMaint
  extract_lets ended
  have hfilter (u : State) (t : Nat) := u.sameHost_maintStep t
    (g := fun y => { y with maintBy := y.maintBy.filter (· != f) }) (fun y => ⟨rfl, rfl, rfl⟩)
  have hended : SameHost s ended := .foldl hfilter _ _
  refine .ite (.trans ?_ (State.sameHost_setDevMaint _ _)) hended
  exact hended.trans (.of_eq rfl rfl)

/-! ### Function-level reset (R139, R140) -/

/-- A reset puts the function's own record anew, with its queues disabled; what else it does keeps every function's queues. -/
theorem State.flrOne_parts (s : State) (f : Nat) : ∃ (u v : State) (running : Nat) (y : Func), SameHost s u ∧
    y.sqs = Tab.set [] 8 { running } ∧ y.evq.en = false ∧ v.funcs = u.funcs.set f y ∧ v.pcie = u.pcie ∧
    SameHost v (s.flrOne f) := by
  unfold State.flrOne
  extract_lets withdrawn gs origins loads was y _ put sluices bces released told
  have horigins : SameHost s origins := .of_eq rfl rfl
  have hloads : SameHost s loads := .ite (horigins.trans (State.sameHost_abandonLoad _)) horigins
  have hsluices : SameHost put sluices := .foldl State.sameHost_sluiceDisable _ _
  have hbces : SameHost sluices bces := .foldl (fun u b => .ite (u.sameHost_bceDrop b 0) (.refl u)) _ _
  have hreleased : SameHost bces released := (State.sameHost_masterReset bces 20 _).trans (State.sameHost_endMaint _ f)
  have htold : SameHost released told := .ite (.refl _) (State.sameHost_ev _ _ _ _)
  exact ⟨loads, put, _, y, hloads, rfl, rfl, rfl, rfl,
    hsluices.trans (hbces.trans (hreleased.trans (htold.trans (State.sameHost_ev _ _ _ _))))⟩

theorem State.flrOne_pcie (s : State) (f : Nat) : (s.flrOne f).pcie = s.pcie := by
  obtain ⟨u, v, -, -, hbefore, -, -, -, hpcie, hafter⟩ := s.flrOne_parts f
  rw [hafter.pcie, hpcie, hbefore.pcie]

/-- The queues of function `f` are disabled. -/
def State.QueuesOff (s : State) (f : Nat) : Prop := (∀ q < 8, (s.sqOf f q).en = false) ∧ (s.func f).evq.en = false

theorem State.flrOne_queuesOff (s : State) (f : Nat) : (s.flrOne f).QueuesOff f := by
  obtain ⟨u, v, running, y, -, hsqs, hen, hfuncs, -, hafter⟩ := s.flrOne_parts f
  have hfunc : v.func f = y := by rw [State.func, hfuncs, Tab.get_set_same]
  refine ⟨fun q hq => ?_, ?_⟩
  · rw [hafter.queues.sqOf, State.sqOf, hfunc, hsqs, Tab.get_set_other _ _ (Nat.ne_of_lt hq)]
    rfl
  · rw [(hafter.queues f).en, hfunc, hen]

/-- The reset of another function leaves the queues of `f` disabled. -/
theorem State.flrOne_keeps_queuesOff {s : State} {f k : Nat} (h : s.QueuesOff f) (hk : f ≠ k) : (s.flrOne k).QueuesOff f := by
  obtain ⟨u, v, _, y, hbefore, -, -, hfuncs, -, hafter⟩ := s.flrOne_parts k
  have hfunc : v.func f = u.func f := by rw [State.func, hfuncs, Tab.get_set_other _ _ hk, State.func]
  have hsame : (s.func f).SameQueues ((s.flrOne k).func f) := (hbefore.queues f).trans (hfunc ▸ hafter.queues f)
  obtain ⟨hsqs, hevq⟩ := h
  refine ⟨fun q hq => ?_, hsame.en.trans hevq⟩
  rw [State.sqOf, hsame.sqs]
  exact hsqs q hq

/-- The reset of the VFs that go leaves the queues of PF0 disabled. -/
theorem State.foldl_flrOne_queuesOff {l : List Nat} (hl : ∀ v ∈ l, 0 ≠ v) {s : State} (h : s.QueuesOff 0) :
    (l.foldl State.flrOne s).QueuesOff 0 := by
  induction l generalizing s with
  | nil => exact h
  | cons v l ih =>
    exact ih (fun k hk => hl k (List.mem_cons_of_mem v hk)) (State.flrOne_keeps_queuesOff h (hl v List.mem_cons_self))

theorem State.QueuesOff.of_same {s t : State} {f : Nat} (h : s.QueuesOff f) (hst : s.SameQueues t) : t.QueuesOff f := by
  obtain ⟨hsqs, hevq⟩ := h
  refine ⟨fun q hq => ?_, (hst f).en.trans hevq⟩
  rw [hst.sqOf]
  exact hsqs q hq

theorem State.setVfs_queuesOff {s : State} (h : s.QueuesOff 0) (n : Nat) : (s.setVfs n).QueuesOff 0 := by
  unfold State.setVfs
  split
  · exact h
  · refine (State.foldl_flrOne_queuesOff (fun v hv => ?_) ?_).of_same (State.ev_sameQueues _ _ _ _)
    · have hv := (List.mem_filter.mp hv).2
      simp only [decide_eq_true_eq] at hv
      omega
    · exact h.of_same (.of_funcs rfl)

theorem State.flr_queuesOff (s : State) (f : Nat) : (s.flr f).QueuesOff f := by
  unfold State.flr
  dsimp only
  split
  next h =>
    rw [eq_of_beq h]
    exact State.setVfs_queuesOff (s.flrOne_queuesOff 0) 0
  next => exact s.flrOne_queuesOff f

/-- What a reset of functions may touch. -/
def flrScope : Scope :=
  { img := true, mem := true, regs := true, out := true, weir := true, host := true, courses := true, memsys := true, dma := true
    pair := true }

theorem State.keeps_flr_parts (s : State) (f : Nat) : Keeps flrScope s (s.flr f) :=
  keeps_flr s f (Keeps.refl s) rfl rfl rfl rfl rfl rfl rfl rfl rfl rfl

theorem State.keeps_setVfs_parts (s : State) (n : Nat) : Keeps flrScope s (s.setVfs n) :=
  keeps_setVfs s n (Keeps.refl s) rfl rfl rfl rfl rfl rfl rfl rfl rfl rfl

/-- A change of NumVFs leaves the rest of the link. -/
theorem State.setVfs_pcie (s : State) (n : Nat) : (s.setVfs n).pcie = { s.pcie with numVfs := n } := by
  unfold State.setVfs
  split
  next h => rw [← eq_of_beq h]
  next => exact State.foldl_congr State.pcie State.flrOne_pcie _ { s with pcie := { s.pcie with numVfs := n } }

/-! ### Power states (R113) -/

/-- A function that holds nothing returns to D0 and posts nothing. -/
theorem State.wake_nothing_held {s : State} {f : Nat} (hevents : (s.func f).heldEvents = []) (hdone : (s.func f).heldDone = []) :
    s.wake f = { s with funcs := s.funcs.set f { s.func f with d3hot := false, heldEvents := [], heldDone := [] } } := by
  unfold State.wake
  dsimp only
  rw [hevents, hdone]
  rfl

/-- Settles O26: a reset by the queues of its function, the others by the part of the state that they set. -/
theorem functionsResetAndTheLinkMoves : Obligations.FunctionsResetAndTheLinkMoves := by
  unfold Obligations.FunctionsResetAndTheLinkMoves
  intro s f n rate width
  refine ⟨fun hf => ?reset, ?vfs, fun hdown hperst => ?up, fun hup => ?down, fun hf => ⟨?sleep, fun hd3 hevents hdone => ?wake⟩⟩
  case reset =>
    obtain ⟨hsqs, hevq⟩ := s.flr_queuesOff f
    have hkeeps := s.keeps_flr_parts f
    exact ⟨s.flr f, congrArg Host.Outcome.next (if_pos hf), hsqs, hevq, hkeeps.st_eq rfl, hkeeps.now_eq rfl, hkeeps.retired_eq rfl⟩
  case vfs =>
    have hkeeps := s.keeps_setVfs_parts (min n 63)
    exact ⟨_, rfl, s.setVfs_pcie _, hkeeps.st_eq rfl, hkeeps.now_eq rfl⟩
  case up => exact congrArg Host.Outcome.next (if_neg (by simp [hdown, hperst]))
  case down => exact congrArg Host.Outcome.next (if_pos hup)
  case sleep =>
    refine ⟨s.updFunc f (fun y => { y with d3hot := true }), congrArg Host.Outcome.next (if_neg (Nat.not_le.mpr hf)),
      State.func_updFunc_same _ _ _, fun g hg => State.func_updFunc_other _ _ hg, rfl⟩
  case wake =>
    have hexec : exec (.functionPowerState f false) s = .next (s.wake f) :=
      congrArg Host.Outcome.next ((if_neg (Nat.not_le.mpr hf)).trans (if_pos hd3))
    refine ⟨_, hexec.trans (congrArg Host.Outcome.next (State.wake_nothing_held hevents hdone)), ?_, rfl⟩
    rw [State.func, Tab.get_set_same, ← hevents, ← hdone]

end Sys2Proof.Machine
end

section
/-! PROOFS. HostRegisters: register accesses through BAR0 and BAR2, and the SMBus target (O27). -/

namespace Sys2Proof.Machine

/-! ### BAR0 (R115 to R117) -/

theorem State.barWrite_reg {s : State} {f off a : Nat} (h : s.bar0At f off = .reg a) (w : Word) :
    s.barWrite f 0 off 4 w = s.writeReg f a w := by
  unfold State.barWrite
  simp only [beq_self_eq_true, if_true, h]

theorem State.barRead_reg {s : State} {f off a : Nat} (h : s.bar0At f off = .reg a) :
    s.barRead f 0 off 4 = (s.readReg a).2.answer (s.readReg a).1 := by
  unfold State.barRead
  simp only [beq_self_eq_true, if_true, h]

/-- An access of another size goes nowhere, as one to an unmapped offset does. -/
theorem State.bar0_unmapped {s : State} {f off len : Nat} (h : len = 4 → s.bar0At f off = .unmapped) :
    (if len == 4 then s.bar0At f off else RegAt.unmapped) = .unmapped := by
  split
  next hlen => exact h (eq_of_beq hlen)
  next => rfl

theorem State.barWrite_unmapped {s : State} {f off len : Nat} (h : len = 4 → s.bar0At f off = .unmapped) (w : Word) :
    s.barWrite f 0 off len w = s.decodeError 20 (some f) true (barAddr f 0 off) := by
  unfold State.barWrite
  rw [State.bar0_unmapped h]
  rfl

theorem State.barRead_unmapped {s : State} {f off len : Nat} (h : len = 4 → s.bar0At f off = .unmapped) :
    s.barRead f 0 off len = (s.decodeError 20 (some f) false (barAddr f 0 off)).answer 0 := by
  unfold State.barRead
  rw [State.bar0_unmapped h]
  rfl

/-! ### The doorbells of BAR2 (R120) -/

theorem State.bar2Write_sqTail {o : Nat} (hlow : o < 0x8000) (hplace : o % 0x1000 = 0) (s : State) (f : Nat) (w : Word) :
    s.bar2Write f o true w = s.sqTail f (o / 0x1000) w.toNat true :=
  if_pos ⟨hlow, by rw [hplace]; rfl⟩

theorem State.bar2Write_cqHead {o : Nat} (hlow : o < 0x8000) (hplace : o % 0x1000 = 0x800) (s : State) (f : Nat) (w : Word) :
    s.bar2Write f o true w = s.cqHead f (o / 0x1000) w.toNat true :=
  (if_neg (by simp [hplace])).trans (if_pos ⟨hlow, by rw [hplace]; rfl⟩)

theorem exec_registerWrite_bar2 (s : State) (f o : Nat) (w : Word) :
    exec (.registerWrite f 2 o 4 w) s = .next (s.bar2Write f o true w) := rfl

theorem exec_registerWrite_sqTail (s : State) (f : Nat) {q : Nat} (hq : q < 8) (w : Word) :
    exec (.registerWrite f 2 (0x1000 * q) 4 w) s = exec (.sqTailDoorbell f q w.toNat true) s := by
  have hnumber : 0x1000 * q / 0x1000 = q := Nat.mul_div_cancel_left q (by decide)
  rw [exec_registerWrite_bar2, State.bar2Write_sqTail (by omega) (Nat.mul_mod_right _ _), hnumber]
  rfl

theorem exec_registerWrite_cqHead (s : State) (f : Nat) {q : Nat} (hq : q < 8) (w : Word) :
    exec (.registerWrite f 2 (0x1000 * q + 0x800) 4 w) s = exec (.cqHeadDoorbell f q w.toNat true) s := by
  have hnumber : (0x1000 * q + 0x800) / 0x1000 = q := by omega
  rw [exec_registerWrite_bar2, State.bar2Write_cqHead (by omega) (by omega), hnumber]
  rfl

/-! ### SMBus (R465) -/

theorem exec_smbusCommand_answers {s : State} {off : Nat} (hout : s.boot.inReset = false) (hloaded : s.boot.stage ≠ 0)
    (hup : s.boot.stage ≠ 15) (hoff : smbusOffsets.contains off = true) :
    exec (.smbusCommand off) s = .next (s.emit (.smbus (some (BitVec.ofNat 32 (s.view off))))) := by
  change execSmbusCommand off s = _
  unfold execSmbusCommand
  rw [if_neg (by simp [hout, hloaded, hup]), if_pos hoff]

theorem exec_smbusCommand_inReset {s : State} {off : Nat} (hin : s.boot.inReset = true) :
    exec (.smbusCommand off) s = .next (s.emit (.smbus none)) := by
  change execSmbusCommand off s = _
  unfold execSmbusCommand
  rw [if_pos (by simp [hin])]

/-- Settles O27: an access by where its offset leads. -/
theorem registerAccessesReachTheirRegister : Obligations.RegisterAccessesReachTheirRegister := by
  unfold Obligations.RegisterAccessesReachTheirRegister
  intro s f off len a w
  refine ⟨fun hreg => ⟨?write, ?read⟩, fun hnone => ⟨?writeNothing, ?readNothing⟩, exec_smbusCommand_answers,
    exec_smbusCommand_inReset, fun q hq _ => ⟨?tail, ?head, _, rfl⟩⟩
  case write => exact congrArg Host.Outcome.next (State.barWrite_reg hreg w)
  case read => exact congrArg Host.Outcome.next (State.barRead_reg hreg)
  case writeNothing => exact congrArg Host.Outcome.next (State.barWrite_unmapped hnone w)
  case readNothing => exact congrArg Host.Outcome.next (State.barRead_unmapped hnone)
  case tail => exact exec_registerWrite_sqTail s f hq w
  case head => exact exec_registerWrite_cqHead s f hq w

end Sys2Proof.Machine
end

section
/-! PROOFS. HostRings: exception rings, chunk rings and caption rings (O29, O39). -/

namespace Sys2Proof.Machine

/-! ### What a scope leaves of the inputs, the emission rings and the chunk rings -/

namespace Keeps

variable {sc : Scope} {s t : State}

theorem inl_eq (h : Keeps sc s t) (hcourses : sc.courses = false) : t.inl = s.inl :=
  congrArg (·.2.2.2.1) (h.frame.courses hcourses)

theorem rings_eq (h : Keeps sc s t) (hemit : sc.emit = false) : t.rings = s.rings := congrArg (·.1) (h.frame.emit hemit)

end Keeps

/-! ### Exception rings (R119, R120, R162, R163) -/

theorem exec_excRxTailDoorbell_moves {s : State} {f v : Nat} (hen : (s.inl.rx.get f).en = true)
    (hok : tailOk (s.inl.rx.get f).size (s.inl.rx.get f).head (s.inl.rx.get f).tail v = true) :
    exec (.excRxTailDoorbell f v) s = .next (s.updInl (fun n => { n with rx := n.rx.set f ((s.inl.rx.get f).post v) })) :=
  congrArg Host.Outcome.next (if_pos (by rw [hen, hok, Bool.and_self]))

theorem exec_excTxTailDoorbell_moves {s : State} {f v : Nat} (hen : (s.inl.tx.get f).en = true)
    (hok : tailOk (s.inl.tx.get f).size (s.inl.tx.get f).head (s.inl.tx.get f).tail v = true) :
    exec (.excTxTailDoorbell f v) s = .next (s.updInl (fun n => { n with tx := n.tx.set f ((s.inl.tx.get f).post v) })) :=
  congrArg Host.Outcome.next (if_pos (by rw [hen, hok, Bool.and_self]))

theorem exec_excRxTailDoorbell_off {s : State} {f : Nat} (hoff : (s.inl.rx.get f).en = false) (v : Nat) :
    exec (.excRxTailDoorbell f v) s = .next (s.doorbellInvalid f 0xE000 v) :=
  congrArg Host.Outcome.next (if_neg (by simp [hoff]))

theorem exec_excTxTailDoorbell_off {s : State} {f : Nat} (hoff : (s.inl.tx.get f).en = false) (v : Nat) :
    exec (.excTxTailDoorbell f v) s = .next (s.doorbellInvalid f 0xE800 v) :=
  congrArg Host.Outcome.next (if_neg (by simp [hoff]))

/-- The transmit ring of `f`, found as `r`, has its head descriptor completed as `b` at its base (R163). -/
def State.excTxAdvance (s : State) (f base : Nat) (r : ExcRing) (b : Bytes) : State :=
  ((s.hostWr f (base + 32 * r.head) b).updInl (fun n => { n with
    tx := n.tx.set f { r with head := (r.head + 1) % r.size, armed := false } })).irq f r.vector (r.irqEn && r.armed)

theorem State.excTxAdvance_head (s : State) (f base : Nat) (r : ExcRing) (b : Bytes) :
    ((s.excTxAdvance f base r b).inl.tx.get f).head = (r.head + 1) % r.size := by
  have hirq (u : State) : (u.irq f r.vector (r.irqEn && r.armed)).inl = u.inl :=
    (keeps_irq (sc := { out := true }) u _ _ _ (Keeps.refl u) rfl).inl_eq rfl
  rw [State.excTxAdvance, hirq]
  exact congrArg ExcRing.head (Tab.get_set_same _ _ _)

theorem State.keeps_excTxAdvance (s : State) (f base : Nat) (r : ExcRing) (b : Bytes) :
    Keeps { out := true, courses := true } s (s.excTxAdvance f base r b) :=
  keeps_irq _ _ _ _ (keeps_updInl _ _ (keeps_hostWr _ _ _ _ (Keeps.refl s) rfl) rfl) rfl

section Send

variable {s : State} {f : Nat} {desc : Bytes} (hen : (s.inl.tx.get f).en = true)
  (hposted : (s.inl.tx.get f).head ≠ (s.inl.tx.get f).tail)

include hen hposted

/-- R163: a descriptor that breaks the rules is completed and reported. -/
theorem exec_excTxSend_refused (hbad : s.excTxOk f desc = false) (frame : Bytes) :
    exec (.excTxSend f desc frame) s = .next ((s.excTxAdvance f (s.rd64 (funcReg f 0x410)) (s.inl.tx.get f)
      (txDescBytes desc none)).ev 0x070D (0x5100 + f) (s.inl.tx.get f).head) :=
  congrArg Host.Outcome.next ((if_neg (by simp [hen, hposted])).trans (if_pos (by simp [hbad])))

/-- R163: one that obeys them is sent from the cycle that its port allows, and completed. -/
theorem exec_excTxSend_sends (hok : s.excTxOk f desc = true) (frame : Bytes) :
    ∃ (u : State) (b : Bytes), Keeps { time := true, regs := true, out := true, courses := true, emit := true }
        (s.runTo (max (s.inl.txFree.get (u8 desc 10)) (s.outf.ports.get (u8 desc 10)).free)) u ∧
      exec (.excTxSend f desc frame) s = .next (u.excTxAdvance f (s.rd64 (funcReg f 0x410)) (s.inl.tx.get f) b) := by
  change ∃ u b, _ ∧ execExcTxSend f desc frame s = _
  unfold execExcTxSend
  extract_lets r base port adv due t want bytes spacing spaced sent stamped
  have hspaced : Keeps { time := true, regs := true, out := true, courses := true, emit := true } due spaced :=
    keeps_updInl _ _ (Keeps.refl due) rfl
  have hsent : Keeps { time := true, regs := true, out := true, courses := true, emit := true } due sent :=
    keeps_ite (keeps_occupy _ _ _ _ (keeps_emit _ _ hspaced rfl) rfl) hspaced
  have hstamped : Keeps { time := true, regs := true, out := true, courses := true, emit := true } due stamped :=
    keeps_ite (keeps_captureTx _ _ _ hsent rfl rfl rfl) hsent
  exact ⟨stamped, _, hstamped, congrArg Host.Outcome.next ((if_neg (by simp [r, hen, hposted])).trans (if_neg (by simp [hok])))⟩

end Send

/-! ### Membership (R164) -/

/-- The second report leaves the port of its flow once it is due. -/
theorem exec_membershipReportTimer_reports {s : State} {i due : Nat} (hdue : s.inl.reports.find i = some due)
    (hfw : s.fwMembership = true) :
    exec (.membershipReportTimer i) s = .next (((s.runTo due).updInl (fun n => { n with reports := n.reports.del i })).membership
      false (s.st.inflows.get i)) := by
  change execMembershipReportTimer i s = _
  unfold execMembershipReportTimer
  simp only [hdue]
  exact congrArg Host.Outcome.next (if_pos hfw)

/-- Settles O29: the rings' words and doorbells, the descriptor by its rules, the report by its timer. -/
theorem exceptionRingsSendAndReceive : Obligations.ExceptionRingsSendAndReceive := by
  unfold Obligations.ExceptionRingsSendAndReceive
  intro s f v i w desc frame
  refine ⟨rfl, rfl, exec_excRxTailDoorbell_moves, exec_excTxTailDoorbell_moves,
    fun ⟨htx, hrx⟩ => ⟨exec_excTxTailDoorbell_off htx v, exec_excRxTailDoorbell_off hrx v⟩,
    fun hen hposted => ⟨fun hbad => ?refused, fun hok => ?sent⟩, fun due hdue hfw => ?report⟩
  case refused =>
    have hadvance := s.keeps_excTxAdvance f (s.rd64 (funcReg f 0x410)) (s.inl.tx.get f) (txDescBytes desc none)
    exact ⟨_, exec_excTxSend_refused hen hposted hbad frame, hadvance.now_eq rfl, hadvance.mem_eq rfl,
      State.excTxAdvance_head _ _ _ _ _⟩
  case sent =>
    obtain ⟨u, b, hsends, hexec⟩ := exec_excTxSend_sends hen hposted hok frame
    have hadvance := u.keeps_excTxAdvance f (s.rd64 (funcReg f 0x410)) (s.inl.tx.get f) b
    refine ⟨_, hexec, (hadvance.mem_eq rfl).trans (hsends.mem_eq rfl), (hadvance.st_eq rfl).trans (hsends.st_eq rfl), ?_,
      State.excTxAdvance_head _ _ _ _ _⟩
    rw [hadvance.now_eq rfl, hsends.now_eq rfl, State.runTo_now]
  case report => exact ⟨_, exec_membershipReportTimer_reports hdue hfw, rfl, s.runTo_now due, rfl, rfl⟩

/-! ### Chunk rings (R280, R298, R299, R391) -/

@[simp] theorem State.chunk_setChunk_same (s : State) (r : Nat) (x : HostRing) : (s.setChunk r x).chunk r = x :=
  Tab.get_set_same _ _ _

@[simp] theorem State.ring_setRing_same (s : State) (r : Nat) (x : Ring) : (s.setRing r x).ring r = x := Tab.get_set_same _ _ _

theorem State.ring_congr {s t : State} (h : t.rings = s.rings) (r : Nat) : t.ring r = s.ring r := congrArg (·.get r) h

@[simp] theorem State.ring_setChunk (s : State) (q : Nat) (x : HostRing) (r : Nat) : (s.setChunk q x).ring r = s.ring r := rfl

/-- Whether the device is a standby is told by its role. -/
theorem State.standby_congr {s t : State} (h : t.pair = s.pair) : t.standby = s.standby := by
  rw [State.standby, h, State.standby]

theorem State.standby_cycles_setRing (s : State) (n r : Nat) (x : Ring) : ((s.cycles n).setRing r x).standby = s.standby :=
  State.standby_congr ((State.setRing_pair (s.cycles n) r x).trans (s.cycles_pair n))

/-- A ring whose entries of number `n` are told. -/
def Ring.tell (x : Ring) (n : Nat) : Ring :=
  { x with entries := x.entries.map (fun y => if y.seq == n then { y with told := true } else y) }

theorem Ring.told_of_mem_tell {x : Ring} {n : Nat} {y : Entry} (hy : y ∈ (x.tell n).entries) (hseq : y.seq = n) :
    y.told = true := by
  obtain ⟨z, -, rfl⟩ := List.mem_map.mp hy
  split at hseq
  next h => rw [if_pos h]
  next h => exact absurd (beq_iff_eq.mpr hseq) h

/-- An entry is told at its release, by a record where the ring has space. -/
theorem exec_chunkRecordWrite_tells {s : State} {r : Nat} {e : Entry} (hen : (s.chunk r).en = true)
    (hentry : (s.ring r).entries.find? (fun e => e.format == 3 && !e.told) = some e) (hactive : s.standby = false)
    (hspace : ((s.chunk r).tail + 1) % 2 ^ (s.chunk r).sizeLog2 ≠ (s.chunk r).head) :
    ∃ (u : State) (phase : Bool),
      Keeps { out := true } ((s.cycles (s.cyclesTo e.release)).setRing r (((s.cycles (s.cyclesTo e.release)).ring r).tell e.seq)) u ∧
      exec (.chunkRecordWrite r) s = .next (u.setChunk r { s.chunk r with
        tail := ((s.chunk r).tail + 1) % 2 ^ (s.chunk r).sizeLog2, phase := phase, armed := false }) := by
  change ∃ u phase, _ ∧ execChunkRecordWrite r s = _
  unfold execChunkRecordWrite
  simp only [hen, hentry, State.standby_cycles_setRing, hactive, Bool.false_eq_true, if_false]
  rw [if_neg (by simpa using hspace)]
  exact ⟨_, _, keeps_irq _ _ _ _ (keeps_hostWr _ _ _ _ (Keeps.refl _) rfl) rfl, rfl⟩

section Chunk

variable {s : State} {c k : Nat} {q : RendRec} (hq : (s.st.rendsOf c)[k]? = some q)

include hq

theorem exec_chunkHeadWrite_releases (w : Word) :
    exec (.chunkHeadWrite c k w) s = .next (s.setChunk q.rendition { s.chunk q.rendition with
      head := w.toNat % 2 ^ max 1 (s.chunk q.rendition).sizeLog2, armed := true }) := by
  obtain ⟨hk, -⟩ := List.getElem?_eq_some_iff.mp hq
  change Host.Outcome.next (s.chunkHead c k w) = _
  unfold State.chunkHead
  rw [if_neg (Nat.not_le.mpr hk), hq]
  rfl

/-- R298: the ring starts empty where its base, its size and its rendition allow it. -/
theorem exec_chunkRingEnable_enables {w : Word} (hoff : (s.chunk q.rendition).en = false) (hw : bit w.toNat 31 = true)
    (hbase : s.rd64 (erReg c k 0x18) % 4096 = 0) (hmin : 4 ≤ bits w.toNat 4 0) (hmax : bits w.toNat 4 0 ≤ 12)
    (hchunks : bit q.payload 3 = true) :
    exec (.chunkRingEnable c k w) s = .next (s.setChunk q.rendition
      { s.chunk q.rendition with en := true, vector := bits w.toNat 20 16, irqEn := bit w.toNat 8, sizeLog2 := bits w.toNat 4 0,
                                 head := 0, tail := 0, phase := true, armed := true }) := by
  obtain ⟨hk, -⟩ := List.getElem?_eq_some_iff.mp hq
  change Host.Outcome.next (s.chunkCfg c k w) = _
  unfold State.chunkCfg
  rw [if_neg (Nat.not_le.mpr hk), hq]
  simp [hoff, hw, hbase, hmin, hmax, hchunks]

/-- A clear of EN disables the ring. -/
theorem exec_chunkRingEnable_disables {w : Word} (hw : bit w.toNat 31 = false) :
    ∃ x : HostRing, exec (.chunkRingEnable c k w) s = .next (s.setChunk q.rendition x) ∧ x.en = false := by
  obtain ⟨hk, -⟩ := List.getElem?_eq_some_iff.mp hq
  change ∃ x : HostRing, Host.Outcome.next (s.chunkCfg c k w) = _ ∧ _
  unfold State.chunkCfg
  rw [if_neg (Nat.not_le.mpr hk), hq]
  simp only [hw, Bool.false_and, Bool.false_eq_true, if_false]
  exact ⟨_, rfl, rfl⟩

end Chunk

/-! ### Caption rings (R291) -/

/-- A caption ring that may be placed where its base says takes its size and starts empty. -/
theorem exec_captionRingEnable_enables {s : State} {c : Nat} {w : Word} {g : RegionRec}
    (hoff : bit (s.rdn (capReg c 0x08)) 31 = false) (hw : bit w.toNat 31 = true) (hbase : s.rd64 (capReg c 0x00) % 16 = 0)
    (hmin : 12 ≤ bits w.toNat 4 0) (hmax : bits w.toNat 4 0 ≤ 20) (hregion : s.st.regionAt (s.rd64 (capReg c 0x00)) = some g)
    (hwriter : bit g.writers (s.st.courseOwner c) = true)
    (hfits : s.rd64 (capReg c 0x00) + 2 ^ bits w.toNat 4 0 ≤ g.base + g.size) :
    exec (.captionRingEnable c w) s =
      .next ((s.wrn (capReg c 0x08) (2 ^ 31 + bits w.toNat 4 0)).wrn (capReg c 0x10) 0) := by
  change Host.Outcome.next (s.captionCfg c w) = _
  unfold State.captionCfg
  simp [hoff, hw, hbase, hmin, hmax, hregion, hwriter, hfits, bnat]

/-- Settles O39: the record told at its release, the head, and the two enables. -/
theorem chunkAndCaptionRings : Obligations.ChunkAndCaptionRings := by
  unfold Obligations.ChunkAndCaptionRings
  intro s c k r w
  refine ⟨fun e hen hentry hactive hspace => ?record,
    fun q hq => ⟨exec_chunkHeadWrite_releases hq w, exec_chunkRingEnable_enables hq, fun hw => ?disable⟩,
    fun g hoff hw hbase hmin hmax hregion hwriter hfits => ?captions⟩
  case record =>
    obtain ⟨u, phase, hkeeps, hexec⟩ := exec_chunkRecordWrite_tells hen hentry hactive hspace
    refine ⟨_, hexec, ?_, ?_, ?_, ?_, fun y hy hseq => ?_⟩
    · rw [State.chunk_setChunk_same]
    · rw [State.chunk_setChunk_same]
    · rw [State.setChunk_now, hkeeps.now_eq rfl, State.setRing_now]; rfl
    · rw [State.setChunk_mem, hkeeps.mem_eq rfl, State.setRing_mem, State.cycles_mem]
    · rw [State.ring_setChunk, State.ring_congr (hkeeps.rings_eq rfl), State.ring_setRing_same] at hy
      exact Ring.told_of_mem_tell hy hseq
  case disable =>
    obtain ⟨x, hexec, hdisabled⟩ := exec_chunkRingEnable_disables hq hw
    exact ⟨_, hexec, (congrArg HostRing.en (State.chunk_setChunk_same _ _ _)).trans hdisabled, rfl⟩
  case captions =>
    have hne : capReg c 0x08 ≠ capReg c 0x10 := by unfold capReg crsReg; omega
    have hsize : bits w.toNat 4 0 < 2 ^ 31 := lt_of_le_of_lt hmax (by decide)
    refine ⟨_, exec_captionRingEnable_enables hoff hw hbase hmin hmax hregion hwriter hfits, ?_, State.rdn_wrn_same _ _ _, rfl,
      fun a hcfg hhead => ?_⟩
    · rw [State.rdn_wrn_other _ _ hne, State.rdn_wrn_same, Nat.mod_eq_of_lt (by omega)]
    · rw [State.rd_wrn_other _ _ hhead, State.rd_wrn_other _ _ hcfg]

end Sys2Proof.Machine
end

section
/-! PROOFS. InletPorts: what a port's filters drop, its link, and the loss of a merge leg (O28). -/

namespace Sys2Proof.Machine

/-! ### The filters of a port (R144, R147) -/

theorem exec_frameReceived_portDown {s : State} {n : Nat} (hdown : s.portLive n = false) (x : RxFrame) (desc : Bytes) :
    exec (.frameReceived n x desc) s = .next s :=
  congrArg Host.Outcome.next (if_pos (by rw [hdown]; rfl))

/-- R147: a frame whose IPv4 header checksum fails goes no further than the count of its port. -/
theorem State.frameAccepted_badSum (s : State) (n : Nat) {p : Pkt} (hsum : p.badSum = true) (frame desc : Bytes) :
    s.frameAccepted n p frame desc = s :=
  if_pos hsum

/-- The state behind the FEC counters of port `n`, which count frame `x` before any filter. -/
def State.countFec (s : State) (n : Nat) (x : RxFrame) : State :=
  (s.inc (inlPort n 0x2C) x.fecCorr).inc (inlPort n 0x30) x.fecUncorr

theorem frameLength_within {len : Nat} (hmin : 60 ≤ len) (hmax : len ≤ 9212) :
    ¬ (decide (len + 4 < 64) || decide (9216 < len + 4)) = true := by
  simp only [Bool.or_eq_true, decide_eq_true_eq]
  omega

section LivePort

variable {s : State} {n : Nat} {x : RxFrame} (hlive : s.portLive n = true)

include hlive

theorem exec_frameReceived_badLength (hlen : x.bytes.length < 60 ∨ 9212 < x.bytes.length) (desc : Bytes) :
    exec (.frameReceived n x desc) s = .next ((s.countFec n x).inc (inlPort n 0x1C) 1) := by
  have hbad : (decide (x.bytes.length + 4 < 64) || decide (9216 < x.bytes.length + 4)) = true := by
    simp only [Bool.or_eq_true, decide_eq_true_eq]
    omega
  exact congrArg Host.Outcome.next ((if_neg (by simp [hlive])).trans (if_pos hbad))

variable (hmin : 60 ≤ x.bytes.length) (hmax : x.bytes.length ≤ 9212)

include hmin hmax

theorem exec_frameReceived_badFcs (hfcs : x.fcsOk = false) (desc : Bytes) :
    exec (.frameReceived n x desc) s = .next ((s.countFec n x).inc (inlPort n 0x18) 1) :=
  congrArg Host.Outcome.next ((if_neg (by simp [hlive])).trans ((if_neg (frameLength_within hmin hmax)).trans
    (if_pos (by simp [hfcs]))))

variable (hfcs : x.fcsOk = true)

include hfcs

theorem exec_frameReceived_pause (hpause : (readFrame x.bytes).pause = true) (desc : Bytes) :
    exec (.frameReceived n x desc) s = .next ((s.countFec n x).inc (inlPort n 0x20) 1) :=
  congrArg Host.Outcome.next ((if_neg (by simp [hlive])).trans ((if_neg (frameLength_within hmin hmax)).trans
    ((if_neg (by simp [hfcs])).trans (if_pos hpause))))

/-- A group address passes every filter of R144 without regard to the address of the port. -/
theorem exec_frameReceived_group (hpause : (readFrame x.bytes).pause = false) (htags : (readFrame x.bytes).tags < 2)
    (hgroup : bit (readFrame x.bytes).dstMac 40 = true) (desc : Bytes) :
    exec (.frameReceived n x desc) s =
      .next (((s.countFec n x).inc64 (inlPort n 0x10) 1).frameAccepted n (readFrame x.bytes) x.bytes desc).pace :=
  congrArg Host.Outcome.next ((if_neg (by simp [hlive])).trans ((if_neg (frameLength_within hmin hmax)).trans
    ((if_neg (by simp [hfcs])).trans ((if_neg (by simp [hpause])).trans ((if_neg (Nat.not_le.mpr htags)).trans
      (if_neg (by simp [hgroup])))))))

end LivePort

/-! ### The link of a port (R145, R441) and the loss of a merge leg (R156) -/

theorem exec_portUp_comesUp {s : State} {n : Nat} (hformed : s.st.portFormed n = true) (hdown : s.inl.up.contains n = false)
    (hlanes : (s.st.portLanes n).all (fun l => (s.lanes.get l).state == 3) = true) :
    exec (.portUp n) s = .next (((s.updInl (fun i => { i with up := n :: i.up })).emit (.pin (.led n) false s.now)).ev 0x0701
      (0x3200 + n) (bits (s.st.device.portCfg.getD n 0) 7 6)) :=
  congrArg Host.Outcome.next (if_pos (by rw [hformed, hdown, hlanes]; rfl))

theorem exec_portDown_goesDown {s : State} {n : Nat} (hup : s.inl.up.contains n = true) :
    exec (.portDown n) s = .next (((s.updInl (fun i => { i with up := i.up.filter (· != n) })).emit
      (.pin (.led n) true s.now)).ev 0x0702 (0x3200 + n) 0) :=
  congrArg Host.Outcome.next (if_pos hup)

/-- The leg of flow `i` is down for the first time, told at cycle `due`. -/
def State.loseLeg (s : State) (i due : Nat) : State :=
  ((s.runTo due).updInl (fun n => { n with
    flows := n.flows.set i { s.inl.flows.get i with legUp := false, wasDown := true } })).evTo (s.st.inflows.get i).owner 0x0706
      0x3000 i

theorem State.loseLeg_flow (s : State) (i due : Nat) :
    (s.loseLeg i due).inl.flows.get i = { s.inl.flows.get i with legUp := false, wasDown := true } :=
  Tab.get_set_same _ _ _

theorem State.loseLeg_now (s : State) (i due : Nat) : (s.loseLeg i due).now = max s.now due := s.runTo_now due

theorem State.loseLeg_mem (s : State) (i due : Nat) : (s.loseLeg i due).mem = s.mem := rfl

/-- R156: a leg without a frame for 100 ms, which are 150,000,000 cycles. -/
theorem exec_mergeLegTimeout_losesLeg {s : State} {i : Nat} (hflow : s.st.inflows.has i = true)
    (hleg : (s.st.inflows.get i).mergePeer ≠ 65535) (hfirst : (s.inl.flows.get i).wasDown = false) :
    exec (.mergeLegTimeout i) s = .next (s.loseLeg i ((s.inl.flows.get i).lastFrame + 150000000)) :=
  congrArg Host.Outcome.next (if_pos (by simp [hflow, hleg, hfirst]))

/-- Settles O28: a frame by the filter that drops it, the link of a port, and the first loss of a leg. -/
theorem portsFilterFramesAndMove : Obligations.PortsFilterFramesAndMove := by
  unfold Obligations.PortsFilterFramesAndMove
  intro s n i x desc
  refine ⟨fun hdown => exec_frameReceived_portDown hdown x desc, ?filters, fun hformed hdown hlanes => ?comesUp,
    fun hup => ?goesDown, fun hflow hleg hfirst => ?loss⟩
  case filters =>
    rintro hlive _ rfl
    refine ⟨fun hlen => exec_frameReceived_badLength hlive hlen desc, fun hmin hmax =>
      ⟨fun hfcs => exec_frameReceived_badFcs hlive hmin hmax hfcs desc,
        fun hfcs hpause => exec_frameReceived_pause hlive hmin hmax hfcs hpause desc,
        fun hfcs hpause htags hgroup hsum => ?badSum⟩⟩
    case badSum =>
      rw [exec_frameReceived_group hlive hmin hmax hfcs hpause htags hgroup, State.frameAccepted_badSum _ _ hsum,
        State.countFec]
  case comesUp => exact ⟨_, exec_portUp_comesUp hformed hdown hlanes, rfl, rfl, rfl⟩
  case goesDown => exact ⟨_, exec_portDown_goesDown hup, rfl, rfl⟩
  case loss =>
    exact ⟨_, exec_mergeLegTimeout_losesLeg hflow hleg hfirst, by rw [State.loseLeg_flow], by rw [State.loseLeg_flow],
      State.loseLeg_now _ _ _, State.loseLeg_mem _ _ _⟩

end Sys2Proof.Machine
end

section
/-! PROOFS. FountStreams: a stream's binding, its host write pointer, and its loss (O34). -/

namespace Sys2Proof.Machine

/-! ### Binding and the host's write pointer (R168, R171) -/

/-- A binding write that stands is staged: the written word changes, and the Weir takes it up. -/
theorem State.ftBindWrite_staged {s : State} {f c k : Nat} {w : Word}
    (hok : s.bindRefused f c k (bits w.toNat 31 30) (bits w.toNat 9 0) = false) :
    s.ftBindWrite f c k w = s.wrn (ftIn c k 0) (bits w.toNat 31 30 * 2 ^ 30 + bits w.toNat 9 0) :=
  if_neg (by rw [hok]; exact Bool.false_ne_true)

/-- A refused binding write only tells FT_BIND_REFUSED. -/
theorem State.ftBindWrite_refused {s : State} {f c k : Nat} {w : Word}
    (hrefused : s.bindRefused f c k (bits w.toNat 31 30) (bits w.toNat 9 0) = true) :
    s.ftBindWrite f c k w =
      s.evFt (s.st.inputs.get (4 * c + k)) 0x050B (bits w.toNat 31 30 * 2 ^ 30 + k * 2 ^ 24 + bits w.toNat 9 0) :=
  if_pos hrefused

theorem exec_ftBindWrite_active {s : State} (hactive : s.standby = false) (f c k : Nat) (w : Word) :
    exec (.ftBindWrite f c k w) s = .next (s.ftBindWrite f c k w) :=
  congrArg Host.Outcome.next (s.weirWrite_active f _ _ hactive)

theorem exec_ftWptrWrite_host {s : State} {c k : Nat} (hhost : (s.streams.get (4 * c + k)).bindKind = 2) (w : Word) :
    exec (.ftWptrWrite c k w) s = .next { s with
      streams := s.streams.set (4 * c + k) { s.streams.get (4 * c + k) with wptr := w.toNat, lastRec := s.now } } :=
  congrArg Host.Outcome.next (if_pos (beq_iff_eq.2 hhost))

theorem exec_ftWptrWrite_otherBinding {s : State} {c k : Nat} (hother : (s.streams.get (4 * c + k)).bindKind ≠ 2) (w : Word) :
    exec (.ftWptrWrite c k w) s = .next s :=
  congrArg Host.Outcome.next (if_neg (mt beq_iff_eq.1 hother))

/-! ### Loss of stream (R188) -/

@[simp] theorem State.stream_setStream_same (s : State) (i : InputRec) (x : FountStream) : (s.setStream i x).stream i = x :=
  Tab.get_set_same _ _ _

/-- The stream as on first use: it waits for parameter sets and holds nothing. -/
def FountStream.restarted (x : FountStream) : FountStream :=
  { x with state := 1, au := none, cur := {}, held := [], mismatchTold := false, unsTold := false, dpbTold := false }

/-- Under CLEAN_START the wait is also told, which leaves the stream as it is. -/
theorem State.streamRestart_stream (s : State) (i : InputRec) (x : FountStream) :
    (s.streamRestart i x).stream i = x.restarted := by
  unfold State.streamRestart
  split <;> exact s.stream_setStream_same i x.restarted

theorem State.streamLost_stream (s : State) (i : InputRec) (cause : Nat) :
    (s.streamLost i cause).stream i = (s.stream i).restarted :=
  State.streamRestart_stream _ _ _

/-- A loss touches the stream, and tells. -/
theorem State.streamLost_keeps (s : State) (i : InputRec) (cause : Nat) :
    Keeps { out := true, courses := true } s (s.streamLost i cause) :=
  keeps_streamLost s i cause (.refl s) rfl rfl

/-- The stream of input `i` is lost by silence, told at cycle `due`: STATE shows LOST. -/
def State.loseStream (s : State) (i : InputRec) (due : Nat) : State :=
  ((s.runTo due).streamLost i 0).setStream i { ((s.runTo due).streamLost i 0).stream i with state := 5 }

theorem State.loseStream_stream (s : State) (i : InputRec) (due : Nat) :
    (s.loseStream i due).stream i = { (s.stream i).restarted with state := 5 } := by
  rw [State.loseStream, State.stream_setStream_same, State.streamLost_stream]
  rfl

theorem State.loseStream_now (s : State) (i : InputRec) (due : Nat) : (s.loseStream i due).now = max s.now due := by
  rw [State.loseStream, State.setStream_now, (State.streamLost_keeps _ i 0).now_eq rfl, State.runTo_now]

theorem State.loseStream_mem (s : State) (i : InputRec) (due : Nat) : (s.loseStream i due).mem = s.mem := by
  rw [State.loseStream, State.setStream_mem, (State.streamLost_keeps _ i 0).mem_eq rfl, State.runTo_mem]

/-- A bound stream, in use and not lost already: 500 ms without a record, which are 750,000,000 cycles. -/
theorem exec_ftStreamLossTimeout_loses {s : State} {c k : Nat} (hbound : (s.streams.get (4 * c + k)).bindKind ≠ 0)
    (hused : (s.streams.get (4 * c + k)).state ≠ 0) (hlive : (s.streams.get (4 * c + k)).state ≠ 5) :
    exec (.ftStreamLossTimeout c k) s =
      .next (s.loseStream (s.st.inputs.get (4 * c + k)) ((s.streams.get (4 * c + k)).lastRec + 750000000)) :=
  congrArg Host.Outcome.next (if_neg (by simp [hbound, hused, hlive]))

/-- Settles O34: a binding write by whether it is refused, the pointer by the binding, and the loss by its record. -/
theorem fountStreamsAreBoundFedAndLost : Obligations.FountStreamsAreBoundFedAndLost := by
  unfold Obligations.FountStreamsAreBoundFedAndLost
  intro s f c k w hactive
  refine ⟨fun hok => ?staged, fun hrefused => ?refused, fun hhost => exec_ftWptrWrite_host hhost w,
    fun hother => exec_ftWptrWrite_otherBinding hother w, ?loss⟩
  case staged => rw [exec_ftBindWrite_active hactive, State.ftBindWrite_staged hok]
  case refused =>
    exact ⟨_, (exec_ftBindWrite_active hactive f c k w).trans (congrArg _ (State.ftBindWrite_refused hrefused)), rfl, rfl, rfl⟩
  case loss =>
    rintro i _ hi rfl hcourse hinput hbound hused hlive
    have hkey : inKey i = 4 * c + k := by rw [inKey, hcourse, hinput]
    have hexec := exec_ftStreamLossTimeout_loses hbound hused hlive
    rw [← hi] at hexec
    have hstream := s.loseStream_stream i ((s.streams.get (4 * c + k)).lastRec + 750000000)
    rw [State.stream, hkey] at hstream
    exact ⟨_, hexec, by rw [hstream], by rw [hstream]; rfl, State.loseStream_now _ _ _, State.loseStream_mem _ _ _⟩

end Sys2Proof.Machine
end

section
/-! PROOFS. ProtectedArea: what shows on the protected area comes from the protected layer alone (O33). -/

namespace Sys2Proof.Machine

/-! ### A protected pixel (R213) -/

/-- With α code 3 the sample beneath has weight 0. -/
theorem protSample_opaque (d p c c' : Nat) : protSample d 3 p c = protSample d 3 p c' := by
  simp only [protSample, Nat.sub_self, Nat.zero_mul]

/-- Over an opaque protected pixel, what lies beneath does not show. -/
theorem protPel_comp_of_opaque {w : Nat} (hopaque : bits w 31 30 = 3) (d k : Nat) (p q : Pel) :
    (protPel d w p).comp k = (protPel d w q).comp k := by
  simp only [protPel, hopaque]
  match k with
  | 0 => exact protSample_opaque d _ _ _
  | 1 => exact protSample_opaque d _ _ _
  | _ + 2 => exact protSample_opaque d _ _ _

/-! ### A composed line (R195, R213) -/

/-- What is laid over a line leaves its length. -/
theorem layOver_length (x : Nat) (pels : List Pel) (f : Pel → Pel → Pel) (base : List Pel) :
    (layOver x pels f base).length = base.length := by
  simp only [layOver, List.length_append, List.length_take, List.length_zipWith, List.length_drop]
  omega

/-- Program line `y` as the layers make it (stages 1 to 7), before the protected layer is laid over it. -/
def State.layeredLine (s : State) (c : Nat) (bad : List Nat) (y : Nat) : List Pel :=
  ((s.byZ c).foldl (fun base r => layOver (s.layer c r.layer).geo.dstX (s.layerLine c r bad y)
      (fun p q => p.over (s.layer c r.layer).alpha q) base) (List.replicate (s.st.courses.get c).width blackPel)).map
    (fun p => p.map (fun k v => roundTo (s.st.courses.get c).depth ((s.postLut.get c).entry k v)))

theorem State.layeredLine_length (s : State) (c : Nat) (bad : List Nat) (y : Nat) :
    (s.layeredLine c bad y).length = (s.st.courses.get c).width := by
  rw [State.layeredLine, List.length_map]
  refine List.foldlRecOn (motive := fun base : List Pel => base.length = (s.st.courses.get c).width) _ _ List.length_replicate ?_
  intro base hbase r _
  rw [layOver_length, hbase]

/-- The composite is the layers' line with the protected pixels over it. -/
theorem State.composeLine_eq (s : State) (c : Nat) (bad : List Nat) (y : Nat) :
    s.composeLine c bad y = (s.layeredLine c bad y).take (s.protLine c y).1 ++
      List.zipWith (protPel (s.st.courses.get c).depth) (s.protLine c y).2 ((s.layeredLine c bad y).drop (s.protLine c y).1) ++
      (s.layeredLine c bad y).drop ((s.protLine c y).1 + (s.protLine c y).2.length) := rfl

/-- A pixel that another lies over is made of the two. -/
theorem getD_overlay {α : Type} (f : α → Pel → Pel) (base : List Pel) (x : Nat) (top : List α) {i : Nat}
    (hi : i < top.length) (hfits : x + top.length ≤ base.length) :
    (base.take x ++ List.zipWith f top (base.drop x) ++ base.drop (x + top.length)).getD (x + i) {} =
      f top[i] base[x + i] := by
  have htake : (base.take x).length = x := by rw [List.length_take]; omega
  have hzip : i < (List.zipWith f top (base.drop x)).length := by rw [List.length_zipWith, List.length_drop]; omega
  rw [List.append_assoc, List.getD_append_right _ _ _ _ (by omega), htake, Nat.add_sub_cancel_left, List.getD_append _ _ _ _ hzip,
    List.getD_eq_getElem _ _ hzip, List.getElem_zipWith, List.getElem_drop]

/-! ### A machine that shows an opaque protected area (R211 to R213) -/

/-- The word of the store `v` of PROTECT record `r` at column `x` of program line `y`. -/
def ProtectRec.wordAt (r : ProtectRec) (v : Bytes) (x y : Nat) : Nat := u32 v (4 * ((y - r.y) * r.w + (x - r.x)))

/-- On course `c`, of record `x`, the verified store `v` of PROTECT record `r` is shown; it is opaque and within the
program's width. -/
structure State.ShowsOpaque (s : State) (c : Nat) (r : ProtectRec) (x : CourseRec) (v : Bytes) : Prop where
  has : s.st.protects.has c = true
  record : s.st.protects.get c = r
  course : s.st.courses.get c = x
  store : (s.prot c).verified = some v
  shown : (s.prot c).shown = true
  allOpaque : ∀ n < r.w * r.h, bits (u32 v (4 * n)) 31 30 = 3
  fits : r.x + r.w ≤ x.width

namespace State.ShowsOpaque

variable {s t : State} {c : Nat} {r : ProtectRec} {x : CourseRec} {v : Bytes} {y : Nat}

theorem protArea_eq (h : s.ShowsOpaque c r x v) (hlo : r.y ≤ y) (hhi : y < r.y + r.h) : s.protArea c y = (r.x, r.x + r.w) := by
  simp only [State.protArea, h.has, h.record, hlo, hhi, decide_true, Bool.and_self, if_true]

theorem protLine_eq (h : s.ShowsOpaque c r x v) (hlo : r.y ≤ y) (hhi : y < r.y + r.h) :
    s.protLine c y = (r.x, (List.range r.w).map (fun n => r.wordAt v (r.x + n) y)) := by
  have hstore : (s.prots.get c).verified = some v := h.store
  have hshown : (s.prots.get c).shown = true := h.shown
  simp only [State.protLine, hstore, hshown, h.has, h.record, hlo, hhi, decide_true, Bool.and_self, if_true,
    ProtectRec.wordAt, Nat.add_sub_cancel_left]

/-- A word of the store within the area is opaque. -/
theorem wordAt_opaque (h : s.ShowsOpaque c r x v) (hlo : r.y ≤ y) (hhi : y < r.y + r.h) {i : Nat} (hi : i < r.w) :
    bits (r.wordAt v (r.x + i) y) 31 30 = 3 := by
  rw [ProtectRec.wordAt, Nat.add_sub_cancel_left]
  refine h.allOpaque _ ?_
  calc (y - r.y) * r.w + i < (y - r.y + 1) * r.w := by rw [Nat.succ_mul]; omega
    _ ≤ r.h * r.w := Nat.mul_le_mul_right _ (by omega)
    _ = r.w * r.h := Nat.mul_comm _ _

/-- A pixel of the area shows the protected layer's own, whatever lies beneath. -/
theorem composeLine_comp (h : s.ShowsOpaque c r x v) (hlo : r.y ≤ y) (hhi : y < r.y + r.h) {n : Nat} (hleft : r.x ≤ n)
    (hright : n < r.x + r.w) (bad : List Nat) (k : Nat) :
    ((s.composeLine c bad y).getD n {}).comp k = (protPel x.depth (r.wordAt v n y) blackPel).comp k := by
  obtain ⟨i, rfl⟩ := Nat.exists_eq_add_of_le hleft
  have hi : i < r.w := by omega
  rw [State.composeLine_eq, h.protLine_eq hlo hhi, h.course, getD_overlay _ _ _ _ (by simpa using hi)
    (by simpa [State.layeredLine_length, h.course] using h.fits), List.getElem_map, List.getElem_range]
  exact protPel_comp_of_opaque (h.wordAt_opaque hlo hhi hi) _ _ _ _

end State.ShowsOpaque

/-! ### Subsampling inside an area (R196) -/

/-- Two lines agree in component `k` at columns `lo` to below `hi`. -/
def AgreeIn (k lo hi : Nat) (l m : List Pel) : Prop := ∀ n, lo ≤ n → n < hi → (l.getD n {}).comp k = (m.getD n {}).comp k

/-- A chroma sample of an area is made of pixels of the area. -/
theorem chromaLine_congr {k w lo hi i : Nat} {l m : List Pel} (h : AgreeIn k lo hi l m) (hlo : lo ≤ 2 * i) (hhi : 2 * i < hi) :
    (chromaLine k w lo hi l)[i]? = (chromaLine k w lo hi m)[i]? := by
  simp only [chromaLine, List.getElem?_map]
  refine Option.map_congr fun j hj => ?_
  obtain rfl : i = j := by
    obtain ⟨_, hj⟩ := List.getElem?_eq_some_iff.1 hj
    rw [← hj, List.getElem_range]
  simp only [hlo, hhi, decide_true, Bool.and_self, if_true]
  rw [h (max lo (2 * i - 1)) (by omega) (by omega), h (2 * i) hlo hhi, h (min (hi - 1) (2 * i + 1)) (by omega) (by omega)]

/-- A pair of lines averages into the line of half its number. -/
theorem getD_pairLines (p : Plane) {j : Nat} (h : 2 * j + 1 < p.length) :
    (pairLines p).getD j [] = List.zipWith (fun x y => (x + y + 1) / 2) (p.getD (2 * j) []) (p.getD (2 * j + 1) []) := by
  induction p using pairLines.induct generalizing j with
  | case1 a b rest ih =>
    cases j with
    | zero => rfl
    | succ j => exact ih (by simp only [List.length_cons] at h; omega)
  | case2 l hshort =>
    match l, hshort with
    | [], _ => simp at h
    | [_], _ => simp at h
    | a :: b :: rest, hshort => exact absurd rfl (hshort a b rest)

/-- Component `k` of a band of the composite, filtered horizontally where it is chroma, before its lines are paired. -/
def chromaPlane (k w : Nat) (area : Nat → Nat × Nat) (lines : List (List Pel)) : Plane :=
  (List.range lines.length).map (fun y => chromaLine k w (area y).1 (area y).2 (lines.getD y []))

theorem subsample_comp_full {sampling k : Nat} (hk : k < 3) (hfull : (k == 0 || sampling == 2) = true) (w : Nat)
    (area : Nat → Nat × Nat) (lines : List (List Pel)) :
    (subsample sampling w area lines).comp k = lines.map (fun l => l.map (fun p => p.comp k)) := by
  match k, hk with
  | 0, _ | 1, _ | 2, _ => simp only [subsample, Pix.comp, hfull, if_true]

theorem subsample_comp_chroma {sampling k : Nat} (hk : k < 3) (hchroma : (k == 0 || sampling == 2) = false) (w : Nat)
    (area : Nat → Nat × Nat) (lines : List (List Pel)) : (subsample sampling w area lines).comp k =
      if sampling == 0 then pairLines (chromaPlane k w area lines) else chromaPlane k w area lines := by
  match k, hk with
  | 0, _ => simp at hchroma
  | 1, _ => exact if_neg (by rw [hchroma]; exact Bool.false_ne_true)
  | 2, _ => exact if_neg (by rw [hchroma]; exact Bool.false_ne_true)

theorem getD_chromaPlane (k w : Nat) (area : Nat → Nat × Nat) {lines : List (List Pel)} {y : Nat} (hy : y < lines.length) :
    (chromaPlane k w area lines).getD y [] = chromaLine k w (area y).1 (area y).2 (lines.getD y []) := by
  rw [chromaPlane, List.getD_eq_getElem _ _ (by simpa using hy), List.getElem_map, List.getElem_range]

/-- A sample at full resolution is a component of one pixel. -/
theorem at_map_comp (k : Nat) (lines : List (List Pel)) (i j : Nat) :
    Plane.at (lines.map (fun l => l.map (fun p => p.comp k))) i j = ((lines.getD j []).getD i {}).comp k := by
  have hnone : ({} : Pel).comp k = 0 := by unfold Pel.comp; split <;> rfl
  have hrow : (lines.map (fun l => l.map (fun p => p.comp k))).getD j [] = (lines.getD j []).map (fun p => p.comp k) :=
    List.getD_map lines [] (List.map (fun p : Pel => p.comp k))
  calc Plane.at (lines.map (fun l => l.map (fun p => p.comp k))) i j
    _ = ((lines.getD j []).map (fun p => p.comp k)).getD i (({} : Pel).comp k) := by rw [Plane.at, hrow, hnone]
    _ = ((lines.getD j []).getD i {}).comp k := List.getD_map _ _ (fun p : Pel => p.comp k)

/-- A sample is what stands at its place of its line. -/
theorem Plane.at_congr {p q : Plane} {i j : Nat} (h : (p.getD j [])[i]? = (q.getD j [])[i]?) : p.at i j = q.at i j :=
  congrArg (fun o => o.getD 0) h

/-- Two bands agree on an area: line `y` lies in both, the area holds columns `lo` to below `hi` of it, and component `k` is
the same there. -/
structure SameArea (k lo hi : Nat) (area area' : Nat → Nat × Nat) (lines lines' : List (List Pel)) (y : Nat) : Prop where
  inBand : y < lines.length
  inBand' : y < lines'.length
  area : area y = (lo, hi)
  area' : area' y = (lo, hi)
  agree : AgreeIn k lo hi (lines.getD y []) (lines'.getD y [])

/-- Filtered lines of bands that agree on the area are the same there. -/
theorem SameArea.getElem?_chroma {k w lo hi i y : Nat} {area area' : Nat → Nat × Nat} {lines lines' : List (List Pel)}
    (h : SameArea k lo hi area area' lines lines' y) (hlo : lo ≤ 2 * i) (hhi : 2 * i < hi) :
    ((chromaPlane k w area lines).getD y [])[i]? = ((chromaPlane k w area' lines').getD y [])[i]? := by
  rw [getD_chromaPlane k w area h.inBand, getD_chromaPlane k w area' h.inBand', h.area, h.area']
  exact chromaLine_congr h.agree hlo hhi

/-- Where bands agree on the area in every line that sample (`i`, `j`) of component `k` covers, the sample is the same. -/
theorem subsample_at_congr {sampling w k lo hi i j : Nat} {area area' : Nat → Nat × Nat} {lines lines' : List (List Pel)}
    (hk : k < 3) (heven : lo % 2 = 0) (hlo : compW sampling lo k ≤ i) (hhi : i < compW sampling hi k)
    (h : ∀ y, compH sampling y k = j → SameArea k lo hi area area' lines lines' y) :
    ((subsample sampling w area lines).comp k).at i j = ((subsample sampling w area' lines').comp k).at i j := by
  cases hres : k == 0 || sampling == 2 with
  | true =>
    simp only [compW, hres, if_true] at hlo hhi
    have hj : compH sampling j k = j := by
      rw [compH, if_pos]
      rcases Bool.or_eq_true_iff.1 hres with hk0 | h2
      · rw [hk0, Bool.true_or]
      · rw [eq_of_beq h2]; simp
    rw [subsample_comp_full hk hres, subsample_comp_full hk hres, at_map_comp, at_map_comp]
    exact (h j hj).agree i hlo hhi
  | false =>
    obtain ⟨hk0, h2⟩ := Bool.or_eq_false_iff.1 hres
    simp only [compW, hres, Bool.false_eq_true, if_false] at hlo hhi
    have hfilter : ∀ y, compH sampling y k = j →
        ((chromaPlane k w area lines).getD y [])[i]? = ((chromaPlane k w area' lines').getD y [])[i]? :=
      fun y hy => (h y hy).getElem?_chroma (by omega) (by omega)
    rw [subsample_comp_chroma hk hres, subsample_comp_chroma hk hres]
    cases h0 : sampling == 0 with
    | true =>
      have hhalf : ∀ y, y / 2 = j → compH sampling y k = j := fun y hy => by
        rw [compH, hk0, eq_of_beq h0]
        exact hy
      have htop := hhalf (2 * j) (by omega)
      have hbottom := hhalf (2 * j + 1) (by omega)
      refine Plane.at_congr ?_
      rw [if_pos rfl, if_pos rfl, getD_pairLines _ (by simpa [chromaPlane] using (h _ hbottom).inBand),
        getD_pairLines _ (by simpa [chromaPlane] using (h _ hbottom).inBand'), List.getElem?_zipWith, List.getElem?_zipWith,
        hfilter _ htop, hfilter _ hbottom]
    | false =>
      have hj : compH sampling j k = j := by rw [compH, bne, h0, Bool.not_false, Bool.or_true, if_pos rfl]
      exact Plane.at_congr (hfilter j hj)

/-! ### Bands (R192) -/

/-- Heights in samples add up below an even height. -/
theorem compH_even_add {a : Nat} (ha : a % 2 = 0) (sampling k b : Nat) :
    compH sampling (a + b) k = compH sampling a k + compH sampling b k := by
  simp only [compH]
  split
  · rfl
  · omega

theorem compH_mul_even {a : Nat} (ha : a % 2 = 0) (sampling k b : Nat) : compH sampling (b * a) k = b * compH sampling a k := by
  simp only [compH]
  split
  · rfl
  · obtain ⟨m, rfl⟩ := Nat.dvd_of_mod_eq_zero ha
    rw [Nat.mul_left_comm, Nat.mul_div_cancel_left _ two_pos, Nat.mul_div_cancel_left _ two_pos]

theorem lt_of_compH_lt {sampling a b k : Nat} (h : compH sampling a k < compH sampling b k) : a < b := by
  simp only [compH] at h
  split at h <;> omega

theorem le_of_compH_le {sampling a b k : Nat} (ha : a % 2 = 0) (h : compH sampling a k ≤ compH sampling b k) : a ≤ b := by
  simp only [compH] at h
  split at h <;> omega

/-- Line `y` of a band is the program line so far below the band's first. -/
theorem State.getD_bandLines (s : State) (c : Nat) (bad : List Nat) (first : Nat) {n y : Nat} (hy : y < n) :
    ((List.range n).map (fun y => s.composeLine c bad (first + y))).getD y [] = s.composeLine c bad (first + y) := by
  rw [List.getD_eq_getElem _ _ (by simpa using hy), List.getElem_map, List.getElem_range]

/-- Line `y` of band `b` over the area: two machines that show the same opaque area compose it alike. -/
theorem State.ShowsOpaque.sameArea {s t : State} {c : Nat} {r : ProtectRec} {x : CourseRec} {v : Bytes}
    (hs : s.ShowsOpaque c r x v) (ht : t.ShowsOpaque c r x v) (bad bad' : List Nat) (k : Nat) {first n y : Nat} (hy : y < n)
    (hlo : r.y ≤ first + y) (hhi : first + y < r.y + r.h) :
    SameArea k r.x (r.x + r.w) (fun y => s.protArea c (first + y)) (fun y => t.protArea c (first + y))
      ((List.range n).map (fun y => s.composeLine c bad (first + y)))
      ((List.range n).map (fun y => t.composeLine c bad' (first + y))) y where
  inBand := by simpa using hy
  inBand' := by simpa using hy
  area := hs.protArea_eq hlo hhi
  area' := ht.protArea_eq hlo hhi
  agree := fun i hleft hright => by
    rw [State.getD_bandLines s c bad first hy, State.getD_bandLines t c bad' first hy,
      hs.composeLine_comp hlo hhi hleft hright, ht.composeLine_comp hlo hhi hleft hright]

/-- Settles O33: every pixel of the area is the protected layer's own, and each sample is filtered from pixels of the area. -/
theorem theProtectedAreaTakesNothingFromOutside : Obligations.TheProtectedAreaTakesNothingFromOutside := by
  unfold Obligations.TheProtectedAreaTakesNothingFromOutside
  intro s t c bad bad' r x v k i j hsHas htHas hsRec htRec hsCourse htCourse hprot hstore hshown hopaque hx hy _ _ hright hbottom _ _
    hheight hk hleft hi htop hj
  have hs : s.ShowsOpaque c r x v := ⟨hsHas, hsRec.symm, hsCourse.symm, hstore, hshown, hopaque, hright⟩
  have ht : t.ShowsOpaque c r x v := ⟨htHas, htRec.symm, htCourse.symm, hprot ▸ hstore, hprot ▸ hshown, hopaque, hright⟩
  have heven : x.bandHeight % 2 = 0 := by omega
  have hpos : 0 < compH x.sampling x.bandHeight k := by
    simp only [compH]
    split <;> omega
  simp only [State.composeBand, hs.course, ht.course]
  refine subsample_at_congr hk hx hleft hi fun y hcovers => ?_
  have hmod := Nat.mod_lt j hpos
  have hband : y < x.bandHeight := lt_of_compH_lt (hcovers ▸ hmod)
  have hline : compH x.sampling (j / compH x.sampling x.bandHeight k * x.bandHeight + y) k = j := by
    rw [compH_even_add (by rw [Nat.mul_mod, heven, Nat.mul_zero, Nat.zero_mod]), compH_mul_even heven, hcovers, Nat.div_add_mod']
  have hlo := le_of_compH_le hy (hline.symm ▸ htop)
  have hhi := lt_of_compH_lt (hline.symm ▸ hj)
  refine hs.sameArea ht bad bad' k ?_ hlo hhi
  simp only [CourseRec.lines, Nat.succ_mul]
  omega

end Sys2Proof.Machine
end

section
/-! PROOFS. Scalers: the coefficients of a phase sum to one, so that flat fields stay flat (O32). -/

namespace Sys2Proof.Machine

/-! ### Coefficients (R208) -/

theorem rawTaps_length (src dst ph : Nat) : (rawTaps src dst ph).length = 8 * max 1 (ceilDiv src dst) := by
  simp only [rawTaps, List.length_map, List.length_range]
  omega

theorem taps_length (src dst ph : Nat) : (taps src dst ph).length = 8 * max 1 (ceilDiv src dst) := by
  simp only [taps, List.length_set, List.length_map, rawTaps_length]

/-- A list whose residue to `total` is put on one element sums to `total`. -/
theorem sum_set_residue (q : List Int) {c : Nat} (hc : c < q.length) (total : Int) :
    (q.set c (q.getD c 0 + (total - q.foldl (· + ·) 0))).sum = total := by
  rw [List.sum_set', dif_pos hc, List.getD_eq_getElem _ _ hc, ← List.sum_eq_foldl]
  omega

theorem taps_sum (src dst ph : Nat) : (taps src dst ph).sum = 1024 := by
  refine sum_set_residue _ ?_ 1024
  rw [List.length_map, rawTaps_length]
  omega

/-! ### Flat fields (R208) -/

/-- Weights over one value give their sum times the value. -/
theorem foldl_weights_flat (t : List Int) {f : Nat → Nat} {v : Nat} (hflat : ∀ j < t.length, f j = v) :
    (List.range t.length).foldl (fun a j => a + t.getD j 0 * (f j : Int)) 0 = t.sum * v := by
  have hterms : (List.range t.length).map (fun j => t.getD j 0 * (f j : Int)) = t.map (· * (v : Int)) := by
    refine List.ext_getElem (by simp) fun j hj _ => ?_
    have hj : j < t.length := by simpa using hj
    simp [hj, hflat j hj]
  calc (List.range t.length).foldl (fun a j => a + t.getD j 0 * (f j : Int)) 0
    _ = ((List.range t.length).map (fun j => t.getD j 0 * (f j : Int))).sum := by rw [List.sum_eq_foldl, List.foldl_map]
    _ = t.sum * v := by rw [hterms, List.sum_map_mul_right, List.map_id']

/-- A filtered sample of a flat field, rounded to 16 bits, is the field's value. -/
theorem clip_flat {v : Nat} (hv : v ≤ 65535) : clip 65535 ((1024 * (v : Int) + 512) / 1024) = v := by
  rw [clip]
  omega

theorem clampTo_lt {n : Nat} (hn : 0 < n) (i : Int) : clampTo n i < n := by
  rw [clampTo]
  omega

theorem filterSample_flat {src v : Nat} {f : Nat → Nat} (hsrc : 0 < src) (hv : v ≤ 65535) (hflat : ∀ i < src, f i = v) (dst i : Nat) :
    filterSample src dst i f = v := by
  rw [filterSample, foldl_weights_flat _ fun j _ => hflat _ (clampTo_lt hsrc _), taps_sum, clip_flat hv]

theorem scaleLine_flat {sw v : Nat} (hsw : 0 < sw) (hv : v ≤ 65535) (dw : Nat) :
    scaleLine sw dw (List.replicate sw v) = List.replicate dw v := by
  refine List.eq_replicate_iff.2 ⟨by simp [scaleLine], fun b hb => ?_⟩
  obtain ⟨x, -, rfl⟩ := List.mem_map.1 hb
  exact filterSample_flat hsw hv (fun i hi => List.getD_replicate _ hi) dw x

theorem scaledLine_flat {sw sh v : Nat} {line : Nat → List Nat} (hsw : 0 < sw) (hsh : 0 < sh) (hv : v ≤ 65535)
    (hflat : ∀ n < sh, line n = List.replicate sw v) (dw dh y : Nat) : scaledLine sw sh dw dh y line = List.replicate dw v := by
  refine List.eq_replicate_iff.2 ⟨by simp [scaledLine], fun b hb => ?_⟩
  obtain ⟨x, hx, rfl⟩ := List.mem_map.1 hb
  rw [foldl_weights_flat _ fun j hj => ?row, taps_sum, clip_flat hv]
  case row =>
    rw [taps_length] at hj
    rw [List.getD_eq_getElem _ [] (by rw [List.length_map, List.length_range]; omega), List.getElem_map,
      hflat _ (clampTo_lt hsh _), scaleLine_flat hsw hv, List.getD_replicate _ (List.mem_range.1 hx)]

/-- Settles O32: the residue on the centre tap makes the sum, and a flat field leaves only the sum. -/
theorem scalersKeepFlatFields : Obligations.ScalersKeepFlatFields := by
  unfold Obligations.ScalersKeepFlatFields
  exact ⟨fun src dst ph => ⟨taps_length src dst ph, taps_sum src dst ph⟩,
    fun _ _ dw dh y _ _ hsw hsh hv hflat => scaledLine_flat hsw hsh hv hflat dw dh y⟩

end Sys2Proof.Machine
end

section
/-! PROOFS. Tables: the fetch of a table, the slot of a host input, and the check and registers of a protected area (O35). -/

namespace Sys2Proof.Machine

/-! ### Tables (R199) -/

theorem exec_lutLoad_aligned {s : State} {c l : Nat} {w : Word} (hload : bit w.toNat 0 = true) (haligned : s.lutAddr c l % 64 = 0) :
    exec (.lutLoad c l w) s =
      .next (s.setLut c l { s.lut c l with fetching := some (s.lutAddr c l), shadow := none, ready := false }) :=
  congrArg Host.Outcome.next ((if_neg (by simp [hload])).trans (if_neg (by simp [haligned])))

theorem exec_lutFetchDone_reached {s : State} {c l a : Nat} (hfetch : (s.lut c l).fetching = some a)
    (hallowed : s.allowed none false a 24576 = true) : exec (.lutFetchDone c l) s =
      .next (s.setLut c l { s.lut c l with fetching := none, shadow := some (Mem.bytes s.mem a 24576) }) := by
  have hexec : exec (.lutFetchDone c l) s = execLutFetchDone c l s := rfl
  simp only [hexec, execLutFetchDone, hfetch, hallowed, if_true]

/-! ### Marks of a posted picture (R16, R204) -/

/-- The bands of `l` marked WRITTEN one after another. -/
def Slot.markAll (x : Slot) (l : List Nat) : Slot := l.foldl (fun x j => x.setMark j .written false) x

theorem Slot.setMark_pix (x : Slot) (j : Nat) (m : Mark) (l : Bool) : (x.setMark j m l).pix = x.pix := by
  rw [Slot.setMark]
  split <;> rfl

theorem Slot.setMark_marks_length (x : Slot) (j : Nat) (m : Mark) (l : Bool) : (x.setMark j m l).marks.length = x.marks.length := by
  rw [Slot.setMark]
  split
  · exact List.length_set
  · rfl

/-- Only the mark named changes. -/
theorem Slot.mark_setMark_other (x : Slot) {i j : Nat} (h : j ≠ i) (m : Mark) (l : Bool) : (x.setMark j m l).mark i = x.mark i := by
  rw [Slot.setMark]
  split
  · simp only [Slot.mark, List.getD_eq_getElem?_getD, List.getElem?_set_ne h]
  · rfl

theorem Slot.mark_setMark_empty {x : Slot} {i : Nat} (hempty : x.mark i = .empty) (hi : i < x.marks.length) (m : Mark) (l : Bool) :
    (x.setMark i m l).mark i = m := by
  rw [Slot.setMark, if_pos (by simp [hempty, hi])]
  simp only [Slot.mark, List.getD_eq_getElem?_getD, List.getElem?_set_self hi, Option.getD_some]

/-- A mark that is set stays. -/
theorem Slot.mark_setMark_of_ne_empty {x : Slot} {i : Nat} (hset : x.mark i ≠ .empty) (j : Nat) (m : Mark) (l : Bool) :
    (x.setMark j m l).mark i = x.mark i := by
  by_cases hji : j = i
  · rw [Slot.setMark, if_neg (by simp [hji, hset])]
  · exact x.mark_setMark_other hji m l

theorem Slot.markAll_pix (x : Slot) (l : List Nat) : (x.markAll l).pix = x.pix :=
  List.foldlRecOn (motive := fun y : Slot => y.pix = x.pix) l _ rfl fun y h j _ => (y.setMark_pix j _ _).trans h

theorem Slot.markAll_written {x : Slot} {i : Nat} (h : x.mark i = .written) (l : List Nat) : (x.markAll l).mark i = .written :=
  List.foldlRecOn (motive := fun y : Slot => y.mark i = .written) l _ h fun y hy j _ => by
    rw [Slot.mark_setMark_of_ne_empty (by rw [hy]; decide), hy]

/-- Every EMPTY mark of the list is WRITTEN in the end. -/
theorem Slot.mark_markAll {i : Nat} : ∀ {l : List Nat} {x : Slot}, i ∈ l → i < x.marks.length → x.mark i = .empty →
    (x.markAll l).mark i = .written
  | j :: l, x, hmem, hi, hempty => by
    show ((x.setMark j .written false).markAll l).mark i = .written
    by_cases hji : j = i
    · subst hji
      exact Slot.markAll_written (x.mark_setMark_empty hempty hi _ _) l
    · exact Slot.mark_markAll ((List.mem_cons.1 hmem).resolve_left (Ne.symm hji)) (by rwa [Slot.setMark_marks_length])
        (by rw [x.mark_setMark_other hji, hempty])

/-- The current slot's bands of `l` marked WRITTEN one after another. -/
def Buffer.markAll (b : Buffer) (l : List Nat) : Buffer := l.foldl (fun b j => b.setMark j .written false) b

theorem Buffer.markAll_cur (b : Buffer) (l : List Nat) : (b.markAll l).cur = b.cur :=
  List.foldlRecOn (motive := fun y : Buffer => y.cur = b.cur) l _ rfl fun _ h _ _ => h

theorem Buffer.markAll_pics (b : Buffer) (l : List Nat) : (b.markAll l).pics = b.pics :=
  List.foldlRecOn (motive := fun y : Buffer => y.pics = b.pics) l _ rfl fun _ h _ _ => h

theorem Buffer.curSlot_set {b : Buffer} (hcur : b.cur < b.slots.length) (x : Slot) :
    Buffer.curSlot { b with slots := b.slots.set b.cur x } = x := by
  simp only [Buffer.curSlot, Buffer.slot, List.getD_eq_getElem?_getD, List.getElem?_set_self hcur, Option.getD_some]

theorem Buffer.markAll_curSlot : ∀ (l : List Nat) {b : Buffer}, b.cur < b.slots.length →
    (b.markAll l).curSlot = b.curSlot.markAll l
  | [], _, _ => rfl
  | j :: l, b, hcur => by
    have hrest := Buffer.markAll_curSlot l (b := b.setMark j .written false) (by simpa [Buffer.setMark] using hcur)
    exact hrest.trans (congrArg (fun x => Slot.markAll x l) (Buffer.curSlot_set hcur _))

/-! ### The post of a host input (R204) -/

/-- The slot of a posted picture: its bands as memory holds them. -/
def State.hostSlot (s : State) (i : InputRec) (slot : Nat) : Slot :=
  { at_ := s.now, pix := (List.range (bandsOf i.height 64)).map (fun j => (j, s.hostBand i slot j)) }

/-- The buffer of a host input after the post of slot `slot`. -/
def State.hostPosted (s : State) (i : InputRec) (slot : Nat) (b : Buffer) : Buffer :=
  (b.assign slot (bandsOf i.height 64) (s.hostSlot i slot)).markAll (List.range (bandsOf i.height 64))

theorem State.hinPost_free {s : State} {c k : Nat} {w : Word} (hpost : bit w.toNat 31 = true)
    (hhas : s.st.inputs.has (4 * c + k) = true) (hhost : (s.st.inputs.get (4 * c + k)).source = 2)
    (hfree : (s.hostIns.get (4 * c + k)).next = some (w.toNat % 8)) : ∃ l, s.hinPost c k w =
      { s.updBuf (inputBuf c k) (s.hostPosted (s.st.inputs.get (4 * c + k)) (w.toNat % 8)) with hostIns := l } :=
  ⟨_, (if_neg (by simp [hpost, hhas, hhost])).trans (if_pos (by simp [hfree]))⟩

/-- A table made of an entry for each number of a list has the entry of each. -/
theorem Tab.find_map_of_mem {α : Type} (f : Nat → α) {i : Nat} : ∀ {l : List Nat}, i ∈ l →
    Tab.find (l.map (fun j => (j, f j))) i = some (f i)
  | j :: l, hmem => by
    rw [List.map_cons, Tab.find]
    split
    · next hij => rw [hij]
    · next hij => exact Tab.find_map_of_mem f ((List.mem_cons.1 hmem).resolve_left hij)

theorem State.hostPosted_cur (s : State) (i : InputRec) (slot : Nat) (b : Buffer) : (s.hostPosted i slot b).cur = slot :=
  Buffer.markAll_cur _ _

theorem State.hostPosted_pics (s : State) (i : InputRec) (slot : Nat) (b : Buffer) : (s.hostPosted i slot b).pics = b.pics + 1 :=
  Buffer.markAll_pics _ _

/-- The posted slot holds the new picture, its marks set in turn. -/
theorem State.hostPosted_curSlot (s : State) (i : InputRec) {slot : Nat} {b : Buffer} (hslot : slot < b.slots.length) :
    (s.hostPosted i slot b).curSlot = Slot.markAll { s.hostSlot i slot with
      pic := b.pics + 1, marks := List.replicate (bandsOf i.height 64) .empty
      locals := List.replicate (bandsOf i.height 64) false } (List.range (bandsOf i.height 64)) :=
  (Buffer.markAll_curSlot _ (by simpa [Buffer.assign] using hslot)).trans
    (congrArg (fun x => Slot.markAll x _) (Buffer.curSlot_set (b := { b with cur := slot }) hslot _))

/-- Every band of the posted slot is WRITTEN, with the samples that memory holds. -/
theorem State.hostPosted_band (s : State) (i : InputRec) {slot n : Nat} {b : Buffer} (hn : n < bandsOf i.height 64)
    (hslot : slot < b.slots.length) : (s.hostPosted i slot b).curSlot.mark n = .written ∧
      (s.hostPosted i slot b).curSlot.pix.find n = some (s.hostBand i slot n) := by
  rw [s.hostPosted_curSlot i hslot]
  constructor
  · exact Slot.mark_markAll (List.mem_range.2 hn) (by simpa using hn) (List.getD_replicate _ hn)
  · rw [Slot.markAll_pix]
    exact Tab.find_map_of_mem _ (List.mem_range.2 hn)

/-- The post of the free slot: what the input's buffer is then, with the clock and memory as they were. -/
theorem exec_hinPost_free {s : State} {c k : Nat} {w : Word} (hpost : bit w.toNat 31 = true)
    (hhas : s.st.inputs.has (4 * c + k) = true) (hhost : (s.st.inputs.get (4 * c + k)).source = 2)
    (hfree : (s.hostIns.get (4 * c + k)).next = some (w.toNat % 8)) : ∃ t, exec (.hinPost c k w) s = .next t ∧
      t.buf (inputBuf c k) = s.hostPosted (s.st.inputs.get (4 * c + k)) (w.toNat % 8) (s.buf (inputBuf c k)) ∧
      t.mem = s.mem ∧ t.now = s.now := by
  obtain ⟨l, hstate⟩ := State.hinPost_free hpost hhas hhost hfree
  have hpace := State.sameWork_pace c (s.hinPost c k w)
  refine ⟨_, rfl, ?_, ?_, ?_⟩
  · rw [hpace.buf, hstate]
    exact State.buf_updBuf_same _ _ _
  · rw [hpace.mem, hstate]
    rfl
  · rw [hpace.now, hstate]
    rfl

/-! ### The check of a protected area (R212) -/

theorem State.prot_setProt_same (s : State) (c : Nat) (p : Prot) : (s.setProt c p).prot c = p := Tab.get_set_same _ _ _

/-- A check that fails leaves its value, and the outcome FAIL. -/
theorem State.protFail_outcome (s : State) (c value : Nat) : ((s.protFail c value).prot c).outcome = some false ∧
    ((s.protFail c value).prot c).lastCheck = (s.prot c).lastCheck ∧ (s.protFail c value).mem = s.mem ∧
    (s.protFail c value).now = s.now := by
  have hset := s.prot_setProt_same c
    { s.prot c with outcome := some false, failing := true, failWindows := sat 16 ((s.prot c).failWindows + 1) }
  have hprot : (s.protFail c value).prot c =
      { s.prot c with outcome := some false, failing := true, failWindows := sat 16 ((s.prot c).failWindows + 1) } := by
    simp only [State.protFail]
    split
    · exact hset
    · exact hset
  have hkeeps := keeps_protFail (sc := { out := true, courses := true }) s c value (.refl s) rfl rfl
  exact ⟨by rw [hprot], by rw [hprot], hkeeps.mem_eq rfl, hkeeps.now_eq rfl⟩

/-- The machine with the check value `v` of a protected area's bytes, before a failure is told. -/
def State.protChecked (s : State) (c v : Nat) : State :=
  (s.setChk (s.st.protects.get c).checkUnit { s.chk (s.st.protects.get c).checkUnit with
    run := reverseBits 32 (Nat.xor v 0xFFFFFFFF) }).setProt c
      { s.prot c with candidate := s.protSurface (s.st.protects.get c), lastCheck := v, outcome := some (v == (s.prot c).expect) }

theorem exec_protCheckDone_due {s : State} {c v : Nat} (hhas : s.st.protects.has c = true)
    (hactive : (s.stage (.mere c)).active = true) (hheld : (s.prot c).hold = false) (hdue : (s.prot c).outcome = none)
    (hv : v = crc32.of (s.protSurface (s.st.protects.get c))) : exec (.protCheckDone c) s =
      .next (if v == (s.prot c).expect then s.protChecked c v else (s.protChecked c v).protFail c v) := by
  subst hv
  exact congrArg Host.Outcome.next (if_neg (by simp [hhas, hactive, hheld, hdue]))

/-- The value of a check, and whether it is the one expected. -/
theorem State.protChecked_outcome (s : State) (c v : Nat) {t : State}
    (ht : t = if v == (s.prot c).expect then s.protChecked c v else (s.protChecked c v).protFail c v) :
    (t.prot c).lastCheck = v ∧ (t.prot c).outcome = some (v == (s.prot c).expect) ∧ t.mem = s.mem ∧ t.now = s.now := by
  have hprot : (s.protChecked c v).prot c = { s.prot c with
      candidate := s.protSurface (s.st.protects.get c), lastCheck := v, outcome := some (v == (s.prot c).expect) } :=
    State.prot_setProt_same _ _ _
  subst ht
  cases hpass : v == (s.prot c).expect with
  | true =>
    rw [if_pos rfl, hprot]
    exact ⟨rfl, congrArg some hpass, rfl, rfl⟩
  | false =>
    rw [if_neg Bool.false_ne_true]
    obtain ⟨houtcome, hlast, hmem, hnow⟩ := (s.protChecked c v).protFail_outcome c v
    exact ⟨hlast.trans (by rw [hprot]), houtcome, hmem, hnow⟩

/-! ### The registers of a protected area (R215) -/

/-- The owner's write of EXPECT on an active device. -/
theorem exec_protRegWrite_expect {s : State} {n c : Nat} (hactive : s.standby = false) (hhas : s.st.protects.has c = true)
    (howner : (s.st.protects.get c).owner = n) (w : Word) : exec (.protRegWrite n n c 0 w) s = .next (s.wr (protReg n c 0) w) :=
  congrArg Host.Outcome.next ((if_neg (by simp [hhas, howner])).trans ((if_neg (by simp)).trans
    (s.weirWrite_active _ _ _ hactive)))

/-- The owner's write of CTRL on an active device. -/
theorem exec_protRegWrite_ctrl {s : State} {n c : Nat} (hactive : s.standby = false) (hhas : s.st.protects.has c = true)
    (howner : (s.st.protects.get c).owner = n) (w : Word) :
    exec (.protRegWrite n n c 4 w) s = .next (s.wrn (protReg n c 4) (w.toNat % 4)) :=
  congrArg Host.Outcome.next ((if_neg (by simp [hhas, howner])).trans ((if_neg (by simp)).trans
    (s.weirWrite_active _ _ _ hactive)))

/-- Another function's write only tells PROT_WRITE_REFUSED. -/
theorem exec_protRegWrite_other {s : State} {f n c : Nat} (hhas : s.st.protects.has c = true)
    (howner : (s.st.protects.get c).owner = n) (hother : f ≠ n) (o : Nat) (w : Word) :
    exec (.protRegWrite f n c o w) s = .next (s.evC 0x0609 (0x5100 + f) c (n * 2 ^ 8 + o)) :=
  congrArg Host.Outcome.next ((if_neg (by simp [hhas, howner])).trans (if_pos (by simp [hother])))

/-- Settles O35: a table by its fetch, a host input by the slot posted, a protected area by its check and by who writes it. -/
theorem tablesHostInputsAndProtectedAreas : Obligations.TablesHostInputsAndProtectedAreas := by
  unfold Obligations.TablesHostInputsAndProtectedAreas
  intro s c l k w
  refine ⟨exec_lutLoad_aligned, fun _ => exec_lutFetchDone_reached, ?post, ?check, ?registers⟩
  case post =>
    intro hpost hhas hhost hfree
    obtain ⟨t, hexec, hbuf, hmem, hnow⟩ := exec_hinPost_free hpost hhas hhost hfree
    refine ⟨t, hexec, ?_, ?_, fun n hslot hn => ?_, hmem, hnow⟩
    · rw [hbuf, State.hostPosted_cur]
    · rw [hbuf, State.hostPosted_pics]
    · rw [hbuf]
      exact s.hostPosted_band _ hn hslot
  case check =>
    intro hhas hactive hheld hdue
    exact ⟨_, _, exec_protCheckDone_due hhas hactive hheld hdue rfl, rfl, State.protChecked_outcome s c _ rfl⟩
  case registers =>
    intro f n hactive hhas howner
    refine ⟨?owner, fun hother => ?other⟩
    case owner =>
      rintro rfl
      exact ⟨exec_protRegWrite_expect hactive hhas howner w, exec_protRegWrite_ctrl hactive hhas howner w⟩
    case other => exact ⟨_, exec_protRegWrite_other hhas howner hother 0 w, rfl, rfl, rfl⟩

end Sys2Proof.Machine
end

section
/-! PROOFS. Tarns: CTUs leave stage 9 or their segment spills, and residue mismatches repeat a CTU or retire its Tarn (O36). -/

namespace Sys2Proof.Machine

/-! ### What the bookkeeping of a picture leaves as it was -/

/-- The work of the coding units, with the clock and memory: what the reports, marks and messages about a picture in coding leave
as it was. -/
def State.coderWork (s : State) : Tab Tarn × Tab SpillUnit × Nat × Mem := (s.tarns, s.spills, s.now, s.mem)

section

variable {s t : State}

theorem State.tarn_of_coderWork (h : t.coderWork = s.coderWork) (n : Nat) : t.tarn n = s.tarn n :=
  congrArg (fun w => w.1.get n) h

theorem Keeps.tarns_eq {sc : Scope} (h : Keeps sc s t) (hcoders : sc.coders = false) : t.tarns = s.tarns :=
  congrArg (·.2.2.1) (h.frame.coders hcoders)

theorem Keeps.spills_eq {sc : Scope} (h : Keeps sc s t) (hcoders : sc.coders = false) : t.spills = s.spills :=
  congrArg (·.2.2.2.1) (h.frame.coders hcoders)

theorem Keeps.tarn_eq {sc : Scope} (h : Keeps sc s t) (hcoders : sc.coders = false) (n : Nat) : t.tarn n = s.tarn n :=
  congrArg (·.get n) (h.tarns_eq hcoders)

theorem Keeps.rend_eq {sc : Scope} (h : Keeps sc s t) (hcoders : sc.coders = false) (r : Nat) : t.rend r = s.rend r :=
  congrArg (·.get r) (h.rends_eq hcoders)

theorem Keeps.coderWork_eq {sc : Scope} (h : Keeps sc s t) (hcoders : sc.coders = false) (hclk : sc.clk = false)
    (hmem : sc.mem = false) : t.coderWork = s.coderWork := by
  rw [State.coderWork, h.tarns_eq hcoders, h.spills_eq hcoders, h.now_eq hclk, h.mem_eq hmem, State.coderWork]

end

theorem State.rend_setRend_same (s : State) (r : Nat) (x : Rend) : (s.setRend r x).rend r = x := Tab.get_set_same _ _ _

theorem State.cur_updCoding_same (s : State) (r : Nat) (f : Coding → Coding) :
    ((s.updCoding r f).rend r).cur = (s.rend r).cur.map f := by
  rw [State.rend, State.updCoding, Tab.get_upd_same, State.rend]

theorem State.coding_of_cur {s : State} {r : Nat} {p : Coding} (h : (s.rend r).cur = some p) : s.coding r = p := by
  rw [State.coding, h, Option.getD_some]

/-- The last CTU of a picture marks it coded; the rest is counters and one event (R256, R274). -/
theorem State.pictureCoded_cases (s : State) (r : Nat) : s.pictureCoded r = s ∨ ∃ y : Rend,
    y.cur = some { s.coding r with coded := true } ∧ Keeps { regs := true, out := true } (s.setRend r y) (s.pictureCoded r) := by
  unfold State.pictureCoded
  extract_lets p x q key bands n e seed qs base qs' flags y put keyed raised
  split
  next => exact .inl rfl
  next =>
    have hkeyed : Keeps { regs := true, out := true } put keyed := keeps_ite (keeps_inc _ _ _ (Keeps.refl _) rfl) (Keeps.refl _)
    have hraised : Keeps { regs := true, out := true } put raised := keeps_ite (keeps_inc _ _ _ hkeyed rfl) hkeyed
    exact .inr ⟨y, rfl, keeps_ite hraised
      (keeps_evR _ _ _ _ _ (keeps_inc _ _ _ (keeps_inc _ _ _ hraised rfl) rfl) rfl)⟩

theorem State.pictureCoded_coderWork (s : State) (r : Nat) : (s.pictureCoded r).coderWork = s.coderWork := by
  obtain h | ⟨y, -, hkeeps⟩ := s.pictureCoded_cases r
  · rw [h]
  · exact hkeeps.coderWork_eq rfl rfl rfl

theorem State.commitRow_coderWork (s : State) (r g row bits : Nat) (spill : Bool) :
    (s.commitRow r g row bits spill).coderWork = s.coderWork := by
  unfold State.commitRow
  extract_lets p x c rel t lateNs late put counted
  have hput : put.coderWork = s.coderWork := rfl
  have hcounted : Keeps { regs := true, out := true } put counted := keeps_inc _ _ _ (Keeps.refl _) rfl
  have htold : Keeps { regs := true, out := true } put
      (if p.lateTold then counted else counted.evR 0x0207 (0x4100 + c.domain) r (sat 32 (ceilDiv (lateNs * 3) 2))) :=
    keeps_ite hcounted (keeps_evR _ _ _ _ _ hcounted rfl)
  exact ((keeps_ite (Keeps.refl put) htold).coderWork_eq rfl rfl rfl).trans hput

/-- A row is committed, or its unit goes on. -/
theorem State.commitRow_ite_coderWork (s : State) (end_ : Bool) (r g row bits : Nat) (spill : Bool) :
    (if end_ then s.commitRow r g row bits spill else s).coderWork = s.coderWork := by
  cases end_ with
  | false => rfl
  | true => exact s.commitRow_coderWork r g row bits spill

theorem State.healBand_coderWork (s : State) (r b : Nat) (last : Bool) : (s.healBand r b last).coderWork = s.coderWork := by
  unfold State.healBand
  extract_lets q p row m put
  have hsent : Keeps { out := true } put (if put.guavoUp then put.emit (.guavo (.heal m)) else put) :=
    keeps_ite (keeps_emit _ _ (Keeps.refl put) rfl) (Keeps.refl put)
  exact hsent.coderWork_eq rfl rfl rfl

theorem State.healNext_coderWork (s : State) (r : Nat) : (s.healNext r).coderWork = s.coderWork := by
  unfold State.healNext
  split
  · rfl
  · exact State.foldl_congr State.coderWork (fun s b => s.healBand_coderWork r b false) _ s

/-- The end of a CTU's bookkeeping: the picture may be coded, and healing takes the bands that became final. -/
theorem State.ctuEnd_coderWork (s : State) (r : Nat) : ((s.pictureCoded r).healNext r).coderWork = s.coderWork :=
  ((s.pictureCoded r).healNext_coderWork r).trans (s.pictureCoded_coderWork r)

theorem State.pace_coderWork (s : State) : s.pace.coderWork = s.coderWork :=
  (keeps_pace (sc := { weir := true }) s (Keeps.refl s) rfl).coderWork_eq rfl rfl rfl

/-! ### Spilling (R275, R277) -/

/-- Spilled rows take their segment's items from its Tarn; no rows take none. -/
theorem State.spillRows_tarn {s : State} {r g n : Nat} (hn : ((s.coding r).seg g).seg.tarn = n) (rows : List Nat) (time : Bool) :
    ((s.spillRows r g rows time).tarn n).since = (s.tarn n).since ∧
      (((s.spillRows r g rows time).tarn n).items = (s.tarn n).items ∨
        ((s.spillRows r g rows time).tarn n).items = (s.tarn n).items.filter (fun j => j.seg != segKey r g)) := by
  subst hn
  unfold State.spillRows
  extract_lets p x k last next jobs marked queued
  split
  next => exact ⟨rfl, .inl rfl⟩
  next =>
    have hqueued : queued.tarn x.seg.tarn = s.tarn x.seg.tarn := rfl
    rw [State.tarn_updTarn_same, hqueued]
    exact ⟨rfl, .inr rfl⟩

/-! ### CTUs (R245, R275) -/

/-- R418: with no injection armed, none fires. -/
theorem State.injected_of_no_injection {s : State} (h : s.ras.inj = []) (target : Nat) (kinds : List Nat) :
    s.injected target kinds = none := by
  simp [State.injected, h]

/-- With no injection armed, the front CTU of a live Tarn leaves stage 9. -/
theorem exec_ctuCommit_leaves {s : State} {r g n : Nat} {i : TarnItem} {l : List TarnItem} (hinj : s.ras.inj = [])
    (hlive : ¬ 0x1000 + n ∈ s.retired) (hn : n = ((s.coding r).seg g).seg.tarn) (hitems : (s.tarn n).items = i :: l)
    (hseg : i.seg = segKey r g) (bits : Nat) (blocks : List FinalBlock) :
    exec (.ctuCommit r g bits blocks) s = .next (s.ctuLeaves r g bits blocks).pace := by
  subst hn
  have hexec : exec (.ctuCommit r g bits blocks) s = execCtuCommit r g bits blocks s := rfl
  rw [hexec, execCtuCommit, if_neg (by simp [State.alive, hitems, hseg, hlive]), State.injected_of_no_injection hinj]

/-- Blocks that become final leave the segments. -/
theorem State.seg_putFinals (s : State) (r g : Nat) (blocks : List FinalBlock) :
    ((s.updCoding r (fun p => p.putFinals blocks)).coding r).seg g = (s.coding r).seg g := by
  rw [State.coding, State.cur_updCoding_same, State.coding]
  cases (s.rend r).cur with
  | none => rfl
  | some p => rfl

/-- The items of a Tarn whose front item gives up one CTU. -/
theorem TarnItem.filter_left {i : TarnItem} {l : List TarnItem} {key : Nat} (hseg : i.seg = key) :
    (if i.left ≤ 1 then l else { i with left := i.left - 1 } :: l).filter (fun j => j.seg != key) =
      l.filter (fun j => j.seg != key) := by
  split
  · rfl
  · exact List.filter_cons_of_neg (by simp [hseg])

/-- A CTU leaves the front item of its Tarn, and where a test fails the spill takes the segment's items. -/
theorem State.ctuLeaves_tarn {s : State} {r g n : Nat} {i : TarnItem} {l : List TarnItem}
    (hn : n = ((s.coding r).seg g).seg.tarn) (hitems : (s.tarn n).items = i :: l) (hseg : i.seg = segKey r g) (bits : Nat)
    (blocks : List FinalBlock) : ((s.ctuLeaves r g bits blocks).tarn n).since = s.now ∧
      (((s.ctuLeaves r g bits blocks).tarn n).items = (if i.left ≤ 1 then l else { i with left := i.left - 1 } :: l) ∨
        ((s.ctuLeaves r g bits blocks).tarn n).items = l.filter (fun j => j.seg != segKey r g)) := by
  unfold State.ctuLeaves
  extract_lets p x n' q band row endBand unit endUnit budget late charged final counted committed
  obtain rfl : n = n' := hn
  have hcharged : charged.tarn n' = _ := s.tarn_updTarn_same n' _
  have hfinal : final.tarn n' = charged.tarn n' := rfl
  rw [hcharged] at hfinal
  have hsince : (final.tarn n').since = s.now := congrArg Tarn.since hfinal
  have hleft : (final.tarn n').items = (if i.left ≤ 1 then l else { i with left := i.left - 1 } :: l) := by
    rw [hfinal, hitems]
  split
  next =>
    have htarn := State.tarn_of_coderWork ((final.spillRest r g late).ctuEnd_coderWork r) n'
    have hseg' : ((final.coding r).seg g).seg.tarn = n' := congrArg (·.seg.tarn) (charged.seg_putFinals r g blocks)
    rw [htarn, State.spillRest]
    obtain ⟨hs, hi⟩ := State.spillRows_tarn hseg' ((final.coding r).seg g).openRows late
    rw [hleft, TarnItem.filter_left hseg] at hi
    exact ⟨hs.trans hsince, hi⟩
  next =>
    have hcommitted : committed.coderWork = counted.coderWork := counted.commitRow_ite_coderWork endUnit r g row unit false
    have htarn : ((committed.pictureCoded r).healNext r).tarn n' = final.tarn n' :=
      State.tarn_of_coderWork ((committed.ctuEnd_coderWork r).trans hcommitted) n'
    rw [htarn]
    exact ⟨hsince, .inl hleft⟩

/-! ### Retirement and retry (R257, R258) -/

theorem State.keeps_admissionRerun_out (s : State) : Keeps { out := true } s s.admissionRerun := by
  unfold State.admissionRerun
  exact keeps_ite (Keeps.refl s) (keeps_ev _ _ _ _ (Keeps.refl s) rfl)

@[simp] theorem State.tarn_wrn (s : State) (a v n : Nat) : (s.wrn a v).tarn n = s.tarn n := rfl

/-- A Tarn that is retired holds no items, and the cycle is kept. -/
theorem State.retireTarn_tarn {s : State} {n : Nat} (halive : s.alive (0x1000 + n) = true) (cause : Nat) (inj : Bool) :
    ((s.retireTarn n cause inj).tarn n).items = [] ∧ ((s.retireTarn n cause inj).tarn n).retiredAt = some s.now := by
  unfold State.retireTarn
  rw [if_neg (by simp [halive])]
  extract_lets handed segs _ put emptied told spare rated
  have hput : put.now = s.now := (keeps_unitBurst (sc := { regs := true, out := true, coders := true, memsys := true }) _ _
    (keeps_spillTarn s n (Keeps.refl s) rfl rfl rfl) rfl).now_eq rfl
  have htold : Keeps { regs := true, out := true } emptied told := keeps_ev _ _ _ _ (Keeps.refl _) rfl
  have hspare : Keeps { regs := true, out := true } emptied spare := keeps_ite (keeps_replace _ _ _ htold rfl rfl) htold
  have hrated : Keeps { regs := true, out := true } emptied rated := keeps_ite (keeps_replace _ _ _ hspare rfl rfl) hspare
  have hemptied : emptied.tarn n = _ := (State.tarn_wrn _ _ _ n).trans (put.tarn_updTarn_same n _)
  have htarn : rated.admissionRerun.tarn n = emptied.tarn n :=
    (rated.keeps_admissionRerun_out.tarn_eq rfl n).trans (hrated.tarn_eq rfl n)
  rw [htarn, hemptied, ← hput]
  exact ⟨rfl, rfl⟩

theorem State.keeps_retireTarn_parts (s : State) (n cause : Nat) (inj : Bool) :
    Keeps { units := true, regs := true, out := true, coders := true, memsys := true } s (s.retireTarn n cause inj) :=
  keeps_retireTarn s n cause inj (Keeps.refl s) rfl rfl rfl rfl rfl

theorem State.alive_of_not_retired {s : State} {src : Nat} (h : ¬ src ∈ s.retired) : s.alive src = true := by
  simp [State.alive, h]

theorem exec_residueMismatch_live {s : State} {n : Nat} (hlive : ¬ 0x1000 + n ∈ s.retired) (stage k : Nat) :
    exec (.residueMismatch n stage k) s = .next (s.residue n stage k false) :=
  congrArg Host.Outcome.next (if_pos (State.alive_of_not_retired hlive))

theorem exec_tarnWatchdog_busy {s : State} {n : Nat} (hbusy : (s.tarn n).items ≠ []) :
    exec (.tarnWatchdog n) s = .next (s.retireTarn n 2 false) :=
  congrArg Host.Outcome.next (if_neg (by simp [hbusy]))

/-- The first mismatch of a CTU is remembered and the CTU stays in its item to run again; registers, outputs and coders alone move. -/
theorem State.residue_first {s : State} {n k key ctu : Nat} (hflight : s.inFlight n k = some (key, ctu))
    (hfirst : (s.tarn n).again ≠ some (key, ctu)) (stage : Nat) (inj : Bool) :
    ((s.residue n stage k inj).tarn n).again = some (key, ctu) ∧ ((s.residue n stage k inj).tarn n).items = (s.tarn n).items ∧
      Keeps { regs := true, out := true, coders := true } s (s.residue n stage k inj) := by
  unfold State.residue
  simp -zeta only [hflight]
  extract_lets r x second noted times counted told due
  rw [if_neg (by simp [second, hfirst])]
  have hcounted : Keeps { regs := true, out := true, coders := true } s counted :=
    keeps_updCoding _ _ _ (keeps_inc _ _ _ (keeps_wrn _ _ _ (Keeps.refl s) rfl) rfl) rfl
  have htold : Keeps { regs := true, out := true, coders := true } s told := keeps_evR _ _ _ _ _ hcounted rfl
  have hdue : Keeps { regs := true, out := true } told due.2 := keeps_retryRate _ _ _ _ (Keeps.refl _) rfl rfl
  have htarn : due.2.tarn n = s.tarn n := hdue.tarn_eq rfl n
  rw [State.tarn_updTarn_same, htarn]
  exact ⟨rfl, rfl, keeps_updTarn _ _ _ (keeps_retryRate _ _ _ _ htold rfl rfl) rfl⟩

/-- The second mismatch of a CTU retires the Tarn, with the register of the last mismatch written. -/
theorem State.residue_second {s : State} {n k key ctu : Nat} (hflight : s.inFlight n k = some (key, ctu))
    (hsecond : (s.tarn n).again = some (key, ctu)) (stage : Nat) (inj : Bool) :
    ∃ a v, s.residue n stage k inj = (s.wrn a v).retireTarn n 1 inj := by
  unfold State.residue
  simp -zeta only [hflight]
  exact ⟨_, _, if_pos (by simp [hsecond])⟩

/-- Settles O36: the front CTU by what stage 9 leaves in the Tarn, the mismatches by whether the CTU was run again before, the
watchdog by the retirement. -/
theorem tarnsCodeRetryAndRetire : Obligations.TarnsCodeRetryAndRetire := by
  unfold Obligations.TarnsCodeRetryAndRetire
  intro s n hinj hlive
  have halive := State.alive_of_not_retired hlive
  refine ⟨?commit, ?first, ?second, ?watchdog⟩
  case commit =>
    intro r g bits blocks i l hn hitems hseg
    have hleaves : Keeps { regs := true, out := true, coders := true } s (s.ctuLeaves r g bits blocks) :=
      keeps_ctuLeaves _ _ _ _ _ (Keeps.refl s) rfl rfl rfl
    refine ⟨_, exec_ctuCommit_leaves hinj hlive hn hitems hseg bits blocks, (State.pace_now _).trans (hleaves.now_eq rfl),
      (State.pace_mem _).trans (hleaves.mem_eq rfl), ?_⟩
    rw [State.tarn_of_coderWork (State.pace_coderWork _)]
    exact State.ctuLeaves_tarn hn hitems hseg bits blocks
  case first =>
    intro stage k key ctu hflight hfirst
    obtain ⟨hagain, hitems, hkeeps⟩ := State.residue_first hflight hfirst stage false
    exact ⟨_, exec_residueMismatch_live hlive stage k, hagain, hitems, hkeeps.retired_eq rfl, hkeeps.now_eq rfl,
      hkeeps.mem_eq rfl⟩
  case second =>
    intro stage k key ctu hflight hsecond
    obtain ⟨a, v, hretire⟩ := State.residue_second hflight hsecond stage false
    have hwritten : (s.wrn a v).alive (0x1000 + n) = true := halive
    obtain ⟨hitems, -⟩ := State.retireTarn_tarn hwritten 1 false
    have hkeeps := (s.wrn a v).keeps_retireTarn_parts n 1 false
    refine ⟨_, exec_residueMismatch_live hlive stage k, ?_⟩
    rw [hretire, State.retireTarn_retired hwritten]
    exact ⟨List.mem_append_right _ (List.mem_singleton_self _), hitems, hkeeps.mem_eq rfl⟩
  case watchdog =>
    intro hbusy
    have hkeeps := s.keeps_retireTarn_parts n 2 false
    obtain ⟨hitems, hat⟩ := State.retireTarn_tarn halive 2 false
    refine ⟨_, exec_tarnWatchdog_busy hbusy, ?_, hitems, hat, hkeeps.now_eq rfl, hkeeps.mem_eq rfl⟩
    rw [State.retireTarn_retired halive]
    exact List.mem_append_right _ (List.mem_singleton_self _)

end Sys2Proof.Machine
end

section
/-! PROOFS. FetchFaults: fetch faults are counted and told, and Spillway units go through their queues (O37). -/

namespace Sys2Proof.Machine

/-! ### Fetch faults (R252) -/

theorem State.pictureCoded_isLocal (s : State) (r : Nat) : ((s.pictureCoded r).coding r).isLocal = (s.coding r).isLocal := by
  obtain h | ⟨y, hcur, hkeeps⟩ := s.pictureCoded_cases r
  · rw [h]
  · have hrend : (s.pictureCoded r).rend r = y := (hkeeps.rend_eq rfl r).trans (s.rend_setRend_same r y)
    rw [State.coding_of_cur (hrend.symm ▸ hcur)]

/-- A LOCAL picture stays so when rows of it spill. -/
theorem State.spillRows_isLocal {s : State} {r : Nat} {p : Coding} (hcur : (s.rend r).cur = some p) (hlocal : p.isLocal = true)
    (g : Nat) (rows : List Nat) (time : Bool) : ((s.spillRows r g rows time).coding r).isLocal = true := by
  unfold State.spillRows
  extract_lets p' x k last next jobs marked queued
  split
  next => rw [State.coding_of_cur hcur, hlocal]
  next =>
    change (marked.coding r).isLocal = true
    have hmarked : (marked.rend r).cur = _ := s.cur_updCoding_same r _
    rw [State.coding, hmarked, hcur, Option.map_some, Option.getD_some, hlocal, Bool.true_or]

/-- A fetch fault marks its picture LOCAL, with its fault told, and leaves the coding units' work; a source block's band then
spills. -/
theorem State.fetchFault_told {s : State} {r g : Nat} {p : Coding} (hcur : (s.rend r).cur = some p) (hseg : p.segs.has g = true)
    (ctu kind : Nat) : ∃ (u : State) (rows : List Nat), (u.rend r).cur = some { p with isLocal := true, faultTold := true } ∧
      u.coderWork = s.coderWork ∧
      s.fetchFault r g ctu kind = if kind == 0 then (u.spillRows r g rows true).pictureCoded r else u := by
  unfold State.fetchFault
  extract_lets p' x n marked told
  have hp : p' = p := State.coding_of_cur hcur
  rw [if_neg (by simp [hp, hcur, hseg])]
  have htold : Keeps { out := true } marked told := keeps_ite (Keeps.refl _) (keeps_evR _ _ _ _ _ (Keeps.refl _) rfl)
  have hmarked : (marked.rend r).cur = _ := State.cur_updCoding_same _ r _
  refine ⟨told, _, ?_, htold.coderWork_eq rfl rfl rfl, rfl⟩
  rw [htold.rend_eq rfl, hmarked]
  exact congrArg (Option.map _) hcur

/-! ### Spillway units (R264, R277) -/

/-- The front CTU or seam strip of a Spillway unit takes its cycles and leaves the queue; Tarns and memory stand. -/
theorem State.spillStep_front {s : State} {k : Nat} {j : SpillJob} {rest : List SpillJob} (hqueue : (s.spw k).queue = j :: rest)
    (bits : Nat) (blocks : List FinalBlock) : (s.spillStep k bits blocks).coderWork =
      (s.tarns, s.spills.set k {
        queue := if j.left ≤ 1 then rest else { j with left := j.left - 1 } :: rest
        free := max s.now (max (s.spw k).free j.at_ + j.cycles) }, max s.now (max (s.spw k).free j.at_ + j.cycles), s.mem) := by
  unfold State.spillStep
  simp -zeta only [hqueue]
  extract_lets run r g p x q z key u put finals left b counted marked committed
  have hput : put.coderWork = (run.tarns, run.spills.set k u, run.now, run.mem) := rfl
  rw [← State.runTo_now]
  refine Eq.trans ?_ hput
  split
  next => exact State.ctuEnd_coderWork _ r
  next =>
    have hcommitted : committed.coderWork = marked.coderWork := marked.commitRow_ite_coderWork (left == 0) r g j.row b true
    exact (committed.ctuEnd_coderWork r).trans hcommitted

theorem exec_spillCtuDone_steps {s : State} (hinj : s.ras.inj = []) (k bits : Nat) (blocks : List FinalBlock) :
    exec (.spillCtuDone k bits blocks) s = .next (s.spillStep k bits blocks).pace := by
  have hexec : exec (.spillCtuDone k bits blocks) s = execSpillCtuDone k bits blocks s := rfl
  rw [hexec, execSpillCtuDone, State.injected_of_no_injection hinj]

/-- Settles O37: a fault by the state it is told in, which a source block's spill keeps LOCAL, and a Spillway unit by its front
job. -/
theorem fetchFaultsAndSpillwayUnits : Obligations.FetchFaultsAndSpillwayUnits := by
  unfold Obligations.FetchFaultsAndSpillwayUnits
  intro s r g k hinj
  refine ⟨?told, ?source, ?spillway⟩
  case told =>
    intro p ctu kind hcur hseg hkind
    obtain ⟨u, rows, hlocal, hwork, heq⟩ := State.fetchFault_told hcur hseg ctu kind
    rw [if_neg (by simp [hkind])] at heq
    simp only [State.coderWork, Prod.mk.injEq] at hwork
    obtain ⟨htarns, hspills, hnow, hmem⟩ := hwork
    exact ⟨u, congrArg Host.Outcome.next heq, hlocal, htarns, hspills, hnow, hmem⟩
  case source =>
    intro p ctu hcur hseg
    obtain ⟨u, rows, hlocal, -, heq⟩ := State.fetchFault_told hcur hseg ctu 0
    have hkeeps : Keeps { regs := true, out := true, coders := true } s (s.fetchFault r g ctu 0) :=
      keeps_fetchFault _ _ _ _ _ (Keeps.refl s) rfl rfl rfl
    refine ⟨_, rfl, ?_, hkeeps.now_eq rfl, hkeeps.mem_eq rfl, hkeeps.st_eq rfl⟩
    rw [heq, if_pos (beq_self_eq_true 0), State.pictureCoded_isLocal]
    exact State.spillRows_isLocal hlocal rfl g rows true
  case spillway =>
    intro j rest bits blocks hqueue
    have hwork := (State.pace_coderWork _).trans (State.spillStep_front hqueue bits blocks)
    simp only [State.coderWork, Prod.mk.injEq] at hwork
    obtain ⟨htarns, hspills, hnow, hmem⟩ := hwork
    refine ⟨_, exec_spillCtuDone_steps hinj k bits blocks, hnow, ?_, ?_, htarns, hmem⟩
    · rw [State.spw, hspills, Tab.get_set_same, hnow]
    · rw [State.spw, hspills, Tab.get_set_same]

end Sys2Proof.Machine
end

section
/-! PROOFS. UnitEmission: unit rows and shown frames leave the order of their picture, and silent transport streams carry upkeep
(O38). -/

namespace Sys2Proof.Machine

/-! ### What is left to emit of a picture -/

/-- Unit rows and shown frames still to write, with the marks of what is open: what messages and counters about a picture leave
as it was. -/
def Coding.emission (p : Coding) : List Nat × Bool × List (Nat × Nat) := (p.order, p.tsOpen, p.shows)
/-- Likewise of a rendition's picture, with the mark of its temporal unit. -/
def Rend.emission (x : Rend) : Option (List Nat × Bool × List (Nat × Nat)) × Bool := (x.cur.map Coding.emission, x.tuOpen)

theorem State.coding_emission {s : State} {r : Nat} {e : List Nat × Bool × List (Nat × Nat)}
    (h : (s.rend r).cur.map Coding.emission = some e) : (s.coding r).emission = e := by
  obtain ⟨p, hcur, rfl⟩ := Option.map_eq_some_iff.mp h
  rw [State.coding_of_cur hcur]

theorem State.rend_updCoding_same (s : State) (r : Nat) (f : Coding → Coding) :
    (s.updCoding r f).rend r = { s.rend r with cur := (s.rend r).cur.map f } := by
  rw [State.rend, State.updCoding, Tab.get_upd_same, State.rend]

theorem State.updCoding_emission (s : State) (r : Nat) {f : Coding → Coding} (hf : ∀ p, (f p).emission = p.emission) :
    ((s.updCoding r f).rend r).emission = (s.rend r).emission := by
  rw [State.rend_updCoding_same, Rend.emission, Option.map_map, show Coding.emission ∘ f = Coding.emission from funext hf,
    Rend.emission]

theorem State.healBand_emission (s : State) (r b : Nat) (last : Bool) :
    ((s.healBand r b last).rend r).emission = (s.rend r).emission := by
  unfold State.healBand
  extract_lets q p row m put
  have hput : (put.rend r).emission = (s.rend r).emission := s.updCoding_emission r (fun _ => rfl)
  have hsent : Keeps { out := true } put (if put.guavoUp then put.emit (.guavo (.heal m)) else put) :=
    keeps_ite (keeps_emit _ _ (Keeps.refl put) rfl) (Keeps.refl put)
  rw [hsent.rend_eq rfl, hput]

/-- Healing sends the bands of an emitted picture and takes nothing from its emission. -/
theorem State.healLast_emission (s : State) (r : Nat) : ((s.healLast r).rend r).emission = (s.rend r).emission := by
  unfold State.healLast
  split
  · rfl
  · exact State.foldl_congr (fun t => (t.rend r).emission) (fun s b => s.healBand_emission r b _) _ s

theorem State.pace_rend (s : State) (r : Nat) : s.pace.rend r = s.rend r :=
  (keeps_pace (sc := { weir := true }) s (Keeps.refl s) rfl).rend_eq rfl r

/-- Healing and pacing, which end EMIT_UNIT, write nothing more. -/
theorem State.emitEnd_emission (s : State) (r : Nat) : ((s.healLast r).pace.rend r).emission = (s.rend r).emission := by
  rw [State.pace_rend, State.healLast_emission]

theorem keeps_emitEnd {sc : Scope} {s0 s : State} (r : Nat) (h : Keeps sc s0 s) (hregs : sc.regs = true) (hout : sc.out = true)
    (hweir : sc.weir = true) (hcoders : sc.coders = true) (hpair : sc.pair = true) : Keeps sc s0 (s.healLast r).pace :=
  keeps_pace _ (keeps_healLast s r h hregs hout hcoders hpair) hweir

theorem exec_emitUnit_row {g : Nat} (hg : g ≠ 16) {s : State} {r row : Nat} (nals : List Bytes) (items : PicItems) :
    exec (.emitUnit r g row nals items) s = .next ((s.emitUnit r g row nals items).healLast r).pace :=
  congrArg (fun t : State => Host.Outcome.next (t.healLast r).pace) (if_neg (by simp [hg]))

/-! ### Unit rows (R284) -/

/-- The non-unit items are counted and told of; the units stay to be written. -/
theorem State.takeItems_emission (s : State) (r : Nat) (p : Coding) (i : PicItems) :
    ((s.takeItems r p i).2.rend r).emission = (s.rend r).emission := by
  unfold State.takeItems
  extract_lets codec limit k caps all told counted
  have htold : Keeps { regs := true, out := true } s told :=
    keeps_foldl (Keeps.refl s) (fun _ _ h => keeps_evRd _ _ _ _ (keeps_inc _ _ _ h rfl) rfl)
  have hcounted : Keeps { regs := true, out := true } s counted := keeps_ite (keeps_inc _ _ _ htold rfl) htold
  refine (counted.updCoding_emission r ?_).trans (congrArg Rend.emission (hcounted.rend_eq rfl r))
  exact fun _ => rfl

/-- A finished picture may open a temporal unit; nothing is written. -/
theorem State.pictureFinished_emission (s : State) (r : Nat) :
    ((s.pictureFinished r).rend r).cur.map Coding.emission = (s.rend r).cur.map Coding.emission := by
  unfold State.pictureFinished
  extract_lets p b charged marked
  split
  next =>
    have hmarked : (marked.rend r).emission = (charged.rend r).emission := charged.updCoding_emission r (fun _ => rfl)
    have hcharged : charged.rend r = _ := s.rend_setRend_same r _
    rw [State.rend_setRend_same]
    exact (congrArg Prod.fst hmarked).trans (by rw [hcharged]; rfl)
  next => rfl

/-- One unit row fewer in the order, in formats that are open. -/
theorem State.updCoding_front {s : State} {r : Nat} {p : Coding}
    (h : (s.rend r).cur.map Coding.emission = some p.emission) :
    ((s.updCoding r (fun x => { x with order := x.order.drop 1, tsOpen := true })).rend r).cur.map Coding.emission =
      some (p.order.drop 1, true, p.shows) := by
  obtain ⟨x, hx, hemission⟩ := Option.map_eq_some_iff.mp h
  simp only [Coding.emission, Prod.mk.injEq] at hemission
  obtain ⟨horder, -, hshows⟩ := hemission
  rw [State.cur_updCoding_same, hx, Option.map_some, Option.map_some, Coding.emission, horder, hshows]

/-- The unit row at the front is written through its stages (keys, items, the ring) and leaves the order only at the last. -/
theorem State.emitUnit_front {s : State} {r g row : Nat} {p : Coding} {u : UnitOut} (hcur : (s.rend r).cur = some p)
    (hunit : p.units.find (64 * g + row) = some u) (hfront : p.order.head? = some (64 * g + row))
    (hordered : p.rtpLeft.contains (64 * g + row) = false) (nals : List Bytes) (items : PicItems) :
    ((s.emitUnit r g row nals items).rend r).cur.map Coding.emission = some (p.order.drop 1, true, p.shows) := by
  unfold State.emitUnit
  extract_lets p' k q ahead inOrder fresh keyed it itemsFor
  obtain rfl : p' = p := State.coding_of_cur hcur
  have hin : inOrder = true := by simp [inOrder, k, hfront]
  have hahead : ahead = false := hordered
  simp -zeta only [hcur, hunit, k]
  extract_lets late p'' t e all idx early beside first put ordered ring numbered
  rw [if_neg (by simp [hin])]
  have hkeyed : Keeps { emit := true } s keyed := keeps_ite (keeps_ringKey s r (Keeps.refl s) rfl) (Keeps.refl s)
  have hit : (it.2.rend r).emission = (keyed.rend r).emission := by
    dsimp only [it]
    split
    · exact keyed.takeItems_emission r p' items
    · rfl
  have hbeside : beside = late := if_pos (by simp [hahead])
  have hput : Keeps { mem := true, regs := true, emit := true } late put :=
    keeps_emitOrdered _ _ _ _ _ _ _ _ _ _ (by rw [hbeside]; exact Keeps.refl late) rfl rfl rfl
  have hlate : (put.rend r).emission = (it.2.rend r).emission := congrArg Rend.emission (hput.rend_eq rfl r)
  have hwritten : (put.rend r).emission = (s.rend r).emission :=
    hlate.trans (hit.trans (congrArg Rend.emission (hkeyed.rend_eq rfl r)))
  have hordered : ordered = _ := if_neg (by simp [hin])
  have hnumbered : Keeps { emit := true } ordered numbered := keeps_ite (keeps_setRing _ _ _ (Keeps.refl _) rfl) (Keeps.refl _)
  rw [State.pictureFinished_emission, hnumbered.rend_eq rfl, hordered]
  exact State.updCoding_front ((congrArg Prod.fst hwritten).trans (congrArg (Option.map Coding.emission) hcur))

/-! ### Shown frames (R240, R262) -/

/-- The frame at the front leaves the frames to show, and the temporal unit is closed. -/
theorem State.emitShow_front {s : State} {r : Nat} {p : Coding} {h : Nat × Nat} {rest : List (Nat × Nat)}
    (hcur : (s.rend r).cur = some p) (hshows : p.shows = h :: rest) (hfinished : p.finished = true) (nals : List Bytes)
    (items : PicItems) : ((s.emitShow r nals items).rend r).emission = (some (p.order, p.tsOpen, rest), false) := by
  unfold State.emitShow
  extract_lets p' opened its b
  obtain rfl : p' = p := State.coding_of_cur hcur
  simp -zeta only [hshows]
  extract_lets t e put left filled
  rw [if_neg (by simp [hfinished])]
  have hput : Keeps { mem := true, regs := true, emit := true } s put :=
    keeps_emitOrdered _ _ _ _ _ _ _ _ _ _ (Keeps.refl s) rfl rfl rfl
  have hleft : (left.rend r).cur = some { p' with shows := rest } := by
    rw [State.cur_updCoding_same, hput.rend_eq rfl, hcur, Option.map_some]
  rw [State.rend_setRend_same]
  exact congrArg (fun c => (Option.map Coding.emission c, false)) hleft

/-! ### Upkeep of transport streams (R298) -/

/-- When a ring last released transport stream, and its tables. -/
def Ring.upkeep (x : Ring) : Option Nat × Option Nat := (x.lastTs, x.lastTables)

/-- Entries written to a ring leave the times of its upkeep. -/
theorem State.ringPut_upkeep (s : State) (r : Nat) (e : Entry) : ((s.ringPut r e).ring r).upkeep = (s.ring r).upkeep := by
  unfold State.ringPut
  extract_lets size n put rest wrapped
  have hput (u : State) (e : Entry) : ((put u e).ring r).upkeep = (u.ring r).upkeep := by
    change Ring.upkeep ((Tab.set u.rings r _).get r) = _
    rw [Tab.get_set_same]
    rfl
  have hwrapped : (wrapped.ring r).upkeep = (s.ring r).upkeep := by
    dsimp only [wrapped]
    split
    · exact hput s _
    · rfl
  exact (hput wrapped e).trans hwrapped

theorem State.ringPuts_upkeep (s : State) (r : Nat) (e : Entry) (packets : List Bytes) (first last key : Bool) :
    ((s.ringPuts r e packets first last key).ring r).upkeep = (s.ring r).upkeep :=
  State.foldl_congr (fun t => (t.ring r).upkeep) (fun s _ => s.ringPut_upkeep r _) _ s

/-- A release of transport stream is noted with its time; the tables keep theirs. -/
theorem State.putTs_upkeep (s : State) (r : Nat) (e : Entry) (packets : List Bytes) (first last key : Bool) :
    ((s.putTs r e packets first last key).ring r).upkeep = (some e.release, (s.ring r).lastTables) := by
  unfold State.putTs
  extract_lets q ds x one put noted rtp udp released
  have hrtp : (rtp.ring r).upkeep = (s.ring r).upkeep := by
    dsimp only [rtp]
    split
    · rw [State.ring_setRing_same]
      exact s.ringPuts_upkeep r _ one first last key
    · rfl
  have hudp : (udp.ring r).upkeep = (rtp.ring r).upkeep := by
    dsimp only [udp]
    split
    · exact rtp.ringPuts_upkeep r _ ds first last key
    · rfl
  have htables : (udp.ring r).lastTables = (s.ring r).lastTables := congrArg Prod.snd (hudp.trans hrtp)
  rw [State.ring_setRing_same, Ring.upkeep, htables]

theorem Keeps.phc_eq {sc : Scope} {s t : State} (h : Keeps sc s t) (hclk : sc.clk = false) : t.time.phc = s.time.phc :=
  congrArg Prod.snd (h.frame.clk hclk)

/-- Passing cycles leave the rings and the structure. -/
theorem State.cycles_upkeep {s u : State} {n : Nat} (hu : u = s.cycles n) (r : Nat) :
    u.now = s.now + n ∧ u.ring r = s.ring r ∧ u.st = s.st := by
  subst hu
  exact ⟨rfl, State.ring_congr (s.cycles_rings n) r, s.cycles_st n⟩

/-- What is released at the time reached is noted with it. -/
theorem State.putTs_at_time (s : State) (r : Nat) (packets : List Bytes) (first last key : Bool) :
    ∃ t : State, t = s.putTs r { release := linear s.time.phc } packets first last key ∧ t.now = s.now ∧
      t.time.phc = s.time.phc ∧ t.st = s.st ∧ (t.ring r).lastTs = some (linear s.time.phc) ∧
      (t.ring r).lastTables = (s.ring r).lastTables := by
  have hkeeps : Keeps { mem := true, regs := true, emit := true } s
      (s.putTs r { release := linear s.time.phc } packets first last key) :=
    keeps_putTs _ _ _ _ _ _ _ (Keeps.refl s) rfl rfl rfl
  have hupkeep := s.putTs_upkeep r { release := linear s.time.phc } packets first last key
  exact ⟨_, rfl, hkeeps.now_eq rfl, hkeeps.phc_eq rfl, hkeeps.st_eq rfl, congrArg Prod.fst hupkeep, congrArg Prod.snd hupkeep⟩

/-- R298: 20 ms after the last release of a live stream, a PCR alone is released at the time reached. -/
theorem exec_tsPcrKeepalive_releases {s u : State} {r at_ : Nat} (hlive : s.tsLive r = true)
    (hlast : (s.ring r).lastTs = some at_) (hu : u = s.cycles (s.cyclesTo ((at_ + 20000000) % 2 ^ 64))) :
    exec (.tsPcrKeepalive r) s = .next (u.putTs r { release := linear u.time.phc } [tsPacket (u.ring r).videoPid
      ((u.ring r).cc.get (u.ring r).videoPid + 15) false (some (linear u.time.phc)) []] false false false) := by
  subst hu
  change execTsPcrKeepalive r s = _
  simp only [execTsPcrKeepalive, hlive, hlast]

/-- R298: 100 ms after the last tables of a live stream, they are released at the time reached, which the ring notes. -/
theorem exec_tsTableRepeat_releases {s u : State} {r at_ : Nat} (hlive : s.tsLive r = true)
    (hlast : (s.ring r).lastTables = some at_) (hu : u = s.cycles (s.cyclesTo ((at_ + 100000000) % 2 ^ 64))) :
    exec (.tsTableRepeat r) s = .next ((u.setRing r (u.tables r).2).putTs r { release := linear u.time.phc } (u.tables r).1
      false false false) := by
  subst hu
  change execTsTableRepeat r s = _
  simp only [execTsTableRepeat, hlive, hlast]

/-- Settles O38: a unit row and a shown frame by what leaves the order, upkeep by the release at the time reached. -/
theorem unitsAreEmittedAndStreamsKeptAlive : Obligations.UnitsAreEmittedAndStreamsKeptAlive := by
  unfold Obligations.UnitsAreEmittedAndStreamsKeptAlive
  intro s r
  refine ⟨?unit, ?shown, ?pcr, ?tables⟩
  case unit =>
    intro g row u nals items hg hsome hunit hfront hordered
    obtain ⟨p, hcur⟩ := Option.isSome_iff_exists.mp hsome
    rw [State.coding_of_cur hcur] at hunit hfront hordered ⊢
    have hkeeps : Keeps { mem := true, regs := true, out := true, weir := true, coders := true, emit := true, pair := true } s
        ((s.emitUnit r g row nals items).healLast r).pace :=
      keeps_emitEnd r (keeps_emitUnit _ _ _ _ _ _ (Keeps.refl s) rfl rfl rfl rfl rfl) rfl rfl rfl rfl rfl
    have hemission := State.coding_emission
      ((congrArg Prod.fst (State.emitEnd_emission _ r)).trans (State.emitUnit_front hcur hunit hfront hordered nals items))
    simp only [Coding.emission, Prod.mk.injEq] at hemission
    obtain ⟨horder, hopen, -⟩ := hemission
    exact ⟨_, exec_emitUnit_row hg nals items, horder, hopen, hkeeps.now_eq rfl, hkeeps.st_eq rfl⟩
  case shown =>
    intro row nals items h rest hsome hshows hfinished
    obtain ⟨p, hcur⟩ := Option.isSome_iff_exists.mp hsome
    rw [State.coding_of_cur hcur] at hshows hfinished
    have hkeeps : Keeps { mem := true, regs := true, out := true, weir := true, coders := true, emit := true, pair := true } s
        ((s.emitShow r nals items).healLast r).pace :=
      keeps_emitEnd r (keeps_emitShow _ _ _ _ (Keeps.refl s) rfl rfl rfl rfl) rfl rfl rfl rfl rfl
    have hend := (State.emitEnd_emission _ r).trans (State.emitShow_front hcur hshows hfinished nals items)
    have hemission := State.coding_emission (congrArg Prod.fst hend)
    simp only [Coding.emission, Prod.mk.injEq] at hemission
    obtain ⟨-, -, hrest⟩ := hemission
    exact ⟨_, rfl, hrest, congrArg Prod.snd hend, hkeeps.now_eq rfl, hkeeps.st_eq rfl⟩
  case pcr =>
    intro at_ hlive hlast
    obtain ⟨u, hu⟩ : ∃ u, u = s.cycles (s.cyclesTo ((at_ + 20000000) % 2 ^ 64)) := ⟨_, rfl⟩
    obtain ⟨hunow, huring, hust⟩ := State.cycles_upkeep hu r
    obtain ⟨t, ht, hnow, hphc, hst, hts, htables⟩ := u.putTs_at_time r _ false false false
    exact ⟨t, ht ▸ exec_tsPcrKeepalive_releases hlive hlast hu, hnow.trans hunow, hphc ▸ hts,
      htables.trans (congrArg Ring.lastTables huring), hst.trans hust⟩
  case tables =>
    intro at_ hlive hlast
    obtain ⟨u, hu⟩ : ∃ u, u = s.cycles (s.cyclesTo ((at_ + 100000000) % 2 ^ 64)) := ⟨_, rfl⟩
    obtain ⟨hunow, -, hust⟩ := State.cycles_upkeep hu r
    obtain ⟨t, ht, hnow, hphc, hst, hts, htables⟩ :=
      (u.setRing r (u.tables r).2).putTs_at_time r (u.tables r).1 false false false
    rw [State.setRing_time] at hphc hts
    rw [State.ring_setRing_same] at htables
    exact ⟨t, ht ▸ exec_tsTableRepeat_releases hlive hlast hu, hnow.trans hunow, hphc ▸ hts,
      htables.trans (congrArg (fun c => some (linear c)) hphc.symm), hst.trans hust⟩

end Sys2Proof.Machine
end

section
/-! PROOFS. EgressPorts: a port's selection, the write of its bucket and the end of a drain (O40). -/

namespace Sys2Proof.Machine

/-! ### Ports of Outflow -/

@[simp] theorem State.oport_setOport_same (s : State) (n : Nat) (x : OutPort) : (s.setOport n x).oport n = x :=
  Tab.get_set_same _ _ _

theorem State.oport_congr {s t : State} (h : t.outf = s.outf) (n : Nat) : t.oport n = s.oport n := congrArg (·.ports.get n) h

theorem State.overcommitPort_outf (s : State) (n : Nat) : (s.overcommitPort n).outf = s.outf :=
  (keeps_overcommitPort (sc := { out := true }) s n (Keeps.refl s) rfl).outf_eq rfl

/-- The rates that take effect leave the duplicates that wait. -/
theorem State.portApply_dups (s : State) (n at_ : Nat) : ((s.portApply n at_).oport n).dups = (s.oport n).dups := by
  unfold State.portApply
  rw [State.oport_congr (State.overcommitPort_outf _ n), State.oport_setOport_same]

theorem State.portSettle_dups (s : State) (n : Nat) : ((s.portSettle n).oport n).dups = (s.oport n).dups := by
  unfold State.portSettle
  split
  · exact s.portApply_dups n _
  · rfl

/-- Nothing settles where no rates wait. -/
theorem State.portSettle_of_not_apply {s : State} {n : Nat} (h : (s.oport n).apply = false) : s.portSettle n = s :=
  if_neg (by simp [h])

/-! ### A frame on the wire (R313) -/

/-- A port is occupied from the present cycle on. -/
theorem State.occupy_port (s : State) (n len : Nat) (sent : Bool) :
    ((s.occupy n len sent).oport n).dups = (s.oport n).dups ∧ s.now ≤ ((s.occupy n len sent).oport n).free := by
  unfold State.occupy State.oport
  rw [Tab.get_upd_same]
  exact ⟨rfl, Nat.le_add_right _ _⟩

/-- Whether the gate and the link let it out or not, a frame occupies its port. -/
theorem State.sendFrame_outf (s : State) (n u : Nat) (b : Bytes) (first : Bool) :
    ∃ sent, (s.sendFrame n u b first).outf = (s.occupy n (b.length + 4) sent).outf := by
  unfold State.sendFrame
  extract_lets len wire service
  split
  · exact ⟨false, rfl⟩
  split
  · exact ⟨false, rfl⟩
  · refine ⟨true, ?_⟩
    cases first <;> rfl

theorem State.sendFrame_port (s : State) (n u : Nat) (b : Bytes) (first : Bool) :
    ((s.sendFrame n u b first).oport n).dups = (s.oport n).dups ∧ s.now ≤ ((s.sendFrame n u b first).oport n).free := by
  obtain ⟨sent, hsent⟩ := s.sendFrame_outf n u b first
  rw [State.oport_congr hsent]
  exact s.occupy_port n _ sent

/-! ### Selection (R305, R307, R317) -/

/-- The machine as port `n` selects: its MAC is free, staged rates are settled and its buckets are brought up to date. -/
def State.selecting (s : State) (n : Nat) : State :=
  let s := (s.runTo (s.oport n).free).portSettle n
  s.setOport n { s.oport n with node := (s.oport n).node.gain (s.oport n).rates s.now }

theorem State.keeps_selecting (s : State) (n : Nat) :
    Keeps { out := true, emit := true } (s.runTo (s.oport n).free) (s.selecting n) :=
  keeps_setOport _ _ _ (keeps_portSettle _ _ (Keeps.refl _) rfl rfl) rfl

theorem State.selecting_now (s : State) (n : Nat) : (s.selecting n).now = max s.now (s.oport n).free :=
  ((s.keeps_selecting n).now_eq rfl).trans (s.runTo_now _)

theorem State.selecting_st (s : State) (n : Nat) : (s.selecting n).st = s.st := (s.keeps_selecting n).st_eq rfl

theorem State.selecting_dups (s : State) (n : Nat) : ((s.selecting n).oport n).dups = (s.oport n).dups := by
  unfold State.selecting
  rw [State.oport_setOport_same]
  exact State.portSettle_dups _ n

/-- The machine with the first duplicate of port `n` taken, whose wire bytes are charged (R305). -/
def State.takeDuplicate (s : State) (n : Nat) (b : Bytes) (rest : List (Nat × Bytes)) : State :=
  s.setOport n { s.oport n with dups := rest, node := (s.oport n).node.charge (b.length + 24) }

/-- R317: a waiting duplicate is sent first. -/
theorem exec_outflowSelect_duplicate {s : State} {n u : Nat} {b : Bytes} {rest : List (Nat × Bytes)}
    (hformed : s.st.portFormed n = true) (hdups : (s.oport n).dups = (u, b) :: rest) :
    exec (.outflowSelect n) s = .next (((s.selecting n).takeDuplicate n b rest).sendFrame n u b false) := by
  change execOutflowSelect n s = _
  unfold execOutflowSelect
  rw [if_neg (by simp [hformed])]
  extract_lets t x selecting y
  have hwaiting : y.dups = (u, b) :: rest := (s.selecting_dups n).trans hdups
  rw [hwaiting]
  rfl

/-- The first duplicate leaves its queue as it is sent, and occupies the port. -/
theorem State.sendDuplicate_port (s : State) (n u : Nat) (b : Bytes) (rest : List (Nat × Bytes)) {t : State}
    (ht : t = (s.takeDuplicate n b rest).sendFrame n u b false) : (t.oport n).dups = rest ∧ s.now ≤ (t.oport n).free := by
  subst ht
  obtain ⟨hdups, hfree⟩ := (s.takeDuplicate n b rest).sendFrame_port n u b false
  exact ⟨hdups.trans (congrArg OutPort.dups (State.oport_setOport_same _ _ _)), hfree⟩

theorem State.keeps_sendDuplicate (s : State) (n u : Nat) (b : Bytes) (rest : List (Nat × Bytes)) :
    Keeps { regs := true, out := true, emit := true } s ((s.takeDuplicate n b rest).sendFrame n u b false) :=
  keeps_sendFrame _ _ _ _ _ (keeps_setOport _ _ _ (Keeps.refl s) rfl) rfl rfl rfl

/-- R307: with no duplicate waiting the hierarchy chooses, which takes no time and leaves the structure. -/
theorem exec_outflowSelect_hierarchy {s : State} {n : Nat} (hformed : s.st.portFormed n = true)
    (hdups : (s.oport n).dups = []) :
    ∃ t, exec (.outflowSelect n) s = .next t ∧ Keeps { regs := true, out := true, emit := true } (s.selecting n) t := by
  change ∃ t, execOutflowSelect n s = _ ∧ _
  unfold execOutflowSelect
  rw [if_neg (by simp [hformed])]
  extract_lets t x selecting y refreshed svc
  have hnone : y.dups = [] := (s.selecting_dups n).trans hdups
  have hrefreshed : Keeps { regs := true, out := true, emit := true } selecting refreshed :=
    keeps_foldl (Keeps.refl _) (fun t v ht => keeps_refreshSvc t v ht rfl rfl rfl)
  rw [hnone]
  refine ⟨_, rfl, ?_⟩
  change Keeps _ selecting _
  clear_value refreshed svc
  dsimp only
  split
  · exact hrefreshed
  split
  · exact hrefreshed
  split
  · exact hrefreshed
  · exact keeps_foldl (keeps_sendSelected _ _ _ _ _ hrefreshed rfl rfl rfl) (fun t v ht => keeps_refreshSvc t v ht rfl rfl rfl)

/-! ### The write of a port's CFG (R315) -/

/-- What the write stores: the TTL and RESET_TO; APPLY reads as 0. -/
def portCfgWord (w : Word) : Nat := bits w.toNat 15 8 * 256 + bits w.toNat 1 1 * 2

section Apply

variable {s : State} {n : Nat} {w : Word} (hformed : s.st.portFormed n = true) (hidle : (s.oport n).apply = false)
  (happly : bit w.toNat 0 = true)

include hformed hidle happly

/-- A port that sends no frame takes its rates at once. -/
theorem exec_portBucketApply_at_once (hfree : (s.oport n).free ≤ s.now) :
    exec (.portBucketApply n w) s = .next ((s.wrn (outPort n 0) (portCfgWord w)).portApply n s.now) := by
  change Host.Outcome.next (s.portCfgWrite n w) = _
  unfold State.portCfgWrite
  rw [State.portSettle_of_not_apply hidle]
  exact congrArg Host.Outcome.next ((if_neg (by simp [hformed, happly])).trans (if_pos hfree))

/-- A port that sends one takes them at its boundary. -/
theorem exec_portBucketApply_waits (hbusy : s.now < (s.oport n).free) :
    exec (.portBucketApply n w) s =
      .next ((s.wrn (outPort n 0) (portCfgWord w)).setOport n { s.oport n with apply := true }) := by
  change Host.Outcome.next (s.portCfgWrite n w) = _
  unfold State.portCfgWrite
  rw [State.portSettle_of_not_apply hidle]
  exact congrArg Host.Outcome.next ((if_neg (by simp [hformed, happly])).trans (if_neg (Nat.not_le.mpr hbusy)))

end Apply

/-! ### The end of a drain (R320) -/

theorem State.drainEnd_pair (s : State) : s.drainEnd.pair = s.pair :=
  (keeps_drainEnd (sc := { clk := true, out := true, emit := true }) s (Keeps.refl s) rfl rfl rfl).frame.pair rfl

theorem State.setActOut_pair (s : State) (b : Bool) : (s.setActOut b).pair = { s.pair with actOut := b } := by
  unfold State.setActOut
  split
  next h => rw [← eq_of_beq h]
  next => rfl

/-- A YIELD that waits for the drain is answered. -/
def State.answerYield (s : State) : State :=
  match s.pair.yieldBy with
  | some (o, t) => (s.updPair (fun p => { p with yieldBy := none })).complete o .ok 0 (s.now - t)
  | none => s

theorem State.answerYield_pair (s : State) : s.answerYield.pair = { s.pair with yieldBy := none } := by
  unfold State.answerYield
  split
  · exact (State.keeps_complete_out _ _ _ _ _).frame.pair rfl
  next h => rw [← h]

/-- The hold-off counts leave the role, ACT_OUT and a waiting YIELD. -/
theorem State.pairSettle_parts (s : State) : s.pairSettle.pair.actOut = s.pair.actOut ∧
    s.pairSettle.pair.yieldBy = s.pair.yieldBy ∧ s.pairSettle.pair.role = s.pair.role := ⟨rfl, rfl, rfl⟩

/-- The machine as its last frame has left, ACT_OUT has fallen and a waiting YIELD is answered. -/
def State.egressDrained (s : State) : State := (s.drainEnd.setActOut false).answerYield

theorem State.egressDrained_pair (s : State) : s.egressDrained.pair = { s.pair with actOut := false, yieldBy := none } := by
  rw [State.egressDrained, State.answerYield_pair, State.setActOut_pair, State.drainEnd_pair]

theorem State.drainDone_of_not_draining {s : State} (h : s.outf.draining = false) : s.drainDone = s := if_pos (by simp [h])

theorem State.drainDone_of_draining {s : State} (h : s.outf.draining = true) :
    s.drainDone = if s.egressDrained.pair.role == 4 then (s.egressDrained.setRole 1).pairSettle else s.egressDrained :=
  if_neg (by simp [h])

/-- A drain ends with ACT_OUT low and no YIELD waiting; a WITHDRAWING device becomes STANDBY. -/
theorem State.drainDone_parts {s : State} (h : s.outf.draining = true) :
    s.drainDone.pair.actOut = false ∧ s.drainDone.pair.yieldBy = none ∧
      s.drainDone.pair.role = (if s.pair.role = 4 then 1 else s.pair.role) := by
  have hrole : s.egressDrained.pair.role = s.pair.role := by rw [State.egressDrained_pair]
  rw [State.drainDone_of_draining h, hrole]
  by_cases h4 : s.pair.role = 4
  · obtain ⟨hact, hyield, hset⟩ := (s.egressDrained.setRole 1).pairSettle_parts
    rw [if_pos (beq_iff_eq.mpr h4), if_pos h4, hact, hyield, hset, State.setRole_pair, State.egressDrained_pair]
    exact ⟨rfl, rfl, rfl⟩
  · rw [if_neg (by simpa using h4), if_neg h4, State.egressDrained_pair]
    exact ⟨rfl, rfl, rfl⟩

theorem State.drainDone_mem (s : State) : s.drainDone.mem = s.mem :=
  (keeps_drainDone (sc := { clk := true, out := true, emit := true, pair := true }) s (Keeps.refl s) rfl rfl rfl rfl).mem_eq rfl

/-- Settles O40: a duplicate by the port it occupies, the rates by whether a frame is being sent, the drain by its pairing. -/
theorem outflowSelectsAppliesAndDrains : Obligations.OutflowSelectsAppliesAndDrains := by
  unfold Obligations.OutflowSelectsAppliesAndDrains
  intro s n w hformed
  refine ⟨?select, fun hidle happly hbusy => ?waits, fun hidle happly => exec_portBucketApply_at_once hformed hidle happly,
    fun hdraining => ?drained, fun hnot => congrArg Host.Outcome.next (State.drainDone_of_not_draining hnot)⟩
  case select =>
    cases hdups : (s.oport n).dups with
    | nil =>
      obtain ⟨t, hexec, hkeeps⟩ := exec_outflowSelect_hierarchy hformed hdups
      exact ⟨t, hexec, (hkeeps.now_eq rfl).trans (s.selecting_now n), (hkeeps.st_eq rfl).trans (s.selecting_st n), nofun⟩
    | cons d waiting =>
      obtain ⟨u, b⟩ := d
      have hkeeps := (s.selecting n).keeps_sendDuplicate n u b waiting
      obtain ⟨hrest, hfree⟩ := (s.selecting n).sendDuplicate_port n u b waiting rfl
      exact ⟨_, exec_outflowSelect_duplicate hformed hdups, (hkeeps.now_eq rfl).trans (s.selecting_now n),
        (hkeeps.st_eq rfl).trans (s.selecting_st n),
        fun _ _ rest hwaiting => ⟨hrest.trans (List.cons.inj hwaiting).2, (hkeeps.now_eq rfl).trans_le hfree⟩⟩
  case waits =>
    refine ⟨_, exec_portBucketApply_waits hformed hidle happly hbusy, ?_⟩
    rw [State.oport_setOport_same]
    exact ⟨rfl, rfl, rfl, rfl⟩
  case drained =>
    obtain ⟨hact, hyield, hrole⟩ := State.drainDone_parts hdraining
    exact ⟨_, rfl, hact, hyield, hrole, s.drainDone_mem⟩

end Sys2Proof.Machine
end

section
/-! PROOFS. Scopes: the scope of every command, the front command, and the idle cycle (O1, O2, O3, O5). -/

namespace Sys2Proof.Machine

/-! ### What every command leaves (O2, O5) -/

/-- Whatever opcode an entry spells has a next state. -/
theorem entryRun_next (b : Bytes) (buf : Option Bytes) (o : Origin) (s : State) : ∃ t, entryRun b buf o s = .next t := by
  unfold entryRun
  repeat' split
  all_goals exact ⟨_, rfl⟩

theorem execCommandFetch_next (f q : Nat) (entry buf : Option Bytes) (s : State) :
    ∃ t, execCommandFetch f q entry buf s = .next t := by
  unfold execCommandFetch
  dsimp only
  repeat' split
  case h_2.isFalse.isTrue => exact entryRun_next _ _ _ _
  all_goals exact ⟨_, rfl⟩

/-- Every command has a next state, by its own arm; the fetch of a command by what it fetches. -/
theorem exec_next (i : Instr) (s : State) : ∃ t, exec i s = .next t := by
  cases i with
  | commandFetch f q entry buf => exact execCommandFetch_next f q entry buf s
  | _ => exact ⟨_, rfl⟩

/-- It reaches that state inside its scope. -/
theorem exec_next_keeps (i : Instr) (s : State) : ∃ t, exec i s = .next t ∧ Keeps i.scope s t := by
  obtain ⟨t, hexec⟩ := exec_next i s
  have hkeeps := keeps_exec i s (Keeps.refl s)
  rw [hexec] at hkeeps
  exact ⟨t, hexec, hkeeps⟩

theorem exec_keeps {i : Instr} {s t : State} (hexec : exec i s = .next t) : Keeps i.scope s t := by
  obtain ⟨u, hnext, hkeeps⟩ := exec_next_keeps i s
  cases hexec.symm.trans hnext
  exact hkeeps

/-- Settles O5: each operation keeps what lies outside the scope of the command that runs it (`keeps_exec`). -/
theorem everyCommandStaysInItsScope : Obligations.EveryCommandStaysInItsScope := by
  unfold Obligations.EveryCommandStaysInItsScope
  exact fun i s t hexec => (exec_keeps hexec).frame

/-- Settles O2: the queue and the clock are told by what every operation keeps. -/
theorem noCommandStops : Obligations.NoCommandStops := by
  unfold Obligations.NoCommandStops
  intro i s
  obtain ⟨t, hexec, hkeeps⟩ := exec_next_keeps i s
  exact ⟨t, hexec, hkeeps.pending, hkeeps.now⟩

/-! ### What a scope leaves of registers, outputs, the memory system and the engines -/

namespace Keeps

variable {sc : Scope} {s t : State}

theorem regs_eq (h : Keeps sc s t) (hregs : sc.regs = false) : t.regs = s.regs := congrArg (·.1) (h.frame.regs hregs)

theorem rd_eq (h : Keeps sc s t) (hregs : sc.regs = false) (a : Nat) : t.rd a = s.rd a := State.rd_congr (h.regs_eq hregs) a

theorem out_eq (h : Keeps sc s t) (hout : sc.out = false) : t.out = s.out := congrArg (·.2.1) (h.frame.out hout)

theorem chans_eq (h : Keeps sc s t) (hmemsys : sc.memsys = false) : t.chans = s.chans := congrArg (·.1) (h.frame.memsys hmemsys)

theorem fabric_eq (h : Keeps sc s t) (hmemsys : sc.memsys = false) : t.fabric = s.fabric :=
  congrArg (·.2.1) (h.frame.memsys hmemsys)

theorem selfRefresh_eq (h : Keeps sc s t) (hmemsys : sc.memsys = false) : t.selfRefresh = s.selfRefresh :=
  congrArg (·.2.2) (h.frame.memsys hmemsys)

theorem chan_eq (h : Keeps sc s t) (hmemsys : sc.memsys = false) (n : Nat) : t.chan n = s.chan n :=
  congrArg (·.get n) (h.chans_eq hmemsys)

theorem slc_eq (h : Keeps sc s t) (hdma : sc.dma = false) (g : Nat) : t.slc g = s.slc g :=
  congrArg (·.1.get g) (h.frame.dma hdma)

theorem bces_eq (h : Keeps sc s t) (hdma : sc.dma = false) : t.bces = s.bces := congrArg (·.2.2.1) (h.frame.dma hdma)

theorem bce_eq (h : Keeps sc s t) (hdma : sc.dma = false) (b : Nat) : t.bce b = s.bce b := congrArg (·.get b) (h.bces_eq hdma)

theorem lane_eq (h : Keeps sc s t) (hlanes : sc.lanes = false) (n : Nat) : t.lane n = s.lane n :=
  congrArg (·.get n) (h.frame.lanes hlanes)

theorem excluded_eq (h : Keeps sc s t) (hunits : sc.units = false) : t.excluded = s.excluded :=
  congrArg Prod.snd (h.frame.units hunits)

end Keeps

/-! ### The idle cycle (O1) -/

/-- Nothing is granted where nothing waits. -/
theorem State.grants_of_none_waiting {s : State} {g : Nat} (h : (s.tport g).waiting = []) (room : State → Txn → Bool)
    (serve : State → AtArbiter → Nat → State) (fuel from_ : Nat) : s.grants room serve g fuel from_ = s := by
  cases fuel with
  | zero => rfl
  | succ fuel => simp [State.grants, h]

theorem State.memGrants_of_none_waiting {s : State} {n : Nat} (h : (s.tport n).waiting = []) : s.memGrants n = s :=
  State.grants_of_none_waiting h _ _ _ _

theorem State.portGrants_of_none_waiting {s : State} {g : Nat} (h : (s.tport g).waiting = []) : s.portGrants g = s := by
  unfold State.portGrants
  split
  · exact State.memGrants_of_none_waiting h
  · exact State.grants_of_none_waiting h _ _ _ _

theorem State.allGrants_of_none_waiting {s : State} (h : ∀ g, (s.tport g).waiting = []) : s.allGrants = s :=
  List.foldl_fixed' (f := fun (s : State) (e : Nat × TargetPort) => s.portGrants e.1)
    (fun e => State.portGrants_of_none_waiting (h e.1)) _

/-- Settles O1: with no request at a target the grants of an idle cycle change nothing. -/
theorem stepRunsTheFrontCommand : Obligations.StepRunsTheFrontCommand := by
  unfold Obligations.StepRunsTheFrontCommand
  refine ⟨fun c rest s => rfl, fun s hidle hnone => ?_⟩
  have htick : s.tick = s.cycles 1 := State.allGrants_of_none_waiting (s := s.cycles 1) hnone
  rw [step, hidle, ← htick]

/-- Settles O3: nothing is listed in memory, a key slot is programmed, and the PHC starts at 0. -/
theorem resetHasTheInvariant : Obligations.ResetHasTheInvariant :=
  ⟨Mem.wf_nil, ⟨0, rfl, rfl⟩, ⟨by decide, by decide⟩, nofun⟩

end Sys2Proof.Machine
end

section
/-! PROOFS. BlockCopy: the semaphore of a block copy engine, its start, and the lines it writes (O47, O48). -/

namespace Sys2Proof.Machine

@[simp] theorem State.bce_setBce_same (s : State) (b : Nat) (x : Bce) : (s.setBce b x).bce b = x := Tab.get_set_same _ _ _

/-! ### Held and started (R366, R367, R370) -/

theorem exec_bceAcquire_free {s : State} {b : Nat} (h : (s.bce b).holder = none) (f : Nat) :
    exec (.bceAcquire b f) s = .next (s.setBce b { s.bce b with holder := some f }) :=
  congrArg Host.Outcome.next (if_neg (by simp [h]))

theorem exec_bceAcquire_held {s : State} {b k : Nat} (h : (s.bce b).holder = some k) (f : Nat) :
    exec (.bceAcquire b f) s = .next s :=
  congrArg Host.Outcome.next (if_pos (by simp [h]))

/-- R367: the holder's release takes effect at once, or as its operation ends. -/
theorem exec_bceRelease_holder {s : State} {b f : Nat} (h : (s.bce b).holder = some f) :
    exec (.bceRelease b f) s = .next (s.setBce b (if (s.bce b).busy then { s.bce b with release := true }
      else { s.bce b with holder := none, release := false })) :=
  congrArg Host.Outcome.next (if_neg (by simp [h]))

/-- R367: an engine whose semaphore is forced away is free and idle; an operation in progress changes no other engine. -/
theorem State.bceDrop_bces (s : State) (b cause : Nat) :
    (s.bceDrop b cause).bces = s.bces.set b { s.bce b with holder := none, release := false, busy := false } := by
  unfold State.bceDrop
  extract_lets x o freed dropped
  have hdropped : Keeps { mem := true, out := true } freed dropped := by
    refine keeps_foldl (Keeps.refl _) fun u y hu => keeps_ite (keeps_freeLine _ _ _ hu rfl rfl) hu
  have hstatus (u : State) : (u.bceStatus b 6 0 false).bces = u.bces := rfl
  have hreset (u : State) (p : Txn → Bool) : (u.masterReset 19 p).bces = u.bces :=
    (keeps_masterReset (sc := { memsys := true }) u 19 p (Keeps.refl u) rfl).bces_eq rfl
  split
  · rfl
  · rw [State.ev_bces, hstatus, hreset, hdropped.bces_eq rfl]
    rfl

theorem exec_bceForceRelease_idle {s : State} {b : Nat} (h : (s.bce b).busy = false) :
    exec (.bceForceRelease b 0) s = .next (s.setBce b { s.bce b with holder := none, release := false, busy := false }) :=
  congrArg Host.Outcome.next ((if_pos rfl).trans (if_pos (by simp [h])))

theorem exec_bceForceRelease_other {f : Nat} (hf : f ≠ 0) (s : State) (b : Nat) : exec (.bceForceRelease b f) s = .next s :=
  congrArg Host.Outcome.next (if_neg (by simpa using hf))

/-- R370: a GO of an operation that passes the checks starts it. -/
theorem State.bceGo_starts {u : State} {b : Nat} (hlegal : (u.bceOp b).legal = true) (hirq : bit (u.rdn (bceReg b 0x04)) 10 = false)
    (hdst : (u.bceOp b).aligned (u.bceOp b).dst (u.bceOp b).dp = true)
    (hsrc : (u.bceOp b).aligned (u.bceOp b).src (u.bceOp b).sp = true) (hlap : (u.bceOp b).overlaps = false) :
    u.bceGo b = u.setBce b { u.bce b with busy := true, at_ := u.now } := by
  simp [State.bceGo, firstFail, hlegal, hirq, hdst, hsrc, hlap]

theorem exec_bceGo_holder {s : State} {b f : Nat} {w : Word} (hheld : (s.bce b).holder = some f) (hidle : (s.bce b).busy = false)
    (hgo : bit w.toNat 0 = true) :
    exec (.bceGo b f w) s = .next ((s.wrn (bceReg b 0x04) (bits w.toNat 31 10 * 2 ^ 10)).bceGo b) :=
  congrArg Host.Outcome.next ((if_neg (by simp [hheld])).trans ((if_neg (by simp [hidle])).trans (if_pos hgo)))

/-- R366: a write by who does not hold the engine is told, and no more. -/
theorem exec_bceGo_notHeld {s : State} {b f : Nat} (hheld : (s.bce b).holder ≠ some f) (w : Word) :
    exec (.bceGo b f w) s = .next (s.bceNotHeld b f) :=
  congrArg Host.Outcome.next (if_pos (by simpa using hheld))

/-- Settles O47: the semaphore by who holds it, the GO by its holder and its checks. -/
theorem blockCopyEnginesAreHeldAndStarted : Obligations.BlockCopyEnginesAreHeldAndStarted := by
  unfold Obligations.BlockCopyEnginesAreHeldAndStarted
  intro s b f w
  refine ⟨fun hfree => exec_bceAcquire_free hfree f, fun k hheld => exec_bceAcquire_held hheld f, fun hheld hidle => ?idle,
    fun hheld hbusy => ?busy, exec_bceForceRelease_idle, fun hbusy => ?forced, fun hf => exec_bceForceRelease_other hf s b,
    fun hheld hidle hgo u hu hlegal hirq hdst hsrc hlap => ?go, fun hheld => ?notHeld⟩
  case idle => rw [exec_bceRelease_holder hheld, hidle]; rfl
  case busy => rw [exec_bceRelease_holder hheld, hbusy]; rfl
  case forced =>
    have hkeeps := exec_keeps (i := .bceForceRelease b 0) (s := s) rfl
    have hbce : (s.bceDrop b 1).bce b = { s.bce b with holder := none, release := false, busy := false } := by
      rw [State.bce, State.bceDrop_bces, Tab.get_set_same]
    exact ⟨s.bceDrop b 1, rfl, by rw [hbce], by rw [hbce], hkeeps.now_eq rfl, hkeeps.st_eq rfl⟩
  case go =>
    subst hu
    rw [exec_bceGo_holder hheld hidle hgo, State.bceGo_starts hlegal hirq hdst hsrc hlap]
    rfl
  case notHeld =>
    have hkeeps : Keeps { out := true } s (s.bceNotHeld b f) := keeps_bceNotHeld s b f (Keeps.refl s) rfl
    exact ⟨_, exec_bceGo_notHeld hheld w, hkeeps.regs_eq rfl, hkeeps.bces_eq rfl, hkeeps.mem_eq rfl⟩

/-! ### The lines of an operation (R369, R371) -/

theorem BceOp.mem_lines {o : BceOp} {y : Nat} : y ∈ o.lines ↔ y < o.h := by
  unfold BceOp.lines
  dsimp only
  split <;> simp

theorem BceOp.lines_length (o : BceOp) : o.lines.length = o.h := by
  unfold BceOp.lines
  dsimp only
  split <;> simp

theorem BceOp.lines_nodup (o : BceOp) : o.lines.Nodup := by
  unfold BceOp.lines
  dsimp only
  split
  · exact List.nodup_reverse.mpr List.nodup_range
  · exact List.nodup_range

theorem BceOp.line_length (o : BceOp) (m : Mem) (y : Nat) : (o.line m y).length = o.bytes := by
  simp [BceOp.line, BceOp.bytes, leBytes]

/-- The destination's byte `i` of line `y`. -/
def BceOp.place (o : BceOp) (y i : Nat) : Nat := o.dst + y * o.dp + i

/-- Lines no longer than their pitch share no byte. -/
theorem BceOp.place_outside {o : BceOp} (hpitch : o.bytes ≤ o.dp) {y z i : Nat} (hi : i < o.bytes) (h : y ≠ z) :
    o.place y i < o.dst + z * o.dp ∨ o.dst + z * o.dp + o.bytes ≤ o.place y i := by
  unfold BceOp.place
  rcases Nat.lt_or_gt_of_ne h with hlt | hlt
  · have := Nat.mul_le_mul_right o.dp hlt
    rw [Nat.succ_mul] at this
    omega
  · have := Nat.mul_le_mul_right o.dp hlt
    rw [Nat.succ_mul] at this
    omega

/-- The lines written change no byte outside them. -/
theorem BceOp.byte_writeLines_outside (o : BceOp) (old : Mem) {a : Nat} : ∀ (l : List Nat) (m : Mem),
    (∀ y ∈ l, a < o.dst + y * o.dp ∨ o.dst + y * o.dp + o.bytes ≤ a) → Mem.byte (o.writeLines old m l) a = Mem.byte m a := by
  intro l
  induction l with
  | nil => exact fun m _ => rfl
  | cons y l ih =>
    intro m hout
    rw [BceOp.writeLines, List.foldl_cons, ← BceOp.writeLines, ih _ (fun z hz => hout z (List.mem_cons_of_mem y hz))]
    exact Mem.byte_puts_outside _ _ _ _ (by rw [o.line_length]; exact hout y List.mem_cons_self)

/-- Each line written holds what the operation makes of memory as it was before. -/
theorem BceOp.byte_writeLines_inside {o : BceOp} (hpitch : o.bytes ≤ o.dp) (old : Mem) {y i : Nat} (hi : i < o.bytes) :
    ∀ (l : List Nat) (m : Mem), l.Nodup → y ∈ l → Mem.byte (o.writeLines old m l) (o.place y i) = (o.line old y).getD i 0 := by
  intro l
  induction l with
  | nil => exact fun m _ hy => absurd hy List.not_mem_nil
  | cons z l ih =>
    intro m hnodup hy
    obtain ⟨hz, hl⟩ := List.nodup_cons.mp hnodup
    rw [BceOp.writeLines, List.foldl_cons, ← BceOp.writeLines]
    rcases List.mem_cons.mp hy with rfl | hy
    · have hlen : i < (o.line old y).length := by rwa [o.line_length]
      rw [BceOp.byte_writeLines_outside o old l _ (fun x hx => BceOp.place_outside hpitch hi (ne_of_mem_of_not_mem hx hz).symm),
        BceOp.place, Mem.byte_puts_inside _ _ _ _ hlen, List.getD_eq_getElem _ _ hlen]
    · exact ih _ hl hy

/-! ### The end of an operation (R372, R373) -/

/-- An operation whose lines can all be reached writes them all. -/
theorem State.bceSplit_of_no_fault (s : State) (f : Option Nat) (o : BceOp) : ∀ l : List Nat, (∀ y ∈ l, s.bceFault f o y = none) →
    s.bceSplit f o l = (l, none)
  | [], _ => rfl
  | y :: l, h => by
    rw [State.bceSplit, h y List.mem_cons_self, s.bceSplit_of_no_fault f o l (fun z hz => h z (List.mem_cons_of_mem y hz))]

/-- R372: the cycle at which the operation in progress ends. -/
def State.bceEndsAt (s : State) (b : Nat) : Nat :=
  let n := (s.bceOp b).h * (s.bceOp b).bytes
  (s.bce b).at_ + n / 4096 * (64 + s.fld (bceReg b 0x30) 15 0) + ceilDiv (n % 4096) 64

/-- The machine at that cycle with the operation's lines written. -/
def State.bceWritten (s : State) (b : Nat) : State :=
  { s.runTo (s.bceEndsAt b) with mem := (s.bceOp b).writeLines s.mem s.mem (s.bceOp b).lines }

theorem exec_bceComplete_whole {s : State} {b : Nat} (hbusy : (s.bce b).busy = true)
    (hreach : ∀ y < (s.bceOp b).h, s.bceFault (s.bce b).holder (s.bceOp b) y = none) :
    exec (.bceComplete b none) s = .next ((s.bceWritten b).bceEnd b 0 0) := by
  have hsplit := s.bceSplit_of_no_fault (s.bce b).holder (s.bceOp b) _ (fun y hy => hreach y (BceOp.mem_lines.mp hy))
  have hcomplete : s.bceComplete b none = (s.bceWritten b).bceEnd b 0 0 := by
    simp only [State.bceComplete, hbusy, hsplit, BceOp.lines_length]
    rfl
  exact congrArg Host.Outcome.next hcomplete

theorem State.bceEnd_bce (s : State) (b result left : Nat) : (s.bceEnd b result left).bce b = { s.bce b with
    busy := false, release := false, holder := if (s.bce b).release then none else (s.bce b).holder } := by
  unfold State.bceEnd
  extract_lets x c u
  rw [(keeps_irq (sc := { out := true }) u _ _ _ (Keeps.refl u) rfl).bce_eq rfl]
  exact State.bce_setBce_same _ _ _

/-- Settles O48: the lines are written from memory as it was, and what ends the operation leaves memory. -/
theorem blockCopyWritesItsLinesAndNothingElse : Obligations.BlockCopyWritesItsLinesAndNothingElse := by
  unfold Obligations.BlockCopyWritesItsLinesAndNothingElse
  rintro s b o rfl hbusy hreach hpitch
  have hend : Keeps { regs := true, out := true, dma := true } (s.bceWritten b) ((s.bceWritten b).bceEnd b 0 0) :=
    keeps_bceEnd _ b 0 0 (Keeps.refl _) rfl rfl rfl
  have hbce := (s.bceWritten b).bceEnd_bce b 0 0
  refine ⟨_, exec_bceComplete_whole hbusy hreach, by rw [hbce], by rw [hbce]; rfl, fun a hout => ?outside, fun y hy i hi => ?inside,
    (hend.now_eq rfl).trans (s.runTo_now _), hend.st_eq rfl⟩
  case outside =>
    rw [hend.mem_eq rfl]
    exact BceOp.byte_writeLines_outside _ _ _ _ (fun y hy => hout y (BceOp.mem_lines.mp hy))
  case inside =>
    rw [hend.mem_eq rfl]
    exact BceOp.byte_writeLines_inside hpitch _ hi _ _ (BceOp.lines_nodup _) (BceOp.mem_lines.mpr hy)

end Sys2Proof.Machine
end

section
/-! PROOFS. CheckUnits: bytes fed, the end of a message, and the registers of a check unit (O49). -/

namespace Sys2Proof.Machine

@[simp] theorem State.chk_setChk_same (s : State) (u : Nat) (x : CheckUnit) : (s.setChk u x).chk u = x := Tab.get_set_same _ _ _

theorem State.chk_setChk_other (s : State) {u k : Nat} (x : CheckUnit) (h : k ≠ u) : (s.setChk u x).chk k = s.chk k :=
  Tab.get_set_other _ _ h

@[simp] theorem chkReg_inj {u a b : Nat} : chkReg u a = chkReg u b ↔ a = b := by simp [chkReg]

/-! ### A byte fed (R375) -/

/-- R375: a byte goes into the running value; without a MSG_LEN it ends no message. -/
theorem State.chkByte_run {s : State} {u : Nat} (hlen : s.fld (chkReg u 0) 22 7 = 0) (hgoes : (s.chk u).restart = false) (b : Byte) :
    ∃ c, s.chkByte u b = s.setChk u { s.chk u with
      run := (s.crcCfg u).feed (s.chk u).run b.toNat, restart := false, fed := (s.chk u).fed + 1, counter := c } := by
  unfold State.chkByte
  extract_lets x v off n run take fed len
  have hrun : run = (s.chk u).run := if_neg (by simp [x, hgoes])
  have hzero : len = 0 := hlen
  rw [hzero]
  exact ⟨_, by rw [← hrun]; rfl⟩

/-! ### The end of a message (R377, R378) -/

/-- From `s` to `t` unit `u` keeps its running value and its result, and no register but its ALIVE_STAT changes. -/
structure AliveOnly (u : Nat) (s t : State) : Prop where
  run : (t.chk u).run = (s.chk u).run
  result : (t.chk u).result = (s.chk u).result
  rd : ∀ a, a ≠ chkReg u 0x3C → t.rd a = s.rd a

namespace AliveOnly

variable {u : Nat} {s t : State}

theorem ev (h : AliveOnly u s t) (code src detail : Nat) : AliveOnly u s (t.ev code src detail) := ⟨h.run, h.result, h.rd⟩

theorem count (h : AliveOnly u s t) (hi lo v : Nat) : AliveOnly u s (t.setFld (chkReg u 0x3C) hi lo v) :=
  ⟨h.run, h.result, fun a ha => (State.rd_wrn_other _ _ ha).trans (h.rd a ha)⟩

theorem fld (h : AliveOnly u s t) {o : Nat} (ho : o ≠ 0x3C) (hi lo : Nat) : t.fld (chkReg u o) hi lo = s.fld (chkReg u o) hi lo :=
  State.fld_congr (h.rd _ (by simpa using ho)) hi lo

theorem crcCfg (h : AliveOnly u s t) : t.crcCfg u = s.crcCfg u := by
  have hrdn (o : Nat) (ho : o ≠ 0x3C) : t.rdn (chkReg u o) = s.rdn (chkReg u o) := by
    rw [State.rdn, h.rd _ (by simpa using ho), State.rdn]
  have hrd64 (o : Nat) (ho : o < 0x38) : t.rd64 (chkReg u o) = s.rd64 (chkReg u o) := by
    rw [State.rd64, State.rd64, hrdn o (by omega)]
    exact congrArg (_ + 2 ^ 32 * ·) (hrdn (o + 4) (by omega))
  rw [State.crcCfg, State.crcCfg, hrdn 0 (by decide), hrd64 0x08 (by decide), hrd64 0x10 (by decide), hrd64 0x18 (by decide)]

end AliveOnly

theorem State.aliveOnly_setChk (s : State) (u : Nat) {x : CheckUnit} (hrun : x.run = (s.chk u).run)
    (hresult : x.result = (s.chk u).result) : AliveOnly u s (s.setChk u x) :=
  ⟨by rw [State.chk_setChk_same, hrun], by rw [State.chk_setChk_same, hresult], fun _ _ => rfl⟩

/-- R378: the alive comparison. -/
theorem State.aliveCheck_only (s : State) (u : Nat) : AliveOnly u s (s.aliveCheck u) := by
  have hsame : AliveOnly u s s := ⟨rfl, rfl, fun _ _ => rfl⟩
  unfold State.aliveCheck
  extract_lets x v w c y
  have hput : AliveOnly u s (s.setChk u y) := s.aliveOnly_setChk u rfl rfl
  split
  · exact hsame
  · split
    · exact hsame.ev _ _ _
    · split
      · exact hput
      · split
        · exact (hput.count _ _ _).ev _ _ _
        · split
          · exact hput
          · exact (hput.count _ _ _).ev _ _ _

/-- R377: a message's end latches its result under AUTO_RESTART. -/
theorem State.chkEnd_chk (s : State) (u : Nat) : ∃ x : CheckUnit, x.run = (s.chk u).run ∧ x.result = (s.chk u).result ∧
    (s.chkEnd u).chk u = { x with
      fed := 0, counter := [], restart := s.fld (chkReg u 0) 29 29 == 1
      result := if s.fld (chkReg u 0) 29 29 == 1 then (s.crcCfg u).out x.run else x.result } := by
  have hcheck := s.aliveCheck_only u
  refine ⟨(s.aliveCheck u).chk u, hcheck.run, hcheck.result, ?_⟩
  unfold State.chkEnd
  extract_lets t x cfg auto
  rw [State.chk_setChk_same, ← hcheck.fld (by decide), ← hcheck.crcCfg]

/-! ### Register writes (R374, R376, R378, R379) -/

/-- R379: a register write acts unless firmware holds the unit. -/
theorem State.chkWrite_open {s : State} {u : Nat} (h : s.fwHeld u = false) (k : State → State) : s.chkWrite u k = k s :=
  if_neg (by simp [h])

theorem State.chkWrite_held {s : State} {u : Nat} (h : s.fwHeld u = true) (k : State → State) : s.chkWrite u k = s := if_pos h

theorem exec_chkPortWrite_owner {s : State} {u f : Nat} (hopen : s.fwHeld u = false) (hf : f = 0 ∨ f = (s.chk u).owner) (b : Bytes) :
    exec (.chkPortWrite u f b) s = .next (s.chkBytes u b) :=
  congrArg Host.Outcome.next (if_neg (by simpa [hopen, or_iff_not_imp_left] using hf))

theorem exec_chkPortWrite_other {s : State} {u f : Nat} (hf : f ≠ 0) (hother : f ≠ (s.chk u).owner) (b : Bytes) :
    exec (.chkPortWrite u f b) s = .next (s.decodeError 20 (some f) true (0x1020000000 + 0x1000 * u)) :=
  congrArg Host.Outcome.next (if_pos (by simp [hf, hother]))

/-- Settles O49: each write by what `chkWrite` lets it do. -/
theorem checkUnitsFeedEndAndRestart : Obligations.CheckUnitsFeedEndAndRestart := by
  unfold Obligations.CheckUnitsFeedEndAndRestart
  intro s u f w b hi
  refine ⟨fun hopen => ?open_, fun hheld i hinstr => ?held⟩
  case open_ =>
    have hwrite (k : State → State) : Host.Outcome.next (s.chkWrite u k) = (.next (k s) : Host.Outcome State Fault Refusal) :=
      congrArg _ (State.chkWrite_open hopen k)
    refine ⟨hwrite _, fun hlen hgoes => ?byte, fun hf => exec_chkPortWrite_owner hopen hf b,
      fun hf hother => exec_chkPortWrite_other hf hother b, ⟨_, hwrite _, ?msgEnd⟩, hwrite _, ⟨_, hwrite _, ?run⟩,
      ⟨_, hwrite _, ?alive⟩, ⟨_, hwrite _, ?owner⟩⟩
    case byte =>
      obtain ⟨c, hbyte⟩ := State.chkByte_run hlen hgoes (BitVec.ofNat 8 w.toNat)
      refine ⟨_, (hwrite _).trans (congrArg _ hbyte), ?_, ?_, fun k hk => State.chk_setChk_other _ _ hk, rfl, rfl⟩ <;> simp
    case msgEnd =>
      obtain ⟨x, hrun, hresult, hchk⟩ := s.chkEnd_chk u
      have hkeeps : Keeps { regs := true, out := true, dma := true } s (s.chkEnd u) :=
        keeps_chkEnd s u (Keeps.refl s) rfl rfl rfl
      rw [hchk]
      refine ⟨rfl, rfl, hrun, ?_, fun hauto => ?_, hkeeps.mem_eq rfl, hkeeps.now_eq rfl⟩
      · simp [beq_eq_decide]
      · simp [hauto, hrun]
    case run => exact ⟨by simp, by simp, by simp, rfl, rfl⟩
    case alive => exact ⟨by simp, by simp, rfl, fun a ha => State.rd_wrn_other s _ ha⟩
    case owner =>
      refine ⟨by simp, by simp, fun hsame => ?_, fun hnew => ?_, rfl, rfl⟩
      · simp [hsame]
      · simp [hnew]
  case held =>
    have hwrite (k : State → State) : Host.Outcome.next (s.chkWrite u k) = (.next s : Host.Outcome State Fault Refusal) :=
      congrArg _ (State.chkWrite_held hheld k)
    rcases hinstr with rfl | rfl | rfl | rfl | rfl | rfl | rfl <;> exact hwrite _

end Sys2Proof.Machine
end

section
/-! PROOFS. SluiceChannels: triggers, slots, stops, descriptors and records of Sluice channels (O45, O46). -/

namespace Sys2Proof.Machine

@[simp] theorem State.slc_setSlc_same (s : State) (g : Nat) (x : SluiceChan) : (s.setSlc g x).slc g = x := Tab.get_set_same _ _ _

theorem State.slc_setSlc_other (s : State) {g k : Nat} (x : SluiceChan) (h : k ≠ g) : (s.setSlc g x).slc k = s.slc k :=
  Tab.get_set_other _ _ h

/-! ### Triggers (R356) -/

/-- The channel as a trigger starts it at its descriptor. -/
def State.slcStarted (s : State) (g : Nat) : SluiceChan :=
  { s.slc g with
    state := 1, cfg := s.slcCfg g, stat := s.rd64 (sluiceReg g 0x08), cur := s.rd64 (sluiceReg g 0x00), hops := 0, bytes := 0
    seq := ((s.slc g).seq + 1) % 65536, order := s.sluiceOrder, owed := [], error := none, killed := false }

/-- The machine once the trigger is taken. -/
def State.slcStart (s : State) (g : Nat) : State := { s.setSlc g (s.slcStarted g) with sluiceOrder := s.sluiceOrder + 1 }

theorem State.slcStart_slc (s : State) (g : Nat) : (s.slcStart g).slc g = s.slcStarted g := Tab.get_set_same _ _ _

theorem State.sluiceTrigger_starts {s : State} {g : Nat} (hidle : (s.slc g).state = 0)
    (hclass : (slcTick (s.slcCfg g) && !(slcTrigger (s.slcCfg g) == 1 && !bit (s.slcTimer g) 28)) = false) :
    s.sluiceTrigger g = s.slcStart g :=
  (if_neg (by simp [hidle])).trans (if_neg (by simpa using hclass))

theorem State.sluiceTrigger_missed {s : State} {g : Nat} (h : (s.slc g).state ≠ 0) : s.sluiceTrigger g = s.sluiceMissed g :=
  if_pos (by simpa using h)

theorem exec_sluiceStart_doorbell {s : State} {f i g : Nat} (howner : s.sluiceOf f i = some g) (henabled : (s.slc g).state ≠ 3)
    (hdoorbell : slcTrigger (s.slcCfg g) = 0) : exec (.sluiceStart f i) s = .next (s.sluiceTrigger g) := by
  have hstart : s.sluiceStart g = s.sluiceTrigger g := if_neg (by simp [henabled, hdoorbell])
  rw [exec, execSluiceStart, howner, ← hstart]

/-- R356: the timer of a Weir-relative channel triggers it, and marks the window. -/
theorem exec_sluiceTimerTrigger_fires {s : State} {g : Nat} {d : Domain} (hd : d = s.dom (bits (s.slcTimer g) 31 29))
    (howner : s.sluiceOwner g ≠ none) (htimer : slcTrigger (s.slcCfg g) = 1) (hweir : bit (s.slcTimer g) 28 = false)
    (hstage : d.stage = .window) (hnew : (s.slc g).fired ≠ some d.tick) :
    exec (.sluiceTimerTrigger g) s = .next (((s.runTo (d.openAt + 16 * bits (s.slcTimer g) 23 0)).setSlc g { s.slc g with
      fired := some d.tick }).sluiceTrigger g) := by
  subst hd
  exact congrArg Host.Outcome.next (if_neg (by simp [howner, htimer, hweir, hstage, hnew]))

/-! ### Slots (R361) -/

/-- The channels that wait for a slot. -/
def State.slotWaiters (s : State) : List (Nat × SluiceChan) := s.sluice.filter (fun e => e.2.state == 1 && !e.2.killed)

theorem State.mem_slotWaiters {s : State} {e : Nat × SluiceChan} :
    e ∈ s.slotWaiters ↔ e ∈ s.sluice ∧ e.2.state = 1 ∧ e.2.killed = false := by
  simp [State.slotWaiters]

/-- The place of the first in trigger order. -/
def firstOrder (l : List (Nat × SluiceChan)) : Nat := (l.map (·.2.order)).foldl min (((l.head?).map (·.2.order)).getD 0)

/-- Some channel of a list stands first in trigger order, and is found there. -/
theorem find?_firstOrder {l : List (Nat × SluiceChan)} (h : l ≠ []) :
    ∃ e ∈ l, l.find? (fun e => e.2.order == firstOrder l) = some e ∧ ∀ e' ∈ l, e.2.order ≤ e'.2.order := by
  obtain ⟨a, r, rfl⟩ := List.exists_cons_of_ne_nil h
  have hmin : (a.2.order :: (a :: r).map (·.2.order)).min? = some (firstOrder (a :: r)) := List.min?_cons'
  obtain ⟨hmem, hle⟩ := List.min?_eq_some_iff.mp hmin
  have hplace : ∃ e ∈ a :: r, e.2.order = firstOrder (a :: r) := by simpa [eq_comm] using hmem
  obtain ⟨e, hfind⟩ := Option.isSome_iff_exists.mp (List.find?_isSome.mpr (by simpa using hplace) :
    ((a :: r).find? (fun e => e.2.order == firstOrder (a :: r))).isSome = true)
  have horder : e.2.order = firstOrder (a :: r) := by simpa using List.find?_some hfind
  refine ⟨e, List.mem_of_find?_eq_some hfind, hfind, fun e' he' => ?_⟩
  rw [horder]
  exact hle _ (List.mem_cons_of_mem _ (List.mem_map_of_mem he'))

/-- R361: a free slot goes to the first in trigger order. -/
theorem exec_sluiceSlotGrant_first {s : State} {slot : Nat} {e : Nat × SluiceChan} (hslot : slot < 32)
    (hfree : ∀ k x, (k, x) ∈ s.sluice → ¬ ((x.state = 2 ∨ x.state = 4) ∧ x.slot = slot))
    (hfirst : s.slotWaiters.find? (fun e => e.2.order == firstOrder s.slotWaiters) = some e) :
    exec (.sluiceSlotGrant slot) s = .next (s.setSlc e.1 { e.2 with state := 2, slot }) := by
  have hused : s.sluice.vals.any (fun x => (x.state == 2 || x.state == 4) && x.slot == slot) = false := by
    rw [List.any_eq_false]
    intro x hx
    obtain ⟨⟨k, y⟩, hmem, rfl⟩ := List.mem_map.mp hx
    simpa using hfree k y hmem
  have hgrant : s.slotGrant slot = s.setSlc e.1 { e.2 with state := 2, slot } := by
    unfold State.slotGrant
    extract_lets used wait first
    have hfind : wait.find? (fun e => e.2.order == first) = some e := hfirst
    rw [hfind]
    exact if_neg (by simp [used, hused, hslot])
  exact congrArg Host.Outcome.next hgrant

/-! ### Stops (R363) -/

theorem exec_sluiceDisable_owned {s : State} {f i g : Nat} (howner : s.sluiceOf f i = some g) :
    exec (.sluiceDisable f i) s = .next (s.sluiceDisable g) := by
  rw [exec, execSluiceDisable, howner]

theorem State.sluiceDisable_slc (s : State) (g : Nat) : ((s.sluiceDisable g).slc g).state = 3 ∧ ((s.sluiceDisable g).slc g).owed = [] ∧
    ((s.sluiceDisable g).slc g).error = none := by
  unfold State.sluiceDisable
  extract_lets x a b u
  rw [State.slc_setSlc_same]
  exact ⟨rfl, rfl, rfl⟩

/-- R363, R364: an abort in maintenance ends a waiting channel. -/
theorem exec_sluiceAbort_waiting {s : State} {f i g : Nat} (howner : s.sluiceOf f i = some g) (hwaits : (s.slc g).state = 1)
    (hmay : s.abortable g = true) (herror : (s.slc g).error = none) (howed : (s.slc g).owed = []) (desc data : Bytes) (n : Nat) :
    exec (.sluiceAbort f i desc data n) s = .next (s.setSlc g { s.slc g with
      state := 4, slot := 32, owed := [{ status := 5, addr := (s.slc g).cur, final := true }] }) := by
  have hissues : (s.slc g).issues = false := by simp [SluiceChan.issues, hwaits]
  have habort : s.sluiceAbort g 0 = s.setSlc g { s.slc g with
      state := 4, slot := 32, owed := [{ status := 5, addr := (s.slc g).cur, final := true }] } := by
    simp [State.sluiceAbort, hmay, herror, howed, hwaits]
  rw [exec, execSluiceAbort, howner]
  exact congrArg Host.Outcome.next ((if_pos (by simp [hissues])).trans habort)

/-- Settles O45: each trigger and stop by the state of its channel, the slot by the order of those that wait. -/
theorem sluiceChannelsStartWaitAndEnd : Obligations.SluiceChannelsStartWaitAndEnd := by
  unfold Obligations.SluiceChannelsStartWaitAndEnd
  intro s f i g howner
  refine ⟨fun hidle hdoorbell hclass => ?start, fun hbusy henabled hdoorbell => ?missed, ?disable,
    fun hwaits hmay herror howed desc data n => exec_sluiceAbort_waiting howner hwaits hmay herror howed desc data n,
    fun hown htimer hweir hidle hstage hnew => ?timer, fun slot hslot hfree hsome => ?slot⟩
  case start =>
    have hstart := State.sluiceTrigger_starts hidle (by rw [hclass, Bool.false_and])
    refine ⟨_, (exec_sluiceStart_doorbell howner (by simp [hidle]) hdoorbell).trans (congrArg _ hstart), ?_⟩
    rw [State.slcStart_slc]
    exact ⟨rfl, rfl, rfl, rfl, rfl, rfl, rfl, fun k hk => State.slc_setSlc_other s _ hk, rfl, rfl⟩
  case missed =>
    rw [exec_sluiceStart_doorbell howner henabled hdoorbell, State.sluiceTrigger_missed hbusy]
  case disable =>
    have hexec := exec_sluiceDisable_owned howner
    have hkeeps := exec_keeps hexec
    obtain ⟨hstate, howed, herror⟩ := s.sluiceDisable_slc g
    exact ⟨_, hexec, hstate, howed, herror, hkeeps.mem_eq rfl, hkeeps.regs_eq rfl, hkeeps.now_eq rfl⟩
  case timer =>
    have hexec := exec_sluiceTimerTrigger_fires rfl hown htimer hweir hstage hnew
    have hclass : (slcTick (s.slcCfg g) && !(slcTrigger (s.slcCfg g) == 1 && !bit (s.slcTimer g) 28)) = false := by
      simp [htimer, hweir]
    have hstart := State.sluiceTrigger_starts (s := (s.runTo ((s.dom (bits (s.slcTimer g) 31 29)).openAt +
      16 * bits (s.slcTimer g) 23 0)).setSlc g { s.slc g with fired := some (s.dom (bits (s.slcTimer g) 31 29)).tick })
      (by rwa [State.slc_setSlc_same]) hclass
    refine ⟨_, hexec.trans (congrArg _ hstart), ?_, ?_, s.runTo_now _, rfl⟩
    · rw [State.slcStart_slc]
      rfl
    · rw [State.slcStart_slc, State.slcStarted, State.slc_setSlc_same]
  case slot =>
    obtain ⟨k, x, hmem, hwaits, hlive⟩ := hsome
    have hne : s.slotWaiters ≠ [] := List.ne_nil_of_mem (State.mem_slotWaiters.mpr ⟨hmem, hwaits, hlive⟩)
    obtain ⟨⟨j, y⟩, hin, hfind, hle⟩ := find?_firstOrder hne
    obtain ⟨hy, hstate, hkilled⟩ := State.mem_slotWaiters.mp hin
    exact ⟨j, y, hy, hstate, hkilled, fun k' x' hx' hw hk => hle (k', x') (State.mem_slotWaiters.mpr ⟨hx', hw, hk⟩),
      exec_sluiceSlotGrant_first hslot hfree hfind⟩

/-! ### Descriptors (R357, R358, R362) -/

section Issues

variable {s : State} {g : Nat} (hissues : (s.slc g).issues = true) {fetched : Bool} {desc data : Bytes} {moved : Nat}
include hissues

theorem exec_sluiceDescriptorDone_misaligned (hcur : (s.slc g).cur % 32 ≠ 0) :
    exec (.sluiceDescriptorDone g fetched desc data moved none) s =
      .next (s.sluiceOwes g { status := 4, addr := (s.slc g).cur, final := true }) :=
  congrArg Host.Outcome.next ((if_neg (by simp [hissues])).trans (if_pos (by simp [hcur])))

variable (hcur : (s.slc g).cur % 32 = 0) (hstat : (s.slc g).stat % 16 = 0)
include hcur hstat

/-- R357: a descriptor that cannot be reached ends the channel with ADDRESS_ERROR. -/
theorem exec_sluiceDescriptorDone_unreached (hreach : s.reach (some (s.sluiceFn g)) false (s.slc g).cur 32 = false) :
    exec (.sluiceDescriptorDone g fetched desc data moved none) s =
      .next ((s.decodeError 17 (some (s.sluiceFn g)) false (s.slc g).cur).drawFree.2.sluiceFails g 3
        (s.decodeError 17 (some (s.sluiceFn g)) false (s.slc g).cur).drawFree.1.toNat (s.slc g).cur) := by
  have hfetch : s.fetchDesc (s.sluiceFn g) (s.slc g).cur fetched desc =
      ((none, 3), s.decodeError 17 (some (s.sluiceFn g)) false (s.slc g).cur) := if_pos (by simp [hreach])
  refine congrArg Host.Outcome.next ((if_neg (by simp [hissues])).trans ((if_neg (by simp [hcur, hstat])).trans ?_))
  rw [hfetch]

/-- R358: a descriptor that is fetched runs where it is legal. -/
theorem exec_sluiceDescriptorDone_fetched {u : State} {b : Bytes}
    (hfetch : s.fetchDesc (s.sluiceFn g) (s.slc g).cur fetched desc = ((some b, 0), u)) :
    exec (.sluiceDescriptorDone g fetched desc data moved none) s =
      .next (if (sluiceDesc b).legal then u.descRun g (sluiceDesc b) data moved none
        else u.sluiceOwes g { status := 4, residue := (sluiceDesc b).total, addr := (s.slc g).cur, final := true }) := by
  refine congrArg Host.Outcome.next ((if_neg (by simp [hissues])).trans ((if_neg (by simp [hcur, hstat])).trans ?_))
  rw [hfetch]

end Issues

/-- The fetch of a descriptor leaves the channels and memory. -/
theorem State.keeps_fetchDesc_parts (s : State) (f cur : Nat) (fetched : Bool) (desc : Bytes) :
    Keeps { time := true, regs := true, out := true, emit := true } s (s.fetchDesc f cur fetched desc).2 :=
  keeps_fetchDesc s f cur fetched desc (Keeps.refl s) rfl rfl rfl rfl

theorem State.sluiceFails_slc (s : State) (g code residue a : Nat) : (s.sluiceFails g code residue a).slc g = { s.slc g with
    error := some { status := code, residue, addr := a, final := true } } := State.slc_setSlc_same _ _ _

theorem State.sluiceOwes_slc (s : State) (g : Nat) (r : SluiceRec) :
    (s.sluiceOwes g r).slc g = { s.slc g with owed := (s.slc g).owed ++ [r] } := State.slc_setSlc_same _ _ _

/-- R358: a legal jump leads to the descriptor that it names. -/
theorem State.descRun_jump {s : State} {g : Nat} {d : SluiceDesc} (hjump : d.jump = true) (hlast : d.last = false)
    (hirq : d.irq = false) (hhops : (s.slc g).hops + 1 < hopLimit (s.slc g).cfg) (data : Bytes) (moved : Nat)
    (fail : Option (Nat × Bool)) :
    s.descRun g d data moved fail = (s.setSlc g { s.slc g with hops := (s.slc g).hops + 1 }).setSlc g { s.slc g with
      hops := (s.slc g).hops + 1, cur := d.src.addr } := by
  refine (if_pos hjump).trans ?_
  unfold State.descEnds
  simp [hjump, hlast, hirq, hhops]

/-- R357: a legal descriptor all of whose pieces are answered moves its bytes. -/
theorem State.descRun_moves {s : State} {g : Nat} {d : SluiceDesc} (hmoves : d.jump = false)
    (hsrc : s.sideFails (s.sluiceFn g) false none (d.src.pieces d.total) = none)
    (hdst : s.sideFails (s.sluiceFn g) true none (d.dst.pieces d.total) = none) (data : Bytes) (moved : Nat) {v : State}
    (hv : v = s.moveBytes (s.sluiceFn g) d data d.total) :
    s.descRun g d data moved none = (v.setSlc g { v.slc g with bytes := ((v.slc g).bytes + d.total) % 2 ^ 64 }).descEnds g d := by
  subst hv
  unfold State.descRun
  simp only [hmoves, Option.bind_none, hsrc, hdst]
  rfl

/-! ### Records (R359, R360, R362) -/

/-- R360: a posted record is the channel's LAST_STATUS. -/
theorem State.sluicePost_slc (s : State) (g : Nat) (r : SluiceRec) : (s.sluicePost g r).slc g = { s.slc g with
    lastStatus := r.status * 2 ^ 24 + (s.slc g).seq % 65536 } := by
  unfold State.sluicePost
  extract_lets x f written y latched told
  have htold : Keeps { out := true } latched told := by
    unfold told
    split
    case h_7 => exact Keeps.refl _
    all_goals exact keeps_ev _ _ _ _ (Keeps.refl _) rfl
  have hwritten : Keeps { mem := true, regs := true, out := true } s written :=
    keeps_sluiceWrite s _ _ _ (Keeps.refl s) rfl rfl rfl
  have hy : y = s.slc g := hwritten.slc_eq rfl g
  rw [(keeps_irq (sc := { out := true }) told _ _ _ (Keeps.refl told) rfl).slc_eq rfl, htold.slc_eq rfl, State.slc_setSlc_same, hy]

/-- R359: the oldest record owed is posted; the last one ends the channel. -/
theorem State.statusPost_slc {s : State} {g : Nat} {r : SluiceRec} {rest : List SluiceRec} (howed : (s.slc g).owed = r :: rest)
    (hstatus : r.status ≠ 0) : (s.statusPost g).slc g = { s.slc g with
      owed := if r.final then [] else rest, state := if r.final then 0 else (s.slc g).state
      lastStatus := r.status * 2 ^ 24 + (s.slc g).seq % 65536 } := by
  unfold State.statusPost
  extract_lets x
  rw [show x.owed = r :: rest from howed]
  dsimp -zeta only
  extract_lets taken posted y ended
  have hposted : y = { s.slc g with owed := rest, lastStatus := r.status * 2 ^ 24 + (s.slc g).seq % 65536 } := by
    exact (State.sluicePost_slc _ _ _).trans (by rw [State.slc_setSlc_same])
  have hended : ended.slc g = { s.slc g with
      owed := if r.final then [] else rest, state := if r.final then 0 else (s.slc g).state
      lastStatus := r.status * 2 ^ 24 + (s.slc g).seq % 65536 } := by
    unfold ended
    split
    next => rw [State.slc_setSlc_same, hposted]
    next => exact hposted
  split
  next hzero _ => exact absurd hzero hstatus
  next => exact hended

/-- R362: an error record ends the channel. -/
theorem State.errorEnd_slc {s : State} {g : Nat} {r : SluiceRec} (herror : (s.slc g).error = some r) :
    (s.errorEnd g).slc g = { s.slc g with
      state := 0, error := none, owed := [], lastStatus := r.status * 2 ^ 24 + (s.slc g).seq % 65536 } := by
  unfold State.errorEnd
  rw [herror]
  dsimp only
  rw [State.sluicePost_slc, State.slc_setSlc_same]

/-- Settles O46: a descriptor by what its fetch answers, a record by what is owed. -/
theorem sluiceDescriptorsRunAndRecordsArePosted : Obligations.SluiceDescriptorsRunAndRecordsArePosted := by
  unfold Obligations.SluiceDescriptorsRunAndRecordsArePosted
  intro s g fetched desc data moved hissues
  refine ⟨exec_sluiceDescriptorDone_misaligned hissues, fun hcur hstat => ⟨fun hreach => ?unreached,
    fun u b d hfetch hd => ?fetched⟩, fun k r rest howed hstatus => ?posted, fun k r herror => ?error⟩
  case unreached =>
    have herror := keeps_decodeError (sc := { regs := true, out := true }) s 17 (some (s.sluiceFn g)) false (s.slc g).cur
      (Keeps.refl s) rfl rfl
    exact ⟨_, _, exec_sluiceDescriptorDone_unreached hissues hcur hstat hreach,
      congrArg (·.error) (State.sluiceFails_slc _ g 3 _ _), rfl, rfl, rfl, herror.mem_eq rfl⟩
  case fetched =>
    subst hd
    have hkeeps := s.keeps_fetchDesc_parts (s.sluiceFn g) (s.slc g).cur fetched desc
    rw [hfetch] at hkeeps
    have hslc := hkeeps.slc_eq rfl g
    have hmem := hkeeps.mem_eq rfl
    have hexec := exec_sluiceDescriptorDone_fetched (data := data) (moved := moved) hissues hcur hstat hfetch
    refine ⟨fun hbad => ?_, fun hlegal hjump hlast hirq hhops => ?_, fun hlegal hmoves hsrc hdst => ⟨_, rfl, ?_⟩⟩
    · rw [hbad] at hexec
      exact ⟨_, hexec, by rw [if_neg Bool.false_ne_true, State.sluiceOwes_slc, hslc], hmem⟩
    · rw [if_pos hlegal, State.descRun_jump hjump hlast hirq (by rwa [hslc])] at hexec
      exact ⟨_, hexec, by rw [State.slc_setSlc_same], by rw [State.slc_setSlc_same, hslc], by rw [State.slc_setSlc_same, hslc], hmem⟩
    · rw [hexec, if_pos hlegal, State.descRun_moves hmoves hsrc hdst data moved rfl]
  case posted =>
    have hslc := State.statusPost_slc howed hstatus
    exact ⟨_, rfl, by rw [hslc], by rw [hslc], by rw [hslc]⟩
  case error =>
    have hslc := State.errorEnd_slc herror
    exact ⟨_, rfl, by rw [hslc], by rw [hslc], by rw [hslc], by rw [hslc]⟩

end Sys2Proof.Machine
end

section
/-! PROOFS. Reservoir: refresh, scrub, retraining, training and self-refresh of memory channels (O41, O42, O43). -/

namespace Sys2Proof.Machine

/-! ### Fields of a register -/

/-- A field's bits, those above them and those below them. -/
theorem putBits_split (n hi lo v : Nat) : putBits n hi lo v =
    2 ^ lo * (2 ^ (hi + 1 - lo) * (n / 2 ^ lo / 2 ^ (hi + 1 - lo)) + v % 2 ^ (hi + 1 - lo)) + n % 2 ^ lo := by
  unfold putBits bits
  generalize 2 ^ (hi + 1 - lo) = W
  have hsplit : n - n / 2 ^ lo % W * 2 ^ lo = 2 ^ lo * (W * (n / 2 ^ lo / W)) + n % 2 ^ lo := by
    have hn := Nat.div_add_mod n (2 ^ lo)
    have hq := congrArg (2 ^ lo * ·) (Nat.div_add_mod (n / 2 ^ lo) W)
    simp only [Nat.mul_add] at hq
    rw [Nat.mul_comm (n / 2 ^ lo % W)]
    omega
  rw [hsplit, Nat.mul_add, Nat.mul_comm (v % W)]
  omega

theorem bits_putBits (n hi lo v : Nat) : bits (putBits n hi lo v) hi lo = v % 2 ^ (hi + 1 - lo) := by
  have hpos : 0 < 2 ^ lo := Nat.two_pow_pos lo
  rw [putBits_split, bits, Nat.mul_add_div hpos, Nat.div_eq_of_lt (Nat.mod_lt _ hpos), Nat.add_zero, Nat.mul_add_mod, Nat.mod_mod]

theorem bits_mod_word {lo hi : Nat} (hhi : hi < 32) (hlo : lo ≤ hi) (n : Nat) : bits (n % 2 ^ 32) hi lo = bits n hi lo := by
  have hword : 2 ^ 32 = 2 ^ lo * 2 ^ (32 - lo) := by rw [← pow_add]; congr 1; omega
  rw [bits, bits, hword, Nat.mod_mul_right_div_self, Nat.mod_mod_of_dvd _ (pow_dvd_pow 2 (by omega))]

/-- A field that is set reads as what was put there. -/
theorem State.fld_setFld_same (s : State) (a : Nat) {hi lo : Nat} (hhi : hi < 32) (hlo : lo ≤ hi) (v : Nat) :
    (s.setFld a hi lo v).fld a hi lo = v % 2 ^ (hi + 1 - lo) := by
  rw [State.fld, State.setFld, State.rdn_wrn_same, bits_mod_word hhi hlo, bits_putBits]

/-! ### Channels -/

@[simp] theorem State.chan_setChan_same (s : State) (n : Nat) (x : Chan) : (s.setChan n x).chan n = x := Tab.get_set_same _ _ _

theorem State.chan_setChan_other (s : State) {n k : Nat} (x : Chan) (h : k ≠ n) : (s.setChan n x).chan k = s.chan k :=
  Tab.get_set_other _ _ h

@[simp] theorem State.chan_updChan_same (s : State) (n : Nat) (f : Chan → Chan) : (s.updChan n f).chan n = f (s.chan n) :=
  s.chan_setChan_same n _

theorem State.chan_updChan_other (s : State) {n k : Nat} (f : Chan → Chan) (h : k ≠ n) : (s.updChan n f).chan k = s.chan k :=
  s.chan_setChan_other _ h

@[simp] theorem State.chan_ev (s : State) (code src detail n : Nat) : (s.ev code src detail).chan n = s.chan n := rfl

@[simp] theorem State.chan_runTo (s : State) (c n : Nat) : (s.runTo c).chan n = s.chan n := rfl

/-! ### Refresh (R329, R331) -/

/-- R331: a bank as a refresh that falls due at a cycle leaves it: its next one is timed from there. -/
def Chan.dueBank (x : Chan) (b now : Nat) : Bank := { x.banks.get b with due := some (now + x.refi) }

section Refresh

variable {s : State} {n b d : Nat} {x : Chan} (hdue : ((s.chan n).banks.get b).due = some d)
  (hawake : s.selfRefresh.contains n = false) (hx : x = (s.chan n).payBank b (max s.now d))
include hdue hawake hx

theorem State.refreshDue_postponed (hqueued : x.rtQueued b = true) (howed : (x.banks.get b).owed < 8) :
    ∃ v, s.refreshDue n b = ((s.runTo d).setChan n { x with banks := x.banks.set b { x.dueBank b (max s.now d) with
      owed := (x.banks.get b).owed + 1, pay := max s.now d } }).wrn (resReg n 0x024) v := by
  have hpaid : ((s.runTo d).chan n).payBank b (s.runTo d).now = x := by rw [State.runTo_now, hx]; rfl
  unfold State.refreshDue
  rw [hdue]
  dsimp only
  rw [hpaid, State.runTo_now]
  exact ⟨_, (if_neg (by simpa using hawake)).trans (if_pos (by simp [hqueued, howed]))⟩

theorem State.refreshDue_issued (hqueued : x.rtQueued b = false) :
    s.refreshDue n b = (s.runTo d).setChan n (({ x with
      banks := x.banks.set b ((x.dueBank b (max s.now d)).refresh (max s.now d)) } : Chan).takeLanes (b / 48)) := by
  have hpaid : ((s.runTo d).chan n).payBank b (s.runTo d).now = x := by rw [State.runTo_now, hx]; rfl
  unfold State.refreshDue
  rw [hdue]
  dsimp only
  rw [hpaid, State.runTo_now]
  exact (if_neg (by simpa using hawake)).trans ((if_neg (by simp [hqueued])).trans (if_pos (by simp [hqueued])))

end Refresh

/-! ### Temperature (R330) -/

/-- One channel of a stack is told of its stack's side of 85 °C. -/
def State.heatChan (s : State) (hot : Bool) (n : Nat) : State :=
  if (s.chan n).hot == hot then s else (s.updChan n (fun x => { x with hot })).ev 0x090E (memSrc n) (bnat hot)

theorem State.heatChan_same (s : State) (hot : Bool) (n : Nat) : ((s.heatChan hot n).chan n).hot = hot := by
  unfold State.heatChan
  split
  next h => exact eq_of_beq h
  next => rw [State.chan_ev, State.chan_updChan_same]

theorem State.heatChan_other (s : State) (hot : Bool) {n k : Nat} (h : k ≠ n) : (s.heatChan hot n).chan k = s.chan k := by
  unfold State.heatChan
  split
  · rfl
  · rw [State.chan_ev, State.chan_updChan_other _ _ h]

theorem State.heat_outside (hot : Bool) {k : Nat} (l : List Nat) (s : State) (h : k ∉ l) :
    (l.foldl (fun u n => State.heatChan u hot n) s).chan k = s.chan k := by
  induction l generalizing s with
  | nil => rfl
  | cons n l ih =>
    rw [List.mem_cons, not_or] at h
    rw [List.foldl_cons, ih _ h.2, s.heatChan_other hot h.1]

theorem State.heat_inside (hot : Bool) {k : Nat} (l : List Nat) (s : State) (h : k ∈ l) :
    ((l.foldl (fun u n => State.heatChan u hot n) s).chan k).hot = hot := by
  induction l generalizing s with
  | nil => exact absurd h List.not_mem_nil
  | cons n l ih =>
    rw [List.foldl_cons]
    by_cases hin : k ∈ l
    · exact ih _ hin
    · obtain rfl : k = n := (List.mem_cons.mp h).resolve_right hin
      rw [State.heat_outside hot l _ hin, s.heatChan_same]

theorem exec_memTempChange (stack : Nat) (hot : Bool) (s : State) : exec (.memTempChange stack hot) s =
    .next (((List.range 16).map (16 * stack + ·)).foldl (fun u n => u.heatChan hot n) s) := by
  rw [List.foldl_map]
  rfl

/-- Settles O41: a refresh by what is queued for its bank, the temperature by the channels of its stack. -/
theorem refreshesAreIssuedOrPostponed : Obligations.RefreshesAreIssuedOrPostponed := by
  unfold Obligations.RefreshesAreIssuedOrPostponed
  intro s n b d x hdue hawake hx
  have hmem := (exec_keeps (i := .refreshDue n b) (s := s) rfl).mem_eq rfl
  refine ⟨fun hqueued howed => ?postponed, fun hqueued => ?issued, fun stack hot => ?hot⟩
  case postponed =>
    obtain ⟨v, heq⟩ := State.refreshDue_postponed hdue hawake hx hqueued howed
    have hnow : (s.refreshDue n b).now = max s.now d := by rw [heq]; exact s.runTo_now d
    have hbank : ((s.refreshDue n b).chan n).banks.get b = { x.dueBank b (max s.now d) with
        owed := (x.banks.get b).owed + 1, pay := max s.now d } := by
      rw [heq]
      exact (congrArg (fun y : Chan => y.banks.get b) (State.chan_setChan_same _ n _)).trans (Tab.get_set_same _ _ _)
    exact ⟨_, rfl, by rw [hbank], by rw [hbank]; rfl, by rw [hbank, hnow]; rfl, hnow, hmem⟩
  case issued =>
    have heq := State.refreshDue_issued hdue hawake hx hqueued
    have hnow : (s.refreshDue n b).now = max s.now d := by rw [heq]; exact s.runTo_now d
    have hbank : ((s.refreshDue n b).chan n).banks.get b = (x.dueBank b (max s.now d)).refresh (max s.now d) := by
      rw [heq]
      exact (congrArg (fun y : Chan => y.banks.get b) (State.chan_setChan_same _ n _)).trans (Tab.get_set_same _ _ _)
    exact ⟨_, rfl, by rw [hbank]; rfl, by rw [hbank, hnow]; rfl, by rw [hbank]; rfl, by rw [hbank, hnow]; rfl, hnow, hmem⟩
  case hot =>
    have hexec := exec_memTempChange stack hot s
    have hkeeps := exec_keeps hexec
    refine ⟨_, hexec, fun k hk => State.heat_inside hot _ s (by simpa using hk), fun k hk => State.heat_outside hot _ s ?_,
      hkeeps.now_eq rfl, hkeeps.mem_eq rfl⟩
    simp only [List.mem_map, List.mem_range, not_exists, not_and]
    omega

/-! ### Scrub (R335) -/

/-- The clock at a channel's next patrol read. -/
def State.scrubDue (s : State) (n : Nat) : State :=
  match (s.chan n).scrubAt with | some at_ => s.runTo (at_ + s.scrubPace) | none => s

theorem State.scrubDue_chan (s : State) (n : Nat) : (s.scrubDue n).chan n = s.chan n := by
  unfold State.scrubDue
  split
  · exact State.chan_runTo _ _ _
  · rfl

/-- R335: a patrol read of a live channel reads two codewords, and moves the channel's position by one line, which wraps. -/
theorem State.scrubRead_live {s : State} {n : Nat} (hon : s.fld (resReg n 0x004) 1 1 ≠ 0) (hawake : s.selfRefresh.contains n = false)
    (hin : s.excluded.contains n = false) (hlive : (s.chan n).live = true) (a b : CodeRead) :
    ((s.scrubRead n a b).chan n).scrubAt = some (s.scrubRead n a b).now ∧
    ((s.scrubRead n a b).chan n).scrubPos = (if (s.chan n).scrubPos + 64 == 0x60000000 then 0 else (s.chan n).scrubPos + 64) ∧
    (s.scrubRead n a b).now = (s.scrubDue n).now := by
  have hguard : ¬ (s.fld (resReg n 0x004) 1 1 == 0 || s.selfRefresh.contains n || s.excluded.contains n || !(s.chan n).live) = true := by
    rw [hawake, hin, hlive]
    simpa using hon
  unfold State.scrubRead
  rw [if_neg hguard]
  extract_lets due pos word read last x moved
  have hlast : last = (pos + 64 == 0x60000000) := rfl
  clear_value last
  have hpos : pos = (s.chan n).scrubPos := congrArg Chan.scrubPos (s.scrubDue_chan n)
  have hread : Keeps { regs := true, out := true, memsys := true, ras := true } due read := by
    have hword (t : State) (k : Nat) (r : CodeRead) (h : Keeps { regs := true, out := true, memsys := true, ras := true } due t) :
        Keeps { regs := true, out := true, memsys := true, ras := true } due (word t k r) := by
      have hdecode := keeps_decodeWord t n (pos + k) (t.devOf n pos + k) r true h rfl rfl rfl rfl
      exact keeps_ite (keeps_updChan _ n _ hdecode rfl) hdecode
    exact hword _ _ _ (hword _ _ _ (Keeps.refl due))
  have hnow : read.now = (s.scrubDue n).now := hread.now_eq rfl
  clear_value read
  have hchan : moved.chan n = { x with
      scrubPos := (if last then 0 else pos + 64), scrubAt := some read.now
      passCe := (if last then 0 else x.passCe), passUe := if last then 0 else x.passUe } := State.chan_setChan_same _ _ _
  have htold : ∀ t : State, t.chan n = moved.chan n → t.now = read.now → (t.chan n).scrubAt = some t.now ∧
      (t.chan n).scrubPos = (if (s.chan n).scrubPos + 64 == 0x60000000 then 0 else (s.chan n).scrubPos + 64) ∧
      t.now = (s.scrubDue n).now := by
    intro t ht htnow
    rw [ht, htnow, hchan, hnow, ← hpos, ← hlast]
    exact ⟨rfl, rfl, rfl⟩
  split
  · exact htold _ (State.chan_ev _ _ _ _ n) rfl
  · exact htold _ rfl rfl

/-! ### Retraining (R338, R340) -/

/-- The channel once the lane whose turn it is has been visited. -/
def Chan.visitedAt (x : Chan) (now : Nat) : Chan := { x with visit := (x.visit + 1) % 8, visited := x.visited.set x.visit now }

/-- R338: a sweep leaves a lane in some state; one that finds no setting leaves it DEGRADED. -/
theorem State.laneRetrain_live {s : State} {n at_ : Nat} (hlive : (s.chan n).live = true) (hawake : s.selfRefresh.contains n = false)
    (hvisit : (s.chan n).visited.find (s.chan n).visit = some at_) (found : Option (Nat × Nat × Nat × Nat)) :
    ∃ y : DramLane, (found = none → y.state = 2) ∧ (s.laneRetrain n found).now = max s.now (at_ + 150000000) ∧
      (s.laneRetrain n found).chan n = { (s.chan n).visitedAt (s.laneRetrain n found).now with
        lanes := (s.chan n).lanes.set (s.chan n).visit y } := by
  have hguard : ¬ (!(s.chan n).live || s.selfRefresh.contains n) = true := by rw [hlive, hawake]; decide
  generalize ht : s.laneRetrain n found = t
  unfold State.laneRetrain at ht
  extract_lets x k due l moved set at ht
  rw [if_neg hguard] at ht
  have hdue : due = s.runTo (at_ + 150000000) := by
    unfold due
    rw [show x.visited.find k = some at_ from hvisit]
  have hnow : moved.now = max s.now (at_ + 150000000) := (congrArg State.now hdue).trans (s.runTo_now _)
  have hmoved : moved.chan n = x.visitedAt moved.now := State.chan_setChan_same _ n _
  have hset (y : DramLane) (u : State) (hu : u.chan n = (set moved y).chan n) (hunow : u.now = moved.now) :
      u.now = max s.now (at_ + 150000000) ∧ u.chan n = { x.visitedAt u.now with lanes := x.lanes.set k y } := by
    rw [hu, hunow, State.chan_updChan_same, hmoved]
    exact ⟨hnow, rfl⟩
  subst ht
  cases found with
  | none => exact ⟨_, fun _ => rfl, hset { l with state := 2 } _ (State.chan_ev _ _ _ _ n) rfl⟩
  | some v =>
    dsimp only
    split
    · exact ⟨_, nofun, hset _ _ (State.chan_ev _ _ _ _ n) rfl⟩
    · exact ⟨_, nofun, hset _ _ rfl rfl⟩

/-! ### Service (R327) -/

/-- R327: a channel serves no request before it is ready. -/
theorem State.memRequest_not_before (s : State) (n pc : Nat) (a b : CodeRead) :
    max s.now (s.chan n).ready ≤ (s.memRequest n pc a b).pace.now := by
  rw [State.pace_now, ← s.runTo_now]
  unfold State.memRequest
  extract_lets granted x l mine free due
  have hgranted : Keeps .all (s.runTo (s.chan n).ready) granted := keeps_memGrants _ n (Keeps.refl _) rfl rfl rfl rfl rfl
  have hdue : Keeps .all (s.runTo (s.chan n).ready) due := keeps_runTo _ _ (keeps_setChan _ n x hgranted rfl) rfl
  split
  · exact hdue.now
  · exact (keeps_srAbandon _ n (keeps_issue _ n _ a b hdue rfl rfl rfl rfl) rfl).now

/-- Settles O42: a patrol read, a sweep and a request, each by its own lemma. -/
theorem channelsScrubRetrainAndServe : Obligations.ChannelsScrubRetrainAndServe := by
  unfold Obligations.ChannelsScrubRetrainAndServe
  intro s n a b
  refine ⟨fun hon hawake hin hlive => ?scrub, fun found at_ hlive hawake hvisit => ?retrain, fun pc => ⟨_, rfl,
    s.memRequest_not_before n pc a b, (exec_keeps (i := .memRequest n pc a b) (s := s) rfl).st_eq rfl⟩⟩
  case scrub =>
    obtain ⟨hat, hpos, hnow⟩ := State.scrubRead_live hon hawake hin hlive a b
    refine ⟨_, rfl, (exec_keeps (i := .scrubRead n a b) (s := s) rfl).st_eq rfl, hat, ?_, fun at_ hlast => ?_⟩
    · simpa only [beq_iff_eq] using hpos
    · rw [hnow, State.scrubDue, hlast]
      exact s.runTo_now _
  case retrain =>
    obtain ⟨y, hnone, hnow, hchan⟩ := State.laneRetrain_live hlive hawake hvisit found
    refine ⟨_, rfl, by rw [hchan]; rfl, ?_, hnow, (exec_keeps (i := .laneRetrain n found) (s := s) rfl).mem_eq rfl, fun h => ?_,
      by rw [hchan]; rfl⟩
    · rw [hchan]
      exact Tab.find_set_same _ _ _
    · rw [hchan, ← hnone h]
      exact congrArg DramLane.state (Tab.get_set_same _ _ _)

/-! ### Training (R337, R339) -/

/-- R339: an excluded channel is listed, with its reason, and is not live. -/
theorem State.excludeChan_parts (s : State) (n lane reason : Nat) :
    (∃ lanes, (s.excludeChan n lane reason).chan n = { s.chan n with live := false, reason, lanes }) ∧
    (∀ k, k ≠ n → (s.excludeChan n lane reason).chan k = s.chan k) ∧
    (s.excludeChan n lane reason).excluded = (if s.excluded.contains n then s.excluded else s.excluded ++ [n]) := by
  unfold State.excludeChan
  extract_lets off listed
  have htold : Keeps { regs := true, out := true } listed (((listed.wrn (glb 0x80) (putBits (listed.rdn (glb 0x80)) n n 0)).ev 0x0905
      (memSrc n) (lane * 256 + reason)).replace n false) :=
    keeps_replace _ n false (keeps_ev _ _ _ _ (keeps_wrn _ _ _ (Keeps.refl listed) rfl) rfl) rfl rfl
  have hlisted (k : Nat) : listed.chan k = off.chan k := rfl
  refine ⟨⟨(s.chan n).lanes.upd lane (fun l => { l with state := 3 }), ?_⟩, fun k hk => ?_, htold.excluded_eq rfl⟩
  · rw [htold.chan_eq rfl, hlisted, State.chan_updChan_same]
  · rw [htold.chan_eq rfl, hlisted, State.chan_updChan_other _ _ hk]

/-- What every training finds of a channel is its lanes and their repairs. -/
theorem State.trainChan_cases (s : State) (t : ChanTraining) : ∃ u : State, Keeps { out := true, memsys := true } s u ∧
    (t.excluded = none → ∃ v, s.trainChan t = (u.updChan t.chan (fun x => { x with live := true })).wrn (glb 0x80) v) ∧
    (∀ l r, t.excluded = some (l, r) → s.trainChan t = u.excludeChan t.chan l r) := by
  generalize ht : s.trainChan t = v
  unfold State.trainChan at ht
  extract_lets n lanes used found told at ht
  have htold : Keeps { out := true, memsys := true } s told :=
    keeps_foldl (keeps_updChan s n _ (Keeps.refl s) rfl) fun u e hu => keeps_ev u _ _ _ hu rfl
  refine ⟨told, htold, fun hnone => ?_, fun l r hsome => ?_⟩
  · rw [hnone] at ht
    exact ⟨_, ht.symm⟩
  · rw [hsome] at ht
    exact ht.symm

/-- R337: training of one channel that is neither live nor excluded. -/
theorem exec_hbmTraining_one {s : State} {x : ChanTraining} (hstage : s.boot.stage = 2) (hchan : x.chan < 32)
    (hidle : (s.chan x.chan).live = false) (hin : s.excluded.contains x.chan = false) :
    exec (.hbmTraining [x]) s = .next (s.trainChan x).trainingEnds := by
  have hfilter : [x].filter (fun t => decide (t.chan < 32) && !(s.chan t.chan).live && !s.excluded.contains t.chan) = [x] :=
    List.filter_eq_self.mpr (by simpa using ⟨⟨hchan, hidle⟩, by simpa using hin⟩)
  have hrun : execHbmTraining [x] s = .next (s.trainChan x).trainingEnds := by
    rw [execHbmTraining, if_neg (by simp [hstage]), hfilter]
    rfl
  exact hrun

/-! ### Self-refresh (R341) -/

/-- The grants of a target leave what neither a grant nor the target's service changes. -/
theorem State.grants_congr {α : Type} {f : State → α} {room : State → Txn → Bool} {serve : State → AtArbiter → Nat → State}
    (hserve : ∀ s w n, f (serve s w n) = f s) (hgranted : ∀ (s : State) g n w k p b, f (s.granted g n w k p b) = f s) (g : Nat)
    (fuel from_ : Nat) (s : State) : f (s.grants room serve g fuel from_) = f s := by
  induction fuel generalizing from_ s with
  | zero => rfl
  | succ fuel ih =>
    have hnext (n c k : Nat) (u : State) (w : AtArbiter) (p : TargetPort) (b : Bool) :
        f (State.grants room serve g fuel n (serve (u.granted g c w k p b) w c)) = f u := by rw [ih, hserve, hgranted]
    unfold State.grants
    dsimp only
    split
    next => rfl
    next =>
      split
      next =>
        split
        · rfl
        · exact hnext _ _ _ _ _ _ _
      next =>
        split
        · rfl
        · split
          next => exact hnext _ _ _ _ _ _ _
          next =>
            split
            · rfl
            · exact ih _ _

theorem State.granted_selfRefresh (s : State) (g n : Nat) (w : AtArbiter) (k : Nat) (p : TargetPort) (b : Bool) :
    (s.granted g n w k p b).selfRefresh = s.selfRefresh := by
  unfold State.granted
  extract_lets
  have hite (c : Bool) (t u : State) (ht : t.selfRefresh = s.selfRefresh) (hu : u.selfRefresh = s.selfRefresh) :
      State.selfRefresh (if c = true then t else u) = s.selfRefresh := by split <;> assumption
  exact hite _ _ _ (hite _ _ _ (hite _ _ _ rfl rfl) (hite _ _ _ rfl rfl)) (hite _ _ _ (hite _ _ _ rfl rfl) (hite _ _ _ rfl rfl))

theorem State.injectTimeout_selfRefresh {s t : State} {w : AtArbiter} {g cyc : Nat} (h : s.injectTimeout w g cyc = some t) :
    t.selfRefresh = s.selfRefresh := by
  unfold State.injectTimeout at h
  split at h
  next => cases h
  next => cases h; rfl

theorem State.memServe_selfRefresh (s : State) (w : AtArbiter) (cyc : Nat) : (s.memServe w cyc).selfRefresh = s.selfRefresh := by
  unfold State.memServe
  extract_lets n lines rt add queued
  have hadd (u : State) (line : Nat) : (add u line).selfRefresh = u.selfRefresh := by
    have hite (c : Bool) (a b : State) (ha : a.selfRefresh = u.selfRefresh) (hb : b.selfRefresh = u.selfRefresh) :
        State.selfRefresh (if c = true then a else b) = u.selfRefresh := by split <;> assumption
    exact hite _ _ _ (hite _ _ _ rfl rfl) (hite _ _ _ rfl rfl)
  have hqueued : queued.selfRefresh = s.selfRefresh := State.foldl_congr State.selfRefresh hadd _ _
  split
  case h_1 h => exact State.injectTimeout_selfRefresh h
  case h_2 =>
    split
    · exact hqueued
    · exact hqueued

/-- What a channel grants puts none into self-refresh, and takes none out. -/
theorem State.memGrants_selfRefresh (s : State) (n : Nat) : (s.memGrants n).selfRefresh = s.selfRefresh :=
  State.grants_congr State.memServe_selfRefresh State.granted_selfRefresh n _ _ s

/-- R341: a request for self-refresh is refused, and its bit is cleared, while the channel carries a real-time region or is excluded. -/
theorem State.srSet_refused {s : State} {n : Nat}
    (hbusy : (s.st.regions.vals.any (fun r => r.cls == 0 && bit r.chMask n) || s.excluded.contains n) = true) :
    ∃ code src detail, s.srSet n = ((s.memGrants n).setFld (resReg n 0x004) 0 0 0).ev code src detail := by
  have hgranted := keeps_memGrants (sc := { mem := true, regs := true, out := true, memsys := true, ras := true }) s n
    (Keeps.refl s) rfl rfl rfl rfl rfl
  unfold State.srSet
  extract_lets u rt ex
  have hrefused : (rt || ex) = true := by rw [← hbusy, ← hgranted.st_eq rfl, ← hgranted.excluded_eq rfl]
  exact ⟨_, _, _, if_pos hrefused⟩

theorem State.srSet_begins {s : State} {n : Nat}
    (hidle : (s.st.regions.vals.any (fun r => r.cls == 0 && bit r.chMask n) || s.excluded.contains n) = false)
    (hentering : (s.chan n).entering = false) (hawake : s.selfRefresh.contains n = false) (hnone : (s.tport n).waiting = []) :
    s.srSet n = (s.setFld (resReg n 0x004) 0 0 1).updChan n
      (fun x => { x with entering := true, abandoned := false, srAt := s.now }) := by
  have hholding : (s.setFld (resReg n 0x004) 0 0 1).holding n = false := by
    rw [State.holding, Bool.or_eq_false_iff]
    exact ⟨hentering, hawake⟩
  unfold State.srSet
  rw [State.memGrants_of_none_waiting hnone]
  exact (if_neg (by rw [hidle]; decide)).trans (if_neg (by rw [hholding]; decide))

theorem State.srEntered_empty {s : State} {n : Nat} (hentering : (s.chan n).entering = true) (hgoes : (s.chan n).abandoned = false)
    (hrq : (s.chan n).rq = []) (hwq : (s.chan n).wq = []) : ∃ u : State, s.srEntered n = u.stackEntered ∧
      u.selfRefresh = s.selfRefresh ++ [n] ∧ u.now = s.now + 240 * maxOf ((s.chan n).banks.vals.map (·.owed)) ∧
      u.chan n = { s.chan n with entering := false, banks := (s.chan n).banks.mapv (fun _ b => { b with owed := 0, row := none }) } := by
  unfold State.srEntered
  extract_lets x owed due entered
  rw [if_neg (by simp [x, hentering, hgoes, hrq, hwq])]
  exact ⟨_, rfl, rfl, (s.runTo_now _).trans (Nat.max_eq_right (Nat.le_add_right _ _)), due.chan_setChan_same n _⟩

theorem State.srClear_asleep {s : State} {n : Nat} (hasleep : s.selfRefresh.contains n = true) : ∃ code src detail,
    s.srClear n = (({ s.setFld (resReg n 0x004) 0 0 0 with selfRefresh := s.selfRefresh.filter (· != n) } : State).updChan n
      (fun x => { x with ready := s.now + 600 })).ev code src detail :=
  ⟨_, _, _, if_pos hasleep⟩

theorem Tab.find_mapv {α : Type} (f : Nat → α → α) (k : Nat) (t : Tab α) : (t.mapv f).find k = (t.find k).map (f k) := by
  induction t with
  | nil => rfl
  | cons e r ih =>
    by_cases h : k = e.1
    · simp [Tab.mapv, Tab.find, h]
    · simpa [Tab.mapv, Tab.find, h] using ih

/-- Settles O43: training by what it finds of the channel, self-refresh by its request, its entry and its exit. -/
theorem channelsTrainAndSelfRefresh : Obligations.ChannelsTrainAndSelfRefresh := by
  unfold Obligations.ChannelsTrainAndSelfRefresh
  intro s n
  refine ⟨fun x hstage hchan hidle hin => ?training, fun hbusy => ?refused, fun hfree hentering hawake hnone => ?begins,
    fun hentering hgoes hrq hwq => ?entered, fun hasleep => ?left⟩
  case training =>
    have hexec := exec_hbmTraining_one hstage hchan hidle hin
    have hkeeps := exec_keeps hexec
    obtain ⟨u, hu, hlive, hexcluded⟩ := s.trainChan_cases x
    have hends (v : State) := keeps_trainingEnds (sc := { regs := true, boot := true }) v (Keeps.refl v) rfl rfl
    have hlisted : u.excluded = s.excluded := hu.excluded_eq rfl
    refine ⟨fun hnone => ?_, fun l r hsome => ?_⟩
    · obtain ⟨v, hv⟩ := hlive hnone
      refine ⟨_, hexec, ?_, ?_, hkeeps.mem_eq rfl, hkeeps.now_eq rfl⟩
      · rw [(hends _).chan_eq rfl, hv]
        exact congrArg Chan.live (u.chan_updChan_same x.chan (fun y => { y with live := true }))
      · rw [(hends _).excluded_eq rfl, hv]
        exact hlisted
    · obtain ⟨⟨lanes, hsame⟩, -, happend⟩ := u.excludeChan_parts x.chan l r
      refine ⟨_, hexec, ?_, ?_, ?_, hkeeps.mem_eq rfl⟩
      · rw [(hends _).chan_eq rfl, hexcluded l r hsome, hsame]
      · rw [(hends _).excluded_eq rfl, hexcluded l r hsome, happend, hlisted, if_neg (by rw [hin]; decide)]
      · rw [(hends _).chan_eq rfl, hexcluded l r hsome, hsame]
  case refused =>
    obtain ⟨code, src, detail, heq⟩ := State.srSet_refused hbusy
    refine ⟨_, congrArg Host.Outcome.next heq, ?_, s.memGrants_selfRefresh n, ?_⟩
    · exact ((s.memGrants n).fld_setFld_same _ (by decide) (by decide) 0)
    · exact (keeps_memGrants (sc := { mem := true, regs := true, out := true, memsys := true, ras := true }) s n
        (Keeps.refl s) rfl rfl rfl rfl rfl).now_eq rfl
  case begins =>
    have hchan := State.chan_updChan_same (s.setFld (resReg n 0x004) 0 0 1) n
      (fun x => { x with entering := true, abandoned := false, srAt := s.now })
    refine ⟨_, congrArg Host.Outcome.next (State.srSet_begins hfree hentering hawake hnone), ?_, congrArg Chan.entering hchan,
      congrArg Chan.abandoned hchan, congrArg Chan.srAt hchan, rfl⟩
    exact s.fld_setFld_same _ (by decide) (by decide) 1
  case entered =>
    obtain ⟨u, heq, hlisted, hnow, hchan⟩ := State.srEntered_empty hentering hgoes hrq hwq
    have hexec : exec (.srEntryDone n) s = .next u.stackEntered := congrArg Host.Outcome.next heq
    have hstack := keeps_stackEntered (sc := { regs := true, out := true, boot := true }) u (Keeps.refl u) rfl rfl rfl
    refine ⟨_, hexec, (hstack.selfRefresh_eq rfl).trans hlisted, by rw [hstack.chan_eq rfl, hchan], fun k b hb => ?_,
      (exec_keeps hexec).mem_eq rfl, (hstack.now_eq rfl).trans hnow⟩
    rw [hstack.chan_eq rfl, hchan, Tab.find_mapv, Option.map_eq_some_iff] at hb
    obtain ⟨a, -, rfl⟩ := hb
    exact ⟨rfl, rfl⟩
  case left =>
    obtain ⟨code, src, detail, heq⟩ := State.srClear_asleep hasleep
    refine ⟨_, congrArg Host.Outcome.next heq, fun hin => ?_, ?_, ?_, rfl, rfl⟩
    · exact absurd (List.mem_filter.mp hin).2 (by simp)
    · exact congrArg Chan.ready (State.chan_updChan_same _ n (fun x => { x with ready := s.now + 600 }))
    · exact s.fld_setFld_same _ (by decide) (by decide) 0

end Sys2Proof.Machine
end

section
/-! PROOFS. Confluence: where a transaction goes, and how one ends without an answer (O44). -/

namespace Sys2Proof.Machine

@[simp] theorem State.tport_setTport_same (s : State) (g : Nat) (x : TargetPort) : (s.setTport g x).tport g = x :=
  Tab.get_set_same _ _ _

theorem State.tport_setTport_other (s : State) {g k : Nat} (x : TargetPort) (h : k ≠ g) : (s.setTport g x).tport k = s.tport k :=
  Tab.get_set_other _ _ h

/-! ### From issue to the target (R343, R347, R350) -/

section Issue

variable {s : State} {x : Txn}

theorem State.fabricIssue_not (h : x.legal = false ∨ s.fabric.inReset.has x.master = true) : s.fabricIssue x = s :=
  if_pos (by rcases h with h | h <;> simp [h])

variable (hlegal : x.legal = true) (hready : s.fabric.inReset.has x.master = false)
include hlegal hready

theorem State.fabricIssue_refused (hreach : s.reach x.fn x.write x.addr x.len = false) :
    s.fabricIssue x = (s.decodeError x.master x.fn x.write x.addr).respond x 1 (zeros x) :=
  (if_neg (by simp [hlegal, hready])).trans (if_pos (by simp [hreach]))

/-- The request as it waits at its target's arbiter. -/
theorem State.fabricIssue_waits (hreach : s.reach x.fn x.write x.addr x.len = true) : ∃ u : State,
    s.fabricIssue x = (u.setTport (s.targetNo x.addr) { s.tport (s.targetNo x.addr) with
      waiting := (s.tport (s.targetNo x.addr)).waiting ++ [{ id := s.fabric.nextId, t := x, at_ := s.now }] }).portGrants
      (s.targetNo x.addr) ∧ u = s.updFab (fun f => { f with nextId := f.nextId + 1 }) :=
  ⟨_, (if_neg (by simp [hlegal, hready])).trans (if_neg (by simp [hreach])), rfl⟩

end Issue

/-- R114: an access outside the BAR4 window of its function is a decode error of master PCIE. -/
theorem exec_fabricRequest_outside_bar4 {s : State} {x y : Txn} {f : Nat} (hy : y = { x with master := 20, fn := some f })
    (hfn : x.fn = some f) (hlegal : y.legal = true) (hread : y.write = false) (hout : s.bar4At f x.addr x.len = none) :
    exec (.fabricRequest x true) s = .next ((s.decodeError 20 (some f) false x.addr).respond y 1 (zeros y)) := by
  have hguard : ¬ (!y.legal || (y.write && decide (512 < y.len))) = true := by simp [hlegal, hread]
  have hrun : execFabricRequest x true s = .next ((s.decodeError 20 (some f) y.write x.addr).respond y 1 (zeros y)) := by
    unfold execFabricRequest
    subst hy
    rw [hfn]
    refine congrArg Host.Outcome.next ((if_neg (by decide)).trans ((if_neg hguard).trans ?_))
    dsimp only [Option.getD_some]
    rw [hout]
  rw [hread] at hrun
  exact hrun

/-! ### Transactions that end without their answer (R348, R350) -/

/-- R348: a read that passes its bound leaves its flight at its due cycle, and is answered. -/
theorem State.timeoutOf_read (s : State) (id : Nat) {x : InFlight} (hread : x.t.write = false) :
    Keeps { regs := true, out := true } ((s.runTo (x.at_ + s.rdn (cnfReg 0x000))).updFab
      (fun f => { f with flight := f.flight.del id })) (s.timeoutOf id x) := by
  unfold State.timeoutOf
  dsimp only
  rw [hread, if_neg (by decide)]
  exact keeps_targetTimeout _ _ _ _ _ _ (keeps_respond _ _ _ _ (Keeps.refl _) rfl) rfl rfl

/-- R350: the bursts of a master in reset have ended, and its reset ends with them. -/
theorem State.burstFinish_inReset {s : State} {m : Nat} (h : s.fabric.inReset.has m = true) : ∃ ports,
    Keeps { regs := true, out := true } (s.updFab (fun f => { f with
      ports, flight := f.flight.keep (fun _ x => !(x.t.master == m && x.cut)), inReset := f.inReset.del m })) (s.burstFinish m) := by
  unfold State.burstFinish
  extract_lets n u
  rw [if_neg (by simp [h])]
  exact ⟨_, keeps_ev _ _ _ _ (keeps_inc _ _ _ (Keeps.refl u) rfl) rfl⟩

/-- Settles O44: the checks of an issue, the arbiter's queue, and the ends of what is not answered. -/
theorem confluenceCarriesChecksAndBoundsTransactions : Obligations.ConfluenceCarriesChecksAndBoundsTransactions := by
  unfold Obligations.ConfluenceCarriesChecksAndBoundsTransactions
  intro s x n
  have hissue : exec (.fabricRequest x false) s = .next (s.fabricIssue x) := rfl
  refine ⟨fun hlegal hready => ⟨fun hreach => ?refused, fun hreach => ?waits⟩, fun hnot => ?none,
    fun f y hy hfn hlegal hread hout => exec_fabricRequest_outside_bar4 hy hfn hlegal hread hout,
    fun y hflight hcut hread => ?timeout, fun hin => ?finish⟩
  case refused => rw [hissue, State.fabricIssue_refused hlegal hready hreach]
  case waits =>
    obtain ⟨u, heq, hu⟩ := State.fabricIssue_waits hlegal hready hreach
    refine ⟨_, hissue.trans (congrArg Host.Outcome.next heq), ?_, fun k hk => ?_, ?_⟩
    · rw [State.tport_setTport_same]
    · rw [State.tport_setTport_other _ _ hk, hu]
      rfl
    · rw [hu]
      exact ⟨rfl, rfl, rfl⟩
  case none => rw [hissue, State.fabricIssue_not hnot]
  case timeout =>
    have hrun : execTargetTimeout n s = .next (s.timeoutOf n y) := by
      unfold execTargetTimeout
      rw [hflight]
      exact congrArg Host.Outcome.next (if_neg (by rw [hcut]; decide))
    have hkeeps := s.timeoutOf_read n hread
    exact ⟨_, hrun, congrArg Fabric.flight (hkeeps.fabric_eq rfl), (hkeeps.now_eq rfl).trans (s.runTo_now _), hkeeps.mem_eq rfl,
      hkeeps.st_eq rfl⟩
  case finish =>
    obtain ⟨ports, hkeeps⟩ := State.burstFinish_inReset hin
    exact ⟨_, rfl, congrArg Fabric.inReset (hkeeps.fabric_eq rfl), congrArg Fabric.flight (hkeeps.fabric_eq rfl), hkeeps.now_eq rfl,
      hkeeps.mem_eq rfl⟩

end Sys2Proof.Machine
end

section
/-! PROOFS. Pairing: heartbeats, snapshots, images and healing (O51, O52). -/

namespace Sys2Proof.Machine

/-! ### Heartbeats (R389, R390) -/

/-- R389: a heartbeat leaves at its due cycle, numbered one on. -/
theorem State.heartbeatSend_up {s : State} (hpaired : s.paired = true) (hup : s.guavoUp = true) :
    Keeps { out := true } ((s.runTo (s.pair.hbAt + 8192)).updPair (fun p => { p with
      hbAt := (s.runTo (s.pair.hbAt + 8192)).now, hbAlive := (p.hbAlive + 1) % 256 })) s.heartbeatSend := by
  unfold State.heartbeatSend
  extract_lets due counted told
  rw [if_neg (by simp [hpaired, hup])]
  have htold : Keeps { out := true } counted told := keeps_emit _ _ (Keeps.refl counted) rfl
  exact keeps_ite (keeps_emit _ _ htold rfl) htold

/-- R390: what an accepted heartbeat tells of the peer. -/
def Pair.heard (p : Pair) (now : Nat) (b : Bytes) : Pair :=
  { p with lastAlive := some (u8 b 8), missed := 0, intervalAt := now, peerAlive := true, peerHold := bit (u8 b 10) 0
           peerImage := u64 b 16, peerResync := p.role == 3 && bit (u8 b 10) 2 }

theorem State.heartbeatTake_heard (s : State) (b : Bytes) :
    Keeps { out := true } (s.updPair (fun p => p.heard s.now b)) (s.heartbeatTake b) := by
  unfold State.heartbeatTake
  extract_lets p flags heard told
  have htold : Keeps { out := true } heard told := keeps_ite (Keeps.refl heard) (keeps_ev _ _ _ _ (Keeps.refl heard) rfl)
  exact keeps_ite (keeps_emits _ _ htold rfl) htold

theorem State.heartbeatReceived_accepted {s : State} {b : Bytes} (hpaired : s.paired = true) (hlen : b.length = 48)
    (hcrc : crc32.of (b.take 44) = u32 b 44) (hid : u64 b 0 = s.st.pair.pairId) (hnew : s.pair.lastAlive ≠ some (u8 b 8)) :
    s.heartbeatReceived b true = s.heartbeatTake b :=
  (if_neg (by decide)).trans ((if_neg (by simp [hpaired, hlen, hcrc])).trans ((if_neg (by simp [hid])).trans
    (if_neg (by simpa using hnew))))

/-- R390: an interval without a heartbeat is counted, and the fourth in a row makes the peer silent. -/
theorem State.heartbeatMissed_paired {s : State} (hpaired : s.paired = true) :
    s.heartbeatMissed.now = max s.now (s.pair.intervalAt + 8192) ∧ s.heartbeatMissed.pair = { s.pair with
      missed := s.pair.missed + 1, intervalAt := max s.now (s.pair.intervalAt + 8192)
      peerAlive := if s.pair.missed = 3 then false else s.pair.peerAlive } := by
  have hnow := s.runTo_now (s.pair.intervalAt + 8192)
  unfold State.heartbeatMissed
  rw [if_neg (by simp [hpaired]), ← hnow]
  by_cases hlast : s.pair.missed = 3
  · rw [if_pos hlast]
    dsimp only
    rw [if_neg (by simp [State.updPair, hlast])]
    exact ⟨rfl, rfl⟩
  · rw [if_neg hlast]
    dsimp only
    rw [if_pos (by simpa [State.updPair] using hlast)]
    exact ⟨rfl, rfl⟩

/-- Settles O51: each event of a heartbeat by what it changes of the pair's state. -/
theorem heartbeatsTellThePeersState : Obligations.HeartbeatsTellThePeersState := by
  unfold Obligations.HeartbeatsTellThePeersState
  intro s b hpaired
  refine ⟨fun hup => ?sent, rfl, fun hlen hcrc hid hnew => ?heard, fun hlen => ?short, ?missed⟩
  case sent =>
    have hkeeps := State.heartbeatSend_up hpaired hup
    have hpair := hkeeps.frame.pair rfl
    have hexec := exec_keeps (i := .heartbeatSend) (s := s) rfl
    refine ⟨_, rfl, (hkeeps.now_eq rfl).trans (s.runTo_now _), ?_, ?_, ?_, hexec.mem_eq rfl, hexec.regs_eq rfl⟩
    · rw [hpair, hkeeps.now_eq rfl]
      rfl
    · rw [hpair]
      rfl
    · rw [hpair]
      rfl
  case heard =>
    have hrun := State.heartbeatReceived_accepted hpaired hlen hcrc hid hnew
    have hkeeps := s.heartbeatTake_heard b
    have hpair := hkeeps.frame.pair rfl
    refine ⟨_, congrArg Host.Outcome.next hrun, ?_⟩
    rw [hpair]
    exact ⟨rfl, rfl, rfl, rfl, rfl, hkeeps.regs_eq rfl, hkeeps.now_eq rfl, hkeeps.mem_eq rfl⟩
  case short => exact congrArg Host.Outcome.next ((if_neg (by decide)).trans (if_pos (by simp [hlen])))
  case missed =>
    obtain ⟨hnow, hpair⟩ := State.heartbeatMissed_paired hpaired
    refine ⟨_, rfl, hnow, ?_⟩
    rw [hpair, hnow]
    exact ⟨rfl, rfl, rfl, rfl, (exec_keeps (i := .heartbeatIntervalMissed) (s := s) rfl).mem_eq rfl⟩

/-! ### Snapshots (R395) -/

/-- What keeps the moment at which a paced domain's conditions were met keeps the rest. -/
theorem State.pace_keeps (s : State) : Keeps { weir := true } s s.pace := keeps_pace s (Keeps.refl s) rfl

section Snapshot

variable {s : State} {x : Snapshot} (hstandby : s.standby = true) (hdom : s.domDefined x.dom = true)
include hstandby hdom

theorem State.snapReceived_kept (hstage : (s.dom x.dom).stage = .window) (htick : x.tick = s.nextTick x.dom % 2 ^ 64) :
    s.snapReceived x true = s.updPair (fun p => { p with arrived := p.arrived.set x.dom (some x) }) :=
  (if_neg (by simp [hstandby, hdom])).trans ((if_neg (by decide)).trans ((if_neg (by simp [hstage, htick])).trans
    (if_neg (by simp [hstage]))))

theorem State.snapReceived_taken (hstage : (s.dom x.dom).stage = .snap) (htick : x.tick = (s.dom x.dom).tick % 2 ^ 64) :
    s.snapReceived x true = s.snapTake x.dom x :=
  (if_neg (by simp [hstandby, hdom])).trans ((if_neg (by decide)).trans ((if_neg (by simp [hstage, htick])).trans
    (if_pos (by simp [hstage]))))

theorem State.snapReceived_broken : ∃ u : State, Keeps { regs := true, out := true, pair := true } s u ∧
    s.snapReceived x false = u.updPair (fun p => { p with arrived := p.arrived.set x.dom none }) :=
  ⟨_, keeps_discardSnapshot _ _ _ _ (Keeps.refl s) rfl rfl rfl, (if_neg (by simp [hstandby, hdom])).trans (if_pos (by decide))⟩

end Snapshot

/-- R395: a Weir waits for its snapshot no longer than its step. -/
theorem State.snapTimeout_waiting {s : State} {d : Nat} (hdom : s.domDefined d = true) (hstage : (s.dom d).stage = .snap) :
    ∃ u : State, Keeps { regs := true, out := true, pair := true } (s.runTo ((s.dom d).t0 + 16384)) u ∧
      s.snapTimeout d = (u.updPair (fun p => { p with arrived := p.arrived.del d })).weirApply d := by
  unfold State.snapTimeout
  extract_lets y due u
  rw [if_neg (by simp [hdom, y, hstage])]
  exact ⟨u, keeps_ite (Keeps.refl due) (keeps_discardSnapshot _ _ _ _ (Keeps.refl due) rfl rfl rfl), rfl⟩

/-! ### Images (R392) -/

section Image

variable {s : State} {b : Bytes} (hpaired : s.paired = true) (hstandby : s.standby = true)
include hpaired hstandby

theorem State.pairImage_accepted {h : HeaderRec} {recs : List Rec} {y : Structure}
    (hcheck : checkImage s.peerCtx b = .accepted h recs y) :
    s.pairImage b = (s.updPair (fun p => { p with imageSeq := (readHeader b).imageSeq })).stage_ h recs y b := by
  refine (if_neg (by simp [hpaired, hstandby])).trans ?_
  dsimp only
  rw [hcheck]

theorem State.pairImage_refused {reason record : Nat} (hcheck : checkImage s.peerCtx b = .refused reason record) :
    Keeps { out := true } (s.updPair (fun p => { p with imageSeq := (readHeader b).imageSeq, diverged := true })) (s.pairImage b) := by
  have hrun : s.pairImage b = (s.updPair (fun p => { p with imageSeq := (readHeader b).imageSeq, diverged := true })).ev 0x0C0F 0x4200
      (reason * 2 ^ 24 + record % 2 ^ 24) := by
    refine (if_neg (by simp [hpaired, hstandby])).trans ?_
    dsimp only
    rw [hcheck]
    rfl
  rw [hrun]
  exact keeps_ev _ _ _ _ (Keeps.refl _) rfl

end Image

/-! ### Healing (R398) -/

/-- An ACTIVE device begins to heal a rendition where its budget covers a picture of it. -/
theorem State.healStart_covered {s : State} {r : Nat} (hrend : s.st.rends.has r = true) (hnew : s.pair.healTx.has r = false)
    (hcover : s.healReserved (s.domRend r) + s.healPicture r ≤ s.st.pair.healBudget) :
    s.healStart r = { s with pair := { s.pair with healTx := s.pair.healTx.set r { reserved := s.healPicture r } } } :=
  if_neg (by simp [hrend, hnew, hcover])

/-- A standby takes a message of a rendition that is not in step: it is HEALING from there. -/
theorem State.healReceived_unsynced {s : State} {m : HealMsg} (hstandby : s.standby = true) (hrend : s.st.rends.has m.rend = true)
    (hunsynced : (s.rend m.rend).unsynced = true) : ∃ u : State, Keeps { coders := true } s u ∧ (u.rend m.rend).healing = true ∧
      Keeps { regs := true } (u.updPair (fun p => { p with healRx := p.healRx.set m.rend ((p.healRx.get m.rend).take m) }))
        (s.healReceived m) := by
  unfold State.healReceived
  extract_lets r x old u
  rw [if_neg (by simp [hstandby, r, hrend, x, hunsynced])]
  refine ⟨u, keeps_ite (Keeps.refl s) (keeps_setRend _ _ _ (keeps_dropCoding _ _ (Keeps.refl s) rfl) rfl), ?_,
    keeps_inc64 _ _ _ (Keeps.refl _) rfl⟩
  by_cases hhealing : x.healing = true
  · rw [show u = s from if_pos hhealing]
    exact hhealing
  · rw [show u = _ from if_neg hhealing, State.rend_setRend_same]

/-- Settles O52: each message by what the standby or the ACTIVE device makes of it. -/
theorem standbyTakesSnapshotsImagesAndHealing : Obligations.StandbyTakesSnapshotsImagesAndHealing := by
  unfold Obligations.StandbyTakesSnapshotsImagesAndHealing
  intro s d r x m b
  refine ⟨fun hstandby hdom hx => ?snapshot, fun hdom hstage => ?timeout, fun hpaired hstandby u hu => ?image,
    fun hrole hup hbudget hrend hnew hcover => ?list, fun hstandby hm hrend hunsynced => ?heal⟩
  case snapshot =>
    subst hx
    refine ⟨fun hstage htick => ?_, fun hstage htick => ?_, ?_⟩
    · have hpace := (s.snapReceived x true).pace_keeps
      rw [State.snapReceived_kept hstandby hdom hstage htick] at hpace
      refine ⟨_, congrArg (fun u : State => Host.Outcome.next u.pace) (State.snapReceived_kept hstandby hdom hstage htick), ?_,
        hpace.now_eq rfl, hpace.mem_eq rfl, hpace.st_eq rfl⟩
      rw [hpace.frame.pair rfl]
      exact Tab.find_set_same _ _ _
    · exact congrArg (fun u : State => Host.Outcome.next u.pace) (State.snapReceived_taken hstandby hdom hstage htick)
    · obtain ⟨u, hu, heq⟩ := State.snapReceived_broken hstandby hdom
      have hpace := (u.updPair (fun p => { p with arrived := p.arrived.set x.dom none })).pace_keeps
      refine ⟨_, congrArg (fun u : State => Host.Outcome.next u.pace) heq, ?_, (hpace.now_eq rfl).trans (hu.now_eq rfl),
        (hpace.mem_eq rfl).trans (hu.mem_eq rfl)⟩
      rw [hpace.frame.pair rfl]
      exact Tab.find_set_same _ _ _
  case timeout =>
    obtain ⟨u, hu, heq⟩ := State.snapTimeout_waiting hdom hstage
    exact ⟨_, congrArg (fun u : State => Host.Outcome.next u.pace) heq, (hu.now_eq rfl).trans (s.runTo_now _),
      Tab.find_del_same _ _, hu.mem_eq rfl⟩
  case image =>
    refine ⟨fun h recs y hcheck => ?_, fun reason record hcheck => ?_⟩
    · rw [hu]
      exact congrArg Host.Outcome.next (State.pairImage_accepted hpaired hstandby hcheck)
    · have hkeeps := State.pairImage_refused hpaired hstandby hcheck
      have hpair := hkeeps.frame.pair rfl
      refine ⟨_, rfl, ?_, ?_, hkeeps.img_eq rfl, hkeeps.st_eq rfl, hkeeps.mem_eq rfl⟩
      · rw [hpair]
        rfl
      · rw [hpair]
        rfl
  case list =>
    have hrun : execHealListReceived [r] s = .next (s.healStart r) :=
      congrArg Host.Outcome.next (if_pos (by simp [hrole, hup, hbudget]))
    rw [← State.healStart_covered hrend hnew hcover]
    exact hrun
  case heal =>
    subst hm
    obtain ⟨u, hu, hhealing, hcounted⟩ := State.healReceived_unsynced hstandby hrend hunsynced
    have hpace := (s.healReceived m).pace_keeps
    have hpair : u.pair = s.pair := hu.frame.pair rfl
    refine ⟨_, rfl, ?_, ?_, (hpace.now_eq rfl).trans ((hcounted.now_eq rfl).trans (hu.now_eq rfl)),
      (hpace.mem_eq rfl).trans ((hcounted.mem_eq rfl).trans (hu.mem_eq rfl))⟩
    · rw [hpace.rend_eq rfl, hcounted.rend_eq rfl]
      exact hhealing
    · rw [hpace.frame.pair rfl, hcounted.frame.pair rfl, ← hpair]
      exact Tab.get_set_same _ _ _

end Sys2Proof.Machine
end

section
/-! PROOFS. Reliability: the fatal state, the thermal steps, errors in arrays and mismatches in units (O53, O54). -/

namespace Sys2Proof.Machine

/-- A fold whose step for an element establishes what no later step breaks. -/
theorem foldl_establishes {α β : Type} {P : α → β → Prop} {f : β → α → β} (hset : ∀ b a, P a (f b a))
    (hkeep : ∀ b a c, P c b → P c (f b a)) {a : α} {l : List α} (ha : a ∈ l) (b : β) : P a (l.foldl f b) := by
  have hkept (l : List α) (b : β) (hb : P a b) : P a (l.foldl f b) := by
    induction l generalizing b with
    | nil => exact hb
    | cons c l ih => exact ih _ (hkeep b c a hb)
  induction l generalizing b with
  | nil => exact absurd ha List.not_mem_nil
  | cons c l ih =>
    rcases List.mem_cons.mp ha with rfl | ha
    · exact hkept l _ (hset b a)
    · exact ih ha _

/-! ### Withdrawal (R320, R383) -/

theorem State.setActOut_fatal (s : State) (b : Bool) : (s.setActOut b).pair.fatal = s.pair.fatal := by
  unfold State.setActOut
  split <;> rfl

theorem State.setRole_fatal (s : State) (r : Nat) : (s.setRole r).pair.fatal = s.pair.fatal := by
  unfold State.setRole
  split <;> rfl

theorem State.setRole_outf (s : State) (r : Nat) : (s.setRole r).outf = s.outf := by
  unfold State.setRole
  split <;> rfl

theorem State.gateClose_pair (s : State) (drain : Bool) : (s.gateClose drain).pair = s.pair :=
  (keeps_gateClose (sc := { regs := true, emit := true }) s drain (Keeps.refl s) rfl rfl).frame.pair rfl

/-- No withdrawal makes an ineligible device eligible. -/
theorem State.withdraw_fatal (s : State) : s.withdraw.pair.fatal = s.pair.fatal := by
  unfold State.withdraw
  split
  · rfl
  · rfl
  · exact (State.setRole_fatal _ 1).trans (s.setActOut_fatal false)
  · dsimp only
    have hgate : (if s.pair.actOut = true then s.gateClose true else s.gateClose false).pair = s.pair := by
      split <;> exact s.gateClose_pair _
    split
    · rw [State.setRole_fatal, hgate]
    · rw [hgate]

theorem State.withdraw_gate {s : State} (h : s.pair.role = 0 ∨ s.pair.role = 3) : s.withdraw.outf.gate = false := by
  unfold State.withdraw
  split
  next hrole => omega
  next hrole => omega
  next hrole => omega
  next =>
    dsimp only
    have hgate : (if s.pair.actOut = true then s.gateClose true else s.gateClose false).outf.gate = false := by
      split <;> exact s.gateClose_gate _
    split
    · rw [State.setRole_outf, hgate]
    · exact hgate

/-! ### The fatal state (R405, R406) -/

/-- A channel of Sluice as the fatal state leaves it. -/
def State.slcStopped (s : State) (g : Nat) : State := if (s.slc g).state == 3 then s else s.sluiceDisable g

/-- An engine as the fatal state leaves it. -/
def State.bceStopped (s : State) (b : Nat) : State := if (s.bce b).busy then s.bceDrop b 0 else s

theorem State.sluiceDisable_slc_other (s : State) {g k : Nat} (h : k ≠ g) : (s.sluiceDisable g).slc k = s.slc k := by
  unfold State.sluiceDisable
  extract_lets x a b u
  have hu : Keeps { out := true, memsys := true } s u :=
    keeps_masterReset _ _ _ (keeps_masterReset _ _ _ (keeps_drawFree _ (keeps_drawFree s (Keeps.refl s) rfl) rfl) rfl) rfl
  rw [State.slc_setSlc_other _ _ h, hu.slc_eq rfl]

/-- A semaphore that is forced away changes no channel of Sluice. -/
theorem State.bceDrop_sluice (s : State) (b cause : Nat) : (s.bceDrop b cause).sluice = s.sluice := by
  unfold State.bceDrop
  extract_lets x o freed dropped
  have hdropped : Keeps { mem := true, regs := true, out := true, memsys := true } freed dropped :=
    keeps_foldl (Keeps.refl _) fun u y hu => keeps_ite (keeps_freeLine _ _ _ hu rfl rfl) hu
  have hends := keeps_ev _ 0x0A22 (0x2300 + b) (cause * 256 + x.holder.getD 0) (keeps_bceStatus _ b 6 0 false
    (keeps_masterReset _ 19 (fun t => t.fn == x.holder) hdropped rfl) rfl) rfl
  split
  · rfl
  · exact congrArg (·.1) (hends.frame.dma rfl)

theorem State.slcStopped_state (s : State) (g : Nat) : ((s.slcStopped g).slc g).state = 3 := by
  unfold State.slcStopped
  split
  next h => exact eq_of_beq h
  next => exact (s.sluiceDisable_slc g).1

theorem State.slcStopped_other (s : State) {g k : Nat} (h : k ≠ g) : (s.slcStopped g).slc k = s.slc k := by
  unfold State.slcStopped
  split
  · rfl
  · exact s.sluiceDisable_slc_other h

theorem State.bceStopped_busy (s : State) (b : Nat) : ((s.bceStopped b).bce b).busy = false := by
  unfold State.bceStopped
  split
  next => rw [State.bce, State.bceDrop_bces, Tab.get_set_same]
  next h => exact eq_false_of_ne_true h

theorem State.bceStopped_other (s : State) {b k : Nat} (h : k ≠ b) : (s.bceStopped b).bce k = s.bce k := by
  unfold State.bceStopped
  split
  · rw [State.bce, State.bceDrop_bces, Tab.get_set_other _ _ h, State.bce]
  · rfl

/-- Sluice and the engines as the fatal state leaves them. -/
def State.enginesStopped (s : State) : State := [0, 1].foldl State.bceStopped ((List.range 64).foldl State.slcStopped s)

theorem State.keeps_enginesStopped (s : State) :
    Keeps { mem := true, regs := true, out := true, memsys := true, dma := true } s s.enginesStopped :=
  keeps_foldl (keeps_foldl (Keeps.refl s) fun u g hu => keeps_ite hu (keeps_sluiceDisable u g hu rfl rfl rfl)) fun u b hu =>
    keeps_ite (keeps_bceDrop u b 0 hu rfl rfl rfl rfl rfl) hu

theorem State.enginesStopped_bce (s : State) {b : Nat} (hb : b < 2) : (s.enginesStopped.bce b).busy = false := by
  refine foldl_establishes (P := fun b (s : State) => (s.bce b).busy = false) (fun s b => s.bceStopped_busy b)
    (fun s b k hk => ?_) (by simp; omega) _
  by_cases h : k = b
  · exact h ▸ s.bceStopped_busy b
  · rw [s.bceStopped_other h]
    exact hk

theorem State.enginesStopped_slc (s : State) {g : Nat} (hg : g < 64) : (s.enginesStopped.slc g).state = 3 := by
  have hslc (u : State) (b : Nat) : (u.bceStopped b).slc g = u.slc g := by
    unfold State.bceStopped
    split
    · rw [State.slc, State.bceDrop_sluice, State.slc]
    · rfl
  rw [State.enginesStopped, State.foldl_congr (fun u => u.slc g) hslc]
  refine foldl_establishes (P := fun g (s : State) => (s.slc g).state = 3) (fun s g => s.slcStopped_state g)
    (fun s g k hk => ?_) (List.mem_range.mpr hg) s
  by_cases h : k = g
  · exact h ▸ s.slcStopped_state g
  · rw [s.slcStopped_other h]
    exact hk

/-- R405, R406: the first cause is latched and told, the device withdraws and its engines stop. -/
theorem State.fatal_first {s : State} (hfirst : s.ras.fatal = 0) (cause : Nat) (inj : Bool) :
    ∃ u : State, Keeps { regs := true, out := true } { s with ras := { s.ras with fatal := cause } } u ∧
      s.fatal cause inj = (u.updPair (fun p => { p with fatal := true })).withdraw.enginesStopped := by
  unfold State.fatal
  extract_lets _ latched told
  rw [if_neg (by simp [hfirst])]
  exact ⟨told, keeps_replace _ _ _ (keeps_alert _ _ (keeps_ev _ _ _ _ (Keeps.refl latched) rfl) rfl rfl) rfl rfl, rfl⟩

/-- What the first fatal condition leaves. -/
structure State.FatalBy (s t : State) (cause : Nat) : Prop where
  ras : t.ras = { s.ras with fatal := cause }
  ineligible : t.pair.fatal = true
  gate : s.pair.role = 0 ∨ s.pair.role = 3 → t.outf.gate = false
  sluice : ∀ g < 64, (t.slc g).state = 3
  engines : ∀ b < 2, (t.bce b).busy = false

theorem State.fatal_first_parts {s : State} (hfirst : s.ras.fatal = 0) (cause : Nat) (inj : Bool) :
    s.FatalBy (s.fatal cause inj) cause := by
  obtain ⟨u, hu, heq⟩ := State.fatal_first hfirst cause inj
  have hpair : u.pair = s.pair := hu.frame.pair rfl
  generalize hw : u.updPair (fun p => { p with fatal := true }) = w at heq
  have hwras : w.ras = { s.ras with fatal := cause } := by
    rw [← hw]
    exact hu.frame.ras rfl
  have hwpair : w.pair = { s.pair with fatal := true } := by rw [← hw, ← hpair]; rfl
  have hstops := w.withdraw.keeps_enginesStopped
  have hwithdraws := keeps_withdraw (sc := { regs := true, out := true, emit := true, pair := true }) w (Keeps.refl w) rfl rfl rfl rfl
  rw [heq]
  refine ⟨?_, ?_, fun hrole => ?_, fun g => w.withdraw.enginesStopped_slc, fun b => w.withdraw.enginesStopped_bce⟩
  · rw [hstops.frame.ras rfl, hwithdraws.frame.ras rfl, hwras]
  · rw [hstops.frame.pair rfl, State.withdraw_fatal, hwpair]
  · rw [hstops.outf_eq rfl, State.withdraw_gate (by rw [hwpair]; exact hrole)]

/-! ### Temperature (R415 to R417) -/

theorem unsigned_lt (w : Nat) (i : Int) : unsigned w i < 2 ^ w := by
  have hpos : (0 : Int) < (2 ^ w : Nat) := by exact_mod_cast Nat.two_pow_pos w
  rw [unsigned, Int.toNat_lt (Int.emod_nonneg _ hpos.ne')]
  exact Int.emod_lt_of_pos _ hpos

theorem State.rasPins_rdn (s t : State) (a : Nat) : (s.rasPins t).rdn a = t.rdn a :=
  State.rdn_congr ((keeps_rasPins (sc := { out := true }) s t (Keeps.refl t) rfl).regs_eq rfl) a

theorem State.rdn_alert (s : State) {a : Nat} (b : Nat) (h : a ≠ rasReg 0x004) : (s.alert b).rdn a = s.rdn a :=
  (s.rasPins_rdn _ a).trans (s.rdn_wrn_other _ h)

theorem State.rdn_wr64_other (s : State) {a k : Nat} (v : Nat) (hlo : k ≠ a) (hhi : k ≠ a + 4) : (s.wr64 a v).rdn k = s.rdn k :=
  (State.rdn_wrn_other _ _ hhi).trans (s.rdn_wrn_other _ hlo)

/-- The causes of replacement and the pins stand in registers of their own. -/
theorem State.rdn_replace (s : State) {a : Nat} (b : Nat) (inj : Bool) (hmem : a ≠ glb 0x90 ∧ a ≠ glb 0x90 + 4 ∧ a ≠ rasReg 0x40 ∧
    a ≠ rasReg 0x40 + 4 ∧ a ≠ rasReg 0x004) : (s.replace b inj).rdn a = s.rdn a := by
  obtain ⟨hlo, hhi, hinjLo, hinjHi, halert⟩ := hmem
  unfold State.replace
  extract_lets c j t
  have ht : t.rdn a = s.rdn a := by
    unfold t
    split
    · exact s.rdn_wr64_other _ hinjLo hinjHi
    · rw [State.rdn_wr64_other _ _ hinjLo hinjHi, State.rdn_wr64_other _ _ hlo hhi]
  split
  · rfl
  · exact (s.rasPins_rdn _ a).trans ((t.rdn_alert 2 halert).trans ht)

/-- The bookkeeping of a sample: the pins, the causes, and since when it has been warm and how often it has been hot. -/
structure State.ThermKept (s t : State) : Prop where
  keeps : Keeps { regs := true, out := true, ras := true } s t
  ras : ∃ warmSince excursions, t.ras = { s.ras with warmSince, excursions }
  reading : t.rdn (rasReg 0x008) = s.rdn (rasReg 0x008)

namespace State.ThermKept

variable {s t u : State}

theorem refl (s : State) : s.ThermKept s := ⟨Keeps.refl s, ⟨_, _, rfl⟩, rfl⟩

theorem trans (h : s.ThermKept t) (h' : t.ThermKept u) : s.ThermKept u := by
  obtain ⟨w, e, hras⟩ := h.ras
  obtain ⟨w', e', hras'⟩ := h'.ras
  exact ⟨h.keeps.trans h'.keeps, ⟨w', e', by rw [hras', hras]⟩, h'.reading.trans h.reading⟩

theorem warm (s : State) (w : Option Nat) : s.ThermKept { s with ras := { s.ras with warmSince := w } } :=
  ⟨keeps_put_ras rfl (Keeps.refl s), ⟨w, _, rfl⟩, rfl⟩

theorem hot (s : State) (l : List Nat) : s.ThermKept { s with ras := { s.ras with excursions := l } } :=
  ⟨keeps_put_ras rfl (Keeps.refl s), ⟨_, l, rfl⟩, rfl⟩

theorem ev (h : s.ThermKept t) (a b c : Nat) : s.ThermKept (t.ev a b c) := ⟨keeps_ev t a b c h.keeps rfl, h.ras, h.reading⟩

theorem alert (h : s.ThermKept t) (b : Nat) : s.ThermKept (t.alert b) := by
  have halert : Keeps { regs := true, out := true } t (t.alert b) := keeps_alert t b (Keeps.refl t) rfl rfl
  exact ⟨keeps_alert t b h.keeps rfl rfl, halert.frame.ras rfl ▸ h.ras, (t.rdn_alert b (by decide)).trans h.reading⟩

theorem replace (h : s.ThermKept t) (b : Nat) (inj : Bool) : s.ThermKept (t.replace b inj) := by
  have hreplace : Keeps { regs := true, out := true } t (t.replace b inj) := keeps_replace t b inj (Keeps.refl t) rfl rfl
  exact ⟨keeps_replace t b inj h.keeps rfl rfl, hreplace.frame.ras rfl ▸ h.ras, (t.rdn_replace b inj (by decide)).trans h.reading⟩

theorem excursion (s : State) (inj : Bool) : s.ThermKept (s.excursion inj) := by
  have hcounted : s.ThermKept (s.inc (rasReg 0x030) 1) :=
    ⟨keeps_inc s _ 1 (Keeps.refl s) rfl, ⟨_, _, rfl⟩, s.rdn_inc_other 1 (by decide)⟩
  have hlisted := hcounted.trans (hot _ (withinDay s.ras.excursions s.now))
  unfold State.excursion
  extract_lets l old listed
  split
  · exact hlisted.replace 43 inj
  · exact hlisted

end State.ThermKept

/-- The step that a junction temperature asks for. -/
def thermWants (t : Int) : Nat := if 1840 ≤ t then 2 else if 1760 ≤ t then 1 else 0

/-- R415: with no offset injected a sample is stored, and the step it asks for is kept; then its trip is decided. -/
theorem State.thermalSample_asks {s : State} (hoffset : s.ras.offset = 0) (die hbm : Int) : ∃ u : State,
    s.thermalSample die hbm = u.thermTrip die false ∧ Keeps { regs := true, out := true, ras := true } s u ∧
    u.ras.fatal = s.ras.fatal ∧ u.ras.offset = 0 ∧ u.ras.trip = s.ras.trip ∧ u.ras.wanted = max s.ras.wanted (thermWants die) ∧
    u.rdn (rasReg 0x008) = unsigned 16 die * 2 ^ 16 + unsigned 16 hbm := by
  unfold State.thermalSample
  rw [hoffset, Int.add_zero]
  extract_lets t inj stored before warmed want asked after kept
  have hstored : stored.rdn (rasReg 0x008) = unsigned 16 die * 2 ^ 16 + unsigned 16 hbm :=
    s.rdn_wrn_of_lt _ (by have := unsigned_lt 16 t; have := unsigned_lt 16 hbm; omega)
  have hras : stored.ras = s.ras := rfl
  have hwarmed : stored.ThermKept warmed := by
    unfold warmed
    split
    · exact ((State.ThermKept.warm stored _).alert 0).ev _ _ _
    · exact (State.ThermKept.warm stored _).ev _ _ _
    · exact State.ThermKept.refl stored
  have hasked : stored.ThermKept asked := by
    unfold asked
    split
    · exact hwarmed.trans (State.ThermKept.excursion warmed inj)
    · exact hwarmed
  obtain ⟨w, e, hkept⟩ := hasked.ras
  rw [hras] at hkept
  have hs : Keeps { regs := true, out := true, ras := true } s stored := keeps_wrn s _ _ (Keeps.refl s) rfl
  have hfatal : asked.ras.fatal = s.ras.fatal := by rw [hkept]
  have htrip : asked.ras.trip = s.ras.trip := by rw [hkept]
  have hcold : asked.ras.offset = 0 := by rw [hkept, hoffset]
  have hwanted : asked.ras.wanted = s.ras.wanted := by rw [hkept]
  exact ⟨kept, rfl, keeps_put_ras rfl (hs.trans hasked.keeps), hfatal, hcold, htrip, congrArg (max · (thermWants die)) hwanted,
    hasked.reading.trans hstored⟩

/-- R415: the trip follows the junction, and a temperature with its offset at 125 °C or above is fatal. -/
theorem State.thermTrip_parts (s : State) (raw : Int) (inj : Bool) : ∃ u : State,
    s.thermTrip raw inj = (if decide (2000 ≤ raw + s.ras.offset) then u.fatal 5 inj else u) ∧
    Keeps { regs := true, out := true, ras := true } s u ∧ u.ras = { s.ras with trip := decide (2000 ≤ raw) } ∧
    u.rdn (rasReg 0x008) = s.rdn (rasReg 0x008) := by
  unfold State.thermTrip
  extract_lets on old pinned told
  have hpinned : Keeps { regs := true, out := true, ras := true } s pinned ∧ pinned.ras = { s.ras with trip := on } ∧
      pinned.regs = s.regs := by
    unfold pinned
    split
    next h => exact ⟨Keeps.refl s, by rw [eq_of_beq h], rfl⟩
    next => exact ⟨keeps_emit _ _ (keeps_put_ras rfl (Keeps.refl s)) rfl, rfl, rfl⟩
  clear_value pinned
  obtain ⟨hkeeps, hras, hregs⟩ := hpinned
  have htold : Keeps { regs := true, out := true } pinned told := keeps_ite (keeps_replace _ _ _ (Keeps.refl pinned) rfl rfl)
    (Keeps.refl pinned)
  have htoldRas : told.ras = { s.ras with trip := on } := (htold.frame.ras rfl).trans hras
  have hreading : told.rdn (rasReg 0x008) = pinned.rdn (rasReg 0x008) := by
    unfold told
    split
    · exact pinned.rdn_replace 44 false (by decide)
    · rfl
  refine ⟨told, ?_, keeps_ite (keeps_replace _ _ _ hkeeps rfl rfl) hkeeps, htoldRas, hreading.trans (State.rdn_congr hregs _)⟩
  rw [htoldRas]

section Temperature

variable {s : State} {die : Int} (hoffset : s.ras.offset = 0) (hbm : Int)
include hoffset

theorem State.thermalSample_cool (hcool : die < 2000) : (s.thermalSample die hbm).ras.fatal = s.ras.fatal ∧
    (s.thermalSample die hbm).ras.wanted = max s.ras.wanted (thermWants die) ∧
    (s.thermalSample die hbm).rdn (rasReg 0x008) = unsigned 16 die * 2 ^ 16 + unsigned 16 hbm ∧
    Keeps { regs := true, out := true, ras := true } s (s.thermalSample die hbm) := by
  obtain ⟨u, heq, hu, hfatal, hcold, -, hwanted, hreading⟩ := State.thermalSample_asks hoffset die hbm
  obtain ⟨v, htrip, hv, hras, hsame⟩ := u.thermTrip_parts die false
  rw [hcold, Int.add_zero, if_neg (by simpa using hcool)] at htrip
  rw [heq, htrip, hras, hsame, hreading]
  exact ⟨hfatal, hwanted, rfl, hu.trans hv⟩

theorem State.thermalSample_hot (hfirst : s.ras.fatal = 0) (hhot : 2000 ≤ die) : (s.thermalSample die hbm).ras.fatal = 5 ∧
    (s.thermalSample die hbm).ras.trip = true ∧ (s.thermalSample die hbm).pair.fatal = true := by
  obtain ⟨u, heq, hu, hfatal, hcold, -, -, -⟩ := State.thermalSample_asks hoffset die hbm
  obtain ⟨v, htrip, hv, hras, -⟩ := u.thermTrip_parts die false
  rw [hcold, Int.add_zero, if_pos (by simpa using hhot)] at htrip
  have hfatals := State.fatal_first_parts (s := v) (by rw [hras]; exact hfatal.trans hfirst) 5 false
  rw [heq, htrip, hfatals.ras, hras]
  exact ⟨rfl, by simpa using hhot, hfatals.ineligible⟩

end Temperature

/-- Settles O54: the first fatal cause by what it stops, a sample by the step it asks for and its trip. -/
theorem fatalStateAndThermalStepsAreLatched : Obligations.FatalStateAndThermalStepsAreLatched := by
  unfold Obligations.FatalStateAndThermalStepsAreLatched
  intro s cause k n die hbm
  have hexec (hlo : 1 ≤ cause) (hhi : cause ≤ 6) : exec (.fatalCondition cause) s = .next (s.fatal cause false) :=
    congrArg Host.Outcome.next (if_pos (by simp [hlo, hhi]))
  refine ⟨fun hfirst hlo hhi => ?first, fun hlater => ?later, fun hoffset hcool => ?cool, fun hfirst hoffset hhot => ?hot,
    fun hbelow hwanted => ?release⟩
  case first =>
    have hkeeps := exec_keeps (hexec hlo hhi)
    have hfatal := State.fatal_first_parts hfirst cause false
    refine ⟨_, hexec hlo hhi, by rw [hfatal.ras], hfatal.ineligible, ?_, hfatal.gate, hfatal.sluice, hfatal.engines,
      hkeeps.now_eq rfl, hkeeps.st_eq rfl⟩
    rw [State.isFatal, hfatal.ras]
    exact bne_iff_ne.mpr (Nat.one_le_iff_ne_zero.mp hlo)
  case later =>
    have hsame : s.fatal cause false = s := if_pos (by simpa using hlater)
    refine congrArg Host.Outcome.next ?_
    rw [hsame, ite_self]
  case cool =>
    obtain ⟨hfatal, hwanted, hreading, hkeeps⟩ := State.thermalSample_cool hoffset hbm hcool
    exact ⟨_, rfl, hfatal, hwanted, hreading, hkeeps.now_eq rfl, hkeeps.mem_eq rfl⟩
  case hot => exact ⟨_, rfl, State.thermalSample_hot hoffset hbm hfirst hhot⟩
  case release =>
    have hrun : execThermStepReleaseTimer k s = .next { s.runTo (n + 1500000000) with
        ras := { (s.runTo (n + 1500000000)).ras with wanted := k - 1 } } := by
      unfold execThermStepReleaseTimer
      rw [hbelow]
      exact congrArg Host.Outcome.next (if_neg (by simp [hwanted]))
    have hkeeps := exec_keeps (i := .thermStepReleaseTimer k) hrun
    exact ⟨_, hrun, rfl, s.runTo_now _, hkeeps.regs_eq rfl, hkeeps.out_eq rfl, hkeeps.mem_eq rfl⟩

/-! ### Arrays and units (R401 to R407) -/

/-- With no injection armed, an array's error is what the read met. -/
theorem exec_sramError_of_no_injection {s : State} (hinj : s.ras.inj = []) (src index kind : Nat) (a : ArrayOwner) {u : State}
    (hu : u = s.wrn (rasReg 0x02C) (src % 2 ^ 16 * 2 ^ 16 + index % 2 ^ 16)) : exec (.sramError src index kind a) s =
      .next (if kind == 0 then u.sramCorrected src index false
        else ((u.inc (rasReg 0x020) 1).ev 0x0D02 src (index % 2 ^ 16 * 2 ^ 16 + bnat (kind == 2))).arrayFault src a false) := by
  have hrun : execSramError src index kind a s = .next (s.sramError src index kind a) := rfl
  rw [State.sramError, State.injected_of_no_injection hinj] at hrun
  subst hu
  exact hrun

/-- R401: a first mismatch in a block is noted, and the block computed again. -/
theorem State.unitResidue_first {s : State} {src k : Nat} (halive : s.alive src = true) (hnew : s.ras.again.find src ≠ some k)
    (inj : Bool) : ((s.unitResidue src k inj).ras.again.find src = some k) ∧ (s.unitResidue src k inj).retired = s.retired := by
  unfold State.unitResidue
  extract_lets times told due old
  rw [if_neg (by simp [halive]), if_neg (by simpa using hnew)]
  have hdue : Keeps { regs := true, out := true } s due.2 :=
    keeps_retryRate _ _ _ _ (keeps_ev _ _ _ _ (Keeps.refl s) rfl) rfl rfl
  exact ⟨Tab.find_set_same _ _ _, hdue.retired_eq rfl⟩

/-- R407: a second mismatch in the same block retires the unit. -/
theorem State.unitResidue_second {s : State} {src k : Nat} (halive : s.alive src = true) (hagain : s.ras.again.find src = some k)
    (inj : Bool) : s.unitResidue src k inj = s.retireUnit src 1 inj :=
  (if_neg (by simp [halive])).trans (if_pos (by simp [hagain]))

section Spillway

variable {s : State} {k : Nat} {j : SpillJob} {rest : List SpillJob} (hqueue : (s.spw k).queue = j :: rest)
include hqueue

/-- R401: a first mismatch in a CTU of a Spillway unit takes the CTU's cycles again. -/
theorem State.spillMismatch_first (hnew : s.ras.again.find (0x1500 + k) ≠ some (s.spillCtuId k)) (inj : Bool) :
    Keeps { out := true } { s.runTo (max (s.spw k).free j.at_ + j.cycles) with
      ras := { s.ras with again := s.ras.again.set (0x1500 + k) (s.spillCtuId k) }
      spills := s.spills.upd k (fun u => { u with free := (s.runTo (max (s.spw k).free j.at_ + j.cycles)).now }) }
      (s.spillMismatch k inj) := by
  unfold State.spillMismatch
  rw [hqueue]
  dsimp only
  rw [if_neg (by simpa using hnew)]
  exact keeps_ev _ _ _ _ (Keeps.refl _) rfl

theorem State.spillMismatch_second (hagain : s.ras.again.find (0x1500 + k) = some (s.spillCtuId k)) (inj : Bool) :
    s.spillMismatch k inj = s.fatal 2 inj := by
  unfold State.spillMismatch
  rw [hqueue]
  exact if_pos (by simp [hagain])

end Spillway

/-- Settles O53: an array's error by what it met, a mismatch by whether its block or CTU had one before. -/
theorem errorsAreCorrectedRepeatedOrEscalated : Obligations.ErrorsAreCorrectedRepeatedOrEscalated := by
  unfold Obligations.ErrorsAreCorrectedRepeatedOrEscalated
  intro s src n k a hinj
  refine ⟨fun u hu => ⟨?_, ?_, ?_⟩, fun hkind htarn halive => ?residue, fun j rest hqueue => ⟨fun hnew => ?first, fun hagain hfirst =>
    ?second⟩⟩
  · exact exec_sramError_of_no_injection hinj src n 0 a hu
  · have hrun := exec_sramError_of_no_injection hinj src n 1 a hu
    rw [show bnat (1 == 2) = 0 from rfl, Nat.add_zero] at hrun
    exact hrun
  · exact exec_sramError_of_no_injection hinj src n 2 a hu
  case residue =>
    have hrun : execUnitResidueMismatch src k s = .next (s.unitResidue src k false) :=
      congrArg Host.Outcome.next (if_pos (by simp [hkind, htarn]))
    have hkeeps := exec_keeps (i := .unitResidueMismatch src k) hrun
    refine ⟨fun hnew => ?_, fun hagain => ?_⟩
    · obtain ⟨hagain, hretired⟩ := State.unitResidue_first halive hnew false
      exact ⟨_, hrun, hagain, hretired, hkeeps.now_eq rfl, hkeeps.mem_eq rfl⟩
    · refine ⟨_, hrun, ?_, hkeeps.now_eq rfl, hkeeps.mem_eq rfl⟩
      rw [State.unitResidue_second halive hagain, State.retireUnit_retired hkind halive]
      exact List.mem_append_right _ (List.mem_singleton_self src)
  case first =>
    have hkeeps := State.spillMismatch_first hqueue hnew false
    refine ⟨_, rfl, ?_, ?_, ?_, (hkeeps.now_eq rfl).trans (s.runTo_now _), hkeeps.mem_eq rfl⟩
    · rw [hkeeps.frame.ras rfl]
      exact Tab.find_set_same _ _ _
    · rw [State.spw, hkeeps.spills_eq rfl, Tab.get_upd_same]
      exact hqueue
    · rw [hkeeps.frame.ras rfl]
  case second =>
    have hfatal := State.fatal_first_parts hfirst 2 false
    refine ⟨_, congrArg Host.Outcome.next (State.spillMismatch_second hqueue hagain false), ?_, hfatal.ineligible⟩
    rw [hfatal.ras]

end Sys2Proof.Machine
end

section
/-! PROOFS. Startup: resets, firmware, training's bound and the flash (O55, O56). -/

namespace Sys2Proof.Machine

/-! ### Resets (R419 to R422, R424) -/

/-- R422: what a reset leaves: nothing but the fuses and its cause. -/
structure State.Clean (s t : State) (cause : Nat) : Prop where
  mem : t.mem = []
  st : t.st = {}
  regs : t.regs = [(glb 0x28, BitVec.ofNat 32 cause)]
  slots : t.img.slots = s.img.slots
  pending : t.pending = s.pending
  retired : t.retired = []
  excluded : t.excluded = []
  doms : t.doms = []
  fatal : t.ras.fatal = 0
  role : t.pair.role = 0

theorem State.toReset_clean (s : State) (inReset powered : Bool) (cause : Nat) : s.Clean (s.toReset inReset powered cause) cause :=
  ⟨rfl, rfl, rfl, rfl, rfl, rfl, rfl, rfl, rfl, rfl⟩

/-- What comes before a reset changes neither the fuses nor the queue of commands. -/
theorem State.Clean.of_keeps {sc : Scope} {s u t : State} {cause : Nat} (h : u.Clean t cause) (hkeeps : Keeps sc s u)
    (hslots : sc.slots = false) : s.Clean t cause :=
  { h with slots := h.slots.trans (hkeeps.slots_eq hslots), pending := h.pending.trans hkeeps.pending }

theorem State.keeps_resetDrain_parts (s : State) :
    Keeps { clk := true, regs := true, out := true, emit := true, pair := true } s s.resetDrain :=
  keeps_resetDrain s (Keeps.refl s) rfl rfl rfl rfl rfl

/-- What the loss of the supply does before the reset: ACT_OUT falls, and THERM_TRIP_N is let go. -/
theorem exec_supplyLoss_powered {s : State} (hpowered : s.boot.powered = true) : ∃ u : State,
    Keeps { out := true, pair := true, ras := true } s u ∧ u.ras.trip = false ∧ exec .supplyLoss s = .next (u.toReset true false 0) := by
  have hrun : exec .supplyLoss s = .next _ := congrArg Host.Outcome.next (if_neg (by simp [hpowered]))
  refine ⟨_, ?_, ?_, hrun⟩
  · have hout : Keeps { out := true, pair := true, ras := true } s (s.setActOut false) := keeps_setActOut s false (Keeps.refl s) rfl rfl
    exact keeps_ite (keeps_emit _ _ (keeps_put_ras rfl hout) rfl) hout
  · split
    next => rfl
    next h => exact eq_false_of_ne_true h

theorem exec_deviceReset_keyed {s : State} {w : Word} (hkey : bits w.toNat 31 16 = 0x9600) (hbit : bit w.toNat 0 = true) :
    exec (.deviceReset w) s = .next (s.resetDrain.toReset false true 4) :=
  congrArg Host.Outcome.next (if_pos (by simp [hkey, hbit]))

/-- R139, R424: PERST takes the link down and resets the functions. -/
theorem State.perstAssert_resets {s : State} (hhigh : s.boot.perst = false) (hrun : s.boot.inReset = false) : ∃ u : State,
    Keeps { regs := true, out := true }
      { s with boot := { s.boot with perst := true }, pcie := { s.pcie with up := false, lost := true } } u ∧
      s.perstAssert = u.flr 0 := by
  unfold State.perstAssert
  rw [if_neg (by simp [hhigh, hrun])]
  exact ⟨_, keeps_ev _ _ _ _ (keeps_setFld _ _ _ _ _ (Keeps.refl _) rfl) rfl, rfl⟩

theorem State.flr_zero_pcie (s : State) : (s.flr 0).pcie = { s.pcie with numVfs := 0 } := by
  have hflr : s.flr 0 = (s.flrOne 0).setVfs 0 := rfl
  rw [hflr, State.setVfs_pcie, State.flrOne_pcie]

/-- Settles O55: each reset by what comes before it and what it leaves. -/
theorem resetsLeaveTheFusesAndNothingElse : Obligations.ResetsLeaveTheFusesAndNothingElse := by
  unfold Obligations.ResetsLeaveTheFusesAndNothingElse
  intro s clean hclean
  have hholds {t : State} {cause : Nat} (h : s.Clean t cause) : clean t cause := by
    rw [hclean]
    exact ⟨h.mem, h.st, h.regs, h.slots, h.pending, h.retired, h.excluded, h.doms, h.fatal, h.role⟩
  have hdrains := s.keeps_resetDrain_parts
  refine ⟨fun hrunning => ?asserts, fun hreset seat => ?deasserts, fun w hkey hbit => ?device, fun w hnot => ?ignored,
    fun hpowered => ?supply, fun hhigh hrunning => ?perst, rfl, rfl⟩
  case asserts =>
    exact ⟨_, congrArg Host.Outcome.next (if_neg (by simp [hrunning])),
      hholds ((s.resetDrain.toReset_clean true s.boot.powered 0).of_keeps hdrains rfl), rfl⟩
  case deasserts =>
    have hleaves := s.toReset_clean false true (if s.boot.powered then 2 else 1)
    exact ⟨(s.toReset false true (if s.boot.powered then 2 else 1)).updBoot (fun b => { b with seat := bnat seat }),
      congrArg Host.Outcome.next (if_neg (by simp [hreset])), hholds { hleaves with }, rfl, rfl, rfl, rfl⟩
  case device =>
    have hseat : s.resetDrain.boot.seat = s.boot.seat := congrArg Boot.seat (hdrains.frame.boot rfl)
    exact ⟨_, exec_deviceReset_keyed hkey hbit, hholds ((s.resetDrain.toReset_clean false true 4).of_keeps hdrains rfl), rfl,
      hseat⟩
  case ignored =>
    refine congrArg Host.Outcome.next (if_neg ?_)
    rcases hnot with h | h <;> simp [h]
  case supply =>
    obtain ⟨u, hu, htrip, hexec⟩ := exec_supplyLoss_powered hpowered
    exact ⟨_, hexec, hholds ((u.toReset_clean true false 0).of_keeps hu rfl), rfl, rfl, htrip, hu.now_eq rfl⟩
  case perst =>
    obtain ⟨u, hu, heq⟩ := State.perstAssert_resets hhigh hrunning
    have hflr := u.keeps_flr_parts 0
    have hpcie : u.pcie = { s.pcie with up := false, lost := true } := congrArg (·.2.2.1) (hu.frame.host rfl)
    have hboot : u.boot = { s.boot with perst := true } := hu.frame.boot rfl
    obtain ⟨-, hqueue⟩ := u.flr_queuesOff 0
    refine ⟨_, congrArg Host.Outcome.next heq, ?_, ?_, ?_, hqueue, (hflr.st_eq rfl).trans (hu.st_eq rfl),
      (hflr.now_eq rfl).trans (hu.now_eq rfl)⟩
    · rw [hflr.frame.boot rfl, hboot]
    · rw [State.flr_zero_pcie, hpcie]
    · rw [State.flr_zero_pcie]

/-! ### Firmware (R423, R455) -/

theorem State.avsSend_boot (s : State) (mv : Nat) (ack : Bool) : (s.avsSend mv ack).boot = { s.boot with avsAt := some s.now } := by
  unfold State.avsSend
  dsimp only
  split <;> rfl

/-- A set point stands in a register of its own. -/
theorem State.rd_avsSend_other (s : State) (mv : Nat) (ack : Bool) {a : Nat} (h : a ≠ glb 0xB0) : (s.avsSend mv ack).rd a = s.rd a := by
  unfold State.avsSend
  dsimp only
  split
  · exact (State.rd_wrn_other _ _ h).trans (State.rd_wrn_other _ _ h)
  · exact State.rd_wrn_other _ _ h

/-- The copy that the ROM takes: the upper one where the lower is bad, or both are good and it has the higher version. -/
def fwTakes (a b : FwCopy) : Nat := bnat (a.bad != 0 || (b.bad == 0 && decide (a.version < b.version)))

section Firmware

variable {s : State} (hrun : s.boot.inReset = false) (hstage : s.boot.stage = 0) {a b : FwCopy} (ack : Bool)
include hrun hstage

theorem State.firmwareVerify_none (ha : a.bad ≠ 0) (hb : b.bad ≠ 0) : (s.firmwareVerify a b ack).boot.stage = 15 := by
  unfold State.firmwareVerify
  rw [if_neg (by simp [hrun, hstage])]
  dsimp only
  rw [if_pos (by simp [ha, hb])]
  rfl

/-- R423: a good copy starts the device. -/
theorem State.firmwareVerify_takes (hgood : a.bad = 0 ∨ b.bad = 0) : (s.firmwareVerify a b ack).boot.stage = 2 ∧
    (s.firmwareVerify a b ack).boot.fwCopy = fwTakes a b ∧ (s.firmwareVerify a b ack).rd (glb 0x30) =
      BitVec.ofNat 32 (if fwTakes a b == 0 then a.version else b.version) := by
  have hsome : ¬ (a.bad != 0 && b.bad != 0) = true := by rcases hgood with h | h <;> simp [h]
  unfold State.firmwareVerify
  rw [if_neg (by simp [hrun, hstage])]
  dsimp only
  rw [if_neg hsome, State.avsSend_boot, State.rd_avsSend_other _ _ _ (by decide)]
  exact ⟨rfl, rfl, (State.rd_wrn_other _ _ (by decide)).trans (State.rd_wrn_same _ _ _)⟩

end Firmware

/-! ### The bound of training (R337, R425) -/

/-- A channel that does not end its training in time. -/
def State.excludeLate (s : State) (n : Nat) : State := s.excludeChan n 0 3

theorem State.excludeLate_excluded (s : State) (n : Nat) : n ∈ (s.excludeLate n).excluded := by
  obtain ⟨-, -, hlisted⟩ := s.excludeChan_parts n 0 3
  rw [State.excludeLate, hlisted]
  split
  next h => simpa using h
  next => exact List.mem_append_right _ (List.mem_singleton_self n)

theorem State.excludeLate_stays (s : State) (n : Nat) {k : Nat} (h : k ∈ s.excluded) : k ∈ (s.excludeLate n).excluded := by
  obtain ⟨-, -, hlisted⟩ := s.excludeChan_parts n 0 3
  rw [State.excludeLate, hlisted]
  split
  · exact h
  · exact List.mem_append_left _ h

theorem State.foldl_excludeLate_chan {l : List Nat} {k : Nat} (h : k ∉ l) (s : State) :
    (l.foldl State.excludeLate s).chan k = s.chan k := by
  induction l generalizing s with
  | nil => rfl
  | cons n l ih =>
    rw [List.mem_cons, not_or] at h
    obtain ⟨-, hother, -⟩ := s.excludeChan_parts n 0 3
    rw [List.foldl_cons, ih h.2, State.excludeLate, hother k h.1]

/-- Channels that are neither live nor excluded. -/
def State.lateChans (s : State) : List Nat := (List.range 32).filter (fun n => !(s.chan n).live && !s.excluded.contains n)

theorem State.mem_lateChans {s : State} {n : Nat} : n ∈ s.lateChans ↔ n < 32 ∧ (s.chan n).live = false ∧ n ∉ s.excluded := by
  simp [State.lateChans]

theorem State.lateChans_excluded (s : State) {n : Nat} (hn : n < 32) (hidle : (s.chan n).live = false) :
    n ∈ (s.lateChans.foldl State.excludeLate s).excluded := by
  by_cases hin : n ∈ s.excluded
  · exact List.foldlRecOn s.lateChans State.excludeLate (motive := fun u => n ∈ u.excluded) hin
      (fun u hu k _ => u.excludeLate_stays k hu)
  · exact foldl_establishes (P := fun n (u : State) => n ∈ u.excluded) (fun u k => u.excludeLate_excluded k)
      (fun u k _ hu => u.excludeLate_stays k hu) (State.mem_lateChans.mpr ⟨hn, hidle, hin⟩) s

theorem State.trainingEnds_all {s : State} (hstage : s.boot.stage = 2) (hall : ∀ n < 32, (s.chan n).live = true ∨ n ∈ s.excluded) :
    s.trainingEnds = (s.updBoot (fun b => { b with trained := true, stage := 3 })).setFld (glb 0x2C) 31 16 s.bootMs :=
  if_pos (by simpa [hstage] using hall)

/-- R425: 575 ms after reset the channels that are late are excluded, and training has ended. -/
theorem State.startupTimeout_training {s : State} (hrun : s.boot.inReset = false) (hstage : s.boot.stage = 2) : ∃ u : State,
    Keeps { units := true, regs := true, out := true, memsys := true } (s.runTo (s.boot.at_ + 575 * msCycles)) u ∧
      (∀ n < 32, (s.chan n).live = false → n ∈ u.excluded) ∧ s.startupTimeout false =
        (u.updBoot (fun b => { b with trained := true, stage := 3 })).setFld (glb 0x2C) 31 16 u.bootMs := by
  generalize hdue : s.runTo (s.boot.at_ + 575 * msCycles) = due
  have hboot : due.boot = s.boot := by rw [← hdue]; exact s.runTo_boot _
  have hchan (n : Nat) : due.chan n = s.chan n := by rw [← hdue]; exact s.chan_runTo _ n
  generalize hu : (due.lateChans.foldl State.excludeLate due).ev 0x0F03 0x5100 1 = u
  have hkeeps : Keeps { units := true, regs := true, out := true, memsys := true } due u := hu ▸
    keeps_ev _ _ _ _ (keeps_foldl (Keeps.refl due) fun v n hv => keeps_excludeChan v n 0 3 hv rfl rfl rfl rfl) rfl
  have hexcluded (n : Nat) (hn : n < 32) (hidle : (s.chan n).live = false) : n ∈ u.excluded := by
    rw [← hu]
    exact due.lateChans_excluded hn (by rw [hchan]; exact hidle)
  have hall (n : Nat) (hn : n < 32) : (u.chan n).live = true ∨ n ∈ u.excluded := by
    cases hidle : (s.chan n).live
    case false => exact .inr (hexcluded n hn hidle)
    case true =>
      have hlate : n ∉ due.lateChans := fun h => by
        obtain ⟨-, hoff, -⟩ := State.mem_lateChans.mp h
        rw [hchan, hidle] at hoff
        cases hoff
      rw [← hu, State.chan_ev, State.foldl_excludeLate_chan hlate, hchan]
      exact .inl hidle
  have hends := State.trainingEnds_all (s := u) (by rw [hkeeps.frame.boot rfl, hboot, hstage]) hall
  refine ⟨u, hkeeps, hexcluded, ?_⟩
  unfold State.startupTimeout
  rw [if_neg (by simp [hrun, hstage]), if_neg (by decide), if_neg (by simp [hstage]), hdue]
  exact (congrArg State.trainingEnds hu).trans hends

/-! ### The flash (R423) -/

section Flash

variable {s : State} (hidle : s.boot.flashOp = none)
include hidle

/-- R423: an operation starts at its aligned address: a sector's for an erase, a page's for the others. -/
theorem State.flashStart_maint (hmaint : s.devMaint = true) (op : Nat) : ∃ d, s.flashStart op =
    (s.updBoot (fun b => { b with flashOp := some (op, if op == 1 then s.rdn (glb 0x204) / 65536 * 65536 else
      s.rdn (glb 0x204) / 256 * 256) })).emit d :=
  ⟨_, (if_neg (by simp [hidle])).trans (if_neg (by simp [hmaint]))⟩

theorem State.flashStart_locked (hlocked : s.devMaint = false) (op : Nat) :
    s.flashStart op = s.updBoot (fun b => { b with flashErr := true }) :=
  (if_neg (by simp [hidle])).trans (if_pos (by simp [hlocked]))

end Flash

/-- A word of a page read goes into FLASH_DATA. -/
def State.flashWord (data : Bytes) (s : State) (i : Nat) : State := s.wrn (glb (0x300 + 4 * i)) (u32 data (4 * i))

theorem State.foldl_flashWord_rd (data : Bytes) {i : Nat} (hi : i < 64) (s : State) :
    ((List.range 64).foldl (State.flashWord data) s).rd (glb (0x300 + 4 * i)) = BitVec.ofNat 32 (u32 data (4 * i)) := by
  refine foldl_establishes (P := fun i (s : State) => s.rd (glb (0x300 + 4 * i)) = BitVec.ofNat 32 (u32 data (4 * i)))
    (fun s i => s.rd_wrn_same _ _) (fun s i k hk => ?_) (List.mem_range.mpr hi) s
  by_cases h : k = i
  · rw [h]
    exact s.rd_wrn_same _ _
  · exact (s.rd_wrn_other _ (by simp only [glb]; omega)).trans hk

theorem State.foldl_flashWord_boot (data : Bytes) (l : List Nat) (s : State) : (l.foldl (State.flashWord data) s).boot = s.boot :=
  State.foldl_congr (f := State.flashWord data) State.boot (fun _ _ => rfl) l s

/-- R423: the end of an operation, and what a read answers. -/
theorem exec_flashOpDone {s : State} {op at_ : Nat} (hop : s.boot.flashOp = some (op, at_)) (ok : Bool) (data : Bytes) {u : State}
    (hu : u = s.updBoot (fun b => { b with flashOp := none, flashErr := b.flashErr || !ok })) : exec (.flashOpDone ok data) s =
      .next (if ok && op == 3 then (List.range 64).foldl (State.flashWord data) u else u) := by
  have hrun : execFlashOpDone ok data s = .next (if ok && op == 3 then (List.range 64).foldl (State.flashWord data) u else u) := by
    subst hu
    rw [execFlashOpDone, hop]
    rfl
  exact hrun

/-- Settles O56: the copy by the ROM's choice, the late channels by their exclusion, the flash by its operation. -/
theorem startUpTakesACopyAndFlashOperationsRun : Obligations.StartUpTakesACopyAndFlashOperationsRun := by
  unfold Obligations.StartUpTakesACopyAndFlashOperationsRun
  intro s a b ack ok data
  refine ⟨fun hrun hstage => ?firmware, fun hrun hstage => ?training, fun hidle hmaint => ?flash, fun hidle hlocked i hi => ?locked,
    fun op at_ hop => ?done⟩
  case firmware =>
    have hkeeps := exec_keeps (i := .firmwareVerify a b ack) (s := s) rfl
    refine ⟨fun ha hb => ?_, fun ha hb => ?_, fun ha hb => ?_, fun ha hb => ?_⟩
    · exact ⟨_, rfl, State.firmwareVerify_none hrun hstage ack ha hb, hkeeps.st_eq rfl, hkeeps.now_eq rfl⟩
    · obtain ⟨htwo, hcopy, hversion⟩ := State.firmwareVerify_takes hrun hstage ack (.inl ha : a.bad = 0 ∨ b.bad = 0)
      refine ⟨_, rfl, htwo, hcopy.trans ?_, hversion.trans (congrArg _ ?_), hkeeps.mem_eq rfl⟩
      · by_cases h : a.version < b.version <;> simp [fwTakes, ha, hb, h, bnat]
      · by_cases h : a.version < b.version <;> simp [fwTakes, ha, hb, h, bnat] <;> omega
    · obtain ⟨htwo, hcopy, -⟩ := State.firmwareVerify_takes hrun hstage ack (.inr hb : a.bad = 0 ∨ b.bad = 0)
      exact ⟨_, rfl, htwo, hcopy.trans (by simp [fwTakes, ha, bnat])⟩
    · obtain ⟨htwo, hcopy, -⟩ := State.firmwareVerify_takes hrun hstage ack (.inl ha : a.bad = 0 ∨ b.bad = 0)
      exact ⟨_, rfl, htwo, hcopy.trans (by simp [fwTakes, ha, hb, bnat])⟩
  case training =>
    obtain ⟨u, hu, hexcluded, heq⟩ := State.startupTimeout_training hrun hstage
    have hexec : exec (.startupTimeout false) s = .next _ := congrArg Host.Outcome.next heq
    have hends : Keeps { regs := true } (u.updBoot (fun b => { b with trained := true, stage := 3 })) _ :=
      keeps_setFld _ (glb 0x2C) 31 16 u.bootMs (Keeps.refl _) rfl
    have hboot := hends.frame.boot rfl
    refine ⟨_, hexec, ?_, ?_, (hends.now_eq rfl).trans ((hu.now_eq rfl).trans (s.runTo_now _)),
      (hends.mem_eq rfl).trans ((hu.mem_eq rfl).trans (s.runTo_mem _)), fun n hn hidle => ?_⟩
    · rw [hboot]
      rfl
    · rw [hboot]
      rfl
    · rw [hends.excluded_eq rfl]
      exact hexcluded n hn hidle
  case flash =>
    have hstarts (op a : Nat) (ha : (if op == 1 then s.rdn (glb 0x204) / 65536 * 65536 else s.rdn (glb 0x204) / 256 * 256) = a) :
        ∃ t, Host.Outcome.next (s.flashStart op) = (.next t : Host.Outcome State Fault Refusal) ∧ t.boot.flashOp = some (op, a) ∧
          t.regs = s.regs ∧ t.mem = s.mem := by
      obtain ⟨d, heq⟩ := State.flashStart_maint hidle hmaint op
      rw [ha] at heq
      exact ⟨_, congrArg Host.Outcome.next heq, rfl, rfl, rfl⟩
    exact ⟨hstarts 1 _ (if_pos rfl), hstarts 2 _ (if_neg (by decide)), hstarts 3 _ (if_neg (by decide))⟩
  case locked =>
    have hlock := State.flashStart_locked hidle hlocked
    rcases hi with rfl | rfl | rfl
    · exact congrArg Host.Outcome.next (hlock 1)
    · exact congrArg Host.Outcome.next (hlock 2)
    · exact congrArg Host.Outcome.next (hlock 3)
  case done =>
    have hexec := exec_flashOpDone hop ok data rfl
    refine ⟨_, hexec, ?_, ?_, (exec_keeps hexec).mem_eq rfl, fun hnone => ?_, fun hok hread i hi => ?_⟩
    · split
      · rw [State.foldl_flashWord_boot]
        rfl
      · rfl
    · split
      · rw [State.foldl_flashWord_boot]
        rfl
      · rfl
    · rw [if_neg (by rcases hnone with h | h <;> simp [h])]
      rfl
    · rw [if_pos (by simp [hok, hread])]
      exact State.foldl_flashWord_rd data hi _

end Sys2Proof.Machine
end

section
/-! PROOFS. Power: requests to power domains, the set point of VDD_CORE and the supply monitor (O60). -/

namespace Sys2Proof.Machine

/-! ### A field below one that is set -/

theorem putBits_mod_low (n : Nat) {hi lo k : Nat} (v : Nat) (hk : k ≤ lo) : putBits n hi lo v % 2 ^ k = n % 2 ^ k := by
  rw [putBits_split, ← Nat.mod_mod_of_dvd _ (pow_dvd_pow 2 hk), Nat.mul_add_mod, Nat.mod_mod, Nat.mod_mod_of_dvd _ (pow_dvd_pow 2 hk)]

theorem bits_eq_mod_div {n hi lo : Nat} (hlo : lo ≤ hi + 1) : bits n hi lo = n % 2 ^ (hi + 1) / 2 ^ lo := by
  have hword : 2 ^ (hi + 1) = 2 ^ lo * 2 ^ (hi + 1 - lo) := by rw [← pow_add]; congr 1; omega
  rw [bits, hword, Nat.mod_mul_right_div_self]

theorem bits_putBits_below (n : Nat) {hi lo hi' lo' : Nat} (v : Nat) (hbelow : hi' < lo) (hlo : lo' ≤ hi') :
    bits (putBits n hi lo v) hi' lo' = bits n hi' lo' := by
  rw [bits_eq_mod_div (by omega), bits_eq_mod_div (by omega), putBits_mod_low n v hbelow]

/-- A field that is set leaves one below it in the same register. -/
theorem State.fld_setFld_below (s : State) (a : Nat) {hi lo hi' lo' : Nat} (v : Nat) (hhi : hi' < 32) (hbelow : hi' < lo)
    (hlo : lo' ≤ hi') : (s.setFld a hi lo v).fld a hi' lo' = s.fld a hi' lo' := by
  rw [State.fld, State.setFld, State.rdn_wrn_same, bits_mod_word hhi hlo, bits_putBits_below _ _ hbelow hlo, State.fld]

/-! ### Requests (R430, R431) -/

/-- What a domain carries is no matter of registers. -/
theorem State.powerWork_wrn (s : State) (a v b : Nat) : (s.wrn a v).powerWork b = s.powerWork b := rfl

/-- The domains that a write of PWR_REQ newly asks to go down. -/
def newRequests (w : Word) (old : Nat) : List Nat := (List.range 26).filter (fun b => bit w.toNat b && !bit old b)

/-- R431: a request whose domain carries work is refused. -/
def State.powerCheck (s : State) (b : Nat) : State := match s.powerWork b with | some why => s.powerRefuse b why | none => s

theorem State.pwrReqWrite_ticked {s : State} (hticked : s.st.domains ≠ []) (w : Word) : s.pwrReqWrite w =
    (newRequests w (s.rdn (glb 0xA0))).foldl State.powerCheck (s.wrn (glb 0xA0) (w.toNat % 2 ^ 26)) := by
  have hst (u : State) (b : Nat) : (u.powerCheck b).st = u.st := by
    unfold State.powerCheck
    split <;> rfl
  refine if_neg (fun hempty => hticked ?_)
  have hkept := State.foldl_congr (fun u => u.st) hst (newRequests w (s.rdn (glb 0xA0))) (s.wrn (glb 0xA0) (w.toNat % 2 ^ 26))
  have hnone : (State.st ((newRequests w (s.rdn (glb 0xA0))).foldl State.powerCheck
    (s.wrn (glb 0xA0) (w.toNat % 2 ^ 26)))).domains = [] := List.isEmpty_iff.mp hempty
  rw [hkept] at hnone
  exact hnone

/-- R431: a request of stack 0 of the Reservoir alone is refused: it always carries work. -/
theorem State.pwrReqWrite_stack0 {s : State} (hticked : s.st.domains ≠ []) (hold : s.rdn (glb 0xA0) = 0) {w : Word}
    (hw : w.toNat = 2 ^ 24) : s.pwrReqWrite w = (s.wrn (glb 0xA0) (2 ^ 24)).powerRefuse 24 4 := by
  have hnew : newRequests w (s.rdn (glb 0xA0)) = [24] := by
    rw [newRequests, hw, hold]
    decide
  rw [State.pwrReqWrite_ticked hticked, hnew, hw]
  rfl

/-- The refusal takes the one request back, and no other register changes. -/
theorem State.powerRefuse_stack0 (s : State) : ((s.wrn (glb 0xA0) (2 ^ 24)).powerRefuse 24 4).rdn (glb 0xA0) = 0 ∧
    (∀ k, k ≠ glb 0xA0 → ((s.wrn (glb 0xA0) (2 ^ 24)).powerRefuse 24 4).rd k = s.rd k) ∧
    ((s.wrn (glb 0xA0) (2 ^ 24)).powerRefuse 24 4).mem = s.mem := by
  generalize hu : s.wrn (glb 0xA0) (2 ^ 24) = u
  have hold : u.rdn (glb 0xA0) = 2 ^ 24 := hu ▸ s.rdn_wrn_of_lt _ (by decide)
  have hmem : u.mem = s.mem := hu ▸ s.wrn_mem _ _
  have hother (k : Nat) (hk : k ≠ glb 0xA0) : u.rd k = s.rd k := hu ▸ s.rd_wrn_other _ hk
  have htold : Keeps { out := true } (u.setFld (glb 0xA0) 24 24 0) (u.powerRefuse 24 4) := keeps_ev _ _ _ _ (Keeps.refl _) rfl
  refine ⟨?_, fun k hk => ?_, ?_⟩
  · rw [State.rdn_congr (htold.regs_eq rfl), State.setFld, State.rdn_wrn_same, hold]
    decide
  · rw [htold.rd_eq rfl, State.setFld, State.rd_wrn_other _ _ hk, hother k hk]
  · rw [htold.mem_eq rfl, State.setFld_mem, hmem]

/-- A write whose domains carry no work stands. -/
theorem State.pwrReqWrite_free {s : State} (hticked : s.st.domains ≠ []) {w : Word}
    (hfree : ∀ b < 26, bit w.toNat b = true → s.powerWork b = none) : s.pwrReqWrite w = s.wrn (glb 0xA0) (w.toNat % 2 ^ 26) := by
  rw [State.pwrReqWrite_ticked hticked]
  refine List.foldlRecOn (newRequests w (s.rdn (glb 0xA0))) State.powerCheck (motive := fun u => u = s.wrn (glb 0xA0) (w.toNat % 2 ^ 26))
    rfl (fun u hu b hb => ?_)
  obtain ⟨hlt, hasked⟩ := List.mem_filter.mp hb
  rw [Bool.and_eq_true] at hasked
  rw [hu, State.powerCheck, State.powerWork_wrn, hfree b (List.mem_range.mp hlt) hasked.1]

/-! ### The set point (R455) -/

theorem State.avsAdjust_near {s : State} {mv n : Nat} (hlast : s.boot.avsAt = some n) (hstep : mv % 5 = 0) (hlo : 650 ≤ mv)
    (hhi : mv ≤ 850) (hup : mv ≤ s.fld (glb 0xB0) 26 16 + 10) (hdown : s.fld (glb 0xB0) 26 16 ≤ mv + 10) (ack : Bool) :
    s.avsAdjust mv ack = (s.runTo (n + 1500000000)).avsSend mv ack := by
  unfold State.avsAdjust
  extract_lets held near retry
  have hnear : near = true := by simp [near, held, hup, hdown, hlo, hhi, hstep]
  rw [hlast]
  exact if_pos (by rw [hnear]; rfl)

section SetPoint

variable (s : State) (mv : Nat)

theorem State.avsSend_fld_acknowledged (hmv : mv ≤ 850) :
    (s.avsSend mv true).fld (glb 0xB0) 26 16 = mv ∧ (s.avsSend mv true).fld (glb 0xB0) 31 31 = 0 := by
  generalize hsent : (s.updBoot (fun b => { b with avsAt := some s.now })).emit (.avs mv) = u
  have hrun : s.avsSend mv true = (u.setFld (glb 0xB0) 26 16 mv).setFld (glb 0xB0) 31 31 0 := hsent ▸ rfl
  rw [hrun, State.fld_setFld_below _ _ _ (by decide) (by decide) (by decide), State.fld_setFld_same _ _ (by decide) (by decide),
    State.fld_setFld_same _ _ (by decide) (by decide)]
  exact ⟨Nat.mod_eq_of_lt (by omega), rfl⟩

theorem State.avsSend_fld_refused :
    (s.avsSend mv false).fld (glb 0xB0) 26 16 = s.fld (glb 0xB0) 26 16 ∧ (s.avsSend mv false).fld (glb 0xB0) 31 31 = 1 := by
  generalize hsent : (s.updBoot (fun b => { b with avsAt := some s.now })).emit (.avs mv) = u
  have hu : u.regs = s.regs := hsent ▸ rfl
  have hrun : Keeps { out := true } (u.setFld (glb 0xB0) 31 31 1) (s.avsSend mv false) :=
    hsent ▸ keeps_ev _ _ _ _ (Keeps.refl _) rfl
  have hfld (hi lo : Nat) : (s.avsSend mv false).fld (glb 0xB0) hi lo = (u.setFld (glb 0xB0) 31 31 1).fld (glb 0xB0) hi lo :=
    congrArg (bits · hi lo) (State.rdn_congr (hrun.regs_eq rfl) _)
  rw [hfld, hfld, State.fld_setFld_below _ _ _ (by decide) (by decide) (by decide), State.fld_setFld_same _ _ (by decide) (by decide)]
  exact ⟨congrArg (bits · 26 16) (State.rdn_congr hu _), rfl⟩

end SetPoint

/-! ### The supply monitor (R456) -/

theorem State.supplyExcursion_near {s : State} {mv : Nat} (hnear : beyond (s.fld (glb 0xB0) 26 16) mv 5 = false) (long : Bool) :
    s.supplyExcursion 0 mv long = s.setFld (glb 0xB4) 31 16 mv :=
  (if_neg (by decide)).trans (if_pos (by simp [hnear]))

/-- R456: a departure beyond 5% is told the first time. -/
theorem State.supplyExcursion_told {s : State} {mv : Nat} (hfar : beyond (s.fld (glb 0xB0) 26 16) mv 5 = true)
    (hfirst : s.boot.warnCore = none) : Keeps { regs := true, out := true } (s.updBoot (fun b => { b with warnCore := some s.now }))
      (s.supplyExcursion 0 mv false) := by
  generalize hrun : s.supplyExcursion 0 mv false = t
  unfold State.supplyExcursion at hrun
  rw [if_neg (by decide)] at hrun
  extract_lets nom measured last due told at hrun
  have hdue : due = true := by
    unfold due
    rw [show last = none from hfirst]
  have hbeyond : beyond nom mv 5 = true := hfar
  have htold : told = _ := if_pos hdue
  rw [if_neg (by rw [hbeyond]; decide), if_neg (by simp), htold] at hrun
  rw [← hrun]
  exact keeps_ev _ _ _ _ (keeps_setFld (s.updBoot (fun b => { b with warnCore := some s.now })) (glb 0xB4) 31 16 mv
    (Keeps.refl _) rfl) rfl

/-- R456: a departure beyond 8% for more than 64 cycles is fatal. -/
theorem State.supplyExcursion_fatal {s : State} {mv : Nat} (hfar : beyond 800 mv 5 = true) (hlong : beyond 800 mv 8 = true) :
    ∃ u : State, u.ras = s.ras ∧ s.supplyExcursion 1 mv true = u.fatal 4 false := by
  generalize hrun : s.supplyExcursion 1 mv true = t
  unfold State.supplyExcursion at hrun
  rw [if_neg (by decide)] at hrun
  extract_lets nom measured last due told at hrun
  have hbeyond : beyond nom mv 5 = true := hfar
  have hlasting : beyond nom mv 8 = true := hlong
  have htold : told.ras = s.ras := by
    unfold told
    split <;> rfl
  rw [if_neg (by rw [hbeyond]; decide), if_pos (by rw [hlasting]; decide)] at hrun
  exact ⟨told, htold, hrun.symm⟩

/-- Settles O60: a request by its check, a set point by its answer, an excursion by how far and how long it goes. -/
theorem powerRequestsAndSupplyExcursions : Obligations.PowerRequestsAndSupplyExcursions := by
  unfold Obligations.PowerRequestsAndSupplyExcursions
  intro s w mv n
  refine ⟨fun hold hw hticked => ?stack0, fun hold hfree hticked => congrArg Host.Outcome.next (State.pwrReqWrite_free hticked hfree),
    fun hlast hstep hlo hhi hup hdown => ?setPoint, fun hnear long => congrArg Host.Outcome.next (State.supplyExcursion_near hnear long),
    fun hfar hfirst => ?told, fun hfar hlong hfirst => ?fatal⟩
  case stack0 =>
    obtain ⟨hzero, hother, hmem⟩ := s.powerRefuse_stack0
    exact ⟨_, congrArg Host.Outcome.next (State.pwrReqWrite_stack0 hticked hold hw), hzero, hother, hmem⟩
  case setPoint =>
    have hrun (ack : Bool) : exec (.avsAdjust mv ack) s = .next ((s.runTo (n + 1500000000)).avsSend mv ack) :=
      congrArg Host.Outcome.next (State.avsAdjust_near hlast hstep hlo hhi hup hdown ack)
    have hsends (ack : Bool) : Keeps { regs := true, out := true, boot := true } (s.runTo (n + 1500000000))
        ((s.runTo (n + 1500000000)).avsSend mv ack) := keeps_avsSend _ mv ack (Keeps.refl _) rfl rfl rfl
    have hnow (ack : Bool) := (hsends ack).now_eq rfl
    have hmem (ack : Bool) := ((hsends ack).mem_eq rfl).trans (s.runTo_mem _)
    refine ⟨?_, ?_⟩
    · obtain ⟨hfld, hbit⟩ := State.avsSend_fld_acknowledged (s.runTo (n + 1500000000)) mv hhi
      refine ⟨_, hrun true, hfld, hbit, (hnow true).trans (s.runTo_now _), ?_, hmem true⟩
      rw [State.avsSend_boot, hnow]
    · obtain ⟨hfld, hbit⟩ := State.avsSend_fld_refused (s.runTo (n + 1500000000)) mv
      refine ⟨_, hrun false, hfld.trans ?_, hbit, (hnow false).trans (s.runTo_now _), hmem false⟩
      exact congrArg (bits · 26 16) (State.rdn_congr (s.runTo_regs _) _)
  case told =>
    have hkeeps := State.supplyExcursion_told hfar hfirst
    refine ⟨_, rfl, ?_, ?_, hkeeps.now_eq rfl, hkeeps.mem_eq rfl⟩
    · rw [hkeeps.frame.boot rfl]
      rfl
    · rw [hkeeps.frame.ras rfl]
      rfl
  case fatal =>
    obtain ⟨u, hras, heq⟩ := State.supplyExcursion_fatal (s := s) hfar hlong
    have hfatal := State.fatal_first_parts (s := u) (by rw [hras]; exact hfirst) 4 false
    refine ⟨_, congrArg Host.Outcome.next heq, ?_, hfatal.ineligible⟩
    rw [hfatal.ras]

end Sys2Proof.Machine
end

section
/-! PROOFS. Lanes: bring-up, electrical idle, link training, loopbacks, patterns and margins (O57, O58, O59). -/

namespace Sys2Proof.Machine

@[simp] theorem State.lane_setLane_same (s : State) (n : Nat) (x : Lane) : (s.setLane n x).lane n = x := Tab.get_set_same _ _ _

theorem State.lane_setLane_other (s : State) {n k : Nat} (x : Lane) (h : k ≠ n) : (s.setLane n x).lane k = s.lane k :=
  Tab.get_set_other _ _ h

@[simp] theorem State.lane_runTo (s : State) (c n : Nat) : (s.runTo c).lane n = s.lane n := rfl

theorem State.keeps_lanePortDown_parts (s : State) (n : Nat) : Keeps { out := true, courses := true } s (s.lanePortDown n) :=
  keeps_lanePortDown s n (Keeps.refl s) rfl rfl

/-! ### Failure (R442) -/

/-- A lane that fails at a cycle. -/
def Lane.failed (x : Lane) (reason now : Nat) : Lane :=
  { x with state := 4, reason, told := true, failedAt := now, aligned := false, burst := none }

theorem State.laneFail_parts (s : State) (n reason : Nat) :
    Keeps { regs := true, out := true } (s.setLane n ((s.lane n).failed reason s.now)) (s.laneFail n reason) := by
  unfold State.laneFail
  extract_lets x failed told
  exact keeps_replace _ _ _ (keeps_ite (Keeps.refl failed) (keeps_ev _ _ _ _ (Keeps.refl failed) rfl)) rfl rfl

theorem State.laneFail_lane (s : State) (n reason : Nat) : (s.laneFail n reason).lane n = (s.lane n).failed reason s.now := by
  rw [(s.laneFail_parts n reason).lane_eq rfl, State.lane_setLane_same]

theorem State.laneFail_now (s : State) (n reason : Nat) : (s.laneFail n reason).now = s.now := (s.laneFail_parts n reason).now_eq rfl

theorem State.laneFail_mem (s : State) (n reason : Nat) : (s.laneFail n reason).mem = s.mem := (s.laneFail_parts n reason).mem_eq rfl

/-! ### Bring-up (R440 to R443) -/

section BringUp

variable {s : State} {n : Nat} {x : Lane} (hx : x = s.lane n)
include hx

/-- R440: a calibrated lane of this chapter that is not held idle acquires. -/
theorem exec_laneCalibrationDone_acquires (hnew : x.calibrated = false) (hown : ownLane n = true) (hon : s.laneIdle n = false) :
    exec (.laneCalibrationDone n true) s = .next (s.setLane n { x with calibrated := true, told := false, reason := 0 }.acquire) := by
  subst hx
  refine congrArg Host.Outcome.next ((if_neg (by simp [hnew])).trans ((if_neg (by decide)).trans (congrArg (s.setLane n) ?_)))
  exact if_neg (by simp [hown, hon])

theorem exec_laneCalibrationDone_fails (hnew : x.calibrated = false) :
    exec (.laneCalibrationDone n false) s = .next (s.laneFail n 1) := by
  subst hx
  exact congrArg Host.Outcome.next ((if_neg (by simp [hnew])).trans (if_pos (by decide)))

theorem exec_laneSignalDetect_acquiring (hstate : x.state = 2) (hown : ownLane n = true) : exec (.laneSignalDetect n) s =
    .next (s.setLane n { x with signal := true, cdr := true, signalAt := s.now, cdrAt := s.now, triedAt := s.now, trained := false
                                trying := s.fld (laneReg n 0) 29 28 == 2 }) := by
  subst hx
  exact congrArg Host.Outcome.next (if_pos (by simp [hstate, hown]))

theorem exec_lanePolaritySwitch_automatic (hstate : x.state = 2) (hcdr : x.cdr = true) (hburst : x.burst = none)
    (hauto : s.fld (laneReg n 0) 29 28 = 0) : exec (.lanePolaritySwitch n) s = .next ((s.runTo (x.triedAt + msCycles)).setLane n
      { x with trying := !x.trying, triedAt := (s.runTo (x.triedAt + msCycles)).now }) := by
  subst hx
  exact congrArg Host.Outcome.next (if_pos (by simp [hstate, hcdr, hburst, hauto]))

theorem exec_laneAcquireTimeout_acquiring (hstate : x.state = 2) (hcdr : x.cdr = true) (hburst : x.burst = none) :
    exec (.laneAcquireTimeout n) s = .next ((s.runTo (x.cdrAt + 150000000)).laneFail n 2) := by
  subst hx
  exact congrArg Host.Outcome.next (if_pos (by simp [hstate, hcdr, hburst]))

theorem exec_laneRetryTimer_failed (hstate : x.state = 4) : exec (.laneRetryTimer n) s =
    .next ((s.runTo (x.failedAt + 15000000000)).setLane n (if x.calibrated then x.acquire else { x with state := 1 })) := by
  subst hx
  exact congrArg Host.Outcome.next (if_pos (by simp [hstate]))

/-- The lane as a lock at a logical position leaves it. -/
def Lane.locked (x : Lane) (l now : Nat) : Lane :=
  { x with state := 3, signal := true, cdr := true, aligned := true
           inverted := if x.burst.isSome then x.inverted else x.trying
           logical := l, reason := 0, told := false, saved := true, upAt := now, burst := none }

section Lock

variable (hstate : x.state = 2) (hown : ownLane n = true) (hcdr : x.cdr = true) {l : Nat}
include hstate hown hcdr

/-- R441: a lock at a free position makes the lane UP. -/
theorem State.laneAlign_locks (hwidth : l < (match s.portOfLane n with | some p => (s.st.portLanes p).length | none => 4))
    (hfree : s.positionTaken n l = false) : Keeps { out := true } (s.setLane n (x.locked l s.now)) (s.laneAlign n l true) := by
  subst hx
  unfold State.laneAlign
  extract_lets y width inv up told
  have hfit : ¬ width ≤ l := Nat.not_le.mpr hwidth
  rw [if_neg (by simp [y, hstate, hown, hcdr]), if_neg (by simp [hfit, hfree])]
  exact keeps_ev _ _ _ _ (keeps_ite (keeps_ev _ _ _ _ (Keeps.refl up) rfl) (Keeps.refl up)) rfl

/-- R442: markers of another port's lane fail the lane. -/
theorem State.laneAlign_foreign : s.laneAlign n l false = s.laneFail n 3 := by
  subst hx
  exact (if_neg (by simp [hstate, hown, hcdr])).trans (if_pos (by simp))

end Lock

/-- R443: an UP lane that loses its lock acquires again, and the loss is counted. -/
theorem exec_laneLossOfLock_up (hstate : x.state = 3) : ∃ t, exec (.laneLossOfLock n) s = .next t ∧
    Keeps { out := true, courses := true } ((s.setLane n x.acquire).inc (laneReg n 0x02C) 1) t := by
  subst hx
  exact ⟨_, congrArg Host.Outcome.next (if_pos (by simp [hstate])), keeps_ev _ _ _ _ (State.keeps_lanePortDown_parts _ n) rfl⟩

end BringUp

/-- Settles O57: each event of a lane by what it leaves of the lane. -/
theorem lanesComeUpFailAndRetry : Obligations.LanesComeUpFailAndRetry := by
  unfold Obligations.LanesComeUpFailAndRetry
  intro s n l x hx
  refine ⟨exec_laneCalibrationDone_acquires hx, fun hnew => ?calibration, fun hstate hown => ?signal,
    fun hstate hcdr hburst hauto => ?polarity, fun hstate hown hcdr hwidth hfree => ?locks, fun hstate hown hcdr => ?foreign,
    fun hstate hcdr hburst => ?late, fun hstate hcal => ?retry, fun hstate hcal => ?recalibrate, fun hstate => ?loss⟩
  case calibration =>
    have hlane := s.laneFail_lane n 1
    exact ⟨_, exec_laneCalibrationDone_fails hx hnew, by rw [hlane]; rfl, by rw [hlane]; rfl, by rw [hlane]; rfl, s.laneFail_mem n 1⟩
  case signal =>
    refine ⟨_, exec_laneSignalDetect_acquiring hx hstate hown, ?_⟩
    rw [State.lane_setLane_same]
    exact ⟨rfl, rfl, rfl, hstate, rfl, rfl⟩
  case polarity =>
    have hexec := exec_lanePolaritySwitch_automatic hx hstate hcdr hburst hauto
    generalize hu : s.runTo (x.triedAt + msCycles) = u at hexec
    have hnow : u.now = max s.now (x.triedAt + 1500000) := by rw [← hu, State.runTo_now, msCycles]
    have hout : u.out = s.out := by rw [← hu, State.runTo_out]
    refine ⟨_, hexec, ?_⟩
    rw [State.lane_setLane_same]
    exact ⟨rfl, hnow, rfl, (u.setLane_out n _).trans hout⟩
  case locks =>
    have hlocks := State.laneAlign_locks hx hstate hown hcdr hwidth hfree
    refine ⟨_, rfl, ?_⟩
    rw [hlocks.lane_eq rfl, State.lane_setLane_same]
    exact ⟨rfl, rfl, rfl, rfl, rfl, hlocks.mem_eq rfl⟩
  case foreign =>
    refine ⟨_, congrArg Host.Outcome.next (State.laneAlign_foreign hx hstate hown hcdr), ?_⟩
    rw [State.laneFail_lane]
    exact ⟨rfl, rfl⟩
  case late =>
    refine ⟨_, exec_laneAcquireTimeout_acquiring hx hstate hcdr hburst, ?_⟩
    rw [State.laneFail_lane, State.laneFail_now]
    exact ⟨rfl, rfl, s.runTo_now _, rfl⟩
  case retry =>
    rw [exec_laneRetryTimer_failed hx hstate, if_pos hcal]
  case recalibrate =>
    refine ⟨_, exec_laneRetryTimer_failed hx hstate, ?_⟩
    rw [State.lane_setLane_same, if_neg (by simp [hcal])]
  case loss =>
    obtain ⟨t, hexec, hkeeps⟩ := exec_laneLossOfLock_up hx hstate
    refine ⟨t, hexec, ?_, hkeeps.rd_eq rfl _, hkeeps.mem_eq rfl, hkeeps.now_eq rfl⟩
    rw [hkeeps.lane_eq rfl]
    exact State.lane_setLane_same _ _ _

/-! ### Guavo lanes, electrical idle and taps (R438, R439, R443, R444) -/

/-- R442: a Guavo lane that is not UP 300 ms after the one that is fails. -/
theorem exec_guavoLaneTimeout_alone {s : State} {n m : Nat} (hlo : 32 ≤ n) (hhi : n < 36) (hmlo : 32 ≤ m) (hmhi : m < 36)
    (hmn : m ≠ n) (hup : (s.lane m).state = 3) (hothers : ∀ k, 32 ≤ k → k < 36 → k ≠ n → k ≠ m → (s.lane k).state ≠ 3)
    (hdown : (s.lane n).state ≠ 3) (hlive : (s.lane n).state ≠ 4) :
    exec (.guavoLaneTimeout n) s = .next ((s.runTo ((s.lane m).upAt + 450000000)).laneFail n 4) := by
  have hups : [32, 33, 34, 35].filter (fun k => k != n && (s.lane k).state == 3) = [m] := by
    have hone : ∀ k ∈ [32, 33, 34, 35], (k != n && (s.lane k).state == 3) = (k == m) := by
      intro k hk
      have hrange : 32 ≤ k ∧ k < 36 := by simp at hk; omega
      by_cases hkm : k = m
      · simp [hkm, hmn, hup]
      · by_cases hkn : k = n
        · simp [hkn, Ne.symm hmn]
        · rw [beq_false_of_ne (hothers k hrange.1 hrange.2 hkn hkm), Bool.and_false, beq_false_of_ne hkm]
    rw [List.filter_congr hone]
    obtain rfl | rfl | rfl | rfl : m = 32 ∨ m = 33 ∨ m = 34 ∨ m = 35 := by omega
    all_goals rfl
  have hrun : execGuavoLaneTimeout n s = .next ((s.runTo ((s.lane m).upAt + 450000000)).laneFail n 4) := by
    unfold execGuavoLaneTimeout
    rw [hups]
    have hmin : List.foldl min ([(s.lane m).upAt].headD 0) [(s.lane m).upAt] = (s.lane m).upAt := Nat.min_self _
    refine congrArg Host.Outcome.next ((if_pos (by simp [isGv, hlo, hhi, hdown, hlive])).trans ?_)
    exact congrArg (fun c => (s.runTo (c + 450000000)).laneFail n 4) hmin
  exact hrun

/-- A lane whose idle ends: it bursts, acquires, or calibrates first. -/
def Lane.leavesIdle (x : Lane) (n now : Nat) : Lane :=
  if x.calibrated then (if x.saved then { x with state := 2, burst := some (now + if n < 32 then 116 else 110) } else x.acquire)
  else { x with state := 1 }

section Idle

variable {s : State} {n : Nat} {x : Lane} (hx : x = s.lane n)
include hx

theorem State.laneIdleExit_leaves (hstate : x.state = 0) (hown : ownLane n = true) (hon : s.laneIdle n = false) :
    s.laneIdleExit n = s.setLane n (x.leavesIdle n s.now) := by
  subst hx
  refine (if_neg (by simp [hstate, hown, hon])).trans ?_
  unfold Lane.leavesIdle
  cases hcal : (s.lane n).calibrated
  case false => rfl
  case true =>
    cases hsaved : (s.lane n).saved
    case false => rfl
    case true =>
      dsimp only [isEth]
      simp only [decide_eq_true_eq, Bool.not_true, if_true]
      rfl

theorem exec_laneIdleRelockTimeout_burst {e : Nat} (hstate : x.state = 2) (hburst : x.burst = some e) :
    exec (.laneIdleRelockTimeout n) s = .next ((s.runTo (e + 1500000)).setLane n { x.acquire with saved := false }) := by
  subst hx
  have hrun : execLaneIdleRelockTimeout n s = .next ((s.runTo (e + msCycles)).setLane n
      { ((s.runTo (e + msCycles)).lane n).acquire with saved := false }) := by
    rw [execLaneIdleRelockTimeout, hstate, hburst]
    rfl
  rw [State.lane_runTo, msCycles] at hrun
  exact hrun

section Training

variable (hn : n < 32) (htrains : s.fld (laneReg n 0) 31 31 = 1) (hnew : x.trained = false) (hstate : x.state = 2)
include hn htrains hnew hstate

/-- R439: the link partner's taps are taken within their limits. -/
theorem exec_ltUpdate_training (a b : Word) : exec (.ltUpdate n a b) s = .next (if tapsOk a.toNat (b.toNat % 256) then
    (s.wr (laneReg n 0x008) a).wrn (laneReg n 0x00C) (b.toNat % 256) else s) := by
  subst hx
  have hguard : (isEth n && s.fld (laneReg n 0) 31 31 == 1 && !(s.lane n).trained && (s.lane n).state == 2) = true := by
    simp [isEth, hn, htrains, hnew, hstate]
  have hrun : execLtUpdate n a b s = .next (if tapsOk a.toNat (b.toNat % 256) then
      (s.wr (laneReg n 0x008) a).wrn (laneReg n 0x00C) (b.toNat % 256) else s) := by
    rw [execLtUpdate, hguard, Bool.true_and]
  exact hrun

theorem exec_ltTimeout_signal (hsignal : x.signal = true) : exec (.ltTimeout n) s =
    .next ((s.runTo (x.signalAt + 750000000)).setLane n { x with trained := true }) := by
  subst hx
  exact congrArg Host.Outcome.next (if_pos (by simp [isEth, hn, htrains, hnew, hstate, hsignal]))

end Training

end Idle

section Taps

variable {s : State} {n : Nat} (hown : ownLane n = true) (a : Word)
include hown

/-- R438: a write of TX_FFE0 within the limits stands, with TX_FFE1 as it was. -/
theorem State.txFfe_within (hok : tapsOk a.toNat (s.rdn (laneReg n 0x00C)) = true) : s.txFfe n false a =
    (s.wrn (laneReg n 0x008) a.toNat).wrn (laneReg n 0x00C) (s.rdn (laneReg n 0x00C)) :=
  (if_neg (by simp [hown])).trans (if_pos (by simpa using hok))

theorem State.txFfe_outside (hbad : tapsOk a.toNat (s.rdn (laneReg n 0x00C)) = false) :
    s.txFfe n false a = s.ev 0x0E06 (laneSrc n) a.toNat :=
  (if_neg (by simp [hown])).trans (if_neg (by simp [hbad]))

end Taps

theorem laneReg_ne_iff {n o k : Nat} : laneReg n o ≠ laneReg n k ↔ o ≠ k := by
  unfold laneReg
  omega

/-- Settles O58: each event by what it makes of the lane, a write of the taps by its check. -/
theorem lanesIdleTrainAndTakeTaps : Obligations.LanesIdleTrainAndTakeTaps := by
  unfold Obligations.LanesIdleTrainAndTakeTaps
  intro s n m x a b hx
  refine ⟨fun hlo hhi hmlo hmhi hmn hup hothers hdown hlive => ?guavo, fun hstate hown hon =>
    congrArg Host.Outcome.next (State.laneIdleExit_leaves hx hstate hown hon),
    fun e hstate hburst => exec_laneIdleRelockTimeout_burst hx hstate hburst, fun hn htrains hnew hstate => ⟨fun hok => ?taken,
    fun hbad => ?ignored, fun hsignal => ?never⟩, fun hown => ⟨fun hok => ?written, fun hbad => ?refused⟩⟩
  case guavo =>
    have hexec := exec_guavoLaneTimeout_alone hlo hhi hmlo hmhi hmn hup hothers (hx ▸ hdown) (hx ▸ hlive)
    refine ⟨_, hexec, ?_⟩
    rw [State.laneFail_lane, State.laneFail_now]
    exact ⟨rfl, rfl, s.runTo_now _⟩
  case taken => rw [exec_ltUpdate_training hx hn htrains hnew hstate, if_pos hok]
  case ignored => rw [exec_ltUpdate_training hx hn htrains hnew hstate, if_neg (by rw [hbad]; decide)]
  case never =>
    refine ⟨_, exec_ltTimeout_signal hx hn htrains hnew hstate hsignal, ?_⟩
    rw [State.lane_setLane_same, State.setLane_regs]
    exact ⟨rfl, s.runTo_now _, hstate, s.runTo_regs _⟩
  case written =>
    have hne : laneReg n 0x008 ≠ laneReg n 0x00C := laneReg_ne_iff.mpr (by decide)
    refine ⟨_, congrArg Host.Outcome.next (State.txFfe_within hown a hok), ?_, fun k hk => ?_, rfl, rfl⟩
    · rw [State.rd_wrn_other _ _ hne, State.rd_wrn_same, BitVec.ofNat_toNat, BitVec.setWidth_eq]
    · by_cases hsecond : k = laneReg n 0x00C
      · rw [hsecond, State.rd_wrn_same, State.rdn, BitVec.ofNat_toNat, BitVec.setWidth_eq]
      · rw [State.rd_wrn_other _ _ hsecond, State.rd_wrn_other _ _ hk]
  case refused =>
    have hkeeps : Keeps { out := true } s (s.ev 0x0E06 (laneSrc n) a.toNat) := keeps_ev s _ _ _ (Keeps.refl s) rfl
    exact ⟨_, congrArg Host.Outcome.next (State.txFfe_outside hown a hbad), hkeeps.regs_eq rfl, hkeeps.frame.lanes rfl,
      hkeeps.mem_eq rfl⟩

/-! ### Loopbacks, patterns and margins (R437, R445 to R448) -/

theorem State.keeps_laneTestState_parts (s : State) (n : Nat) :
    Keeps { out := true, courses := true, lanes := true } s (s.laneTestState n) :=
  keeps_laneTestState s n (Keeps.refl s) rfl rfl rfl

theorem State.laneTestState_other (s : State) {n k : Nat} (h : k ≠ n) : (s.laneTestState n).lane k = s.lane k := by
  unfold State.laneTestState
  dsimp only
  split
  · rw [(State.keeps_lanePortDown_parts _ n).lane_eq rfl, State.lane_setLane_other _ _ h]
  · split
    · rw [State.lane_setLane_other _ _ h]
    · rfl

theorem bits_lt (v hi lo : Nat) : bits v hi lo < 2 ^ (hi + 1 - lo) := Nat.mod_lt _ (Nat.two_pow_pos _)

/-- The fields of LANE_CFG that a write takes. -/
def laneCfgWord (v : Nat) : Nat := bits v 31 27 * 2 ^ 27 + bits v 20 16 * 2 ^ 16 + v % 16

theorem laneCfgWord_lt (v : Nat) : laneCfgWord v < 2 ^ 32 := by
  have htop := bits_lt v 31 27
  have hlow := bits_lt v 20 16
  unfold laneCfgWord
  omega

/-- The fields of PATTERN that a write takes. -/
def patternWord (v : Nat) : Nat := bits v 31 30 * 2 ^ 30 + bits v 27 24 * 2 ^ 24 + bits v 19 16 * 2 ^ 16

theorem patternWord_lt (v : Nat) : patternWord v < 2 ^ 32 := by
  have hon := bits_lt v 31 30
  have hgen := bits_lt v 27 24
  have hchk := bits_lt v 19 16
  unfold patternWord
  omega

theorem State.lanePattern_unknown {w : Word} (s : State) (n : Nat) (hgen : 7 ≤ bits w.toNat 27 24) : s.lanePattern n w = s :=
  if_pos (by simp [hgen])

section Test

variable {s : State} {n : Nat} {w : Word} (hown : ownLane n = true)
include hown

/-- R437: a write without a loopback and without idle stands. -/
theorem State.laneCfg_plain (hloop : loopOf w.toNat = 0) (hidle : bit w.toNat 27 = false) :
    s.laneCfg n w = (s.wrn (laneReg n 0) (laneCfgWord w.toNat)).laneTestState n :=
  (if_neg (by simp [hown])).trans ((if_neg (by simp [hloop])).trans (if_neg (by simp [hidle])))

/-- R446: outside test mode a new loopback is refused. -/
theorem State.laneCfg_refused (hloop : loopOf w.toNat ≠ 0) (hnew : loopOf w.toNat ≠ loopOf (s.rdn (laneReg n 0)))
    (hmode : s.laneTest n = false) : s.laneCfg n w = s.ev 0x0E05 (laneSrc n) (w.toNat % 16) :=
  (if_neg (by simp [hown])).trans (if_pos (by simp [hloop, hnew, hmode]))

section Known

variable (hgen : bits w.toNat 27 24 < 7) (hchk : bits w.toNat 19 16 < 7)
include hgen hchk

theorem State.lanePattern_refused (hon : bits w.toNat 31 30 ≠ 0) (hmode : s.laneTest n = false) :
    s.lanePattern n w = s.ev 0x0E05 (laneSrc n) (bits w.toNat 31 31 * 16 + bits w.toNat 30 30 * 32) :=
  (if_neg (by simp [hown]; omega)).trans (if_pos (by simp [hon, hmode]))

/-- R447: a write that enables no checker leaves the counters. -/
theorem State.lanePattern_taken (hold : bit w.toNat 30 = false) (hmay : bits w.toNat 31 30 = 0 ∨ s.laneTest n = true) :
    s.lanePattern n w = (s.wrn (laneReg n 0x010) (patternWord w.toNat)).laneTestState n := by
  have hallowed : ¬ (bits w.toNat 31 30 != 0 && !s.laneTest n) = true := by rcases hmay with h | h <;> simp [h]
  refine (if_neg (by simp [hown]; omega)).trans ((if_neg hallowed).trans ?_)
  exact congrArg (State.laneTestState · n) (if_neg (by simp [hold]))

end Known

end Test

/-- R448: a measurement answers its three margins. -/
theorem exec_marginComplete_measuring {s : State} {n : Nat} (hmeasures : (s.lane n).measuring = true) (left right vert : Nat) :
    ∃ t, exec (.marginComplete n left right vert) s = .next t ∧ Keeps { out := true }
      ((s.setLane n { s.lane n with measuring := false }).wrn (laneReg n 0x024) (2 ^ 30 + (left % 256 * 65536 + right % 256 * 256 + vert % 256))) t :=
  ⟨_, congrArg Host.Outcome.next (if_pos hmeasures), keeps_ev _ _ _ _ (Keeps.refl _) rfl⟩

/-- Settles O59: a write of a lane's registers by its refusals and its fields, a measurement by its answer. -/
theorem lanesLoopPatternAndMeasureMargins : Obligations.LanesLoopPatternAndMeasureMargins := by
  unfold Obligations.LanesLoopPatternAndMeasureMargins
  intro s n left right vert w hown
  refine ⟨fun hloop hidle => ?config, fun hloop hnew hmode => congrArg Host.Outcome.next (State.laneCfg_refused hown hloop hnew hmode),
    fun hgen hchk => ⟨fun hon hmode => congrArg Host.Outcome.next (State.lanePattern_refused hown hgen hchk hon hmode),
    fun hold hmay => ?pattern⟩, fun hgen => congrArg Host.Outcome.next (s.lanePattern_unknown n hgen),
    fun hlive hnew => congrArg Host.Outcome.next (if_neg (by simp [hlive, hnew])), fun hmeasures => ?margin⟩
  case config =>
    have hkeeps := (s.wrn (laneReg n 0) (laneCfgWord w.toNat)).keeps_laneTestState_parts n
    refine ⟨_, congrArg Host.Outcome.next (State.laneCfg_plain hown hloop hidle), ?_, fun k hk => ?_, fun k hk => ?_, hkeeps.mem_eq rfl⟩
    · rw [State.rdn_congr (hkeeps.regs_eq rfl)]
      exact s.rdn_wrn_of_lt _ (laneCfgWord_lt _)
    · rw [hkeeps.rd_eq rfl, State.rd_wrn_other _ _ hk]
    · exact State.laneTestState_other _ hk
  case pattern =>
    have hkeeps := (s.wrn (laneReg n 0x010) (patternWord w.toNat)).keeps_laneTestState_parts n
    refine ⟨_, congrArg Host.Outcome.next (State.lanePattern_taken hown hgen hchk hold hmay), ?_, fun k hk => ?_, hkeeps.mem_eq rfl⟩
    · rw [State.rdn_congr (hkeeps.regs_eq rfl)]
      exact s.rdn_wrn_of_lt _ (patternWord_lt _)
    · rw [hkeeps.rd_eq rfl, State.rd_wrn_other _ _ hk]
  case margin =>
    obtain ⟨t, hexec, hkeeps⟩ := exec_marginComplete_measuring hmeasures left right vert
    refine ⟨t, hexec, ?_, ?_, fun k hk => ?_, hkeeps.mem_eq rfl⟩
    · rw [hkeeps.lane_eq rfl]
      exact congrArg Lane.measuring (State.lane_setLane_same s n { s.lane n with measuring := false })
    · rw [State.rdn_congr (hkeeps.regs_eq rfl), State.rdn_wrn_of_lt _ _ (by omega)]
      omega
    · rw [hkeeps.rd_eq rfl, State.rd_wrn_other _ _ hk]
      rfl

end Sys2Proof.Machine
end
